-- ==== Sys2Proof/Word.lean ====
section
/-! DEFINITION. The words of the YM8: bytes, 64-bit general registers, 128-bit blocks, byte strings.
Bit 0 is the least significant bit of every register, field and word (R11). -/

namespace Sys2Proof

/-- One byte. -/
abbrev Byte := BitVec 8

/-- A 64-bit word: a general register, a key reference, a ticket seen by software (R119). -/
abbrev Word := BitVec 64

/-- A 128-bit block register's value (R119). Byte i is byte i of the little-endian value (R165). -/
abbrev Block := BitVec 128

/-- A byte string, byte 0 first. -/
abbrev Bytes := List Byte

/-- A status code of R16: class in the high byte, detail in the low byte. -/
abbrev Status := Nat

end Sys2Proof
end

