-- ==== Sys2Proof/Syntax/Types.lean ====
section
/-! DEFINITION. The types of the commands' operands: what the environment hands the block with a command. -/

namespace Sys2Proof

/-- A Ghedo processor: the security controller, or core `core` of transaction cluster `cluster` (R24). -/
inductive CoreId where
  | sc
  | tx (cluster core : Nat)
deriving DecidableEq, Repr

abbrev GReg := Fin 32
abbrev BReg := Fin 16
abbrev KReg := Fin 8

/-- The WIN field of R162: IN 0, OUT 1, SCR 2, TAB 3. -/
inductive Win where
  | inW | out | scr | tab
deriving DecidableEq, Repr

/-- IMM[7:6] of the shift immediate (R159). -/
inductive ShiftKind where
  | sll | srl | sra | rol
deriving DecidableEq, Repr

/-- ALG[11:10] of hashu in mode 0 (R169). -/
inductive HashAlg where
  | sha256 | sha384 | sha512
deriving DecidableEq, Repr

/-- A block that is clock- and power-gated on its own (R40). -/
inductive PUnit where
  | cluster (n : Nat) | lane (n : Nat) | lne (n : Nat)
deriving DecidableEq, Repr

/-- A unit with a mask generator (R278). -/
inductive MaskUnit where
  | sbu (cluster unit : Nat) | lane (n : Nat)
deriving DecidableEq, Repr

/-- Where a frame came from, kept for the answer under R36 and R45; `own` is the port's address that it was sent to. -/
structure Source where
  mac : Nat := 0
  vlan : Nat := 0
  prio : Nat := 0
  dscp : Nat := 0
  v6 : Bool := false
  ip : Nat := 0
  udp : Nat := 0
  own : Nat := 0
deriving DecidableEq, Repr

/-- The Caravan header of R48, with the outcome of the frame's AES-256-GCM tag check (R50; Session.opens) beside it. -/
structure CaravanHdr where
  version : Nat := 1
  type : Nat
  flags : BitVec 16 := 0
  sessionId : Nat := 0
  frameSeq : Nat := 0
  pairId : Nat := 0
  bodyBytes : Nat := 0
  claimOrAck : Nat := 0
  reserved : Nat := 0
  tagOk : Bool := true
deriving DecidableEq, Repr

/-- What an Ethernet frame is addressed to (R44). -/
inductive DstKind where
  | own | broadcast | pairGroup | ndGroup | other
deriving DecidableEq, Repr

/-- The 802.1Q tagging of a frame (R44). -/
inductive VlanTag where
  | untagged | tagged (id : Nat) | stacked
deriving DecidableEq, Repr

/-- The payload of a UDP datagram, of an ICMP message or of another protocol (R44). -/
inductive L4 where
  | udp (dstPort : Nat) (checksumOk checksumZero : Bool) (caravan : Option CaravanHdr)
  | icmpEcho (forOwn : Bool)
  | nd (solicitOwn : Bool)
  | other
deriving DecidableEq, Repr

/-- The payload of an Ethernet frame (R44). -/
inductive L3 where
  | pause
  | arp (requestOwn : Bool)
  | ip4 (ihl : Nat) (moreFrags : Bool) (fragOff : Nat) (headerSumOk dstOwn : Bool) (l4 : L4)
  | ip6 (extHeader dstOwn : Bool) (l4 : L4)
  | other
deriving DecidableEq, Repr

/-- A received Ethernet frame (R44). `octets` counts from destination address to FCS. -/
structure EthFrame where
  octets : Nat
  fcsOk : Bool := true
  fecCorrected : Nat := 0
  fecUncorrected : Nat := 0
  dst : DstKind := .own
  vlan : VlanTag := .untagged
  l3 : L3
deriving DecidableEq, Repr

/-- A Caravan frame that its port handed to the Caravan engine: header and (deciphered) body (R48, R50). -/
structure FrameIn where
  port : Nat
  src : Source
  hdr : CaravanHdr
  body : Bytes
deriving DecidableEq, Repr

/-- A section entry of a firmware image with the section's bytes (R411). -/
structure FwSection where
  type : Nat
  res0 : Nat := 0
  offset : Nat
  len : Nat
  res1 : Nat := 0
  digest : Bytes
  data : Bytes
deriving DecidableEq, Repr

/-- A firmware image (R411): header fields, sections, signature. `unusedZero` says whether the unused
section entries and every reserved field not listed here are zero; `headerBytes` are the 512 bytes that
the signature covers, `imageData` the whole image, whose SHA-256 is IMAGE_DIGEST. -/
structure FwImage where
  magic : Nat
  format : Nat
  rootIndex : Nat
  buildSeq : Nat
  sectionCount : Nat
  version : Bytes
  imageBytes : Nat
  rootPubkey : Bytes
  unusedZero : Bool
  sections : List FwSection
  headerBytes : Bytes
  sig : Bytes
  imageData : Bytes
deriving DecidableEq, Repr

/-- A region entry of the platform manifest (R436). -/
structure Region where
  channel : Nat
  flags : BitVec 8
  serveRights : BitVec 8
  runRights : BitVec 8
  start : Nat
  units : Nat
  res : Nat := 0
  digest : Bytes
deriving DecidableEq, Repr

/-- The platform manifest (R435). `restZero` says whether the entries from REGION_COUNT on and the
reserved fields are zero; `signed` are bytes 0-3,279, `sigL` the HSS level count of the signature, `digest` the SHA-256 of the
whole. -/
structure Manifest where
  magic : Nat
  format : Nat
  regionCount : Nat
  channelMask : BitVec 8
  seq : Nat
  resetEarly : BitVec 8
  resetUsed : BitVec 8
  outEnUsed : BitVec 8
  restZero : Bool
  allow : List Bytes
  ownerPubkey : Bytes
  regions : List Region
  signed : Bytes
  sigL : Nat
  sig : Bytes
  digest : Bytes
deriving DecidableEq, Repr

/-- What the module reads from one flash through a filter channel: the SFDP table's verdict and the sizes
it gives (R438, R443). `eraseSizes` lists opcode and block size. -/
structure FlashObs where
  sfdpOk : Bool
  density : Nat
  eraseSizes : List (Nat × Nat)
  fourByte : Bool
deriving DecidableEq, Repr

/-- A submission entry of a ring (R521). -/
structure SqEntry where
  reqAddr : Nat
  reqBytes : Nat
  res0 : Nat := 0
  respAddr : Nat
  respMax : Nat
  res1 : Nat := 0
deriving DecidableEq, Repr

/-- A sensor of R459. -/
inductive Sensor where
  | mesh (net : Nat) | lid (n : Nat) | tempLow | tempHigh | aonLow | glitch | xtalStop
  | light (n : Nat) | aonLost
deriving DecidableEq, Repr

/-- What a token sends for a command: nothing within 64 clocks, or the 64 bits of its response (R387); the 3-bit status on DAT0 after a
block written to it (R389); and what the data lines carry of a block that it sends (R388). -/
structure TokenResp where
  missing : Bool := false
  frame : Nat := 0
  blockStatus : Nat := 2
  lines : List (List Bool) := []
deriving DecidableEq, Repr

/-- What the partner shows in the mirror link handshake and the comparison that follows (R355, R358, R374,
R378, R380). -/
structure PeerInfo where
  waybillOk : Bool
  sigsOk : Bool
  serial : Nat
  pairId : Nat
  linkEpoch : Nat
  claim : Nat
  holdsTenants : Bool
  state : Nat
  lastCsn : Nat
  appliedCsn : Nat
  trimPoint : Nat
  /-- the one-way latency of the mirror channel in nanoseconds (R534) -/
  latencyNs : Nat := 0
  /-- its message of the agreement: random, X25519 share, and ML-KEM-768 key or ciphertext (R358, log 62) -/
  hello : Bytes := []
  /-- it has settled roles with this unit before (R355) -/
  met : Bool := false
  /-- it holds this unit's last record (R380) -/
  holdsLast : Bool := true
  /-- it needs a snapshot whatever its journal holds (R381, R471) -/
  wantFull : Bool := false
deriving DecidableEq, Repr

/-- The header of a mirror frame (R359) without its TYPE, which the command names, and with the outcome of its tag check. `reserved` stands for its reserved bytes 44 to 47 and,
in a RECORDS or SNAPSHOT frame, for the res(6) of the body (R361). -/
structure MirHdr where
  state : Nat
  linkEpoch : Nat
  frameSeq : Nat
  claim : Nat
  durableMark : Nat
  confirmed : Nat
  magic : Nat := 0x4D52
  bodyBytes : Nat := 0
  reserved : Nat := 0
  tagOk : Bool := true
deriving DecidableEq, Repr

/-- A lantern frame (R363), with the outcome of its MAC check. -/
structure LanternIn where
  type : Nat
  state : Nat
  reserved : Nat := 0
  linkEpoch : Nat
  seq : Nat
  claim : Nat
  macOk : Bool := true
deriving DecidableEq, Repr

/-- The two paths between the units of a pair (R370). -/
inductive MirPath where
  | link | lantern
deriving DecidableEq, Repr

/-- A journal item as it stands in a commit record (R341): kind, flags and body. -/
structure Item where
  kind : Nat
  flags : Nat := 0
  body : Bytes
deriving DecidableEq, Repr

/-- A sealed or clear 128-bit block register (R119, R124). -/
structure SealedBlock where
  val : Block := 0
  sealed : Bool := false
deriving DecidableEq, Repr

/-- One 32-byte attribute record, field by field (R233, R234). -/
structure Attrs where
  keyType : Nat := 0
  mode : Nat := 0
  usage : BitVec 16 := 0
  level : Nat := 3
  ownerRes : Nat := 0
  owner : Nat := 0
  worldMask : BitVec 8 := 0
  lcMask : BitVec 8 := 0
  generation : Nat := 0
  flags : BitVec 8 := 0
  parentSlot : Nat := 0
  parentGen : Nat := 0
  expiryS : Nat := 0
  nonce : Nat := 0
deriving DecidableEq, Repr

/-- A key as it travels between the units of a pair, in backups and in commit items: attributes and
material (R244, R362). `restored` marks a key brought in by PARTITION_RESTORE (R284), `putCsn` is its PUT_CSN. -/
structure KeyMat where
  attrs : Attrs
  material : Bytes
  restored : Bool := false
  putCsn : Nat := 0
deriving DecidableEq, Repr

/-- The items of a commit, decoded (R341). -/
inductive CItem where
  | keyPut (ref : Nat) (key : KeyMat)
  | keyInvalidate (ref : Nat)
  | ctrAdd (counter : Nat) (delta : Int)
  | tabWrite (page : Nat) (data : Bytes)
  | programPut (image : Bytes)
  | programDelete (code : Nat)
  | configSet (itemId scope : Nat) (value : Bytes)
  | ivReserve (ref newR : Nat)
  | partitionCreate (p : Nat) (rosterOnly : Bool) (m n : Nat) (keys : List Bytes)
  | partitionDelete (p : Nat)
  | branchCreate (index : Nat) (key : KeyMat)
  | branchLoad (index : Nat) (key : KeyMat)
  | branchRevoke (index : Nat)
  | credentialRegister (index keyType : Nat) (pub : Bytes)
  | credentialRevoke (index : Nat)
  | signerRegister (index keyType : Nat) (pub : Bytes)
  | signerRevoke (index : Nat)
  | partitionBackup
  | partitionRestore (blobBytes : Nat) (digest origin : Bytes) (keys : List (Nat × KeyMat))
  | rngSourceEnable (source : Nat)
  | bootPreferredSlot (slot : Nat)
  /-- A reservation record of the sequencer on the RECORDS stream: the end of a CSN block (R369). -/
  | csnReserve (blockEnd : Nat)
  /-- The two items that only the module stages for the wall clock (R497). -/
  | wallClock (wallNs epoch : Nat)
  /-- An item whose body does not decode (R341): it is refused with COMMIT_ITEM_INVALID. -/
  | malformed (kind : Nat)
deriving DecidableEq, Repr

/-- A commit record (R340): what COMMIT_ADMIT writes, the mirror carries and replay reads.
`partition` is the partition of the items; `lines` the record's length in journal lines; `intact` says
whether HEADER_CRC and BODY_CRC hold, `readable` whether every line can be read (R350); `wrapped` holds the key records
of its KEY_PUT and PARTITION_RESTORE items by reference, under the bough of the unit that wrote it (R341, R362). -/
structure Record where
  csn : Nat
  ticket : Nat
  durableBelow : Nat
  partition : Nat
  items : List CItem
  stageId : Nat := 0
  mono : Nat := 0
  lines : Nat := 1
  intact : Bool := true
  readable : Bool := true
  wrapped : List (Nat × List Bytes) := []
deriving DecidableEq, Repr

/-- One entry of the key database as a backup or snapshot carries it. -/
abbrev KeyDb := List (Nat × KeyMat)

/-- A flash command of the platform's host processor (R442): opcode, address, the byte count that chip
select brackets. -/
structure FlashCmd where
  opcode : Nat
  addr : Nat
  len : Nat
deriving DecidableEq, Repr

/-- How a measurement fails (R441): a flash without a usable SFDP table, the manifest read (its bytes), or a MEASURED region
of it, by its entry. In BOOT the manifest read comes with the region. -/
inductive MeasureFail where
  | flashUnsupported
  | manifest (bytes : Bytes)
  | region (manifest : Bytes) (index : Nat)
deriving DecidableEq, Repr

/-- Outcome of the SECDED check of the words of an item read from a tap FIFO (R485). -/
inductive Ecc where
  | clean | corrected (bits : Nat) | uncorrectable
deriving DecidableEq, Repr

/-- Who reads a tap FIFO: the Guestbook, with the outcome of the check of the item's words, or a debug reader behind the JTAG gate (R483, R485). -/
inductive TapReader where
  | guestbook (ecc : Ecc) | debug
deriving DecidableEq, Repr

/-- What a producer brings to its tap FIFO (R482, R486, R489): its next formed event or sample, a sample of a metric that no rule's
effect forms (key fill waits and session lookups of a cluster; the periodic metrics of the security controller), the rest of the words of
the item in the staging register, or a reset in the middle of that item with `written` words written. -/
inductive TapSrc where
  | raised | formed | sample (metric value : Nat) | rest | reset (written : Nat)
deriving DecidableEq, Repr

/-- What wakes the module (WAKE_SOURCE of R478). -/
inductive WakeSource where
  | powerUp | frame | doorbell | token | pwrWakeN | alarm | mainReturn
deriving DecidableEq, Repr

/-- What the host's DMA delivers for an image load (R526). -/
inductive DmaImage where
  | readError | image (i : FwImage)
deriving DecidableEq, Repr

/-- A defined partition as a snapshot carries it: number, roster M of N, REVOCATION_EPOCH (R380, R397, R247). -/
structure SnapPart where
  partition : Nat
  m : Nat
  n : Nat
  keys : List Bytes
  revEpoch : Nat
deriving DecidableEq, Repr

/-- The active's state as of S, as the SNAPSHOT stream carries it (R380): keys, TAB pages by partition and page, durable
counters, program images with their partition, configuration, the partition list, bough
epochs, claim and the end of the reserved CSN block. -/
structure Snapshot where
  csn : Nat
  keys : List (Nat × KeyMat)
  tabs : List ((Nat × Nat) × Bytes)
  ctrs : List ((Nat × Nat) × Nat)
  progs : List (Nat × Bytes)
  config : List ((Nat × Nat) × Bytes)
  parts : List SnapPart
  boughEpochs : List (Nat × Nat)
  claim : Nat
  blockEnd : Nat
deriving DecidableEq, Repr

/-- The body of a CLAIM_ANNOUNCE (R375), its reserved bytes as a number, with the outcome of its signature and waybill checks. -/
structure ClaimBody where
  claim : Nat
  serial : Nat
  mono : Nat
  pairId : Nat
  reserved : Nat := 0
  checksOk : Bool
deriving DecidableEq, Repr

end Sys2Proof
end

