-- ==== Sys2Proof/Syntax.lean ====
section
/-! DEFINITION. The commands of the block, one constructor for each row of spec/opcode_table.json. -/

namespace Sys2Proof

/-- The commands. A Ghedo instruction names the core that executes it; a verb names the core that runs it.
An SC command takes no operand: it is the request at the head of the SC queue (R548). -/
inductive Instr where
  /-- ADD, R158. -/
  | add (c : CoreId) (d : GReg) (a : GReg) (b : GReg)
  /-- SUB, R158. -/
  | sub (c : CoreId) (d : GReg) (a : GReg) (b : GReg)
  /-- AND, R158. -/
  | and (c : CoreId) (d : GReg) (a : GReg) (b : GReg)
  /-- OR, R158. -/
  | or (c : CoreId) (d : GReg) (a : GReg) (b : GReg)
  /-- XOR, R158. -/
  | xor (c : CoreId) (d : GReg) (a : GReg) (b : GReg)
  /-- ANDN, R158. -/
  | andn (c : CoreId) (d : GReg) (a : GReg) (b : GReg)
  /-- SLL, R158. -/
  | sll (c : CoreId) (d : GReg) (a : GReg) (b : GReg)
  /-- SRL, R158. -/
  | srl (c : CoreId) (d : GReg) (a : GReg) (b : GReg)
  /-- SRA, R158. -/
  | sra (c : CoreId) (d : GReg) (a : GReg) (b : GReg)
  /-- ROL, R158. -/
  | rol (c : CoreId) (d : GReg) (a : GReg) (b : GReg)
  /-- MUL, R158. -/
  | mul (c : CoreId) (d : GReg) (a : GReg) (b : GReg)
  /-- MULHU, R158. -/
  | mulhu (c : CoreId) (d : GReg) (a : GReg) (b : GReg)
  /-- DIVU, R158. -/
  | divu (c : CoreId) (d : GReg) (a : GReg) (b : GReg)
  /-- REMU, R158. -/
  | remu (c : CoreId) (d : GReg) (a : GReg) (b : GReg)
  /-- SLT, R158. -/
  | slt (c : CoreId) (d : GReg) (a : GReg) (b : GReg)
  /-- SLTU, R158. -/
  | sltu (c : CoreId) (d : GReg) (a : GReg) (b : GReg)
  /-- SEQ, R158. -/
  | seq (c : CoreId) (d : GReg) (a : GReg) (b : GReg)
  /-- SEL, R158. -/
  | sel (c : CoreId) (d : GReg) (a : GReg) (b : GReg) (x : GReg)
  /-- BSWAP, R158. -/
  | bswap (c : CoreId) (d : GReg) (a : GReg)
  /-- ADDI, R159. -/
  | addi (c : CoreId) (d : GReg) (a : GReg) (imm : BitVec 16)
  /-- ANDI, R159. -/
  | andi (c : CoreId) (d : GReg) (a : GReg) (imm : BitVec 16)
  /-- ORI, R159. -/
  | ori (c : CoreId) (d : GReg) (a : GReg) (imm : BitVec 16)
  /-- XORI, R159. -/
  | xori (c : CoreId) (d : GReg) (a : GReg) (imm : BitVec 16)
  /-- SHIFT_IMMEDIATE, R159. -/
  | shiftImm (c : CoreId) (d : GReg) (a : GReg) (kind : ShiftKind) (n : BitVec 6)
  /-- SLTI, R159. -/
  | slti (c : CoreId) (d : GReg) (a : GReg) (imm : BitVec 16)
  /-- SLTIU, R159. -/
  | sltiu (c : CoreId) (d : GReg) (a : GReg) (imm : BitVec 16)
  /-- LI, R159. -/
  | li (c : CoreId) (d : GReg) (imm : BitVec 21)
  /-- LIH, R159. -/
  | lih (c : CoreId) (d : GReg) (h : Fin 4) (imm : BitVec 16)
  /-- BEQ, R160. -/
  | beq (c : CoreId) (a : GReg) (b : GReg) (off : BitVec 16)
  /-- BNE, R160. -/
  | bne (c : CoreId) (a : GReg) (b : GReg) (off : BitVec 16)
  /-- BLT, R160. -/
  | blt (c : CoreId) (a : GReg) (b : GReg) (off : BitVec 16)
  /-- BGE, R160. -/
  | bge (c : CoreId) (a : GReg) (b : GReg) (off : BitVec 16)
  /-- BLTU, R160. -/
  | bltu (c : CoreId) (a : GReg) (b : GReg) (off : BitVec 16)
  /-- BGEU, R160. -/
  | bgeu (c : CoreId) (a : GReg) (b : GReg) (off : BitVec 16)
  /-- JMP, R160. -/
  | jmp (c : CoreId) (off : BitVec 26)
  /-- CALL, R160. -/
  | call (c : CoreId) (off : BitVec 26)
  /-- NOP, R161. -/
  | nop (c : CoreId)
  /-- RET, R161. -/
  | ret (c : CoreId)
  /-- END, R116. -/
  | endInv (c : CoreId) (a : GReg)
  /-- FAIL, R116. -/
  | fail (c : CoreId) (a : GReg)
  /-- MONO, R161. -/
  | mono (c : CoreId) (d : GReg)
  /-- CSRR, R186. -/
  | csrr (c : CoreId) (d : GReg) (n : BitVec 10)
  /-- CSRW, R186. -/
  | csrw (c : CoreId) (n : BitVec 10) (a : GReg)
  /-- ERET, R186. -/
  | eret (c : CoreId)
  /-- WFI, R186. -/
  | wfi (c : CoreId)
  /-- FENCE, R186. -/
  | fence (c : CoreId)
  /-- LD1, R162. -/
  | ld1 (c : CoreId) (t : GReg) (win : Win) (a : GReg) (off : BitVec 14)
  /-- LD2, R162. -/
  | ld2 (c : CoreId) (t : GReg) (win : Win) (a : GReg) (off : BitVec 14)
  /-- LD4, R162. -/
  | ld4 (c : CoreId) (t : GReg) (win : Win) (a : GReg) (off : BitVec 14)
  /-- LD8, R162. -/
  | ld8 (c : CoreId) (t : GReg) (win : Win) (a : GReg) (off : BitVec 14)
  /-- LD1S, R162. -/
  | ld1s (c : CoreId) (t : GReg) (win : Win) (a : GReg) (off : BitVec 14)
  /-- LD2S, R162. -/
  | ld2s (c : CoreId) (t : GReg) (win : Win) (a : GReg) (off : BitVec 14)
  /-- LD4S, R162. -/
  | ld4s (c : CoreId) (t : GReg) (win : Win) (a : GReg) (off : BitVec 14)
  /-- LDB, R162. -/
  | ldb (c : CoreId) (t : BReg) (win : Win) (a : GReg) (off : BitVec 14)
  /-- ST1, R162. -/
  | st1 (c : CoreId) (t : GReg) (win : Win) (a : GReg) (off : BitVec 14)
  /-- ST2, R162. -/
  | st2 (c : CoreId) (t : GReg) (win : Win) (a : GReg) (off : BitVec 14)
  /-- ST4, R162. -/
  | st4 (c : CoreId) (t : GReg) (win : Win) (a : GReg) (off : BitVec 14)
  /-- ST8, R162. -/
  | st8 (c : CoreId) (t : GReg) (win : Win) (a : GReg) (off : BitVec 14)
  /-- STB, R162. -/
  | stb (c : CoreId) (t : BReg) (win : Win) (a : GReg) (off : BitVec 14)
  /-- LDCTR, R163. -/
  | ldctr (c : CoreId) (d : GReg) (a : GReg)
  /-- BMOV, R165. -/
  | bmov (c : CoreId) (d : BReg) (a : BReg)
  /-- BXOR, R165. -/
  | bxor (c : CoreId) (d : BReg) (a : BReg) (b : BReg)
  /-- BAND, R165. -/
  | band (c : CoreId) (d : BReg) (a : BReg) (b : BReg)
  /-- BOR, R165. -/
  | bor (c : CoreId) (d : BReg) (a : BReg) (b : BReg)
  /-- BNOT, R165. -/
  | bnot (c : CoreId) (d : BReg) (a : BReg)
  /-- BSEL, R165. -/
  | bsel (c : CoreId) (d : BReg) (a : BReg) (b : BReg) (x : GReg)
  /-- BGET, R165. -/
  | bget (c : CoreId) (d : GReg) (a : BReg) (h : Fin 2)
  /-- BSHL, R165. -/
  | bshl (c : CoreId) (d : BReg) (a : BReg) (n : BitVec 7)
  /-- BSHR, R165. -/
  | bshr (c : CoreId) (d : BReg) (a : BReg) (n : BitVec 7)
  /-- BLI, R165. -/
  | bli (c : CoreId) (d : BReg) (m : BitVec 16)
  /-- BINS, R165. -/
  | bins (c : CoreId) (d : BReg) (a : GReg) (p : BitVec 4) (n1 : BitVec 3)
  /-- RND, R166. -/
  | rnd (c : CoreId) (d : BReg)
  /-- RNDG, R166. -/
  | rndg (c : CoreId) (d : GReg)
  /-- AESE, R167. -/
  | aese (c : CoreId) (d : BReg) (s : BReg) (k : KReg)
  /-- AESD, R167. -/
  | aesd (c : CoreId) (d : BReg) (s : BReg) (k : KReg)
  /-- TDESE, R167. -/
  | tdese (c : CoreId) (d : BReg) (s : BReg) (k : KReg)
  /-- TDESD, R167. -/
  | tdesd (c : CoreId) (d : BReg) (s : BReg) (k : KReg)
  /-- CMACU, R168. -/
  | cmacu (c : CoreId) (d : BReg) (s : BReg) (k : KReg) (len : BitVec 5)
  /-- CMAC1, R168. -/
  | cmac1 (c : CoreId) (d : BReg) (s : BReg) (k : KReg) (len : BitVec 5)
  /-- CBCMAC, R168. -/
  | cbcmac (c : CoreId) (d : BReg) (s : BReg) (k : KReg)
  /-- CBCMAC3, R168. -/
  | cbcmac3 (c : CoreId) (d : BReg) (s : BReg) (k : KReg) (len : BitVec 5)
  /-- HASHU_START, R169. -/
  | hashuStart (c : CoreId) (h : Fin 2) (alg : HashAlg) (s : BReg) (len : BitVec 5)
  /-- HASHU_ABSORB, R169. -/
  | hashuAbsorb (c : CoreId) (h : Fin 2) (s : BReg) (len : BitVec 5)
  /-- HASHU_OUT, R169. -/
  | hashuOut (c : CoreId) (d : BReg) (h : Fin 2) (j : Fin 4)
  /-- HASHU_DISCARD, R169. -/
  | hashuDiscard (c : CoreId) (h : Fin 2)
  /-- HASH_COMPRESSION_DONE, R170. -/
  | hashCompressionDone (c : CoreId) (h : Fin 2)
  /-- PINFMT, R172. -/
  | pinfmt (c : CoreId) (d : BReg) (v : Fin 32) (s : BReg) (p : BReg) (fmt : BitVec 3)
  /-- PINE, R173. -/
  | pine (c : CoreId) (d : BReg) (s : BReg) (p : BReg) (k : KReg) (fmt : BitVec 3)
  /-- BWRAP, R174. -/
  | bwrap (c : CoreId) (a : GReg) (d : BReg) (k : KReg)
  /-- BOPEN, R174. -/
  | bopen (c : CoreId) (d : BReg) (v : GReg) (win : Win) (a : GReg) (k : KReg)
  /-- CTCMP, R175. -/
  | ctcmp (c : CoreId) (d : Fin 16) (a : BReg) (b : BReg) (mask : BitVec 16)
  /-- KLD, R131. -/
  | kld (c : CoreId) (d : KReg) (a : GReg)
  /-- KCLR, R176. -/
  | kclr (c : CoreId) (d : KReg)
  /-- KMOV, R176. -/
  | kmov (c : CoreId) (d : KReg) (a : KReg)
  /-- KATTR, R176. -/
  | kattr (c : CoreId) (d : GReg) (a : KReg) (f : BitVec 5)
  /-- KGEN, R176. -/
  | kgen (c : CoreId) (d : KReg) (a : GReg)
  /-- KDRV, R177. -/
  | kdrv (c : CoreId) (d : KReg) (p : KReg) (s : BReg) (t : GReg) (alg : BitVec 8)
  /-- KFORM, R178. -/
  | kform (c : CoreId) (d : KReg) (a : BReg) (b : BReg) (t : GReg)
  /-- KUNW, R179. -/
  | kunw (c : CoreId) (d : KReg) (w : KReg) (win : Win) (a : GReg) (len : GReg)
  /-- KEXP, R179. -/
  | kexp (c : CoreId) (d : GReg) (a : KReg) (w : KReg) (win : Win) (addr : GReg)
  /-- LSUB, R180. -/
  | lsub (c : CoreId) (d : GReg) (a : GReg)
  /-- XSUB, R180. -/
  | xsub (c : CoreId) (d : GReg) (a : GReg)
  /-- JWAIT, R180. -/
  | jwait (c : CoreId) (d : GReg) (a : GReg)
  /-- JTEST, R180. -/
  | jtest (c : CoreId) (d : GReg) (a : GReg)
  /-- SKPUT, R185. -/
  | skput (c : CoreId) (k : KReg) (a : GReg)
  /-- SKINV, R185. -/
  | skinv (c : CoreId) (a : GReg)
  /-- SCTR, R185. -/
  | sctr (c : CoreId) (a : GReg) (b : GReg)
  /-- STAB, R185. -/
  | stab (c : CoreId) (a : GReg) (b : GReg)
  /-- SITEM, R185. -/
  | sitem (c : CoreId) (a : GReg) (b : GReg)
  /-- COMMIT, R138. -/
  | commit (c : CoreId) (d : GReg) (a : GReg)
  /-- KEY_GENERATE, R203. -/
  | keyGenerate (c : CoreId)
  /-- KEY_IMPORT, R203. -/
  | keyImport (c : CoreId)
  /-- KEY_EXPORT, R203. -/
  | keyExport (c : CoreId)
  /-- KEY_TRANSLATE, R203. -/
  | keyTranslate (c : CoreId)
  /-- KEY_INVALIDATE, R204. -/
  | keyInvalidate (c : CoreId)
  /-- KEY_INFO, R203. -/
  | keyInfo (c : CoreId)
  /-- PIN_TRANSLATE, R205. -/
  | pinTranslate (c : CoreId)
  /-- PIN_MAKE_REFERENCE, R207. -/
  | pinMakeReference (c : CoreId)
  /-- PIN_VERIFY_REFERENCE, R207. -/
  | pinVerifyReference (c : CoreId)
  /-- PIN_COMPARE, R207. -/
  | pinCompare (c : CoreId)
  /-- ARQC_VERIFY, R209. -/
  | arqcVerify (c : CoreId)
  /-- ARPC_GENERATE, R209. -/
  | arpcGenerate (c : CoreId)
  /-- SCRIPT_MAC, R209. -/
  | scriptMac (c : CoreId)
  /-- DUKPT_AES_PIN_TRANSLATE, R211. -/
  | dukptAesPinTranslate (c : CoreId)
  /-- DUKPT_AES_DECRYPT, R211. -/
  | dukptAesDecrypt (c : CoreId)
  /-- DUKPT_AES_MAC_VERIFY, R211. -/
  | dukptAesMacVerify (c : CoreId)
  /-- DUKPT_TDES_PIN_TRANSLATE, R211. -/
  | dukptTdesPinTranslate (c : CoreId)
  /-- DUKPT_TDES_DECRYPT, R211. -/
  | dukptTdesDecrypt (c : CoreId)
  /-- DUKPT_TDES_MAC_VERIFY, R211. -/
  | dukptTdesMacVerify (c : CoreId)
  /-- DUKPT_INITIAL_KEY, R211. -/
  | dukptInitialKey (c : CoreId)
  /-- MAC_GENERATE, R212. -/
  | macGenerate (c : CoreId)
  /-- MAC_VERIFY, R212. -/
  | macVerify (c : CoreId)
  /-- DATA_ENCRYPT, R214. -/
  | dataEncrypt (c : CoreId)
  /-- DATA_DECRYPT, R214. -/
  | dataDecrypt (c : CoreId)
  /-- BULK_ENCRYPT, R215. -/
  | bulkEncrypt (c : CoreId)
  /-- BULK_DECRYPT, R215. -/
  | bulkDecrypt (c : CoreId)
  /-- TOKENISE, R216. -/
  | tokenise (c : CoreId)
  /-- DETOKENISE, R216. -/
  | detokenise (c : CoreId)
  /-- DATA_WRAP, R213. -/
  | dataWrap (c : CoreId)
  /-- DATA_UNWRAP, R213. -/
  | dataUnwrap (c : CoreId)
  /-- SIGN, R218. -/
  | sign (c : CoreId)
  /-- VERIFY, R219. -/
  | verify (c : CoreId)
  /-- KEY_AGREE, R218. -/
  | keyAgree (c : CoreId)
  /-- KEM_ENCAPSULATE, R218. -/
  | kemEncapsulate (c : CoreId)
  /-- KEM_DECAPSULATE, R218. -/
  | kemDecapsulate (c : CoreId)
  /-- KEYPAIR_GENERATE, R218. -/
  | keypairGenerate (c : CoreId)
  /-- RSA_DECRYPT, R218. -/
  | rsaDecrypt (c : CoreId)
  /-- WAYBILL, R221. -/
  | waybill (c : CoreId)
  /-- RANDOM, R221. -/
  | random (c : CoreId)
  /-- QUEUE_FLUSH, R222. -/
  | queueFlush (c : CoreId)
  /-- PARTITION_STATUS, R221. -/
  | partitionStatus (c : CoreId)
  /-- PARTITION_RESET, R109. -/
  | partitionReset
  /-- PARTITION_QUEUE_FLUSH, R108. -/
  | partitionQueueFlush
  /-- SESSION_CLOSE, R547. -/
  | sessionClose
  /-- PARTITION_RESET_CANCEL, R109. -/
  | partitionResetCancel (p : Nat)
  /-- PARTITION_RESET_WIPE, R109. -/
  | partitionResetWipe (p : Nat)
  /-- STAGE_OPEN, R344. -/
  | stageOpen
  /-- STAGE_ADD, R345. -/
  | stageAdd
  /-- STAGE_VALIDATE, R346. -/
  | stageValidate
  /-- STAGE_APPLY, R347. -/
  | stageApply
  /-- STAGE_DISCARD, R345. -/
  | stageDiscard
  /-- STAGE_STATUS, R344. -/
  | stageStatus
  /-- SC_COMMAND_RESUME, R548. -/
  | scCommandResume
  /-- CEREMONY_OPEN, R402. -/
  | ceremonyOpen
  /-- CEREMONY_PASSWORD, R400. -/
  | ceremonyPassword
  /-- CEREMONY_STATUS, R402. -/
  | ceremonyStatus
  /-- CEREMONY_DATA, R402. -/
  | ceremonyData
  /-- CEREMONY_RESULT, R402. -/
  | ceremonyResult
  /-- CEREMONY_CANCEL, R404. -/
  | ceremonyCancel
  /-- TOKEN_SET_PASSWORD, R402. -/
  | tokenSetPassword
  /-- TOKEN_ERASE, R402. -/
  | tokenErase
  /-- CEREMONY_TIMEOUT, R404. -/
  | ceremonyTimeout
  /-- TOKEN_COUNT_EXPIRY, R400. -/
  | tokenCountExpiry (n : Nat)
  /-- TOKEN_DETECT_CLOSED, R386. -/
  | tokenDetectClosed (slot : Nat) (identity : Bytes) (emptyPassword : Bool) (build : Option FwImage)
  /-- TOKEN_REMOVED, R394. -/
  | tokenRemoved (slot : Nat)
  /-- TOKEN_OVERCURRENT, R385. -/
  | tokenOvercurrent (slot : Nat)
  /-- TOKEN_RESPONSE, R387. -/
  | tokenResponse (slot : Nat) (r : TokenResp)
  /-- TOKEN_BUSY_END, R395. -/
  | tokenBusyEnd (slot : Nat)
  /-- FIRMWARE_BEGIN, R419. -/
  | firmwareBegin
  /-- FIRMWARE_DATA, R419. -/
  | firmwareData
  /-- FIRMWARE_END, R419. -/
  | firmwareEnd
  /-- BOOT_STATUS, R418. -/
  | bootStatus
  /-- DEBUG_CHALLENGE, R428. -/
  | debugChallenge
  /-- DEBUG_GRANT_EXPIRY, R430. -/
  | debugGrantExpiry
  /-- PLATFORM_STATUS, R445. -/
  | platformStatus
  /-- RECOVERY_BEGIN, R445. -/
  | recoveryBegin
  /-- RECOVERY_DATA, R445. -/
  | recoveryData
  /-- RECOVERY_END, R445. -/
  | recoveryEnd
  /-- PLATFORM_RECOVER, R446. -/
  | platformRecover
  /-- PLATFORM_RESTART, R446. -/
  | platformRestart
  /-- DEVICE_CERTIFICATE, R449. -/
  | deviceCertificate
  /-- POWER_STATE, R473. -/
  | powerState
  /-- TAMPER_STATUS, R478. -/
  | tamperStatus
  /-- RNG_TAP, R329. -/
  | rngTap
  /-- GB_STATUS, R507. -/
  | gbStatus
  /-- GB_READ, R507. -/
  | gbRead
  /-- GB_CLEAR, R495. -/
  | gbClear
  /-- CLOCK_SET, R497. -/
  | clockSet
  /-- DUMP_STATUS, R507. -/
  | dumpStatus
  /-- DUMP_READ, R507. -/
  | dumpRead
  /-- DUMP_RELEASE, R507. -/
  | dumpRelease
  /-- TAP_FLUSH, R486. -/
  | tapFlush
  /-- ETHERNET_FRAME_RECEIVED, R44. -/
  | ethernetFrameReceived (port : Nat) (f : EthFrame)
  /-- ARP_ND_REQUEST, R44. -/
  | arpNdRequest (port : Nat) (src : Source)
  /-- ICMP_ECHO_REQUEST, R44. -/
  | icmpEchoRequest (port : Nat) (src : Source) (data : Bytes)
  /-- CLIENT_HELLO, R68. -/
  | clientHello (f : FrameIn)
  /-- COOKIE_MODE_EXIT, R80. -/
  | cookieModeExit
  /-- SERVER_HELLO_READY, R69. -/
  | serverHelloReady (sid : Nat)
  /-- CLIENT_FINISH, R71. -/
  | clientFinish (f : FrameIn)
  /-- HANDSHAKE_TIMEOUT, R72. -/
  | handshakeTimeout (sid : Nat)
  /-- COOKIE_KEY_REFRESH, R81. -/
  | cookieKeyRefresh
  /-- REQUEST_FRAME, R56. -/
  | requestFrame (f : FrameIn)
  /-- BLOCKS_FRAME, R60. -/
  | blocksFrame (f : FrameIn)
  /-- BLOCK_ACK, R62. -/
  | blockAck (f : FrameIn)
  /-- BLOCK_ACK_TIMER, R63. -/
  | blockAckTimer (sid : Nat) (mid : Nat)
  /-- BLOCK_RESEND_TIMER, R63. -/
  | blockResendTimer (sid : Nat) (mid : Nat) (blk : Nat)
  /-- MESSAGE_ABANDONED, R64. -/
  | messageAbandoned (sid : Nat) (mid : Nat)
  /-- REASSEMBLY_TIMEOUT, R64. -/
  | reassemblyTimeout (sid : Nat) (mid : Nat)
  /-- REKEY, R73. -/
  | rekey (f : FrameIn)
  /-- REKEY_ACK, R73. -/
  | rekeyAck (f : FrameIn)
  /-- REKEY_START, R74. -/
  | rekeyStart (sid : Nat)
  /-- EPOCH_KEY_ERASE, R73. -/
  | epochKeyErase (sid : Nat)
  /-- SESSION_EXHAUSTED, R51. -/
  | sessionExhausted (sid : Nat)
  /-- CLOSE, R75. -/
  | close (f : FrameIn)
  /-- KEEPALIVE, R49. -/
  | keepalive (f : FrameIn)
  /-- SESSION_IDLE, R75. -/
  | sessionIdle (sid : Nat)
  /-- LINK_DOWN, R46. -/
  | linkDown (port : Nat)
  /-- LINK_UP, R46. -/
  | linkUp (port : Nat)
  /-- RESPONSE_EGRESS, R36. -/
  | responseEgress
  /-- DISPATCH_SLOT, R102. -/
  | dispatchSlot
  /-- UNIT_POWER_GATE, R40. -/
  | unitPowerGate (u : PUnit)
  /-- UNIT_RESUME_DONE, R40. -/
  | unitResumeDone (u : PUnit)
  /-- COMMIT_ADMIT, R348. -/
  | commitAdmit
  /-- COMMIT_BACKLOG, R348. -/
  | commitBacklog (ticket : Nat)
  /-- COMMIT_JOURNALED, R334. -/
  | commitJournaled
  /-- COMMIT_APPLY, R333. -/
  | commitApply
  /-- MIRROR_ACK_TIMEOUT, R368. -/
  | mirrorAckTimeout (csn : Nat)
  /-- KEY_CHECKPOINT_START, R246. -/
  | keyCheckpointStart
  /-- KEY_CHECKPOINT_WRITTEN, R246. -/
  | keyCheckpointWritten
  /-- LNE_JOB_LOAD, R303. -/
  | lneJobLoad
  /-- LNE_YIELD_POINT, R304. -/
  | lneYieldPoint (engine : Nat)
  /-- LNE_JOB_COMPLETE, R299. -/
  | lneJobComplete (engine : Nat)
  /-- LNE_AGE_PROMOTION, R302. -/
  | lneAgePromotion (handle : Nat)
  /-- LNE_RNG_TIMEOUT, R300. -/
  | lneRngTimeout (handle : Nat)
  /-- LANE_JOB_START, R272. -/
  | laneJobStart (lane : Nat)
  /-- LANE_RESUME_TIMER, R272. -/
  | laneResumeTimer (handle : Nat)
  /-- LANE_JOB_COMPLETE, R274. -/
  | laneJobComplete (lane : Nat)
  /-- LANE_STALL_TIMEOUT, R279. -/
  | laneStallTimeout (handle : Nat)
  /-- MASK_RESEED_REQUEST, R279. -/
  | maskReseedRequest (u : MaskUnit)
  /-- MASK_RESEED_STALL, R279. -/
  | maskReseedStall (u : MaskUnit)
  /-- MASK_SEED_ARRIVAL, R279. -/
  | maskSeedArrival (u : MaskUnit)
  /-- RNG_WINDOW_END, R314. -/
  | rngWindowEnd (windows : List Bytes)
  /-- RNG_STARTUP, R322. -/
  | rngStartup (windows : List (List Bytes)) (katOk : Bool)
  /-- RNG_STARTUP_RETRY, R324. -/
  | rngStartupRetry (windows : List (List Bytes)) (katOk : Bool)
  /-- RNG_READER_TIMEOUT, R325. -/
  | rngReaderTimeout (c : CoreId)
  /-- RNG_TAP_END, R329. -/
  | rngTapEnd
  /-- MIRROR_LINK_LOCK, R358. -/
  | mirrorLinkLock
  /-- MIRROR_HANDSHAKE_DONE, R355. -/
  | mirrorHandshakeDone (peer : PeerInfo)
  /-- MIRROR_HANDSHAKE_RETRY, R358. -/
  | mirrorHandshakeRetry
  /-- MIRROR_HEARTBEAT_TIMER, R360. -/
  | mirrorHeartbeatTimer
  /-- MIRROR_HEARTBEAT, R360. -/
  | mirrorHeartbeat (h : MirHdr)
  /-- MIRROR_RECORDS, R365. -/
  | mirrorRecords (h : MirHdr) (first : Nat) (crcs : List Bool) (recs : List (Nat × Record))
  /-- MIRROR_BLOCK_ACK, R361. -/
  | mirrorBlockAck (h : MirHdr) (stream : Nat) (base : Nat) (got : List Nat)
  /-- MIRROR_BLOCK_RESEND_TIMER, R361. -/
  | mirrorBlockResendTimer (stream : Nat) (blk : Nat)
  /-- MIRROR_CLAIM, R376. -/
  | mirrorClaim (h : MirHdr) (serial : Nat)
  /-- MIRROR_SNAPSHOT, R380. -/
  | mirrorSnapshot (h : MirHdr) (first : Nat) (crcs : List Bool)
  /-- MIRROR_STAND_DOWN, R372. -/
  | mirrorStandDown (h : MirHdr)
  /-- RESYNC_CONTROL, R381. -/
  | resyncControl (h : MirHdr) (j : Nat)
  /-- LANTERN_FRAME_TIMER, R363. -/
  | lanternFrameTimer
  /-- LANTERN_FRAME, R363. -/
  | lanternFrame (f : LanternIn)
  /-- LANTERN_TAMPER, R370. -/
  | lanternTamper (f : LanternIn)
  /-- PATH_SILENT, R370. -/
  | pathSilent (p : MirPath)
  /-- CLAIM_ANNOUNCE_TIMER, R375. -/
  | claimAnnounceTimer
  /-- CLAIM_ANNOUNCE, R375. -/
  | claimAnnounce (port : Nat) (b : ClaimBody)
  /-- MIR_START_WAIT_EXPIRY, R379. -/
  | mirStartWaitExpiry
  /-- RESYNC_SNAPSHOT_LOADED, R381. -/
  | resyncSnapshotLoaded (snap : Snapshot)
  /-- RESYNC_RESTART, R381. -/
  | resyncRestart
  /-- COLD_START, R414. -/
  | coldStart
  /-- WARM_RESET, R414. -/
  | warmReset
  /-- MODULE_STARTED, R414. -/
  | moduleStarted
  /-- S3_WAKE, R415. -/
  | s3Wake (w : WakeSource)
  /-- WAYSIDE_LOAD_IMAGE, R526. -/
  | waysideLoadImage (ctrl : BitVec 32) (dma : DmaImage)
  /-- WAYSIDE_REVOKE, R422. -/
  | waysideRevoke (ctrl : BitVec 32)
  /-- WAYSIDE_TO_TEST, R425. -/
  | waysideToTest (ctrl : BitVec 32)
  /-- TAMPER_TRIP, R462. -/
  | tamperTrip (sensor : Sensor)
  /-- TAMPER_RESET_RELEASE, R463. -/
  | tamperResetRelease
  /-- VBAT_ABSENT, R461. -/
  | vbatAbsent
  /-- MAIN_POWER_LOST, R477. -/
  | mainPowerLost
  /-- P12V_OVERVOLTAGE, R538. -/
  | p12vOvervoltage
  /-- S2_ENTRY_DONE, R474. -/
  | s2EntryDone
  /-- S2_WAKE, R474. -/
  | s2Wake (w : WakeSource)
  /-- S2_IDLE_TIMER, R476. -/
  | s2IdleTimer
  /-- S3_ENTRY_DONE, R475. -/
  | s3EntryDone
  /-- PWR_WAKE_N, R532. -/
  | pwrWakeN
  /-- PORTER_ALARM, R473. -/
  | porterAlarm
  /-- PLT_PWR_GOOD_RISE, R438. -/
  | pltPwrGoodRise
  /-- PLT_PWR_GOOD_FALL, R433. -/
  | pltPwrGoodFall
  /-- PLATFORM_POWER_GOOD_WAIT, R438. -/
  | platformPowerGoodWait
  /-- PLATFORM_RELEASED_EARLY, R438. -/
  | platformReleasedEarly (manifest : Bytes) (flash : List (Nat × FlashObs))
  /-- PLATFORM_VERIFIED, R438. -/
  | platformVerified
  /-- REGION_MISMATCH, R441. -/
  | regionMismatch (why : MeasureFail)
  /-- SERVE_TIMEOUT, R440. -/
  | serveTimeout
  /-- PLATFORM_RECOVERY_WRITTEN, R447. -/
  | platformRecoveryWritten
  /-- HOST_FLASH_COMMAND, R443. -/
  | hostFlashCommand (ch : Nat) (cmd : FlashCmd)
  /-- IDENTITY_TREE_BUILT, R451. -/
  | identityTreeBuilt
  /-- TAP_ITEM_WRITE, R482. -/
  | tapItemWrite (fifo : Nat) (src : TapSrc) (whole : Bool)
  /-- GUESTBOOK_READ, R490. -/
  | guestbookRead (fifo : Nat) (reader : TapReader)
  /-- GUESTBOOK_WINDOW_CLOSE, R493. -/
  | guestbookWindowClose
  /-- GB_RATE_REFILL, R490. -/
  | gbRateRefill
  /-- FATAL_ERROR, R501. -/
  | fatalError (cause : Nat)
  /-- FATAL_RESET, R501. -/
  | fatalReset
  /-- SVC_SQ_TAIL_WRITE, R523. -/
  | svcSqTailWrite (ring : Nat) (v : BitVec 32)
  /-- SVC_CQ_HEAD_WRITE, R523. -/
  | svcCqHeadWrite (ring : Nat) (v : BitVec 32)
  /-- SVC_RING_ENABLE_WRITE, R520. -/
  | svcRingEnableWrite (ring : Nat) (v : BitVec 32)
  /-- RING_ENTRY_FETCHED, R521. -/
  | ringEntryFetched (ring : Nat) (e : SqEntry) (item : Option Bytes)
  /-- RING_COMPLETION, R524. -/
  | ringCompletion (ring : Nat) (writeOk : Bool)
  /-- RING_COALESCE_TIMER, R519. -/
  | ringCoalesceTimer (ring : Nat)
  /-- SVC_FLR, R512. -/
  | svcFlr
  /-- SVC_HOT_RESET, R512. -/
  | svcHotReset
  /-- SVC_LINK_DOWN, R512. -/
  | svcLinkDown
  /-- SVC_PERST_ASSERT, R532. -/
  | svcPerstAssert
  /-- REG64_LOW_READ, R514. -/
  | reg64LowRead (off : Nat)
  /-- REGISTER_WRITE, R13. -/
  | registerWrite (off : Nat) (v : BitVec 32)
  /-- SMB_IDENT, R542. -/
  | smbIdent
  /-- SMB_STATE, R542. -/
  | smbState
  /-- SMB_DIE_TEMP, R542. -/
  | smbDieTemp
  /-- SMB_POWER, R542. -/
  | smbPower
  /-- SMB_ALERT_READ, R542. -/
  | smbAlertRead
  /-- SMB_ALERT_WRITE, R543. -/
  | smbAlertWrite (v : BitVec 16)
  /-- SMB_SERIAL, R542. -/
  | smbSerial
  /-- SMB_ALERT_RESPONSE, R541. -/
  | smbAlertResponse
  /-- THERMAL_WARN_CHANGE, R544. -/
  | thermalWarnChange (temp : Int)
  /-- MIRROR_BLOCK_ACK_TIMER, R361. -/
  | mirrorBlockAckTimer
  /-- TOKEN_BUSY_TIMEOUT, R389. -/
  | tokenBusyTimeout (slot : Nat)
  /-- STANDBY_RAIL_LOST, R472. -/
  | standbyRailLost
  /-- PLATFORM_RESTART_POWER_OFF_END, R446. -/
  | platformRestartPowerOffEnd
deriving DecidableEq, Repr

end Sys2Proof
end

