-- ==== Sys2Proof/Decode.lean ====
section
/-! DEFINITION. The command that a word of the opcode table spells. The table gives no row any bits: a command reaches
the block as a typed event, not as a word. -/

namespace Sys2Proof

/-- The command spelled by the bits of a row: none, since no row of spec/opcode_table.json gives bits. -/
def decodeTableWord (_nbits _w : Nat) : Option Instr := none

end Sys2Proof
end

