-- ==== Sys2Proof/Config.lean ====
section
/-! DEFINITION. What the spec leaves to named standards, to manufacture or to chance: opaque constants (log 4, 5, 7).
Nothing in Lean can evaluate them. The functions on byte strings take and give bytes in transmission order. -/

namespace Sys2Proof

/-- A microcode program by its header (R307): its number; the least and greatest LEN of its four operands; the key types it
demands, none where it takes no key, and the usage bits; the greatest result; whether it gives a result key; the engine cycles
for each permitted OPERAND_BITS. -/
structure MicroProgram where
  number : Nat
  layout : List (Nat × Nat)
  keyTypes : List Nat
  usage : BitVec 16
  resultMax : Nat
  resultKey : Bool
  cycles : List (Nat × Nat)
deriving DecidableEq, Repr

end Sys2Proof

namespace Sys2Proof.Config

/-! Free values (log 7): each is applied to a number drawn from `State.freeCtr`. -/

/-- What a system register of the security controller reads: number, value last written, draw (R186, log 11). -/
opaque systemRegister : (n : Nat) → Word → (draw : Nat) → Word
/-- Where the security controller goes on after eret or a fault of its own (R186, log 11). -/
opaque scResumePc : (draw : Nat) → Word
/-- The core cycles an invocation actually spent, waits on LNEs and lanes excluded (R103, log 2). -/
opaque actualCycles : (draw : Nat) → Nat
/-- A value that the spec leaves unstated (log 7). -/
opaque freeNat : (draw : Nat) → Nat
/-- A byte string of the given length that the spec leaves unstated (log 7). -/
opaque freeBytes : (draw len : Nat) → Bytes

/-- The bytes of a dump section whose layout the spec does not give, from the figures that R503 lists for its TYPE (log 28). -/
opaque dumpContent : (type : Nat) → (figures : List Nat) → Bytes

/-- What the platform's flash of a channel holds when recovery reads it, which only the platform's host processor knows (R447, log 70). -/
opaque flashHeld : (draw channel : Nat) → Bytes

/-! Manufacture data (log 4). -/

/-- DEVICE_SERIAL, 16 bytes (R409). -/
opaque deviceSerial : Bytes
/-- BLOCK_DISABLE: the fused-off blocks, their bits as manufacture lays them out; what they leave is the variant's (R1, R3, R409). -/
opaque blockDisable : BitVec 64
/-- LC_TOKEN_DIGEST of transition 1 to 5 (R409). -/
opaque lcTokenDigest : (transition : Nat) → Bytes
/-- ROOT_DIGEST of root 0 to 3 (R409). -/
opaque rootDigest : (root : Nat) → Bytes
/-- REVOKE_TOKEN_DIGEST of root 0 to 3 (R409). -/
opaque revokeTokenDigest : (root : Nat) → Bytes
/-- The port MAC address that the device serial and the port number give, 6 bytes (R47, log 84). -/
opaque portMac : (serial : Bytes) → (port : Nat) → Bytes
/-- Of the device certificate (R449): FORMAT, IDENTITY_PUBKEY, ISSUED_MONO_NS, and Haldiga's signature. -/
opaque certFormat : Nat
opaque identityPubkey : Bytes
opaque certIssued : Nat
opaque certSignature : Bytes
/-- The device identity seed in OTP: the 32-byte seed and the 16-byte identifier I of its top tree (R449). -/
opaque identitySeed : Bytes
opaque identityId : Bytes

/-! Block ciphers (FIPS 197, TDES as R166 to R168 use single DES). Key, block. -/

opaque aesEncrypt : (key block : Bytes) → Bytes
opaque aesDecrypt : (key block : Bytes) → Bytes
opaque desEncrypt : (key block : Bytes) → Bytes
opaque desDecrypt : (key block : Bytes) → Bytes

/-! Hashes: FIPS 180-4. -/

opaque sha256 : Bytes → Bytes
opaque sha384 : Bytes → Bytes
opaque sha512 : Bytes → Bytes

/-! Modes of operation. -/

/-- SP 800-38F KWP. -/
opaque kwpWrap : (key data : Bytes) → Bytes
opaque kwpUnwrap : (key data : Bytes) → Option Bytes
/-- FF1 of SP 800-38G: key, radix, tweak, numerals. -/
opaque ff1Encrypt : (key : Bytes) → (radix : Nat) → (tweak : Bytes) → List Nat → List Nat
opaque ff1Decrypt : (key : Bytes) → (radix : Nat) → (tweak : Bytes) → List Nat → List Nat
/-- HMAC with SHA-256, SHA-384 or SHA-512 (bits). -/
opaque hmac : (bits : Nat) → (key data : Bytes) → Bytes

/-! CTR_DRBG of SP 800-90A with AES-256, its derivation function and no prediction resistance (R318): the state after
instantiation with a seed and a personalisation string, after a reseed, and what a generate request gives with the state
after it. -/

opaque drbgInstantiate : (seed personal : Bytes) → Bytes
opaque drbgReseed : (state seed : Bytes) → Bytes
opaque drbgGenerate : (state : Bytes) → (len : Nat) → Bytes × Bytes

/-! ANSI standards. -/

/-- X9.24-1 non-reversible key generation: 16-byte key, 8-byte crypto register (R177). -/
opaque dukptNrkg : (key cryptoRegister : Bytes) → Bytes
/-- X9.24-1 variant of a transaction key: 0 PIN, 1 MAC, 2 data; direction 0 request, 1 response (R240). -/
opaque dukptVariant : (variant dir : Nat) → Bytes → Bytes
/-- X9.24-1 initial key: double-length base derivation key, first 8 bytes of the KSN with its counter cleared (R211). -/
opaque dukptInitial : (key ksn : Bytes) → Bytes
/-- The ICC master key under an AES issuer master key: the spec gives option A for TDES only (R177, R209, log 42). -/
opaque emvAesIcc : (key y : Bytes) → (len : Nat) → Bytes
/-- Build of an X9.143 key block: version, wrapping key, header with optional blocks, key data, random pad. -/
opaque x9143Wrap : (version : Nat) → (kbpk header keyData pad : Bytes) → Bytes
/-- Verification and decipherment of an X9.143 key block: the key data, or nothing when its MAC fails. -/
opaque x9143Unwrap : (kbpk block : Bytes) → Option Bytes
/-- The KEY_TYPE that DER key data of an X9.143 block holds: algorithm character, data; 0 when it is not well-formed. -/
opaque derKeyType : (alg : Nat) → Bytes → Nat
/-- The key material of DER key data, and back. -/
opaque derDecode : (keyType : Nat) → Bytes → Bytes
opaque derEncode : (keyType : Nat) → Bytes → Bytes

/-! Public-key operations: KEY_TYPE of R236 names the scheme. -/

/-- The public key of a private key, encoded as R291 gives. -/
opaque publicKey : (keyType : Nat) → (priv : Bytes) → Bytes
/-- A private key made from random bytes. -/
opaque makePrivate : (keyType param : Nat) → (random : Bytes) → Bytes
/-- Whether a byte string is a well-formed private key of the type (its DER or raw form). -/
opaque privateOk : (keyType : Nat) → Bytes → Bool
/-- Verification of a signature: key type or scheme, public key, message, signature. -/
opaque verifySig : (scheme : Nat) → (pub msg sig : Bytes) → Bool
/-- Signing: scheme, private key, message, random bytes. -/
opaque sign : (scheme : Nat) → (priv msg random : Bytes) → Bytes
/-- What an operation of a long-number engine computes, as its standard gives: operation, OPERAND_BITS, key type and
material, operands, random bytes. -/
opaque lneResult : (operation operandBits keyType : Nat) → (key : Bytes) → (operands : List Bytes) → (random : Bytes) → Bytes
/-- Whether the check or search that R301 names for the operation fails: a signature that does not verify, OAEP decoding, a
shared point at infinity, nonces, attempts or candidates used up. -/
opaque lneFails : (operation operandBits keyType : Nat) → (key : Bytes) → (operands : List Bytes) → (random : Bytes) → Bool
/-- Whether the self-check of an RSA private operation finds a fault (R301): operation, key material, operands, random bytes. -/
opaque lneFaulty : (operation : Nat) → (key : Bytes) → (operands : List Bytes) → (random : Bytes) → Bool
/-- Bytes that a job draws at load (R300, log 55): operation, OPERAND_BITS, key type, bytes of key material, and a free number
for the candidates of an RSA KEYGEN. -/
opaque lneDrawBytes : (operation operandBits keyType keyBytes draw : Nat) → Nat
/-- The 256-bit kdrv parent that a shared secret becomes as a result key (R240, log 19). -/
opaque secretKey : (secret : Bytes) → Bytes
/-- The programs of a microcode bundle, and whether the code of each passes the checks of R307. -/
opaque microBundle : (bundle : Bytes) → List (MicroProgram × Bool)
/-- A microcode program's function (R307 to R309): its result, and the secret of its result key. -/
opaque microcode : (operation : Nat) → (key : Bytes) → (operands : List Bytes) → (random : Bytes) → Except Nat (Bytes × Bytes)
/-- An HSS signature of two levels: seed and identifier of the top tree and of the bottom tree, leaf of each, message (R449, R451). -/
opaque hssSign : (topSeed topId bottomSeed bottomId : Bytes) → (top bottom : Nat) → (msg : Bytes) → Bytes
/-- ML-KEM and (EC)DH shared secrets of the Caravan handshake (R69, R70): module part, client part. -/
opaque kemEncapsulate : (pub random : Bytes) → Bytes × Bytes
opaque dhShared : (priv pub : Bytes) → Bytes
/-- The ML-KEM shared secret of a ciphertext under the private key held as its seed (R236, R358). -/
opaque kemDecapsulate : (seed ciphertext : Bytes) → Bytes
/-- How a part of a SNAPSHOT stream stands in it: which part, its numbers and bytes (R380, log 112). -/
opaque snapshotPart : (part : Nat) → (ids : List Nat) → Bytes → Bytes
/-- The compact form of a key in a database copy by its reference, attributes and material: 128 bytes and 64 for each further 64
of material (R246, log 108). -/
opaque compactKey : (ref : Nat) → (attrs material : Bytes) → Bytes

end Sys2Proof.Config
end

