-- ==== Sys2Proof/Machine/State.lean ====
section
/-! DEFINITION. The state of the block: plain data, holding every piece of state the spec gives the machine.
Reset values and the marks of the model's own choices stand in INVENTORY.md and the assumption log. -/

namespace Sys2Proof.Machine

/-- No command stops the block with a fault: a Ghedo fault, a refusal, a fatal error and a tamper response are next
states (R116, R501, R462). The one constructor is raised by no meaning; it is kept so that the type has a value to
compare (safe). -/
inductive Fault where
  /-- Raised by nobody (safe). -/
  | unreachable
deriving DecidableEq, Repr

/-- Why a command has no meaning. -/
inductive Refusal where
  /-- Raised by an arm of exec whose command has no meaning yet (safe). -/
  | notModelled (mnemonic : String)
deriving DecidableEq, Repr

/-- The part number of R1. -/
inductive Variant where
  | ym4096 | ym1024
deriving DecidableEq, Repr

/-- The life-cycle states of R425. -/
inductive Lifecycle where
  | blank | test | provisioned | deployed | analysis | scrap
deriving DecidableEq, Repr

/-- A byte-addressed memory: (address, byte) pairs, addresses strictly rising, no pair with the byte an unlisted
address reads as, which is 0 (R121). -/
abbrev Memory := List Host.Cell

/-! ### Requests -/

/-- Where a request came from and where its response goes (R36, R521): a session's request ID, a service port ring with
the number of the entry taken from it, or the security controller itself (R95). -/
inductive Origin where
  | session (sid reqId : Nat) | ring (ring key : Nat) | internal
deriving DecidableEq, Repr

/-- A ticketed request (R56, R59, R95, R99). `spilled` says that it is held in DRAM spill, `reserved` how much of its
charge lies in the partition's reservation, `port` the port its last frame came by (R36), `at0` and `cycle` when it was stamped,
`snapshot` its dispatch snapshot (R366). -/
structure Request where
  ticket : Nat := 0
  partition : Nat := 0
  queue : Nat := 0
  verb : Nat := 0
  bulk : Bool := false
  payloadLen : Nat := 0
  body : Bytes := []
  charge : Nat := 0
  reserved : Nat := 0
  spilled : Bool := false
  port : Nat := 0
  at0 : Nat := 0
  cycle : Nat := 0
  snapshot : Nat := 0
  origin : Origin := .internal
deriving DecidableEq, Repr

/-! ### Keys -/

/-- A key handle held by a key register (R119): attributes and material of the key; `ref` is the reference it was
loaded from, absent for a key that exists only in the invocation (R241). -/
structure Handle where
  ref : Option Nat
  key : KeyMat
deriving DecidableEq, Repr

/-- The stored versions of what stands at a key reference, newest first: CSN, and the key (its tombstone flag in the
attributes) or nothing (R248). -/
abbrev KeyVersions := List (Nat × Option KeyMat)

/-! ### Ghedo cores -/

/-- A hash context of hashu (R169): algorithm, bytes absorbed, seal flag, whether finalised by out, and whether a
compression is running on a hash unit (R170). -/
structure HashCtx where
  alg : HashAlg := .sha256
  absorbed : Bytes := []
  sealed : Bool := false
  finalised : Bool := false
  running : Bool := false
deriving DecidableEq, Repr

/-- What a core waits for (R152). A core that waits takes no other instruction than the one it waits in. -/
inductive Wait where
  | none
  /-- in a read of the cluster expander, since a MONO_NS (R136) -/
  | random (since : Nat)
  /-- for a short-block unit, since a MONO_NS, with the blocks that are still to be masked, 0 for all of them (R153, R279) -/
  | unit (since left : Nat)
  /-- in a hashu, since a MONO_NS, for a hash unit or else for the running compression of its context (R153, R170) -/
  | hash (since : Nat) (forUnit : Bool)
  /-- in a wfi (R186) -/
  | interrupt
  /-- in a jwait, for a job (R180) -/
  | job (handle : Nat)
  /-- in a commit: gD receives the status, gA the CSN (R138) -/
  | commit (d a : GReg)
  /-- in the commit of a verb: what stands before and after the CSN in the response body on success (R192, R193) -/
  | verbCommit (front back : Bytes)
deriving DecidableEq, Repr

/-- A Ghedo core with the invocation it runs (R115, R119, R121, R137, R140). `outTop` is one more than the highest OUT
byte stored to (R276). `jobs` are the handles not yet waited for: (handle, is a lane job). `insn` is the instruction that
waits (R147). `decided` is what the dispatch decision settled of QUEUE_FLUSH and PARTITION_STATUS (R221, R222). -/
structure Core where
  world : Nat := 1
  req : Request := {}
  progVersion : Nat := 0
  nominal : Nat := 1
  snapshot : Nat := 0
  dispatched : Nat := 0
  cls : Nat := 0
  g : Vector Word 32 := Vector.replicate 32 0
  b : Vector SealedBlock 16 := Vector.replicate 16 {}
  k : Vector (Option Handle) 8 := Vector.replicate 8 none
  rstack : List Word := []
  pc : Word := 0
  out : Memory := []
  outFrozen : Bool := false
  outTop : Nat := 0
  scr : Memory := []
  retired : Nat := 0
  hash : Vector HashCtx 2 := Vector.replicate 2 {}
  stage : List CItem := []
  commitMade : Bool := false
  commitCsn : Nat := 0
  jobs : List (Nat × Bool) := []
  streamJob : Option Nat := none
  sealedCompares : Nat := 0
  wait : Wait := .none
  insn : Option Instr := none
  decided : Option (Status × Bytes) := none
deriving DecidableEq, Repr

/-! ### Power of gated blocks, clusters, mask generators, expanders -/

/-- Power of a cluster, lane or LNE (R40): gated, resuming, clock-gated and idle since a MONO_NS, or with work. -/
inductive UnitPower where
  | gated | resuming | idle (since : Nat) | active
deriving DecidableEq, Repr

/-- A mask generator (R278, R279): blocks masked since its last seed, the MASK_RESEED_BLOCKS in force since then (R287),
whether its next seed has been asked for, and since when it stands still for want of one. -/
structure MaskGen where
  blocks : Nat := 0
  limit : Nat := 1048576
  asked : Bool := false
  stalled : Option Nat := none
deriving DecidableEq, Repr

/-- A cluster (R105, R164, R243, R250). `slice` is its key cache slice, most recently used first: (reference, epoch of
the last walk). `pages` are resident table and counter pages: (partition, page, version), counter pages from 256 on.
`images` are cached tenant images, most recently dispatched first: (partition, code, version CSN). -/
structure Cluster where
  power : UnitPower := .gated
  slice : List (Nat × Nat) := []
  pages : List (Nat × Nat × Nat) := []
  images : List (Nat × Nat × Nat) := []
  epochs : List (Nat × Nat) := []
  sbus : List MaskGen := [{}, {}, {}, {}]
deriving DecidableEq, Repr

/-- A reader whose draw may take more generate requests than its expander can serve at once (R319, R325, R326): an invocation or a
commit by its ticket, an LNE job by its handle, the key record IVs of a received record or of a change by its CSN, the filling of
the record area, a checkpoint, a backup, the keys of an install step by its ticket. -/
inductive DrawReader where
  | invocation (ticket : Nat) | lneJob (handle : Nat) | commit (ticket : Nat) | record (csn : Nat) | change (csn : Nat)
  | area | checkpoint | backup | install (ticket : Nat)
deriving DecidableEq, Repr

/-- An expander (R318, R320): instantiated, its CTR_DRBG state (log 5), generate requests since its last reseed, whether it
waits for a seed and whether the stretch of this episode has been recorded; `parts` are the bytes that readers have had of draws it
could not finish before it blocked. -/
structure Expander where
  ready : Bool := false
  state : Bytes := []
  served : Nat := 0
  asked : Bool := false
  stretched : Bool := false
  parts : List (DrawReader × Bytes) := []
deriving DecidableEq, Repr

/-! ### Events and outputs -/

/-- A formed event: code, MONO_NS, the words it is recorded with (R481). -/
structure Event where
  code : Nat
  mono : Nat
  args : List Nat := []
deriving DecidableEq, Repr

/-! ### Durable state (11 R336 to R342) -/

/-- A loaded program image (R142). -/
structure ProgImage where
  world : Nat
  code : Nat
  version : Nat
  entry : Nat
  declaredCycles : Nat
  signerId : Bytes
  text : Bytes
deriving DecidableEq, Repr

/-- A roster: M of N public keys (R397). -/
structure Roster where
  m : Nat := 0
  n : Nat := 0
  keys : List Bytes := []
deriving DecidableEq, Repr

/-- A defined partition (R90, R247, R397). -/
structure Partition where
  roster : Roster := {}
  revEpoch : Nat := 0
deriving DecidableEq, Repr

/-- What the commit sequencer applies changes to. Keys, tables, counters and programs keep their versions by CSN,
newest first, so that an invocation reads them as of its dispatch snapshot (R339). -/
structure Durable where
  parts : List (Nat × Partition) := [(0, {})]
  boughEpochs : List (Nat × Nat) := []
  config : List ((Nat × Nat) × Bytes) := []
  keys : List (Nat × KeyVersions) := []
  tab : List ((Nat × Nat) × List (Nat × Bytes)) := []
  ctrs : List ((Nat × Nat) × List (Nat × Nat)) := []
  progs : List ((Nat × Nat) × List (Nat × Option ProgImage)) := []
  lastTickets : List ((Nat × Nat) × Nat) := []
deriving DecidableEq, Repr

/-- A slot of key slot RAM (R232, R281): the live counter V, the 64-byte material area, the attribute record. -/
structure KeySlot where
  v : Nat := 0
  material : Bytes := []
  attrs : Attrs := {}
deriving DecidableEq, Repr

/-- What the key record area holds of a key (R244): the number of its first record, and its wrapped records. -/
structure AreaKey where
  first : Nat := 0
  records : List Bytes := []
deriving DecidableEq, Repr

/-- Where keys are held (R230, R243, R244, R251): key slot RAM by reference, most recently used first; the retire table as
(reference, CSN); the boughs of slots 0 to 4,095; the key record area in DRAM by reference. -/
structure KeyStore where
  slots : List (Nat × KeySlot) := []
  retire : List (Nat × Nat) := []
  boughs : List (Nat × KeyMat) := []
  area : List (Nat × AreaKey) := []
deriving DecidableEq, Repr

/-! ### Engine jobs (08, 09) -/

/-- Where an LNE job is (R302 to R304): in the wait list, in a bank of an engine, or done with a status. -/
inductive LnePlace where
  | waiting | loaded (engine bank : Nat) | done (status : Status)
deriving DecidableEq, Repr

/-- An LNE job (R182, R290, R302). `rank` is the class ranked 0, 3, 1, 2; `units` its staging units; `table` its table
time in engine cycles; `ran` the cycles already spent in its bank, `since` when it last started or resumed (nothing while
it does not run); `loadedAt` its load; `draw` the number its random bits are drawn with. -/
structure LneJob where
  handle : Nat
  core : CoreId
  ticket : Nat
  partition : Nat
  rank : Nat
  submitted : Nat
  operation : Nat
  opBits : Nat
  micro : Bool
  key : Option Handle
  operands : List Bytes
  resultKeyReg : Nat
  resultOffset : Nat
  template : Bytes
  units : Nat
  table : Nat
  place : LnePlace
  ran : Nat := 0
  since : Option Nat := none
  loadedAt : Nat := 0
  need : Nat := 0
  drawn : Bool := true
  rnd : Bytes := []
  woke : Bool := false
  result : Bytes := []
  resultKey : Option Handle := none
deriving DecidableEq, Repr

/-- A bank of an LNE (R289, R306): the partition that owned it last, if it has not been wiped since, and the job in it. -/
structure LneBank where
  owner : Option Nat := none
  job : Option Nat := none
deriving DecidableEq, Repr

/-- A long-number engine (R289, R304): `active` is the bank whose job runs, `suspended` the one whose job is suspended. -/
structure Lne where
  power : UnitPower := .gated
  bank0 : LneBank := {}
  bank1 : LneBank := {}
  active : Option Nat := none
  suspended : Option Nat := none
deriving DecidableEq, Repr

/-- Where a lane job is (R270 to R274): unassigned, assigned and ready, running, suspended since (and by a missing
block), or done with a status. -/
inductive LanePlace where
  | unassigned | ready (lane : Nat) | running (lane : Nat) | suspended (lane since : Nat) | done (status : Status)
deriving DecidableEq, Repr

/-- A lane job (R183, R270 to R276). `blocksRun` counts the data blocks since it last started or resumed, `position` the data
bytes taken, `headDone` the header blocks; `slot` is its context slot, `counter` and `chain` the counter and the chaining, GHASH or
CBC-MAC value that the slot holds; `quantum` and `resume` are LANE_QUANTUM_BLOCKS and LANE_RESUME_BLOCKS as of its start (R287);
`waitIv` says that it waits for an IV reservation; `released` that header and body of its streamed
response have been released. -/
structure LaneJob where
  handle : Nat
  core : CoreId
  ticket : Nat
  partition : Nat
  rank : Nat
  submitted : Nat
  assignedAt : Nat := 0
  mode : Nat
  stream : Bool
  ivFromKey : Bool
  key : Handle
  tagBytes : Nat
  iv : Bytes
  expected : Bytes
  aad : Bytes
  source : Bytes
  dataLen : Nat
  destOffset : Nat
  tagOffset : Nat
  ivOffset : Nat
  place : LanePlace
  started : Bool := false
  blocksRun : Nat := 0
  position : Nat := 0
  slot : Option Nat := none
  quantum : Nat := 4096
  resume : Nat := 512
  headDone : Nat := 0
  counter : Nat := 0
  chain : Bytes := []
  waitIv : Bool := false
  released : Bool := false
  output : Bytes := []
  tag : Bytes := []
deriving DecidableEq, Repr

/-- A bulk lane (R265, R271, R275): power, mask generator, key register; its jobs are those assigned to it, each in one of 64
context slots. `shadowUsed` counts 1 KiB units of the 320 of its shadow pool. -/
structure Lane where
  power : UnitPower := .gated
  mask : MaskGen := {}
  shadowUsed : Nat := 0
  key : Bytes := []
deriving DecidableEq, Repr

/-! ### Partitions at run time, the dispatcher, egress (03, 12) -/

/-- A reset in progress (R109, R110): its point in time, when the cancelled
requests were answered, and the commands that wait for its end. -/
structure ResetState where
  at0 : Nat
  cancelledAt : Option Nat := none
  askers : List Request := []
deriving DecidableEq, Repr

/-- A partition's volatile state: halted, the completion times of its latest faults (newest first), a reset (R90, R107,
R109). -/
structure PartRun where
  halted : Bool := false
  faults : List Nat := []
  reset : Option ResetState := none
deriving DecidableEq, Repr

/-- The ingress sequencer and the dispatcher (R95 to R103). `queued` holds the undispatched requests in ticket order;
`recent` the dispatched bytes of the last millisecond: (MONO_NS, partition, class, bytes). -/
structure Dispatcher where
  nextTicket : Nat := 1
  ticketEnd : Nat := 1
  queued : List Request := []
  since2 : Nat := 0
  since3 : Nat := 0
  partDeficit : List ((Nat × Nat) × Int) := []
  queueDeficit : List ((Nat × Nat) × Int) := []
  partPtr : List (Nat × Nat) := []
  queuePtr : List ((Nat × Nat) × Nat) := []
  recent : List (Nat × Nat × Nat × Nat) := []
  parts : List (Nat × PartRun) := []
deriving DecidableEq, Repr

/-- A response on its way to egress (R34, R36, R276, R366). `payload` is the bulk payload with its trailer, present in a
BULK response; `retryUs` the retry hint where the code carries one; `csn` and `snapshot` the CSNs it must not precede (R366).
`streamPart` marks the parts of a streamed response: 1 header and body, 4 output of the lane as it makes it, 2 the rest of the
payload with the trailer; 3 marks a ring response that a fence discarded (R524). `at0` is when it reached egress. -/
structure Response where
  req : Request
  status : Status
  body : Bytes := []
  bulk : Bool := false
  payload : Bytes := []
  payloadLen : Nat := 0
  retryUs : Nat := 0
  csn : Nat := 0
  snapshot : Nat := 0
  streamPart : Nat := 0
  at0 : Nat := 0
deriving DecidableEq, Repr

/-! ### The commit sequencer (11) -/

/-- Who made a commit: an invocation, a STAGE_APPLY or CLOCK_SET command (its request), or a lane's key that needs its
next IV block (R281). -/
inductive CommitSrc where
  | core (c : CoreId) | stage (req : Request) (stage : Nat) | clock (req : Request) | iv (ref : Nat)
  /-- a stage body record (R345) -/
  | body (req : Request) (stage : Nat)
deriving DecidableEq, Repr

/-- A commit made and not yet accepted (R337, R348): `lines` of its journal record, whether it has drawn its tokens and
waits for retire entries (R251), when it was made, since when no hold of R337 has kept it from admission, and the IVs drawn for its
key records (R326). -/
structure PendingCommit where
  src : CommitSrc
  ticket : Nat
  partition : Nat
  items : List CItem
  stageId : Nat := 0
  lines : Nat
  arrived : Nat
  free : Option Nat := none
  drawn : Bool := false
  ivs : Bytes := []
deriving DecidableEq, Repr

/-- An accepted commit not yet applied: its record, maker, time of acceptance, and whether the record has been written
and read back (R334). A stage body record stands among them with CSN 0 until its STAGE_ADD is answered (R345): the end of its
blocks on the RECORDS stream, whether it has not been sent at all for want of an open link, and the items of its stage with it. -/
structure Accepted where
  record : Record
  src : CommitSrc
  at0 : Nat
  journaled : Bool := false
  blk : Nat := 0
  unsent : Bool := false
  total : Nat := 0
deriving DecidableEq, Repr

/-- A token bucket (R348, R79, R490): level in 10^-9 tokens at a MONO_NS. -/
structure Bucket where
  level : Nat
  at0 : Nat := 0
deriving DecidableEq, Repr

/-- A stage (R344 to R347). `session` is the session it was opened on, none for the service port session; `applying`
holds the ticket of the STAGE_APPLY whose install step it has passed (R337); `lines` of its body records, `firstCsn`
the CSN below which the journal may be trimmed for it (R349). -/
structure Stage where
  id : Nat
  session : Option Nat
  partition : Nat
  name : Bytes := []
  items : List CItem := []
  sizes : List Nat := []
  image : Bytes := []
  validated : Bool := false
  applying : Option Nat := none
  lines : Nat := 0
  firstCsn : Nat := 0
deriving DecidableEq, Repr

/-- A key database copy in flash (R246, R227): keys, and the trailer's CSN, TRUNK_ID (empty for no copy) and CRC-32C. -/
structure DbCopy where
  csn : Nat := 0
  trunkId : Bytes := []
  crc : Nat := 0
  keys : List (Nat × KeyMat) := []
deriving DecidableEq, Repr

/-- The current control record of a kind in the control ring: its first line, its lines, its MONO_NS (R352, log 123). -/
structure ControlRecord where
  line : Nat
  lines : Nat
  mono : Nat
deriving DecidableEq, Repr

/-- The control ring of PJM, 65,536 lines (R352): the line at which the next record is written, and the current record of each kind: 1
LMS index reservation, 2 fatal summary, 3 claim, 4 ticket reservation, 5 boot, cold-start and tamper counts, 6 trim point, 7 CSN
reservation. What the records say stands in the fields of this state that they keep. -/
structure ControlRing where
  pos : Nat := 0
  recs : List (Nat × ControlRecord) := []
deriving DecidableEq, Repr

/-- The commit sequencer with the journal (R331 to R351). `journal` holds the records of the ring in the order written, read back
or not, and `ringAt` the line at which the next is written (R340); `area` is what the partition configuration area holds, the durable state without its keys, and `areaCsn` the CSN
through which it does (R349, log 124); `apart` are records above DURABLE_BELOW kept apart at
a paired restart (R351); `blocked` is the lowest CSN refused for want of an acknowledgement (R368); `torn` counts the records that a reset met
unwritten (R350); `outOfService` that the tenants are out of service since a journal that could not be read, `restored` the partitions that
a restore has brought back since (R350, log 141). -/
structure Sequencer where
  next : Nat := 1
  blockEnd : Nat := 1
  applied : Nat := 0
  durableBelow : Nat := 0
  waiting : List PendingCommit := []
  accepted : List Accepted := []
  commits : Bucket := { level := 42500 * 10 ^ 9 }
  lines : Bucket := { level := 170000 * 10 ^ 9 }
  throttled : Bool := false
  fullWait : Bool := false
  retireWait : Bool := false
  journal : List Record := []
  ringAt : Nat := 0
  apart : List Record := []
  trim : Nat := 0
  area : Durable := {}
  areaCsn : Nat := 0
  checkpoint : Option Nat := none
  lastCheckpoint : Nat := 0
  keyCommits : Nat := 0
  copy0 : DbCopy := {}
  copy1 : DbCopy := {}
  stages : List Stage := []
  nextStage : Nat := 1
  blocked : Option Nat := none
  torn : Nat := 0
  outOfService : Bool := false
  restored : List Nat := []
deriving DecidableEq, Repr

/-! ### Commands of the security controller (R548) -/

/-- What a command that gave up the SC waits for (R548): the ceremony of its stage, its commit, a token step, the end of
a partition reset; or that its wait has ended with a status and a response body. -/
inductive ScWait where
  | ceremony (stage : Nat) | commit | token (slot : Nat) | decided (status : Status) (body : Bytes)
  /-- the quorum of its stage is met, or it needs none: the install step is next (R347), since a MONO_NS -/
  | install (stage since : Nat)
deriving DecidableEq, Repr

/-- A command in wait. -/
structure ScCommand where
  req : Request
  wait : ScWait
deriving DecidableEq, Repr

/-- How the security controller runs (R414, R423, R424, R506). -/
inductive ScMode where
  | off | romBlank | wayside | recovery | starting | running | fatalHalt | scrap
deriving DecidableEq, Repr

/-! ### Boot and life-cycle (14) -/

/-- A firmware slot (R411, R418); a failing one with the bytes that stand in it. -/
inductive FwSlot where
  | empty | image (i : FwImage) | failing (data : Bytes) | upload
deriving DecidableEq, Repr

/-- A firmware upload (R419): header bytes, bytes held from byte 512 on. -/
structure FwUpload where
  slot : Nat
  header : Bytes
  data : Bytes := []
deriving DecidableEq, Repr

/-- The one-time-programmable groups of R409 that a command may write, each as its number of programmed bits; `inForce` are the
revocations as the start read them (R421). -/
structure Otp where
  intent : Vector Nat 5 := Vector.replicate 5 0
  done : Vector Nat 5 := Vector.replicate 5 0
  revoked : Vector Nat 4 := Vector.replicate 4 0
  inForce : Vector Nat 4 := Vector.replicate 4 0
deriving DecidableEq, Repr

/-- What S3 entry stores in AON SRAM (R415). -/
structure S3Store where
  slot : Nat
  digest : Bytes
  regions : List Bytes
deriving DecidableEq, Repr

/-- The security controller: mode, the commands handed to it and not yet handled, what the dispatch decision settled of
a partition command by ticket (R547), the commands in wait, what it runs,
its control records, since when the draw of the command at the head of the queue stalls, `irq` an interrupt that a wfi of its firmware has not yet taken, firmware slots, debug access, the per-boot session identity: its secret seed and its waybill (R414 to
R430, R455, R548). -/
structure Sc where
  mode : ScMode := .off
  queue : List Request := []
  irq : Bool := false
  stall : Option Nat := none
  points : List (Nat × Status × Bytes) := []
  waiting : List ScCommand := []
  running : Nat := 3
  runImage : Option FwImage := none
  preferred : Nat := 0
  slotA : FwSlot := .empty
  slotB : FwSlot := .empty
  upload : Option FwUpload := none
  bootCount : Nat := 0
  coldCount : Nat := 0
  ctrl : ControlRing := {}
  resumed : Bool := false
  otp : Otp := {}
  challenge : Option (Bytes × Nat × Bool) := none
  grant : Option (Nat × Nat) := none
  memKey : Option Bytes := none
  identity : Option (Bytes × Bytes) := none
  retained : List Bytes := []
deriving DecidableEq, Repr

/-! ### The porter and power (16, 19) -/

/-- Power state S0 to S4 (R472). -/
inductive Power where
  | s0 | s1 | s2 | s3 | s4
deriving DecidableEq, Repr

/-- The porter (R459 to R478) and the rails (R537 to R540). `cause` are the bits of PRT_TAMPER_CAUSE, `counted` says
that the episode is already in TAMPER_COUNT, `held` that the main domain is held in reset,
`coldDue` and `wakeDue` the start, or the wake from S3 with its source, that its release lets go on (R463), `entering` the sleep state
whose entry is under way, with the alarm it is to set, `wake` the bytes in each port's wake buffer. -/
structure Porter where
  power : Power := .s4
  wakeSource : Nat := 0
  vbat : Bool := false
  vbatRecorded : Bool := false
  sensorActive : Bool := false
  unacked : Bool := true
  latch : Bool := true
  cause : Nat := 0x2000
  tripMono : Nat := 0
  tamperCount : Nat := 0
  counted : Bool := false
  monoLost : Bool := true
  held : Bool := true
  coldDue : Bool := false
  wakeDue : Option Nat := none
  trunk : Option KeyMat := none
  s3 : Option S3Store := none
  alarm : Option Nat := none
  entering : Option (Nat × Nat) := none
  p12v : Bool := false
  standby : Bool := false
  wake : List (Nat × Nat) := []
  wakeDrops : Nat := 0
  lastRequest : Nat := 0
deriving DecidableEq, Repr

/-! ### The random bit generator (10) -/

/-- An entropy source (R312 to R315, R329). -/
inductive SourceHealth where
  | off | startTest (failed : Nat) | healthy | excluded | latched | tapped
deriving DecidableEq, Repr

/-- A source with its run of passing and failing windows and the carry of the repetition count test (R313); `before` is
what it was when a capture began, or what has become of it since (R315, R329). -/
structure RngSource where
  health : SourceHealth := .off
  before : SourceHealth := .off
  passes : Nat := 0
  fails : Nat := 0
  lastBit : Option Bool := none
  run : Nat := 0
deriving DecidableEq, Repr

/-- The generator: sources, the test cutoffs of the window under way (R328), whether seeding is stopped, whether the trunk
waits for a seed, mask generators that wait for a seed in order of asking, the capture (source, bits wanted) and its buffer,
when the last start-up failed (R316 to R329). -/
structure Rng where
  sources : Vector RngSource 8 := Vector.replicate 8 {}
  rct : Nat := 41
  apt : Nat := 795
  stopped : Bool := true
  trunkWanted : Bool := false
  started : Bool := false
  masks : List MaskUnit := []
  tap : Option (Nat × Nat) := none
  capture : Bytes := []
  failedAt : Option Nat := none
deriving DecidableEq, Repr

/-! ### The network (02) -/

/-- A network port (R46, R88): its 16 counters in the order of R88. -/
structure Port where
  up : Bool := false
  ctrs : Vector Nat 16 := Vector.replicate 16 0
  slowArp : Bucket := { level := 10000 * 10 ^ 9 }
  slowIcmp : Bucket := { level := 1000 * 10 ^ 9 }
deriving DecidableEq, Repr

/-- A de-duplication record (R82, R83): in flight, cached with its response, or kept without a copy. -/
inductive DedupState where
  | inFlight | cached (r : Response) | noCopy
deriving DecidableEq, Repr

/-- The record of a request ID with the port and source of the last frame of any of its copies (R36, R82). -/
structure Dedup where
  id : Nat
  state : DedupState
  port : Nat
  src : Source
deriving DecidableEq, Repr

/-- An inbound message (R60 to R66): blocks received (index, data), when the last new one came, blocks since the last
BLOCK_ACK, the charge reserved for item header and body with where it lies, the ticket of a BULK request already
stamped, the refusal that a flush, halt or reset has given it (R107, R108). `total` is 0 until block 0 has come. `copy` marks
a later copy of a request that has its ticket already (R36, R82). -/
structure Inbound where
  id : Nat
  port : Nat
  src : Source
  blocks : List (Nat × Bytes) := []
  total : Nat := 0
  lastAt : Nat := 0
  sinceAck : Nat := 0
  charge : Nat := 0
  reserved : Nat := 0
  spilled : Bool := false
  ticket : Option Nat := none
  refused : Option Status := none
  copy : Bool := false
deriving DecidableEq, Repr

/-- An outgoing message in blocks (R61 to R63): its bytes, the latest BASE received, blocks sent and not acknowledged as
(index, re-sends, time of the last send), the next new block. -/
structure Outbound where
  id : Nat
  port : Nat
  src : Source
  data : Bytes
  total : Nat
  base : Nat := 0
  sent : List (Nat × Nat × Nat) := []
  next : Nat := 0
deriving DecidableEq, Repr

/-- The check of a complete CLIENT_FINISH's signature, work of an LNE in partition 0's admin class (R72, R95): the frame's port and
source, the signature, index and public key of the credential it is checked under, the ticket of its request in queue 15 once that is
dispatched (0 before), the LNE job under way. -/
structure FinishCheck where
  port : Nat
  src : Source
  sig : Bytes
  credential : Nat
  key : KeyMat
  ticket : Nat := 0
  job : Option Nat := none
deriving DecidableEq, Repr

/-- A session (R67 to R83), half-open until its CLIENT_FINISH: `hello` and `serverHello` are the bodies exchanged, `helloAt`
the time of the last hello with that body and `openedAt` that of the SERVER_HELLO, `startedAt` that of its first hello, `finish` the fragments of CLIENT_FINISH, `check`
the check of its signature, `early` the client's other frames, kept until it has succeeded (R71, R77). `oldPrk` lasts until the old epoch's keys are erased;
`txEpoch` and `rxEpoch` count the frames of each direction in the epoch; `quietAt` is when its last request ended (R75);
`helloSrc` the source of its hello (R72). -/
structure Session where
  id : Nat
  partition : Nat
  credAlg : Nat := 0
  credId : Bytes := []
  credential : Nat := 0
  live : Bool := false
  openedAt : Nat := 0
  startedAt : Nat := 0
  hello : Bytes := []
  helloAt : Nat := 0
  helloSrc : Source := {}
  serverHello : Bytes := []
  th : Bytes := []
  prk : Bytes := []
  oldPrk : Option Bytes := none
  switchedAt : Nat := 0
  epoch : Nat := 0
  rekeying : Bool := false
  txSeq : Nat := 0
  txEpoch : Nat := 0
  rxEpoch : Nat := 0
  rxHigh : Option Nat := none
  rxSeen : List Nat := []
  high : Nat := 0
  ack : Nat := 0
  dedup : List Dedup := []
  inbound : List Inbound := []
  outbound : List Outbound := []
  held : List Response := []
  finish : List (Nat × Bytes) := []
  check : Option FinishCheck := none
  early : List FrameIn := []
  maxFrame : Nat := 1500
  lastRx : Nat := 0
  quietAt : Nat := 0
  port : Nat := 0
  src : Source := {}
  /-- the reason of a close that takes effect after its last responses (R90, R109, R547) -/
  closing : Option Nat := none
deriving DecidableEq, Repr

/-- A handshake in work between CLIENT_HELLO and SERVER_HELLO (R68, R69, R72, R94, R95). `at0` is when its hello came and `last` when
an identical one came last; `begun` when its work was dispatched; `ticket` is that of its work in queue 15 of
partition 0, 0 before its dispatch; `random` MODULE_RANDOM once drawn; `job` the LNE job under way, `left` the operations
still to come, `rnds` the random bits of the jobs done; `starved` that one of them could not draw. -/
structure Hello where
  sid : Nat
  port : Nat
  src : Source
  body : Bytes
  at0 : Nat
  last : Nat := 0
  begun : Nat := 0
  ticket : Nat := 0
  random : Bytes := []
  job : Option Nat := none
  left : List Nat := []
  rnds : List Bytes := []
  starved : Bool := false
deriving DecidableEq, Repr

/-- The network side (02): ports, sessions, the free-slot queue and slot generations, handshakes in work, answered
hellos, hello buckets per prefix, hello arrivals, cookie mode and key; `cache` lists the sessions whose working copies are
in the session cache, most recently used first (R67). What the retransmit store holds follows from the sessions' records and
held responses (R83). -/
structure Net where
  ports : Vector Port 8 := Vector.replicate 8 {}
  sessions : List Session := []
  fresh : Nat := 0
  freed : List Nat := []
  gens : List (Nat × Nat) := []
  hellos : List Hello := []
  helloBuckets : List (Nat × Bucket) := []
  helloTimes : List Nat := []
  cookieMode : Bool := false
  cookieBelow : Option Nat := none
  cookieKey : Option Bytes := none
  cookieAt : Nat := 0
  cache : List Nat := []
deriving DecidableEq, Repr

/-! ### The pair (12) -/

/-- Unit states of R356; unpaired behaves as ACTIVE_ALONE. -/
inductive PairState where
  | unpaired | active | activeAlone | isolated | standby | resyncing | fenced | waiting
deriving DecidableEq, Repr

/-- A block of a mirror stream sent and not acknowledged: stream, index, its 256 bytes and the record that ends in it, re-sends and
the time of the last send (R361). -/
structure MirSent where
  stream : Nat
  blk : Nat
  data : Bytes := []
  recs : List Record := []
  resends : Nat := 0
  at0 : Nat := 0
deriving DecidableEq, Repr

/-- The pair side (12). `acked` is ACKED_CSN (own as standby, the partner's as active); `mark` the highest DURABLE_MARK
received; `confirmed` the highest CONFIRMED received; `received` the records journaled and not yet applied;
`recNext` the next record block expected, `recBlocks` the blocks received above it, `partialRec` the records whose last
block is not yet reached; `snapS` the S of a resynchronisation, `snapNext` its next block, `joinAt` the J named; `recStall` since when a record's IVs
cannot be drawn, `lostCsn` the CSN of a record lost for want of them (R326); `txKey`, `rxKey` the link keys with their salts and
`lanternKey` that of the lantern lines, none before the first handshake (R358); `tamperFrame` the prepared TAMPER frame (R364);
`hello` and `secret` this unit's first message of the agreement under way and its private values (R358); `met` the partner with which roles
are settled (R355), `known` that it has been seen to know the claim held here (R378), `wantFull` that the next resynchronisation needs a
snapshot (R381, R471). -/
structure Pair where
  state : PairState := .unpaired
  claim : Nat := 0
  seen : Nat := 0
  seenSerial : Nat := 0
  linkEpoch : Nat := 0
  locked : Bool := false
  linkOpen : Bool := false
  handshaking : Bool := false
  hello : Bytes := []
  secret : Bytes := []
  met : Option Nat := none
  known : Bool := false
  wantFull : Bool := false
  txSeq : Nat := 0
  rxHigh : Option Nat := none
  rxSeen : List Nat := []
  lanternTx : Nat := 0
  lanternRx : Option Nat := none
  acked : Nat := 0
  mark : Nat := 0
  confirmed : Nat := 0
  received : List Record := []
  recNext : Nat := 0
  recBlocks : List Nat := []
  partialRec : List (Nat × Record) := []
  uncovered : Bool := false
  sinceAck : Nat := 0
  sent : List MirSent := []
  nextBlk : Nat := 0
  snapNextBlk : Nat := 0
  snapRecvNext : Nat := 0
  linkSilent : Bool := true
  lanternSilent : Bool := true
  linkHeard : Nat := 0
  lanternHeard : Nat := 0
  failed : Bool := false
  snapS : Option Nat := none
  snapBlocks : List Nat := []
  serving : Bool := false
  joinAt : Option Nat := none
  aloneCsn : Option Nat := none
  wasAlone : Bool := false
  claimAt : Option Nat := none
  claimLast : Nat := 0
  waitSince : Option Nat := none
  recStall : Option Nat := none
  lostCsn : Option Nat := none
  txKey : Bytes × Bytes := ([], [])
  rxKey : Bytes × Bytes := ([], [])
  lanternKey : Bytes := []
  tamperFrame : Bytes := []
  ctrs : Vector Nat 7 := Vector.replicate 7 0
deriving DecidableEq, Repr

/-! ### Tokens and ceremonies (13) -/

/-- What a token command outstanding on a slot is for. -/
inductive TokenPurpose where
  /-- start-up of a token: GO_IDLE, its identity block, then its mode (R386, R390) -/
  | idle | identify | switchMode | readCheck | fallback
  /-- CEREMONY_PASSWORD: GET_STATUS, then UNLOCK with this password, then SIGN_CHALLENGE of this digest (R400) -/
  | status (password digest : Bytes) | unlock (digest : Bytes) | sign (digest : Bytes)
  /-- reading a data block for a component, a share or a free block; the status that its step ends with (R396, R405) -/
  | scan (block : Nat) (st : Status)
  /-- reading back a lost write, and writing a share (R395, R259) -/
  | readBack (block : Nat) (st : Status) | writeShare (block oldGen x : Nat) (st : Status)
  /-- TOKEN_SET_PASSWORD: UNLOCK with the old password, then SET_PASSWORD; TOKEN_ERASE, then the new identity -/
  | unlockSet (data : Bytes) | setPassword | erase | identity
  | lock
deriving DecidableEq, Repr

/-- A token command outstanding: what it is for, INDEX, ARGUMENT, data sent, whether it was already sent again, and its answer while
the token holds busy (R389, R392). -/
structure TokenCmd where
  why : TokenPurpose
  index : Nat
  arg : Nat := 0
  data : Bytes := []
  resent : Bool := false
  resentData : Bool := false
  held : Option TokenResp := none
deriving DecidableEq, Repr

/-- A token slot (R385 to R395, R407). `step` is a step that the security controller has raised and that is not dispatched yet, under its
number (R95). -/
structure Slot where
  present : Bool := false
  powered : Bool := false
  mode : Nat := 0
  fallback : Bool := false
  unlocked : Bool := false
  overcurrent : Bool := false
  lockedOut : Bool := false
  writeIncomplete : Bool := false
  lastStatus : Nat := 0
  tokenId : Bytes := []
  pub : Bytes := []
  cmd : Option TokenCmd := none
  step : Option (Nat × TokenCmd) := none
  steps : Nat := 0
deriving DecidableEq, Repr

/-- A block write lost to removal or power loss (R395). -/
structure LostWrite where
  tokenId : Bytes
  block : Nat
  oldGen : Nat
  digest : Bytes
  x : Nat
deriving DecidableEq, Repr

/-- The open ceremony (R402 to R405). `counts` are (TOKEN_ID, MONO_NS of the signature check); `everMet` says that quorum
has been reached; `components` are (TOKEN_ID, component record); `shareRecords` (TOKEN_ID, x, share record); `shares` are
those of a backup with their x, drawn for since `drawAt`; `written` the TOKEN_IDs whose share is written; `upload` what CEREMONY_DATA brought. -/
structure Ceremony where
  id : Nat
  op : Nat
  partition : Nat
  origin : Request
  stage : Nat := 0
  body : Bytes := []
  digest : Bytes
  opened : Nat
  lastStep : Nat
  drawAt : Nat := 0
  counts : List (Bytes × Nat) := []
  everMet : Bool := false
  components : List (Bytes × Bytes) := []
  shares : List (Nat × Bytes) := []
  shareRecords : List (Bytes × Nat × Bytes) := []
  written : List Bytes := []
  upload : Bytes := []
  result : Bytes := []
  committed : Bool := false
  backupCsn : Nat := 0
  lost : List LostWrite := []
deriving DecidableEq, Repr

/-- The token controller and the custodians' side (13). -/
structure Custody where
  slot0 : Slot := {}
  slot1 : Slot := {}
  ceremony : Option Ceremony := none
  nextId : Nat := 1
  /-- the last completed ceremony whose result can still be read (R405) -/
  last : Option Ceremony := none
deriving DecidableEq, Repr

/-! ### The platform root of trust (15) -/

/-- Phase of a filter channel (R438, R457). -/
inductive Phase where
  | boot | serve | run | disabled
deriving DecidableEq, Repr

/-- The recovery set (R445): 0 none, 1 valid, 2 an upload open, of channel `channel`; stated lengths and images by channel. -/
structure RecoverySet where
  state : Nat := 0
  channel : Nat := 0
  lens : List (Nat × Nat) := []
  images : List (Nat × Bytes) := []
deriving DecidableEq, Repr

/-- Configuration group 0x08 as the platform start took it (R434): modes 0 disabled, 1, 2, 4 lines; an owner digest of no
bytes for none. -/
structure PlatConfig where
  enable : Bool := false
  mode0 : Nat := 0
  mode1 : Nat := 0
  addr : Nat := 0
  owner : Bytes := []
  serveNs : Nat := 10 ^ 10
  waitNs : Nat := 5 * 10 ^ 8
deriving DecidableEq, Repr

/-- The building of a bottom tree of the device identity (R451, log 132): its number, the subtrees of 1,024 leaves that no job has been
submitted for, and the security controller's LNE jobs for the others, two at most. -/
structure TreeBuild where
  tree : Nat
  left : Nat := 1024
  jobs : List Nat := []
deriving DecidableEq, Repr

/-- The platform block (15): outputs, phase, attempt, what is measured, recovery. `results` per region: 0 not yet, 1
match, 2 mismatch, 3 unmeasured; `four` the 4-byte addressing mode per channel; `risen` that PLT_PWR_GOOD has risen since
PLT_PWR_EN rose; `measuring` that the sequence of R438 is under way, `alone` that it hashes without serving;
`restartOff` that a PLATFORM_RESTART holds PLT_PWR_EN low; `outAt` when PLT_PWR_EN last changed, `goodAt` t0 of R438. -/
structure Platform where
  pwrEn : Bool := false
  pwrGood : Bool := false
  rst : BitVec 8 := 0
  outEn : BitVec 4 := 0
  phase : Phase := .boot
  cfg : PlatConfig := {}
  attempt : Nat := 0
  failures : Nat := 0
  held : Bool := false
  heldReason : Nat := 0
  recovering : Bool := false
  measuring : Bool := false
  alone : Bool := false
  risen : Bool := false
  manifest : Option Manifest := none
  results : List (Nat × Nat) := []
  flash : List (Nat × FlashObs) := []
  four : List (Nat × Bool) := []
  lastStatus : Nat := 0
  set : RecoverySet := {}
  restartOff : Bool := false
  outAt : Nat := 0
  goodAt : Nat := 0
  /-- the device identity (R449 to R452): next index, end of the reserved block, next tree built, node caches valid, the 1,024-leaf
  subtree that is built, the next tree while it is built -/
  index : Nat := 0
  indexEnd : Nat := 0
  treeNext : Bool := false
  cacheOk : Bool := true
  subtree : Option Nat := none
  build : Option TreeBuild := none
deriving DecidableEq, Repr

/-! ### Guestbook, taps, dumps (17) -/

/-- An item in a tap FIFO (R481): an event or a sample, its words, whether it was truncated. -/
structure TapItem where
  sample : Bool := false
  code : Nat
  mono : Nat
  args : List Nat := []
  value : Nat := 0
  words : Nat
  truncated : Bool := false
deriving DecidableEq, Repr

/-- A tap FIFO (R480 to R487). `lastBits` and `lastValid` are what the last read of it returned (R483), `staging` the item in the
staging register of its producers whose words are not all written (R482, log 133). -/
structure TapFifo where
  items : List TapItem := []
  staging : Option TapItem := none
  lost : Nat := 0
  ecc : Nat := 0
  uncorrectable : Bool := false
  truncSeen : Bool := false
  underrun : Bool := false
  flush : Bool := false
  windowLost : Nat := 0
  lastBits : Bytes := []
  lastValid : Nat := 0
deriving DecidableEq, Repr

/-- A metric's window figures (R491): 32 buckets by index, extremes with their times. -/
structure Metric where
  buckets : List (Nat × Nat) := []
  min : Nat := 2 ^ 64 - 1
  minMono : Nat := 0
  max : Nat := 0
  maxMono : Nat := 0
deriving DecidableEq, Repr

/-- The open window (R490 to R493). -/
structure Window where
  start : Nat := 0
  counts : List (Nat × Nat) := []
  suppressed : List (Nat × Nat) := []
  metrics : List (Nat × Metric) := []
  satCount : List Nat := []
  satSuppressed : List Nat := []
  satHist : List Nat := []
  saturated : Bool := false
  epochChanged : Bool := false
deriving DecidableEq, Repr

/-- A written window record (R494), by its sequence number, with the figures it was written from. -/
structure WindowRecord where
  seq : Nat
  slot : Nat
  partial0 : Bool
  wallUnknown : Bool
  wallEpoch : Nat
  wallNs : Nat
  endMono : Nat
  dropped : Nat
  tapLost : List (Nat × Nat)
  window : Window
deriving DecidableEq, Repr

/-- A fatal latch (R499): a source's first unread fatal item and REPEAT, the count of later ones. -/
structure FatalLatch where
  code : Nat
  mono : Nat
  args : List Nat := []
  again : Nat := 0
deriving DecidableEq, Repr

/-- A dump slot of R503: state 0 empty, 1 complete, 2 released. -/
structure DumpSlot where
  state : Nat := 0
  seq : Nat := 0
  stream : Bytes := []
deriving DecidableEq, Repr

/-- The Guestbook with its area, the wall clock, the fatal latches and dumps (R480 to R509). Window boundaries fall every
`windowS` seconds from `windowBase`, the boundary at which that length took effect (R493; log 82). `headerSeq` counts the clears: the last
one stands in line `headerSeq` mod 64 of the area header (R495). `reading` are the items of the last read of a FIFO that are still to be
worked through, with its number (R483, R490). -/
structure Guest where
  fifos : List (Nat × TapFifo) := []
  reading : List (Nat × TapItem) := []
  rotate : Nat := 0
  window : Window := {}
  buckets : List (Nat × Nat) := []
  latches : List (Nat × FatalLatch) := []
  records : List WindowRecord := []
  nextSeq : Nat := 0
  writeSlot : Nat := 0
  cleared : Nat := 0
  headerSeq : Nat := 0
  dropped : Nat := 0
  full : Bool := false
  windowS : Nat := 60
  windowBase : Nat := 0
  wallKnown : Bool := false
  wallOffset : Int := 0
  wallEpoch : Nat := 0
  lastSet : Option Nat := none
  fatal : DumpSlot := {}
  diverged : DumpSlot := {}
  summary : Bytes := []
  dumpSeq : Nat := 0
  fatalTimes : List Nat := []
  inFatal : Option Nat := none
  dumpSkipped : Bool := false
  fatalCause : Option Nat := none
deriving DecidableEq, Repr

/-! ### Service port and SMBus (18, 19) -/

/-- An entry taken from a ring and not completed: its number, SQ index, RESP_ADDR, RESP_MAX and REQUEST_ID (R521). -/
structure RingSlot where
  key : Nat
  index : Nat
  addr : Nat
  max : Nat
  reqId : Nat
deriving DecidableEq, Repr

/-- A ring (R519 to R524). `slots` are the entries taken and not completed; `ready` the responses, by number, whose completion is still to be written; `unsignalled` the completions written since
the last interrupt message, `firstUnsignalled` the time of the first. -/
structure Ring where
  sqBase : Nat := 0
  sqSize : Nat := 0
  sqTail : Nat := 0
  sqHead : Nat := 0
  cqBase : Nat := 0
  cqSize : Nat := 0
  cqHead : Nat := 0
  cqTail : Nat := 0
  vector : Nat := 0
  enable : Bool := false
  error : Nat := 0
  timeUs : Nat := 0
  count : Nat := 1
  phase : Bool := true
  slots : List RingSlot := []
  ready : List (Nat × Response) := []
  unsignalled : Nat := 0
  firstUnsignalled : Nat := 0
deriving DecidableEq, Repr

/-- The service port (18): link, interrupt registers, rings, 64-bit read latch, dump select, wayside registers. `gen`
counts the submission entries taken, which numbers them. -/
structure Svc where
  linkUp : Bool := false
  intStatus : BitVec 6 := 0
  intEnable : BitVec 6 := 0
  armed : Bool := true
  rings : Vector Ring 8 := Vector.replicate 8 {}
  gen : Nat := 0
  latch : Nat := 0
  dumpSelect : Nat := 0
  wayOp : Nat := 0
  waySlot : Nat := 0
  wayArg : Nat := 0
  wayState : Nat := 0
  wayResult : Nat := 0
  wayAddr : Nat := 0
  wayLen : Nat := 0
  wayToken : Vector Nat 4 := Vector.replicate 4 0
  msix : List (Nat × Nat) := []
deriving DecidableEq, Repr

/-- The SMBus target (19 R541 to R544): SVC_SMB_ALERT, THERMAL_WARN, and whether the pin SMB_ADDR is open. -/
structure Smb where
  alert : BitVec 3 := 0
  thermalWarn : Bool := false
  addrOpen : Bool := false
deriving DecidableEq, Repr

/-! ### What the block drives (log 10) -/

/-- What the block has driven on its wires: Caravan frames with header, plain body and the bytes of their Ethernet frame,
other packets as such bytes, mirror and lantern frames, messages of the link handshake, ring writes, interrupts, token commands with their frame on CMD and what
the data lines carry, answers to register and SMBus
reads, flash answers. -/
inductive Output where
  | frame (port : Nat) (dst : Source) (hdr : CaravanHdr) (body wire : Bytes)
  | arpReply (port : Nat) (dst : Source) (wire : Bytes)
  | icmpReply (port : Nat) (dst : Source) (data wire : Bytes)
  | completion (ring index respBytes status : Nat) (phase truncated : Bool) (addr : Nat) (written : Bytes)
  | msix (vector : Nat)
  | mirror (type state epoch seq claim mark confirmed : Nat) (body : Bytes) (recs : List Record) (wire : Bytes)
  | mirrorHandshake (body : Bytes)
  | lantern (type state epoch seq claim : Nat) (wire : Bytes)
  | token (slot index arg : Nat) (data : Bytes) (frame : Nat) (lines : List (List Bool))
  | tokenPower (slot : Nat) (on : Bool)
  | register (off value : Nat)
  | smb (data : Bytes)
  | flash (channel : Nat) (passed : Bool) (ones : List Nat)
  | flashWrite (channel unit : Nat) (data : Bytes)
deriving DecidableEq, Repr

/-- The state of the block. -/
structure State where
  pending : List Instr
  freeCtr : Nat
  outputs : List Output
  variant : Variant
  mono : Nat
  cycle : Nat
  lifecycle : Lifecycle
  /-- the transaction cores that run an invocation, and the SC's Ghedo core from its first instruction on -/
  cores : List (CoreId × Core)
  clusters : List (Nat × Cluster)
  expanders : List (Nat × Expander)
  durable : Durable
  store : KeyStore
  seq : Sequencer
  raised : List (Nat × Event)
  samples : List (Nat × TapItem)
  microcode : List MicroProgram
  lneJobs : List LneJob
  lnes : List (Nat × Lne)
  laneJobs : List LaneJob
  lanes : List (Nat × Lane)
  bulk : List (Nat × Bytes)
  nextHandle : Nat
  sysRegs : List (Nat × Word)
  disp : Dispatcher
  egress : List Response
  sc : Sc
  rng : Rng
  net : Net
  pair : Pair
  custody : Custody
  porter : Porter
  plat : Platform
  guest : Guest
  svc : Svc
  smb : Smb
deriving DecidableEq, Repr

/-- The block at AON power-on, before its first COLD_START (log 3): every field at the value the spec gives for reset,
else at the value its structure names. -/
def State.reset : State :=
  { pending := [], freeCtr := 0, outputs := [], variant := .ym4096, mono := 0, cycle := 0, lifecycle := .blank,
    cores := [], clusters := [], expanders := [], durable := {}, store := {}, seq := {}, raised := [], samples := [],
    microcode := [], lneJobs := [], lnes := [], laneJobs := [], lanes := [], bulk := [], nextHandle := 1,
    sysRegs := [], disp := {}, egress := [], sc := {}, rng := {}, net := {}, pair := {}, custody := {},
    porter := {}, plat := {}, guest := {}, svc := {}, smb := {} }

end Sys2Proof.Machine
end

