-- ==== Sys2Proof/Status.lean ====
section
/-! DEFINITION. The status codes of classes 0x01 to 0x0E, from the table each class has in its chapter (R16, R17). -/

namespace Sys2Proof.St

/-- OK, the only code of class 0x00 (R17). -/
abbrev ok : Status := 0
abbrev malformedRequest : Status := 0x0101
abbrev messageTooLarge : Status := 0x0102
abbrev requestIdStale : Status := 0x0103
abbrev sessionBacklog : Status := 0x0104
abbrev reassemblyTimeout : Status := 0x0105
abbrev versionUnsupported : Status := 0x0106
abbrev credentialInvalid : Status := 0x0107
abbrev sessionLimit : Status := 0x0108
abbrev sessionExhausted : Status := 0x0109
abbrev sessionIdle : Status := 0x010A
abbrev sessionClosed : Status := 0x010B
abbrev messageAbandoned : Status := 0x010C
abbrev handshakeTimeout : Status := 0x010D
abbrev frameUnauthenticated : Status := 0x010E
abbrev frameReplayed : Status := 0x010F
abbrev packetDropped : Status := 0x0110
abbrev handshakeRateLimited : Status := 0x0111
abbrev cookieMode : Status := 0x0112
abbrev linkDown : Status := 0x0113
abbrev linkUp : Status := 0x0114
abbrev responseOrphaned : Status := 0x0115
abbrev frameMalformed : Status := 0x0116
abbrev netConfigInvalid : Status := 0x0117
abbrev queueFull : Status := 0x0201
abbrev queueUndefined : Status := 0x0202
abbrev partitionHalted : Status := 0x0203
abbrev cancelled : Status := 0x0204
abbrev partitionOutOfRange : Status := 0x0205
abbrev partitionNotDefined : Status := 0x0206
abbrev partitionProtected : Status := 0x0207
abbrev queueConfigInvalid : Status := 0x0208
abbrev burstReservationExceeded : Status := 0x0209
abbrev partitionFault : Status := 0x020A
abbrev partitionReset : Status := 0x020B
abbrev queueFlushed : Status := 0x020C
abbrev spillPoolExhausted : Status := 0x020D
abbrev sessionNotFound : Status := 0x020E
abbrev illegalInstruction : Status := 0x0301
abbrev windowViolation : Status := 0x0302
abbrev alignmentFault : Status := 0x0303
abbrev sealViolation : Status := 0x0304
abbrev budgetExceeded : Status := 0x0305
abbrev returnStackFault : Status := 0x0306
abbrev keyHandleEmpty : Status := 0x0307
abbrev jobHandleInvalid : Status := 0x0308
abbrev jobLimit : Status := 0x0309
abbrev stageLimit : Status := 0x030A
abbrev stageAfterCommit : Status := 0x030B
abbrev compareLimit : Status := 0x030C
abbrev statusInvalid : Status := 0x030D
abbrev outLengthInvalid : Status := 0x030E
abbrev programNotLoaded : Status := 0x030F
abbrev programImageInvalid : Status := 0x0310
abbrev programSpaceExhausted : Status := 0x0311
abbrev faultAfterCommit : Status := 0x0312
abbrev keyMalformed : Status := 0x0401
abbrev keyNotFound : Status := 0x0402
abbrev keyInvalidated : Status := 0x0403
abbrev keyAncestorInvalid : Status := 0x0404
abbrev keyPartitionDenied : Status := 0x0405
abbrev keyWorldDenied : Status := 0x0406
abbrev keyLifecycleDenied : Status := 0x0407
abbrev keyExpired : Status := 0x0408
abbrev keyUsageDenied : Status := 0x0409
abbrev keyTypeMismatch : Status := 0x040A
abbrev keyUsageConflict : Status := 0x040B
abbrev keyTemplateDenied : Status := 0x040C
abbrev keyRefOccupied : Status := 0x040D
abbrev keyNeedsCeremony : Status := 0x040E
abbrev keyEphemeral : Status := 0x040F
abbrev keyBlockInvalid : Status := 0x0410
abbrev keyBlockUnsupported : Status := 0x0411
abbrev keyWrapTooWeak : Status := 0x0412
abbrev keyStoreFull : Status := 0x0413
abbrev backupInvalid : Status := 0x0414
abbrev restoreConflict : Status := 0x0415
abbrev trunkGenerated : Status := 0x0416
abbrev keyDatabaseDiscarded : Status := 0x0417
abbrev keyCheckpointWritten : Status := 0x0418
abbrev keyRestored : Status := 0x0419
abbrev retireTableFull : Status := 0x041A
abbrev keyConfigInvalid : Status := 0x041B
abbrev laneDescriptorInvalid : Status := 0x0501
abbrev messageLengthInvalid : Status := 0x0502
abbrev tagMismatch : Status := 0x0503
abbrev integrityCheckFailed : Status := 0x0504
abbrev nonceExhausted : Status := 0x0505
abbrev laneJobAborted : Status := 0x0506
abbrev maskReseedStall : Status := 0x0507
abbrev ivReservationWait : Status := 0x0508
abbrev ivReservationUnavailable : Status := 0x0509
abbrev cipherConfigInvalid : Status := 0x050A
abbrev lneDescriptorInvalid : Status := 0x0601
abbrev invalidSignature : Status := 0x0602
abbrev pointNotOnCurve : Status := 0x0603
abbrev operandRange : Status := 0x0604
abbrev operandInvalid : Status := 0x0605
abbrev oaepDecodingFailed : Status := 0x0606
abbrev aborted : Status := 0x0607
abbrev lneFaultDetected : Status := 0x0608
abbrev microcodeNotPermitted : Status := 0x0609
abbrev retryLimit : Status := 0x060A
abbrev microcodeImageInvalid : Status := 0x060B
abbrev lneConfigInvalid : Status := 0x060C
abbrev rngStarved : Status := 0x0701
abbrev rngHealthFailure : Status := 0x0702
abbrev rngSourceLatched : Status := 0x0703
abbrev rngSourceRejoined : Status := 0x0704
abbrev rngSeedingStopped : Status := 0x0705
abbrev rngSeedingResumed : Status := 0x0706
abbrev rngDrbgStretched : Status := 0x0707
abbrev rngDrbgBlocked : Status := 0x0708
abbrev rngStartupFailed : Status := 0x0709
abbrev rngConfigInvalid : Status := 0x070A
abbrev rngSourceEnabled : Status := 0x070B
abbrev rngTapRefused : Status := 0x070C
abbrev commitItemInvalid : Status := 0x0801
abbrev itemNotPermitted : Status := 0x0802
abbrev stageItemDuplicate : Status := 0x0803
abbrev commitOrderConflict : Status := 0x0804
abbrev commitBacklog : Status := 0x0805
abbrev stageNotFound : Status := 0x0806
abbrev stageTooLarge : Status := 0x0807
abbrev stageNotValidated : Status := 0x0808
abbrev commitThrottled : Status := 0x0809
abbrev journalFullWait : Status := 0x080A
abbrev journalReplayed : Status := 0x080B
abbrev journalTailDiscarded : Status := 0x080C
abbrev journalUnreadable : Status := 0x080D
abbrev stageDiscarded : Status := 0x080E
abbrev stageApplied : Status := 0x080F
abbrev mirrorUnavailable : Status := 0x0901
abbrev pairFenced : Status := 0x0902
abbrev pairStandby : Status := 0x0903
abbrev pairPathDegraded : Status := 0x0904
abbrev pairPathRestored : Status := 0x0905
abbrev partnerFailed : Status := 0x0906
abbrev pairTakeover : Status := 0x0907
abbrev pairIsolated : Status := 0x0908
abbrev pairSoloEntered : Status := 0x0909
abbrev pairResyncStarted : Status := 0x090A
abbrev pairResyncComplete : Status := 0x090B
abbrev pairResyncRestarted : Status := 0x090C
abbrev pairJoinRefused : Status := 0x090D
abbrev pairDiverged : Status := 0x090E
abbrev pairConfigInvalid : Status := 0x090F
abbrev pairLinkRefused : Status := 0x0910
abbrev pairWaiting : Status := 0x0911
abbrev partnerTampered : Status := 0x0912
abbrev ceremonyMalformed : Status := 0x0A01
abbrev quorumNotMet : Status := 0x0A02
abbrev ceremonyTimeout : Status := 0x0A03
abbrev custodianNotEnrolled : Status := 0x0A04
abbrev tokenAuthFailed : Status := 0x0A05
abbrev tokenPasswordRejected : Status := 0x0A06
abbrev tokenLockedOut : Status := 0x0A07
abbrev tokenAlreadyCounted : Status := 0x0A08
abbrev tokenNoResponse : Status := 0x0A09
abbrev tokenCrcError : Status := 0x0A0A
abbrev tokenModeFallback : Status := 0x0A0B
abbrev tokenWriteIncomplete : Status := 0x0A0C
abbrev tokenBlockConflict : Status := 0x0A0D
abbrev tokenFull : Status := 0x0A0E
abbrev tokenRemoved : Status := 0x0A0F
abbrev tokenInserted : Status := 0x0A10
abbrev tokenOvercurrent : Status := 0x0A11
abbrev ceremonyBusy : Status := 0x0A12
abbrev rosterInvalid : Status := 0x0A13
abbrev ceremonyCompleted : Status := 0x0A14
abbrev ceremonyAbandoned : Status := 0x0A15
abbrev componentCheckFailed : Status := 0x0A16
abbrev tokenNotPresent : Status := 0x0A17
abbrev bootMalformed : Status := 0x0B01
abbrev imageInvalid : Status := 0x0B02
abbrev bootSlotFailed : Status := 0x0B03
abbrev bootSlotAmbiguous : Status := 0x0B04
abbrev waysideEntered : Status := 0x0B05
abbrev firmwareUploadBusy : Status := 0x0B06
abbrev firmwareAmbiguous : Status := 0x0B07
abbrev firmwareSlotInvalid : Status := 0x0B08
abbrev revokeWouldStrand : Status := 0x0B09
abbrev revokeLastKey : Status := 0x0B0A
abbrev rootKeyRevoked : Status := 0x0B0B
abbrev lcTokenInvalid : Status := 0x0B0C
abbrev lcTransitionInvalid : Status := 0x0B0D
abbrev lcRosterMissing : Status := 0x0B0E
abbrev lcTransitionStarted : Status := 0x0B0F
abbrev lcTransitionResumed : Status := 0x0B10
abbrev lcTransitionCompleted : Status := 0x0B11
abbrev otpGroupRepaired : Status := 0x0B12
abbrev debugCertInvalid : Status := 0x0B13
abbrev debugChallengeExpired : Status := 0x0B14
abbrev debugGranted : Status := 0x0B15
abbrev debugEnded : Status := 0x0B16
abbrev wakeDigestMismatch : Status := 0x0B17
abbrev moduleStarted : Status := 0x0B18
abbrev lcStateDenied : Status := 0x0B19
abbrev platformMalformed : Status := 0x0C01
abbrev manifestInvalid : Status := 0x0C02
abbrev regionMismatch : Status := 0x0C03
abbrev platformReleasedEarly : Status := 0x0C04
abbrev platformVerified : Status := 0x0C05
abbrev platformRecoveryStarted : Status := 0x0C06
abbrev platformRecoveryFailed : Status := 0x0C07
abbrev platformHeld : Status := 0x0C08
abbrev platformNoRecovery : Status := 0x0C09
abbrev flashCommandBlocked : Status := 0x0C0A
abbrev serveTimeout : Status := 0x0C0B
abbrev recoverySetInvalid : Status := 0x0C0C
abbrev platformBusy : Status := 0x0C0D
abbrev waybillUnavailable : Status := 0x0C0E
abbrev identityExhausted : Status := 0x0C0F
abbrev flashUnsupported : Status := 0x0C10
abbrev identityCacheRebuilt : Status := 0x0C11
abbrev platformPowerLost : Status := 0x0C12
abbrev powerMalformed : Status := 0x0D01
abbrev tamperDetected : Status := 0x0D02
abbrev tamperUnacknowledged : Status := 0x0D03
abbrev tamperAcknowledged : Status := 0x0D04
abbrev tamperAckMismatch : Status := 0x0D05
abbrev powerStateEntered : Status := 0x0D06
abbrev powerStateRefused : Status := 0x0D07
abbrev powerWake : Status := 0x0D08
abbrev mainPowerLost : Status := 0x0D09
abbrev vbatAbsent : Status := 0x0D0A
abbrev diagMalformed : Status := 0x0E01
abbrev tapItemsLost : Status := 0x0E02
abbrev tapItemTruncated : Status := 0x0E03
abbrev tapEccUncorrectable : Status := 0x0E04
abbrev guestbookFull : Status := 0x0E05
abbrev guestbookCleared : Status := 0x0E06
abbrev countSaturated : Status := 0x0E07
abbrev wallEpochStarted : Status := 0x0E08
abbrev fatalError : Status := 0x0E09
abbrev dumpWritten : Status := 0x0E0A
abbrev dumpNotAvailable : Status := 0x0E0B
abbrev fatalLoopHalted : Status := 0x0E0C
abbrev clockSetTooSoon : Status := 0x0E0D
abbrev dumpSkipped : Status := 0x0E0E

/-- The highest detail byte listed in the table of a class; details run from 0x01 without a gap (R16, R17). -/
def lastDetail : Nat → Nat
  | 1 => 0x17
  | 2 => 0x0E
  | 3 => 0x12
  | 4 => 0x1B
  | 5 => 0x0A
  | 6 => 0x0C
  | 7 => 0x0C
  | 8 => 0x0F
  | 9 => 0x12
  | 10 => 0x17
  | 11 => 0x19
  | 12 => 0x12
  | 13 => 0x0A
  | 14 => 0x0E
  | _ => 0

/-- Listed in the status table of its class, classes 0x00 and 0x03 apart (R118). -/
def failValid (code : Nat) : Bool :=
  decide (code ≤ 0xFFFF) && code / 256 != 0 && code / 256 != 3 && code / 256 ≤ 14 && code % 256 != 0 &&
    decide (code % 256 ≤ lastDetail (code / 256))

end Sys2Proof.St
end

