-- ==== Sys2Proof/Machine/Data.lean ====
section
/-! DEFINITION. Byte strings, numbers, association lists, windows memory and bit fields: the helpers every meaning uses. -/

namespace Sys2Proof.Machine

/-! ### Association lists -/

/-- The value at a key. -/
def getK {α β : Type} [DecidableEq α] (k : α) : List (α × β) → Option β
  | [] => none
  | (k', v) :: l => if k = k' then some v else getK k l

/-- The list without a key. -/
def delK {α β : Type} [DecidableEq α] (k : α) : List (α × β) → List (α × β)
  | [] => []
  | (k', v) :: l => if k = k' then delK k l else (k', v) :: delK k l

/-- The list with a value put at a key: in place where the key stands, else at the end. -/
def setK {α β : Type} [DecidableEq α] (k : α) (v : β) : List (α × β) → List (α × β)
  | [] => [(k, v)]
  | (k', v') :: l => if k = k' then (k, v) :: l else (k', v') :: setK k v l

/-- The value at a key, or a default. -/
def getD {α β : Type} [DecidableEq α] (k : α) (d : β) (l : List (α × β)) : β := (getK k l).getD d

/-- A pair put in before the first of a higher number. -/
def insertByKey {β : Type} (e : Nat × β) : List (Nat × β) → List (Nat × β)
  | [] => [e]
  | x :: l => if e.1 ≤ x.1 then e :: x :: l else x :: insertByKey e l
/-- A list in rising order of its numbers. -/
def sortByKey {β : Type} (l : List (Nat × β)) : List (Nat × β) := l.foldl (fun a e => insertByKey e a) []

/-! ### Numbers and bytes (R12) -/

/-- Little-endian bytes of a number, `n` of them. -/
def leBytes : (n : Nat) → (v : Nat) → Bytes
  | 0, _ => []
  | n + 1, v => BitVec.ofNat 8 v :: leBytes n (v / 256)

/-- The number a little-endian byte string spells. -/
def leNat : Bytes → Nat
  | [] => 0
  | b :: l => b.toNat + 256 * leNat l

/-- Big-endian bytes of a number, `n` of them. -/
def beBytes (n v : Nat) : Bytes := (leBytes n v).reverse

/-- The number a big-endian byte string spells. -/
def beNat (l : Bytes) : Nat := leNat l.reverse

/-- Exactly `n` bytes: cut, or filled with zeros. -/
def fit (n : Nat) (l : Bytes) : Bytes := (l ++ List.replicate n 0).take n

/-- `n` bytes from offset `o`, zeros beyond the end. -/
def slice (l : Bytes) (o n : Nat) : Bytes := fit n (l.drop o)

/-- The little-endian number in `n` bytes at offset `o`. -/
def leAt (l : Bytes) (o n : Nat) : Nat := leNat (slice l o n)

/-- Bytewise exclusive or, as long as the first. -/
def xorBytes : Bytes → Bytes → Bytes
  | [], _ => []
  | a :: l, [] => a :: xorBytes l []
  | a :: l, b :: m => (a ^^^ b) :: xorBytes l m

/-- All bytes zero. -/
def allZero (l : Bytes) : Bool := l.all (· == 0)

/-- The bytes of an ASCII string. -/
def ascii (s : String) : Bytes := s.toList.map fun c => BitVec.ofNat 8 c.toNat

/-- The 16 bytes of a block, byte 0 first (R165). -/
def blockBytes (b : Block) : Bytes := leBytes 16 b.toNat

/-- The block of 16 bytes. -/
def bytesBlock (l : Bytes) : Block := BitVec.ofNat 128 (leNat (l.take 16))

/-- Bits `hi` to `lo` of a number (R11). -/
def bits (v hi lo : Nat) : Nat := v / 2 ^ lo % 2 ^ (hi - lo + 1)

/-- One bit of a number. -/
def bit (v i : Nat) : Bool := v / 2 ^ i % 2 == 1

/-- A Boolean as a number. -/
def b2n (b : Bool) : Nat := if b then 1 else 0

/-- Division rounded up. -/
def cdiv (a b : Nat) : Nat := (a + (b - 1)) / b

/-! ### Window memory -/

/-- The byte at an address; 0 where nothing is listed (R121). -/
def readByte (a : Nat) : Memory → Byte
  | [] => 0
  | (x, v) :: l => if x = a then v else readByte a l

/-- The memory with a byte stored at an address, in canonical form. -/
def writeByte (a : Nat) (v : Byte) : Memory → Memory
  | [] => if v = 0 then [] else [(a, v)]
  | (x, w) :: l =>
    if a < x then (if v = 0 then (x, w) :: l else (a, v) :: (x, w) :: l)
    else if a = x then (if v = 0 then l else (a, v) :: l)
    else (x, w) :: writeByte a v l

/-- The canonical form: addresses strictly rising, no byte 0 listed. -/
def memWf : Memory → Bool
  | [] => true
  | [(_, v)] => v != 0
  | (x, v) :: (y, w) :: l => decide (x < y) && v != 0 && memWf ((y, w) :: l)

/-- `n` bytes from an address on. -/
def readBytes (m : Memory) (a : Nat) : Nat → Bytes
  | 0 => []
  | n + 1 => readByte a m :: readBytes m (a + 1) n

/-- The memory with a byte string stored from an address on. -/
def writeBytes (m : Memory) (a : Nat) : Bytes → Memory
  | [] => m
  | v :: l => writeBytes (writeByte a v m) (a + 1) l

end Sys2Proof.Machine
end

