-- ==== Sys2Proof/Machine/Curves.lean ====
section
/-! DEFINITION. What the edge inputs of R301 test in public values: the curves and groups that 06 R217 names, with the
constants of their standards (PRESUMED, log 17), and the parameter sets of HSS (09 R294). -/

namespace Sys2Proof.Machine

/-! ### Modular exponentiation -/

/-- Square and multiply over the exponent's bits, most significant first. -/
def modExpLoop (b m : Nat) : List Bool → Nat → Nat
  | [], a => a
  | e :: es, a => modExpLoop b m es (if e then a * a % m * b % m else a * a % m)
def bitsOf (l : Bytes) : List Bool := l.flatMap fun x => (List.range 8).map fun i => x.toNat.testBit (7 - i)
def modExp (b m : Nat) (e : Bytes) : Nat := modExpLoop (b % m) m (bitsOf e) (1 % m)
/-- The same with a number of up to `n` bytes as exponent. -/
def modPow (b m n e : Nat) : Nat := modExp b m (beBytes n e)

/-! ### Elliptic curves y² = x³ + ax + b (R294, R301) -/

/-- Field prime, coefficients, group order, bytes of a coordinate and of the order. -/
structure Curve where
  p : Nat
  a : Nat
  b : Nat
  n : Nat
  len : Nat
deriving DecidableEq, Repr

def curveP256 : Curve :=
  { p := 0xffffffff00000001000000000000000000000000ffffffffffffffffffffffff
    a := 0xffffffff00000001000000000000000000000000fffffffffffffffffffffffc
    b := 0x5ac635d8aa3a93e7b3ebbd55769886bc651d06b0cc53b0f63bce3c3e27d2604b
    n := 0xffffffff00000000ffffffffffffffffbce6faada7179e84f3b9cac2fc632551, len := 32 }
def curveP384 : Curve :=
  { p := 0xfffffffffffffffffffffffffffffffffffffffffffffffffffffffffffffffeffffffff0000000000000000ffffffff
    a := 0xfffffffffffffffffffffffffffffffffffffffffffffffffffffffffffffffeffffffff0000000000000000fffffffc
    b := 0xb3312fa7e23ee7e4988e056be3f82d19181d9c6efe8141120314088f5013875ac656398d8a2ed19d2a85c8edd3ec2aef
    n := 0xffffffffffffffffffffffffffffffffffffffffffffffffc7634d81f4372ddf581a0db248b0a77aecec196accc52973
    len := 48 }
def curveP521 : Curve :=
  { p := 2 ^ 521 - 1
    a := 2 ^ 521 - 4
    b := 0x51953eb9618e1c9a1f929a21a0b68540eea2da725b99b315f3b8b489918ef109e156193951ec7e937b1652c0bd3bb1bf073573df883d2c34f1ef451fd46b503f00
    n := 0x1fffffffffffffffffffffffffffffffffffffffffffffffffffffffffffffffffa51868783bf2f966b7fcc0148f709a5d03bb5c9b8899c47aebb6fb71e91386409
    len := 66 }
def curveBp256 : Curve :=
  { p := 0xa9fb57dba1eea9bc3e660a909d838d726e3bf623d52620282013481d1f6e5377
    a := 0x7d5a0975fc2c3057eef67530417affe7fb8055c126dc5c6ce94a4b44f330b5d9
    b := 0x26dc5c6ce94a4b44f330b5d9bbd77cbf958416295cf7e1ce6bccdc18ff8c07b6
    n := 0xa9fb57dba1eea9bc3e660a909d838d718c397aa3b561a6f7901e0e82974856a7, len := 32 }
def curveBp384 : Curve :=
  { p := 0x8cb91e82a3386d280f5d6f7e50e641df152f7109ed5456b412b1da197fb71123acd3a729901d1a71874700133107ec53
    a := 0x7bc382c63d8c150c3c72080ace05afa0c2bea28e4fb22787139165efba91f90f8aa5814a503ad4eb04a8c7dd22ce2826
    b := 0x04a8c7dd22ce28268b39b55416f0447c2fb77de107dcd2a62e880ea53eeb62d57cb4390295dbc9943ab78696fa504c11
    n := 0x8cb91e82a3386d280f5d6f7e50e641df152f7109ed5456b31f166e6cac0425a7cf3ab6af6b7fc3103b883202e9046565
    len := 48 }
/-- The curve of an ECDSA or ECDH ALG value. -/
def curveOf (alg : Nat) : Option Curve :=
  match alg with
  | 0x03 => some curveP256 | 0x12 => some curveP256
  | 0x04 => some curveP384 | 0x13 => some curveP384
  | 0x05 => some curveP521 | 0x14 => some curveP521
  | 0x06 => some curveBp256 | 0x15 => some curveBp256
  | 0x07 => some curveBp384 | 0x16 => some curveBp384
  | _ => none
/-- An uncompressed point in SEC 1 form on the curve: prefix 0x04, coordinates below p, the equation. -/
def Curve.pointOk (c : Curve) (l : Bytes) : Bool :=
  let x := beNat (slice l 1 c.len)
  let y := beNat (slice l (1 + c.len) c.len)
  (l.getD 0 0).toNat == 4 && decide (x < c.p) && decide (y < c.p) &&
  y * y % c.p == ((x * x + c.a) * x + c.b) % c.p
/-- r or s of an ECDSA signature is zero or not below the order. -/
def Curve.rsBad (c : Curve) (sig : Bytes) : Bool :=
  let r := beNat (slice sig 0 c.len)
  let s := beNat (slice sig c.len c.len)
  r == 0 || s == 0 || decide (c.n ≤ r) || decide (c.n ≤ s)

/-! ### Edwards curves (RFC 8032) -/

/-- Whether u / v is a square modulo a prime of `n` bytes, v not zero. -/
def isSquareRatio (p n u v : Nat) : Bool := decide (modPow (u * v) p n ((p - 1) / 2) ≤ 1)
def prime25519 : Nat := 2 ^ 255 - 19
def order25519 : Nat := 2 ^ 252 + 27742317777372353535851937790883648493
def prime448 : Nat := 2 ^ 448 - 2 ^ 224 - 1
def order448 : Nat := 2 ^ 446 - 13818066809895115352007386748515426880336692474882178609894547503885
/-- A 32-byte string decodes to a point of edwards25519. -/
def ed25519PointOk (l : Bytes) : Bool :=
  let v := leNat (l.take 32)
  let y := v % 2 ^ 255
  let p := prime25519
  decide (y < p) && !(v / 2 ^ 255 == 1 && y * y % p == 1) &&
  isSquareRatio p 32 (121666 * ((y * y + p - 1) % p)) ((121666 + p * 121665 - 121665 * (y * y % p)) % p)
/-- A 57-byte string decodes to a point of edwards448. -/
def ed448PointOk (l : Bytes) : Bool :=
  let y := leNat (l.take 56)
  let b := (l.getD 56 0).toNat
  let p := prime448
  decide (y < p) && b % 128 == 0 && !(b == 128 && y * y % p == 1) &&
  isSquareRatio p 56 ((p + 1 - y * y % p) % p) ((1 + 39081 * (y * y)) % p)
/-- A public key of ALG 0x08 or 0x09, or the R of its signature, decodes. -/
def edPointOk (alg : Nat) (l : Bytes) : Bool := if alg = 8 then ed25519PointOk l else ed448PointOk l
/-- The S of a signature of ALG 0x08 or 0x09 is below the group order. -/
def edScalarOk (alg : Nat) (sig : Bytes) : Bool :=
  if alg = 8 then decide (leNat (slice sig 32 32) < order25519) else decide (leNat (slice sig 57 57) < order448)

/-! ### Finite-field groups (RFC 7919) -/

/-- The series of e, scaled. -/
def eSeries : (terms : Nat) → (n t : Nat) → Nat
  | 0, _, _ => 0
  | f + 1, n, t => t + eSeries f (n + 1) (t / n)
/-- Bits of the group's prime, and the number RFC 7919 adds, of ALG values 0x17 to 0x1B. -/
def ffGroup (alg : Nat) : Nat × Nat :=
  match alg with
  | 0x17 => (2048, 560316) | 0x18 => (3072, 2625351) | 0x19 => (4096, 5736041) | 0x1A => (6144, 15705020)
  | _ => (8192, 10965728)
/-- The prime 2^b - 2^(b-64) + ([2^(b-130) e] + X) 2^64 - 1. -/
def ffPrime (alg : Nat) : Nat :=
  let g := ffGroup alg
  2 ^ g.1 - 2 ^ (g.1 - 64) + (eSeries 1100 1 (2 ^ (g.1 - 66)) / 2 ^ 64 + g.2) * 2 ^ 64 - 1
/-- y^q mod p is 1, q being (p - 1) / 2. -/
def ffSubgroupOk (alg y : Nat) : Bool :=
  let p := ffPrime alg
  modPow y p 1024 ((p - 1) / 2) == 1

/-! ### ML-KEM encapsulation keys (FIPS 203) -/

/-- Every 12-bit number of an encoded polynomial vector is below 3,329. -/
def modulusCheck : Bytes → Bool
  | a :: b :: c :: l => decide (a.toNat + 256 * (b.toNat % 16) < 3329) && decide (b.toNat / 16 + 16 * c.toNat < 3329) && modulusCheck l
  | _ => true
/-- The modulus check of an encapsulation key: all of it but its last 32 bytes. -/
def kemKeyOk (l : Bytes) : Bool := modulusCheck (l.take (l.length - 32))

/-! ### HSS parameter sets (RFC 8554) -/

/-- LMOTS p and w of a type number, and LMS height. -/
def lmotsParams (t : Nat) : Nat × Nat :=
  if t = 1 then (265, 1) else if t = 2 then (133, 2) else if t = 3 then (67, 4) else if t = 4 then (34, 8) else (0, 0)
def lmsHeight (t : Nat) : Nat := if 5 ≤ t ∧ t ≤ 9 then 5 * (t - 4) else 0
/-- A pair of an LMS and an LMOTS type that the engines support: H5 to H25, W1, W2, W4 and W8. -/
def hssTypesOk (lms lmots : Nat) : Bool := decide (5 ≤ lms ∧ lms ≤ 9) && decide (1 ≤ lmots ∧ lmots ≤ 4)
/-- What the levels of an HSS signature say, level by level from the key that signs: a type that is not supported, and
whether lengths, types and indexes agree with the parameters. -/
structure HssWalk where
  unsupported : Bool := false
  consistent : Bool := true
deriving DecidableEq, Repr
def HssWalk.and (a b : HssWalk) : HssWalk := { unsupported := a.unsupported || b.unsupported, consistent := a.consistent && b.consistent }
/-- `levels` of a signature under a key of the given types: q, the LMOTS signature, the LMS type and path; below the last
level the next key. -/
def hssWalk : (levels lms lmots : Nat) → Bytes → HssWalk
  | 0, _, _, l => { consistent := l.isEmpty }
  | n + 1, lms, lmots, l =>
    if hssTypesOk lms lmots = false then { unsupported := true }
    else if l.length < 8 then { consistent := false }
    else
      let w := beNat (slice l 4 4)
      let p := (lmotsParams w).1
      if hssTypesOk 5 w = false then { unsupported := true }
      else if l.length < 44 + 32 * p then { consistent := false }
      else
        let t := beNat (slice l (40 + 32 * p) 4)
        if hssTypesOk t w = false then { unsupported := true }
        else
          let rest := l.drop (44 + 32 * p + 32 * lmsHeight t)
          let agrees := t == lms && w == lmots && decide (beNat (slice l 0 4) < 2 ^ lmsHeight t) &&
            decide (44 + 32 * p + 32 * lmsHeight t ≤ l.length)
          let here : HssWalk := { consistent := agrees }
          if n = 0 then here.and { consistent := rest.isEmpty }
          else if rest.length < 56 then { consistent := false }
          else here.and (hssWalk n (beNat (slice rest 0 4)) (beNat (slice rest 4 4)) (rest.drop 56))
/-- An HSS public key of 60 bytes against a signature. -/
def hssCheck (pub sig : Bytes) : HssWalk :=
  let levels := beNat (pub.take 4)
  if levels = 0 ∨ 8 < levels then { unsupported := true }
  else
    HssWalk.and { unsupported := false, consistent := decide (4 ≤ sig.length) && beNat (sig.take 4) + 1 == levels }
      (hssWalk levels (beNat (slice pub 4 4)) (beNat (slice pub 8 4)) (sig.drop 4))

end Sys2Proof.Machine
end

