-- ==== Sys2Proof/Machine/Crypto.lean ====
section
/-! DEFINITION. Ciphers, MACs and hashes over the opaque standards of Config (log 5): results cut or filled to the
length the standard gives; CMAC, CBC-MAC, CBC and CTR composed from the block cipher. -/

namespace Sys2Proof.Machine

/-- Key length in bytes of a symmetric KEY_TYPE (R232, R236); 0 for the others. -/
def symLen : Nat → Nat
  | 1 => 16 | 2 => 24 | 3 => 16 | 4 => 24 | 5 => 32 | _ => 0

/-- A TDES type: 0x01, 0x02. -/
def isTdes (t : Nat) : Bool := t == 1 || t == 2
/-- An AES type: 0x03 to 0x05. -/
def isAes (t : Nat) : Bool := t == 3 || t == 4 || t == 5
/-- A symmetric type: 0x01 to 0x05. -/
def isSym (t : Nat) : Bool := isTdes t || isAes t

def aesE (key blk : Bytes) : Bytes := fit 16 (Config.aesEncrypt key (fit 16 blk))
def aesD (key blk : Bytes) : Bytes := fit 16 (Config.aesDecrypt key (fit 16 blk))
def desE (key blk : Bytes) : Bytes := fit 8 (Config.desEncrypt (fit 8 key) (fit 8 blk))
def desD (key blk : Bytes) : Bytes := fit 8 (Config.desDecrypt (fit 8 key) (fit 8 blk))

/-- The third DES key: the first again for a two-key key. -/
def tdesK3 (key : Bytes) : Bytes := if key.length ≤ 16 then key.take 8 else slice key 16 8
def tdesE (key blk : Bytes) : Bytes := desE (tdesK3 key) (desD (slice key 8 8) (desE (slice key 0 8) blk))
def tdesD (key blk : Bytes) : Bytes := desD (slice key 0 8) (desE (slice key 8 8) (desD (tdesK3 key) blk))

/-- Block size in bytes of a symmetric key type (R168). -/
def blockLen (t : Nat) : Nat := if isTdes t then 8 else 16
/-- One-block encipherment under a key of a symmetric type. -/
def ecbE (t : Nat) (key blk : Bytes) : Bytes := if isTdes t then tdesE key blk else aesE key blk
/-- One-block decipherment under a key of a symmetric type. -/
def ecbD (t : Nat) (key blk : Bytes) : Bytes := if isTdes t then tdesD key blk else aesD key blk

def sha (a : HashAlg) (d : Bytes) : Bytes :=
  match a with
  | .sha256 => fit 32 (Config.sha256 d)
  | .sha384 => fit 48 (Config.sha384 d)
  | .sha512 => fit 64 (Config.sha512 d)
def sha256 (d : Bytes) : Bytes := sha .sha256 d

/-- HMAC with SHA-256 (32 bytes), SHA-384 (48) or SHA-512 (64). -/
def hmac (bits : Nat) (key d : Bytes) : Bytes := fit (bits / 8) (Config.hmac bits key d)

/-- Consecutive pieces of `n` bytes, the last one perhaps shorter; `fuel` bounds their number. -/
def chunks (n : Nat) : (fuel : Nat) → Bytes → List Bytes
  | 0, _ => []
  | f + 1, l => if l.isEmpty then [] else l.take n :: chunks n f (l.drop n)
def pieces (n : Nat) (l : Bytes) : List Bytes := chunks n l.length l

/-! ### CMAC (SP 800-38B) -/

/-- Doubling in GF(2^(8n)), big-endian: shift left by one, reduce by 0x87 for 16 bytes and 0x1B for 8. -/
def cmacDouble (l : Bytes) : Bytes :=
  let n := l.length
  let v := 2 * beNat l
  let r := if v < 256 ^ n then v else (v - 256 ^ n) ^^^ (if n = 8 then 0x1B else 0x87)
  beBytes n r
/-- Subkey K1, used when the last block is whole. -/
def cmacK1 (t : Nat) (key : Bytes) : Bytes := cmacDouble (ecbE t key (List.replicate (blockLen t) 0))
/-- Subkey K2, used after 10* padding. -/
def cmacK2 (t : Nat) (key : Bytes) : Bytes := cmacDouble (cmacK1 t key)
/-- 10* padding to `n` bytes. -/
def pad10 (n : Nat) (l : Bytes) : Bytes := fit n (l ++ [0x80])
/-- The last CMAC step on chaining value `cv` and the last bytes `m` (at most a block). -/
def cmacFinal (t : Nat) (key cv m : Bytes) : Bytes :=
  let n := blockLen t
  let x := if m.length = n then xorBytes m (cmacK1 t key) else xorBytes (pad10 n m) (cmacK2 t key)
  ecbE t key (xorBytes (fit n cv) x)
def cmacLoop (t : Nat) (key : Bytes) : Bytes → List Bytes → Bytes
  | cv, [] => cmacFinal t key cv []
  | cv, [m] => cmacFinal t key cv m
  | cv, m :: ms => cmacLoop t key (ecbE t key (xorBytes (fit (blockLen t) cv) m)) ms
/-- The CMAC of a message under an AES or TDES key. -/
def cmac (t : Nat) (key msg : Bytes) : Bytes :=
  cmacLoop t key (List.replicate (blockLen t) 0) (pieces (blockLen t) msg)
/-- AES-256-CMAC. -/
def aesCmac (key msg : Bytes) : Bytes := cmac 5 key msg

/-! ### Chaining modes over whole blocks -/

def cbcEncLoop (t : Nat) (key : Bytes) : Bytes → List Bytes → Bytes
  | _, [] => []
  | iv, m :: ms => let c := ecbE t key (xorBytes m iv); c ++ cbcEncLoop t key c ms
def cbcEnc (t : Nat) (key iv msg : Bytes) : Bytes := cbcEncLoop t key iv (pieces (blockLen t) msg)
def cbcDecLoop (t : Nat) (key : Bytes) : Bytes → List Bytes → Bytes
  | _, [] => []
  | iv, c :: cs => xorBytes (ecbD t key c) iv ++ cbcDecLoop t key c cs
def cbcDec (t : Nat) (key iv msg : Bytes) : Bytes := cbcDecLoop t key iv (pieces (blockLen t) msg)
/-- CTR with the counter block incremented as one 128-bit big-endian integer (R285). -/
def ctrLoop (key : Bytes) : Nat → List Bytes → Bytes
  | _, [] => []
  | c, m :: ms => xorBytes m (aesE key (beBytes 16 c)) ++ ctrLoop key (c + 1) ms
def ctr (key iv msg : Bytes) : Bytes := ctrLoop key (beNat iv) (pieces 16 msg)
/-- The CBC-MAC chaining value of whole blocks (ISO/IEC 9797-1 algorithm 1, zero IV). -/
def cbcMac (t : Nat) (key : Bytes) (ms : List Bytes) : Bytes :=
  ms.foldl (fun cv m => ecbE t key (xorBytes cv m)) (List.replicate (blockLen t) 0)

/-! ### GCM (SP 800-38D) with 12-byte IVs, step by step and whole; the tag is apart -/

/-- The product in GF(2^128) with the leftmost bit first: the bits of `x` from the top, `v` halved at each. -/
def gfMulLoop : (n : Nat) → (x z v : Nat) → Nat
  | 0, _, z, _ => z
  | n + 1, x, z, v => gfMulLoop n x (if x.testBit n then z ^^^ v else z) (if v % 2 = 1 then (v / 2) ^^^ (0xE1 * 2 ^ 120) else v / 2)
def gfMul (x y : Nat) : Nat := gfMulLoop 128 x 0 y
/-- GHASH goes on over a byte string, its last block filled with zeros. -/
def ghashOver (h y l : Bytes) : Bytes :=
  (pieces 16 l).foldl (fun y m => beBytes 16 (gfMul (beNat (xorBytes y (fit 16 m))) (beNat h))) y
/-- The hash subkey. -/
def gcmH (key : Bytes) : Bytes := aesE key (List.replicate 16 0)
/-- GHASH after the header. -/
def gcmStart (key aad : Bytes) : Bytes := ghashOver (gcmH key) (List.replicate 16 0) aad
/-- The counter blocks of a message: IV and a 32-bit counter from `c` on; data blocks begin at 2 (R285). -/
def gctr (key iv : Bytes) (c : Nat) (l : Bytes) : Bytes := ctrLoop key (beNat (iv ++ beBytes 4 c)) (pieces 16 l)
/-- The tag from the GHASH value after the data. -/
def gcmTag (key iv y : Bytes) (aadLen dataLen n : Nat) : Bytes :=
  (xorBytes (aesE key (iv ++ beBytes 4 1)) (ghashOver (gcmH key) y (beBytes 8 (8 * aadLen) ++ beBytes 8 (8 * dataLen)))).take n
def gcmEnc (key iv aad d : Bytes) (n : Nat) : Bytes × Bytes :=
  let c := gctr key iv 2 d
  (c, gcmTag key iv (ghashOver (gcmH key) (gcmStart key aad) c) aad.length d.length n)
def gcmDec (key iv aad d tag : Bytes) : Option Bytes :=
  if gcmTag key iv (ghashOver (gcmH key) (gcmStart key aad) d) aad.length d.length tag.length = tag then some (gctr key iv 2 d) else none

/-! ### CCM (SP 800-38C), step by step -/

/-- CBC-MAC goes on over a byte string, its last block filled with zeros. -/
def cbcMacOver (key y l : Bytes) : Bytes := (pieces 16 l).foldl (fun y m => aesE key (xorBytes y (fit 16 m))) y
/-- The header as it is encoded before its padding. -/
def ccmHeader (aad : Bytes) : Bytes :=
  if aad.isEmpty then [] else if aad.length < 0xFF00 then beBytes 2 aad.length ++ aad else [0xFF, 0xFE] ++ beBytes 4 aad.length ++ aad
/-- CBC-MAC after the first block and the header. -/
def ccmStart (key nonce aad : Bytes) (dataLen tagLen : Nat) : Bytes :=
  let q := 15 - nonce.length
  let flags := (if aad.isEmpty then 0 else 64) + 8 * ((tagLen - 2) / 2) + (q - 1)
  cbcMacOver key (cbcMacOver key (List.replicate 16 0) (BitVec.ofNat 8 flags :: nonce ++ beBytes q dataLen)) (ccmHeader aad)
/-- The counter blocks from `c` on; data blocks begin at 1. -/
def ccmCtr (key nonce : Bytes) (c : Nat) (l : Bytes) : Bytes :=
  let q := 15 - nonce.length
  ctrLoop key (beNat (BitVec.ofNat 8 (q - 1) :: nonce ++ beBytes q c)) (pieces 16 l)
/-- The tag from the CBC-MAC value after the data. -/
def ccmTag (key nonce y : Bytes) (n : Nat) : Bytes := (ccmCtr key nonce 0 y).take n

/-! ### CRCs -/

def crc32cBit (c : Nat) : Nat := if c % 2 = 1 then (c / 2) ^^^ 0x82F63B78 else c / 2
def crc32cByte (c : Nat) (b : Byte) : Nat :=
  let x := c ^^^ b.toNat
  crc32cBit (crc32cBit (crc32cBit (crc32cBit (crc32cBit (crc32cBit (crc32cBit (crc32cBit x)))))))
/-- CRC-32C (log 6). -/
def crc32c (l : Bytes) : Nat := l.foldl crc32cByte 0xFFFFFFFF ^^^ 0xFFFFFFFF

/-- A byte string with odd parity set in the low bit of each byte (R177). -/
def oddParityByte (b : Byte) : Byte :=
  let v := b.toNat / 2
  let ones := (List.range 7).foldl (fun n i => n + v / 2 ^ i % 2) 0
  BitVec.ofNat 8 (2 * v + (1 - ones % 2))
def oddParity (l : Bytes) : Bytes := l.map oddParityByte

end Sys2Proof.Machine
end

