-- ==== Sys2Proof/Machine/Keys.lean ====
section
/-! DEFINITION. Key references, attribute records, templates and their checks (07 R231 to R242, R256). -/

namespace Sys2Proof.Machine

/-! ### References (R231) -/

def refIndex (r : Nat) : Nat := r % 2 ^ 24
def refKind (r : Nat) : Nat := r / 2 ^ 24 % 256
def refPartition (r : Nat) : Nat := r / 2 ^ 32 % 4096
/-- A reference from its fields. -/
def mkRef (p kind index : Nat) : Nat := p * 2 ^ 32 + kind * 2 ^ 24 + index
/-- The highest INDEX of a KIND; 0 for a reserved KIND. -/
def kindLimit : Nat → Nat
  | 0 => 16777215 | 1 => 255 | 2 => 255 | 3 => 15 | _ => 0
/-- Well-formed under R231. -/
def refOk (r : Nat) : Bool :=
  r < 2 ^ 44 && refIndex r != 0 && decide (refIndex r ≤ kindLimit (refKind r))

/-! ### USAGE (R235) and FLAGS (R234) -/

abbrev uEnc : BitVec 16 := 0x0001
abbrev uDec : BitVec 16 := 0x0002
abbrev uDecClear : BitVec 16 := 0x0004
abbrev uWrap : BitVec 16 := 0x0008
abbrev uUnwrap : BitVec 16 := 0x0010
abbrev uMacGen : BitVec 16 := 0x0020
abbrev uMacVer : BitVec 16 := 0x0040
abbrev uPinEnc : BitVec 16 := 0x0080
abbrev uPinVer : BitVec 16 := 0x0100
abbrev uDerive : BitVec 16 := 0x0200
abbrev uSign : BitVec 16 := 0x0400
abbrev uVerify : BitVec 16 := 0x0800
abbrev uExport : BitVec 16 := 0x1000

/-- Some of the bits of a mask are set. -/
def hasAny (u m : BitVec 16) : Bool := u &&& m != 0
/-- No bit outside a mask is set. -/
def within (u m : BitVec 16) : Bool := u &&& ~~~m == 0

abbrev fEphemeral : BitVec 8 := 0x80
abbrev fIv64 : BitVec 8 := 0x40
abbrev fTombstone : BitVec 8 := 0x20
abbrev fPinned : BitVec 8 := 0x10
def hasFlag (f m : BitVec 8) : Bool := f &&& m != 0
/-- DERIVE_CLASS. -/
def deriveClass (a : Attrs) : Nat := a.flags.toNat % 8
def isTombstone (a : Attrs) : Bool := hasFlag a.flags fTombstone
def isEphemeral (a : Attrs) : Bool := hasFlag a.flags fEphemeral
def isPinned (a : Attrs) : Bool := hasFlag a.flags fPinned

/-! ### The attribute record (R233) -/

def parseAttrs (l : Bytes) : Attrs :=
  { keyType := leAt l 0 1, mode := leAt l 1 1, usage := BitVec.ofNat 16 (leAt l 2 2),
    level := bits (leAt l 4 2) 15 14, ownerRes := bits (leAt l 4 2) 13 12, owner := bits (leAt l 4 2) 11 0,
    worldMask := BitVec.ofNat 8 (leAt l 6 1), lcMask := BitVec.ofNat 8 (leAt l 7 1), generation := leAt l 8 4,
    flags := BitVec.ofNat 8 (leAt l 15 1), parentSlot := leAt l 12 3, parentGen := leAt l 16 4,
    expiryS := leAt l 20 4, nonce := leAt l 24 8 }

def attrsBytes (a : Attrs) : Bytes :=
  leBytes 1 a.keyType ++ leBytes 1 a.mode ++ leBytes 2 a.usage.toNat ++
  leBytes 2 (a.level * 2 ^ 14 + a.ownerRes * 2 ^ 12 + a.owner) ++ leBytes 1 a.worldMask.toNat ++
  leBytes 1 a.lcMask.toNat ++ leBytes 4 a.generation ++ leBytes 3 a.parentSlot ++ leBytes 1 a.flags.toNat ++
  leBytes 4 a.parentGen ++ leBytes 4 a.expiryS ++ leBytes 8 a.nonce

/-! ### Key types (R236) -/

def isRsaPriv (t : Nat) : Bool := t == 0x41
def isEcPriv (t : Nat) : Bool := decide (0x43 ≤ t ∧ t ≤ 0x47)
def isEdPriv (t : Nat) : Bool := t == 0x48 || t == 0x49
def isMlDsaPriv (t : Nat) : Bool := decide (0x4A ≤ t ∧ t ≤ 0x4C)
def isXPriv (t : Nat) : Bool := t == 0x50 || t == 0x51
def isDhPriv (t : Nat) : Bool := decide (0x57 ≤ t ∧ t ≤ 0x5B)
def isKemPriv (t : Nat) : Bool := decide (0x60 ≤ t ∧ t ≤ 0x62)
def isPublic (t : Nat) : Bool := t == 0x81 || decide (0x83 ≤ t ∧ t ≤ 0x8D)
def isPrivate (t : Nat) : Bool :=
  isRsaPriv t || isEcPriv t || isEdPriv t || isMlDsaPriv t || isXPriv t || isDhPriv t || isKemPriv t
def keyTypeKnown (t : Nat) : Bool := isSym t || isPrivate t || isPublic t

/-- The USAGE bits R236 permits for a type. -/
def permittedUsage (t : Nat) : BitVec 16 :=
  if isSym t then 0x1FFF &&& ~~~(uSign ||| uVerify)
  else if isRsaPriv t then uSign ||| uDecClear ||| uExport
  else if isEcPriv t then uSign ||| uDerive ||| uExport
  else if isEdPriv t || isMlDsaPriv t then uSign
  else if isXPriv t || isDhPriv t || isKemPriv t then uDerive
  else if isPublic t then uVerify ||| uExport
  else 0

/-! ### USAGE and mode of use (R256, R238) -/

/-- The rows of R256 as USAGE bits with the mode-of-use characters they list (ASCII), in table order. -/
def modeRows : List (BitVec 16 × List Nat) :=
  [ (uPinEnc ||| uDec, [66]), (uPinEnc, [69]), (uWrap ||| uUnwrap, [66]), (uWrap, [69]), (uUnwrap, [68]),
    (uEnc ||| uDecClear, [66]), (uEnc, [69]), (uDecClear, [68]), (uMacGen ||| uMacVer, [67]), (uMacGen, [71]),
    (uMacVer, [86]), (uPinVer, [67, 71, 86]), (uDerive, [88]), (uSign, [83]), (uVerify, [86]) ]

/-- The mode-of-use characters that agree with a USAGE without EXPORT. -/
def modesFor (u : BitVec 16) : List Nat :=
  (modeRows.filter fun r => r.1 == u &&& ~~~uExport).flatMap (·.2)
/-- The mode of use the module sets when a template leaves it 0. -/
def modeSet (u : BitVec 16) : Nat := (modesFor u).headD 0
/-- A mode of use that R238 accepts for a USAGE. -/
def modeAgrees (mode : Nat) (u : BitVec 16) : Bool := mode == 0 || (modesFor u).contains mode

/-! ### The rules of a key or template, in the order of R238 -/

/-- Group 2: a USAGE bit that R236 does not permit for the type. -/
def usageNotPermitted (a : Attrs) : Bool := !within a.usage (permittedUsage a.keyType)

/-- Group 3: a combination forbidden by R128, R236 or R237. `kind` is the KIND of the key (R231). -/
def usageConflict (kind : Nat) (a : Attrs) : Bool :=
  let u := a.usage
  let sym := isSym a.keyType
  let der := hasAny u uDerive
  let cls := deriveClass a
  (hasAny u uPinEnc && hasAny u (uEnc ||| uDecClear)) || (hasAny u uWrap && hasAny u uDecClear) ||
  (sym && der && !within u (uDerive ||| uExport)) ||
  (kind == 1 && !within u (uWrap ||| uUnwrap ||| uDerive)) ||
  ((kind == 2 || kind == 3) && u != uVerify) ||
  (decide (1 ≤ cls ∧ cls ≤ 3) && !der) || (sym && cls == 4) ||
  (!sym && der && cls != 4) || (!sym && !der && cls != 0) || u == 0

/-- Group 1 for a template: a non-zero field outside the supplied set, or a reserved or out-of-range value.
With a source key PARENT_SLOT is 0. -/
def templateMalformed (hasSource : Bool) (a : Attrs) : Bool :=
  !keyTypeKnown a.keyType || a.usage.toNat / 2 ^ 13 != 0 || a.level != 0 || a.ownerRes != 0 || a.owner != 0 ||
  a.worldMask.toNat / 32 != 0 || a.lcMask.toNat / 8 != 0 || a.lcMask.toNat == 0 || a.generation != 0 ||
  hasFlag a.flags (fEphemeral ||| fTombstone ||| 0x08) || decide (4 < deriveClass a) ||
  decide (255 < a.parentSlot) || (hasSource && a.parentSlot != 0) || a.parentGen != 0 ||
  decide (2 ^ 32 ≤ a.nonce) || (a.nonce != 0 && !(isAes a.keyType && hasAny a.usage uEnc))

/-- The WORLD_MASK bits a template may ask for in a world (R238). -/
def worldMaskAllowed (world partition : Nat) : BitVec 8 :=
  if world = 1 ∨ world = 2 then 0x06 else if world = 4 then (if partition = 0 then 0x10 else 0) else 0x1F

/-- Group 4: a WORLD_MASK bit beyond the world, or a MODE_OF_USE that disagrees. -/
def templateDenied (world partition : Nat) (a : Attrs) : Bool :=
  a.worldMask &&& ~~~(worldMaskAllowed world partition) != 0 || !modeAgrees a.mode a.usage

/-- The first rule a template for a leaf breaks, as a status (R238). -/
def templateError (world partition : Nat) (hasSource : Bool) (a : Attrs) : Option Status :=
  if templateMalformed hasSource a then some St.keyMalformed
  else if usageNotPermitted a then some St.keyTypeMismatch
  else if usageConflict 0 a then some St.keyUsageConflict
  else if templateDenied world partition a then some St.keyTemplateDenied
  else none

/-- The first rule broken by the template of a key that must be symmetric (R203, R177): its type is judged among the checks that give
KEY_TYPE_MISMATCH. -/
def symTemplateError (world partition : Nat) (a : Attrs) : Option Status :=
  if templateMalformed false a then some St.keyMalformed
  else if isSym a.keyType = false then some St.keyTypeMismatch
  else templateError world partition false a

/-- A key made from a template: the fields the module fills in itself, and the slot material, a symmetric key's bytes
0 to 31 followed by the GCM fixed field (R232, R238). -/
def keyFromTemplate (partition parentSlot : Nat) (a : Attrs) (material : Bytes) : KeyMat :=
  { attrs := { a with level := 3, ownerRes := 0, owner := partition, generation := 0, parentGen := 0, nonce := 0,
                      parentSlot := parentSlot, mode := if a.mode = 0 then modeSet a.usage else a.mode },
    material := if isSym a.keyType then fit 32 (material.take (symLen a.keyType)) ++ leBytes 4 a.nonce else material }

/-- The key bytes of a handle or stored key: a symmetric key by its type's length, else the whole material. -/
def keyBytes (k : KeyMat) : Bytes := if isSym k.attrs.keyType then fit (symLen k.attrs.keyType) k.material else k.material
/-- The deterministic IV's fixed field (R232, R280). -/
def fixedField (k : KeyMat) : Bytes := slice k.material 32 4

/-- The 64-byte material area of a key's slot (R232): a symmetric key's material; of an asymmetric key the first of its record
numbers, their count and the SHA-256 of its public key. -/
def slotMaterial (first count : Nat) (k : KeyMat) : Bytes :=
  let t := k.attrs.keyType
  if isSym t then fit 64 k.material
  else leBytes 4 first ++ leBytes 1 count ++ List.replicate 27 0 ++
    fit 32 (sha256 (if isPublic t then k.material else Config.publicKey t k.material))
/-- The PARENT_SLOT of a key made from a source key (R239): a branch becomes the parent, a leaf gives its own. -/
def sourceParent (h : Handle) : Nat :=
  match h.ref with
  | some r => if refKind r = 1 then refIndex r else h.key.attrs.parentSlot
  | none => h.key.attrs.parentSlot

/-- The check of KEY_TYPE and USAGE that an instruction makes on a handle it uses (R242). -/
def useError (h : Handle) (typeOk : Nat → Bool) (anyOf : BitVec 16) : Option Status :=
  if typeOk h.key.attrs.keyType = false then some St.keyTypeMismatch
  else if hasAny h.key.attrs.usage anyOf then none else some St.keyUsageDenied

/-- Strength order of R258: TDES two-key, TDES three-key, AES-128, AES-192, AES-256; RSA and EC keys need AES-256. -/
def wrapTooWeak (kek wrapped : Nat) : Bool := if isSym wrapped then decide (kek < wrapped) else kek != 5

/-- The check value of R176: three bytes. -/
def checkValue (k : KeyMat) : Bytes :=
  let t := k.attrs.keyType
  if isTdes t then (tdesE (keyBytes k) (List.replicate 8 0)).take 3
  else (cmac t (keyBytes k) (List.replicate 16 0)).take 3

/-- CREDENTIAL_ID and SIGNER_ID (R254). -/
def publicId (partition keyType : Nat) (pub : Bytes) : Bytes :=
  (sha256 (leBytes 2 partition ++ leBytes 1 keyType ++ pub)).take 16

/-! ### Lengths of material and key records (R236, R244, R294) -/

/-- Length of a public key or public value (R294), k being the RSA modulus bytes. -/
def publicLen (t k : Nat) : Nat :=
  match t with
  | 0x81 => k + 8
  | 0x83 => 65 | 0x84 => 97 | 0x85 => 133 | 0x86 => 65 | 0x87 => 97 | 0x88 => 32 | 0x89 => 57
  | 0x8A => 1312 | 0x8B => 1952 | 0x8C => 2592 | 0x8D => 60
  | _ => 0
/-- Length of a generated private key as it is stored (R236, R244, R295; the other lengths are those of the schemes, PRESUMED,
log 17). -/
def privateLen (t bits : Nat) : Nat :=
  match t with
  | 0x41 => 7 * bits / 16 + 8
  | 0x43 => 32 | 0x44 => 48 | 0x45 => 66 | 0x46 => 32 | 0x47 => 48 | 0x48 => 32 | 0x49 => 57
  | 0x4A => 32 | 0x4B => 32 | 0x4C => 32 | 0x50 => 32 | 0x51 => 56
  | 0x57 => 28 | 0x58 => 32 | 0x59 => 38 | 0x5A => 44 | 0x5B => 50
  | _ => 64
/-- Bytes without the zeros at their end. -/
def trimZeros (l : Bytes) : Bytes := (l.reverse.dropWhile (· == 0)).reverse
/-- The least length of the form `base + step * n` that holds `n` bytes. -/
def roundUp (base step n : Nat) : Nat := base + step * cdiv (n - base) step
/-- The length of a key's material by its type; of an RSA key, whose type has several, the least of R236's and R244's lengths that
holds its last non-zero byte (log 24). -/
def materialLen (t : Nat) (l : Bytes) : Nat :=
  if isSym t then 36
  else if t = 0x41 then roundUp 8 28 (trimZeros l).length
  else if t = 0x81 then roundUp 8 8 (trimZeros l).length
  else if t < 0x80 then privateLen t 0 else publicLen t 0
def recordMaterial (t : Nat) (l : Bytes) : Bytes := fit (materialLen t l) l
/-- An extension record's fields outside its ciphertext: the key's reference, its number, 2 reserved bytes (R244). -/
def extensionOk (ref : Nat) (n : Nat) (x : Bytes) : Bool := leAt x 0 8 == ref && leAt x 8 2 == n && leAt x 10 2 == 0
/-- The keys of key records under their wrapping key, none where a tag or a reserved field is wrong; the extension records of a key
follow its first (R15, R244). -/
def openRecords (key : Bytes) : (fuel : Nat) → List Bytes → Option (List (Nat × KeyMat))
  | 0, _ => some []
  | _ + 1, [] => some []
  | f + 1, r :: l =>
    let n := leAt r 60 2
    let exts := (List.range n).zip (l.take n)
    if leAt r 62 2 ≠ 0 ∨ 31 < n ∨ exts.length ≠ n ∨ exts.any (fun e => !extensionOk (leAt r 0 8) (e.1 + 1) e.2) = true then none
    else match gcmDec key (slice r 48 12) (r.take 48) (slice r 64 432) (slice r 496 16) with
    | none => none
    | some d =>
      let ext := exts.map fun e => gcmDec key (slice e.2 12 12) (e.2.take 12) (slice e.2 24 472) (slice e.2 496 16)
      if ext.any (·.isNone) then none
      else
        let a := parseAttrs (slice r 16 32)
        let m := recordMaterial a.keyType (d ++ ext.flatMap fun x => x.getD [])
        (openRecords key f (l.drop n)).map fun ks => (leAt r 0 8, { attrs := a, material := m, putCsn := leAt r 8 8 }) :: ks

end Sys2Proof.Machine
end

