-- ==== Sys2Proof/Machine/Ops.lean ====
section
/-! DEFINITION. The named operations over the state: registers and windows of a core, free values, events, responses,
durable reads as of a snapshot, engine job clean-up, the ending of an invocation, and the frame every Ghedo
instruction runs in. -/

namespace Sys2Proof.Machine

/-! ### Registers of a core (R119, R157) -/

/-- A general register; g0 reads 0. -/
def Core.getG (k : Core) (a : GReg) : Word := if a = 0 then 0 else k.g[a]
/-- A write to a general register; a write to g0 is discarded. -/
def Core.setG (k : Core) (d : GReg) (v : Word) : Core := if d = 0 then k else { k with g := k.g.set d v }
def Core.getB (k : Core) (a : BReg) : SealedBlock := k.b[a]
/-- What a debug read of a block register gives: its flag, and zero while it is sealed (R114). No command of the table reads
a register so. -/
def Core.debugB (k : Core) (a : BReg) : Block × Bool := let b := k.b[a]; (if b.sealed then 0 else b.val, b.sealed)
def Core.setB (k : Core) (d : BReg) (v : SealedBlock) : Core := { k with b := k.b.set d v }
def Core.getK (k : Core) (a : KReg) : Option Handle := k.k[a]
def Core.setK (k : Core) (d : KReg) (v : Option Handle) : Core := { k with k := k.k.set d v }
/-- The next instruction in order (R147). -/
def Core.adv (k : Core) : Core := { k with pc := k.pc + 4, wait := .none, insn := none }

/-! ### Free values, events, responses -/

/-- The tap FIFO of a core's block (R480). -/
def tapOf : CoreId → Nat
  | .sc => 16
  | .tx n _ => n
/-- A producer forms an event item (R481); TAP_ITEM_WRITE writes it (log 9). -/
def State.event (s : State) (fifo : Nat) (code : Status) (args : List Nat := []) : State :=
  { s with raised := s.raised ++ [(fifo, { code := code, mono := s.mono, args := args })] }
/-- An event of the security controller. -/
def State.scEvent (s : State) (code : Status) (args : List Nat := []) : State := s.event 16 code args

/-- A sample of a metric (R481, R489). -/
def sampleItem (m v mono : Nat) : TapItem := { sample := true, code := m, mono := mono, value := v % 2 ^ 64, words := 5 }
/-- A producer forms a sample item; TAP_ITEM_WRITE writes it (R489, log 114). -/
def State.sample (s : State) (fifo m v : Nat) : State := { s with samples := s.samples ++ [(fifo, sampleItem m v s.mono)] }

/-- A response reaches the egress queue (R35). -/
def State.respond (s : State) (r : Response) : State := { s with egress := s.egress ++ [{ r with at0 := s.mono }] }
/-- The plain answer to a request. -/
def State.answer (s : State) (q : Request) (st : Status) (body : Bytes := []) : State :=
  s.respond { req := q, status := st, body := body, snapshot := q.snapshot }

/-! ### Configuration (R342) -/

/-- A configuration item's value as a number, or its default. -/
def State.cfg (s : State) (item scope dflt : Nat) : Nat :=
  match getK (item, scope) s.durable.config with
  | some v => leNat v
  | none => dflt

/-! ### The control ring (R352) -/

abbrev controlLines : Nat := 65536
/-- A current record of another kind whose first line lies in the `n` lines from the head on, or in the 64 after them, which a copied
summary may take. -/
def ControlRing.ahead (r : ControlRing) (kind n : Nat) : Option (Nat × ControlRecord) :=
  r.recs.find? fun e => e.1 != kind && decide ((e.2.line + controlLines - r.pos) % controlLines < n + 64)
def ControlRing.place (r : ControlRing) (kind n mono : Nat) : ControlRing :=
  { pos := (r.pos + n) % controlLines, recs := setK kind { line := r.pos, lines := n, mono := mono } r.recs }
/-- A record is written at the head, after the current records that the head would reach have been copied to it. -/
def ControlRing.put : (fuel : Nat) → ControlRing → (kind n mono : Nat) → ControlRing
  | 0, r, k, n, m => r.place k n m
  | f + 1, r, k, n, m => match r.ahead k n with
    | some e => ControlRing.put f (r.place e.1 e.2.lines e.2.mono) k n m
    | none => r.place k n m
/-- The highest MONO_NS in the current records. -/
def ControlRing.lastMono (r : ControlRing) : Nat := (r.recs.map fun e => e.2.mono).foldl max 0
/-- A control record of a kind is written; each holds the MONO_NS of its writing (log 123). -/
def State.control (s : State) (kind : Nat) (lines : Nat := 1) : State :=
  { s with sc := { s.sc with ctrl := s.sc.ctrl.put 7 kind lines s.mono } }

/-- Partition 0, or a tenant that no unreadable journal keeps out of service (R350). -/
def State.brought (s : State) (p : Nat) : Bool := p == 0 || !s.seq.outOfService || s.seq.restored.contains p

/-! ### The variant (R1) -/

def State.clusterCount (s : State) : Nat := match s.variant with | .ym4096 => 12 | .ym1024 => 3
def State.laneCount (s : State) : Nat := match s.variant with | .ym4096 => 12 | .ym1024 => 3
def State.lneCount (s : State) : Nat := match s.variant with | .ym4096 => 32 | .ym1024 => 8
def State.portCount (s : State) : Nat := match s.variant with | .ym4096 => 8 | .ym1024 => 2
def State.partitionCount (s : State) : Nat := match s.variant with | .ym4096 => 4096 | .ym1024 => 1024
def State.sessionCount (s : State) : Nat := match s.variant with | .ym4096 => 1048576 | .ym1024 => 262144
/-- The shared queue spill pool in bytes (R30). -/
def State.spillPool (s : State) : Nat := match s.variant with | .ym4096 => 16 * 2 ^ 30 | .ym1024 => 4992 * 2 ^ 20

/-! ### Random bits (R319, R320) -/

/-- The expander a core draws from (R318). -/
def expanderOf : CoreId → Nat
  | .sc => 12
  | .tx n _ => n
/-- The expander that feeds a mask generator (R278). -/
def maskExpander : MaskUnit → Nat
  | .sbu n _ => n
  | .lane n => 13 + n / 4
/-- An expander that can serve `n` requests: instantiated, and not beyond its hard limit (R320, R322). -/
def State.delivers (s : State) (e n : Nat) : Bool :=
  match getK e s.expanders with
  | some x => x.ready && decide (x.served + n ≤ 1048576)
  | none => false
/-- A mask seed request that an expander serves ahead of all others (R278, R320). -/
def State.maskPending (s : State) (e : Nat) : Bool := s.rng.masks.any fun u => maskExpander u == e
/-- A reader's `n` requests can be served. -/
def State.canDraw (s : State) (e : Nat) (n : Nat := 1) : Bool := s.delivers e n && !s.maskPending e
/-- The reseed interval in force (R328). -/
def State.reseedInterval (s : State) : Nat := s.cfg 0x0603 0 4096
/-- The expander's bookkeeping of `n` generate requests (R320). -/
def State.drawn (s : State) (e n : Nat) : State :=
  match getK e s.expanders with
  | none => s
  | some x =>
    let t := x.served + n
    let s1 := { s with expanders := setK e { x with served := t, asked := x.asked || decide (s.reseedInterval ≤ t),
                                                    stretched := x.stretched || decide (8192 ≤ t) } s.expanders }
    let s2 := if x.stretched = false ∧ 8192 ≤ t then s1.scEvent St.rngDrbgStretched [e] else s1
    if x.served < 1048576 ∧ 1048576 ≤ t then s2.scEvent St.rngDrbgBlocked [e] else s2
/-- What a CTR_DRBG state gives for `len` bytes in requests of up to 64 bytes, and the state after (R319). -/
def drbgRequests : (requests : Nat) → (state : Bytes) → (len : Nat) → Bytes × Bytes
  | 0, st, _ => ([], st)
  | r + 1, st, len =>
    let n := min 64 len
    let g := Config.drbgGenerate st n
    let next := drbgRequests r g.2 (len - n)
    (fit n g.1 ++ next.1, next.2)
/-- `len` random bytes from an expander (R318, R319). -/
def State.random (s : State) (e len : Nat) : Bytes × State :=
  let n := cdiv len 64
  let g := drbgRequests n (getD e {} s.expanders).state len
  let t := s.drawn e n
  (fit len g.1, match getK e t.expanders with
    | some x => { t with expanders := setK e { x with state := g.2 } t.expanders }
    | none => t)
/-- Several draws, one after another; each is split into requests of its own (R319). -/
def State.readAll (e : Nat) : List Nat → State → Bytes × State
  | [], s => ([], s)
  | [n], s => s.random e n
  | n :: l, s =>
    let r := s.random e n
    let q := State.readAll e l r.2
    (r.1 ++ q.1, q.2)
/-- The generate requests of several draws. -/
def readRequests (lens : List Nat) : Nat := (lens.map fun n => cdiv n 64).sum
/-- What is left of several draws after `got` bytes. -/
def restReads : List Nat → (got : Nat) → List Nat
  | [], _ => []
  | n :: l, d => if n ≤ d then restReads l (d - n) else (n - d) :: l
/-- The part of several draws that `m` requests serve. -/
def cutReads : (m : Nat) → List Nat → List Nat
  | _, [] => []
  | m, n :: l => if cdiv n 64 ≤ m then n :: cutReads (m - cdiv n 64) l else if m = 0 then [] else [64 * m]
/-- The bytes that a reader has had of an unfinished draw. -/
def State.drawPart (s : State) (e : Nat) (who : DrawReader) : Bytes :=
  match getK e s.expanders with | some x => getD who [] x.parts | none => []
def State.keepPart (s : State) (e : Nat) (who : DrawReader) (l : Bytes) : State :=
  match getK e s.expanders with
  | some x => { s with expanders := setK e { x with parts := if l = [] then delK who x.parts else setK who l x.parts } s.expanders }
  | none => s
/-- A reader's draws, where its expander can serve what is left of them; else what it serves before it blocks is kept for the reader,
who waits (R319, R320, R325). -/
def State.tryReads (s : State) (e : Nat) (who : DrawReader) (lens : List Nat) : Option Bytes × State :=
  let got := s.drawPart e who
  let rest := restReads lens got.length
  if s.canDraw e (readRequests rest) then
    let r := State.readAll e rest s
    (some (got ++ r.1), if got = [] then r.2 else r.2.keepPart e who [])
  else match getK e s.expanders with
    | some x =>
      if x.ready ∧ x.served < 1048576 ∧ s.maskPending e = false then
        let r := State.readAll e (cutReads (1048576 - x.served) rest) s
        (none, r.2.keepPart e who (got ++ r.1))
      else (none, s)
    | none => (none, s)
/-- The IVs of `n` key records, 12 bytes each, from the SC expander (R244). -/
def State.recordIvs (s : State) (who : DrawReader) (n : Nat) : Option Bytes × State :=
  if n = 0 then (some [], s) else s.tryReads 12 who [12 * n]
/-- A number the spec leaves unstated (log 7). -/
def State.free (s : State) : Nat × State := (Config.freeNat s.freeCtr, { s with freeCtr := s.freeCtr + 1 })

/-! ### Durable state as of a snapshot (R122, R123, R248) -/

/-- The newest of the versions at or below a CSN. -/
def asOf {β : Type} (csn : Nat) : List (Nat × β) → Option β
  | [] => none
  | (c, v) :: l => if c ≤ csn then some v else asOf csn l
/-- The newest version. -/
def newest {β : Type} : List (Nat × β) → Option β
  | [] => none
  | (_, v) :: _ => some v

/-- The key stored at a reference as of a CSN, a tombstone included. -/
def Durable.keyAt (d : Durable) (ref csn : Nat) : Option KeyMat :=
  match getK ref d.keys with
  | some vs => (asOf csn vs).join
  | none => none
/-- The key stored at a reference in the newest state. -/
def Durable.keyNow (d : Durable) (ref : Nat) : Option KeyMat :=
  match getK ref d.keys with
  | some vs => (newest vs).join
  | none => none
/-- The newest state of a reference that is no tombstone: of a key invalidated while a handle is held, the one retired. -/
def Durable.keyLive (d : Durable) (ref : Nat) : Option KeyMat :=
  (getD ref [] d.keys).findSome? fun v => match v.2 with
    | some k => if isTombstone k.attrs then none else some k | none => none
/-- A byte of a partition's table as of a CSN; 0 where never written (R121, R122). -/
def Durable.tabByte (d : Durable) (p csn a : Nat) : Byte :=
  match getK (p, a / 4096) d.tab with
  | some vs => match asOf csn vs with | some page => page.getD (a % 4096) 0 | none => 0
  | none => 0
def Durable.tabBytes (d : Durable) (p csn a : Nat) : Nat → Bytes
  | 0 => []
  | n + 1 => d.tabByte p csn a :: d.tabBytes p csn (a + 1) n
/-- A durable counter as of a CSN (R123). -/
def Durable.ctrAt (d : Durable) (p n csn : Nat) : Nat :=
  match getK (p, n) d.ctrs with
  | some vs => (asOf csn vs).getD 0
  | none => 0

/-- An ancestry valid as of a CSN (R248): the bough is the partition's own and its generation is constant (log 12);
a branch must be present, not a tombstone, and of the child's PARENT_GEN. -/
def Durable.ancestryOk (d : Durable) (p csn : Nat) (a : Attrs) : Bool :=
  if a.parentSlot = 0 then true
  else match d.keyAt (mkRef p 1 a.parentSlot) csn with
    | some b => !isTombstone b.attrs && b.attrs.generation == a.parentGen
    | none => false

/-- The LC_MASK bit of the current life-cycle state (R233). -/
def lcBit : Lifecycle → BitVec 8
  | .test => 1 | .provisioned => 2 | .deployed => 4 | _ => 0

/-- The bough of a partition as it wraps records. -/
def State.boughOf (s : State) (p : Nat) : Bytes := match getK p s.store.boughs with | some k => k.material.take 32 | none => []
/-! ### Cores -/

/-- The SC's Ghedo core as its firmware starts: world S, no invocation; it reads durable state as it stands (R24, R26,
log 101). -/
def scCore : Core := { world := 0, snapshot := 2 ^ 64 - 1 }
/-- A core that runs: one with an invocation, or the SC's while the SC runs. -/
def State.core? (s : State) (c : CoreId) : Option Core :=
  match getK c s.cores with
  | some k => some k
  | none => if c = .sc ∧ s.sc.mode ≠ .off then some scCore else none
def State.setCore (s : State) (c : CoreId) (k : Core) : State := { s with cores := setK c k s.cores }

/-- The partition whose keys, table and counters a core's world may use (R113). -/
def Core.partition (k : Core) : Nat := if k.world = 4 then 0 else k.req.partition

/-- The partition's runtime record. -/
def State.part (s : State) (p : Nat) : PartRun := getD p {} s.disp.parts
def State.setPart (s : State) (p : Nat) (r : PartRun) : State :=
  { s with disp := { s.disp with parts := setK p r s.disp.parts } }
def State.partDefined (s : State) (p : Nat) : Bool := (getK p s.durable.parts).isSome

/-- The queued requests that satisfy a test leave their queues and are answered with a status, in ticket order. -/
def State.cancelQueued (s : State) (f : Request → Bool) (st : Status) : State :=
  let gone := s.disp.queued.filter f
  gone.foldl (fun t q => t.answer q st) { s with disp := { s.disp with queued := s.disp.queued.filter fun q => !f q } }

/-! ### Engine jobs -/

/-- Class rank 0, 3, 1, 2 (R92, R302). -/
def classRank (cls : Nat) : Nat := if cls = 0 then 0 else if cls = 3 then 1 else if cls = 1 then 2 else 3

def Lne.bank (e : Lne) (n : Nat) : LneBank := if n = 0 then e.bank0 else e.bank1
def Lne.setBank (e : Lne) (n : Nat) (b : LneBank) : Lne := if n = 0 then { e with bank0 := b } else { e with bank1 := b }
/-- No job in either bank. -/
def Lne.empty (e : Lne) : Bool := e.bank0.job.isNone && e.bank1.job.isNone
/-- A bank loses its job, and after an abort its contents with its last owner (R306); a running or suspended one leaves its
place. The other bank's job goes on or starts (R304). -/
def Lne.dropJob (e : Lne) (now n : Nat) (wipe : Bool) : Lne :=
  let e1 := e.setBank n { owner := if wipe then none else (e.bank n).owner, job := none }
  let other := 1 - n
  let e2 := if e1.active = some n then
      (if (e1.bank other).job.isSome then { e1 with active := some other, suspended := none } else { e1 with active := none })
    else if e1.suspended = some n then { e1 with suspended := none } else e1
  if e2.empty then { e2 with power := .idle now } else e2

/-- The wipe of the banks that a partition owned last and no job is in (R306). -/
def Lne.wipeBanks (e : Lne) (p : Nat) : Lne :=
  let wipe := fun (b : LneBank) => if b.owner = some p ∧ b.job = none then { b with owner := none } else b
  { e with bank0 := wipe e.bank0, bank1 := wipe e.bank1 }

def State.lneJob? (s : State) (h : Nat) : Option LneJob := s.lneJobs.find? (·.handle == h)
def State.updLneJob (s : State) (h : Nat) (f : LneJob → LneJob) : State :=
  { s with lneJobs := s.lneJobs.map fun j => if j.handle = h then f j else j }
def State.laneJob? (s : State) (h : Nat) : Option LaneJob := s.laneJobs.find? (·.handle == h)
def State.updLaneJob (s : State) (h : Nat) (f : LaneJob → LaneJob) : State :=
  { s with laneJobs := s.laneJobs.map fun j => if j.handle = h then f j else j }

/-- When a bank's engine goes on with the other bank's job, that job's clock starts, once it has its random bits (R300,
R304). -/
def State.resumeLne (s : State) (n : Nat) : State :=
  match getK n s.lnes with
  | some e => match e.active with
    | some b => match (e.bank b).job with
      | some h =>
        let t := match s.lneJob? h with
          | some j => if j.since.isNone && j.drawn && j.ran == 0 then s.sample (tapOf j.core) 12 (s.mono - j.submitted) else s
          | none => s
        t.updLneJob h fun j => if j.since.isNone && j.drawn then { j with since := some s.mono } else j
      | none => s
    | none => s
  | none => s

/-- An engine or lane that is powered and not resuming. -/
def UnitPower.awake : UnitPower → Bool
  | .gated => false | .resuming => false | _ => true
/-- The order of the wait list: rank, then ticket (R302). -/
def lneBefore (a b : LneJob) : Bool := decide (a.rank < b.rank) || (a.rank == b.rank && decide (a.ticket < b.ticket))
def lneHead : List LneJob → Option LneJob
  | [] => none
  | j :: l => match lneHead l with
    | some h => if lneBefore h j then some h else some j
    | none => some j
/-- The head of the wait list. -/
def State.lneNext (s : State) : Option LneJob := lneHead (s.lneJobs.filter fun j => j.place == .waiting)
/-- R305: a job is at the head of the wait list and no awake engine is idle, so the lowest-numbered gated engine starts to
resume for it, once. -/
def State.wakeLne (s : State) : State :=
  match s.lneNext with
  | none => s
  | some j =>
    if j.woke || (s.lnes.any fun e => e.2.power.awake && e.2.empty) then s
    else match (s.lnes.filter fun e => e.2.power == .gated).map (·.1) |>.min? with
      | some n =>
        let e : Lne := getD n {} s.lnes
        { s with lnes := setK n { e with power := .resuming } s.lnes }.updLneJob j.handle fun x => { x with woke := true }
      | none => s

/-- An LNE job leaves the module: from the wait list, from its bank (with the wipe of R306), or with its result. -/
def State.dropLneJob (s : State) (j : LneJob) : State :=
  let s1 := { s with lneJobs := s.lneJobs.filter fun x => x.handle != j.handle }
  match j.place with
  | .loaded n b =>
    match getK n s.lnes with
    | some e => ({ s1 with lnes := setK n (e.dropJob s.mono b true) s1.lnes }.resumeLne n).wakeLne
    | none => s1
  | _ => s1.wakeLne
/-- The abort of a job at the end of its invocation (R117, R306): recorded when it had not completed. -/
def State.abortLneJob (s : State) (j : LneJob) : State :=
  match j.place with
  | .done _ => s.dropLneJob j
  | _ => (s.dropLneJob j).event (tapOf j.core) St.aborted [j.ticket]

/-- The 1 KiB units of output shadow a job takes (R275). -/
def LaneJob.shadowUnits (j : LaneJob) : Nat := if j.stream || j.mode == 8 then 0 else cdiv j.dataLen 1024
/-- The lane a job is assigned to. -/
def LaneJob.lane? (j : LaneJob) : Option Nat :=
  match j.place with
  | .ready n => some n | .running n => some n | .suspended n _ => some n | _ => none
def State.laneHasJob (s : State) (n : Nat) : Bool := s.laneJobs.any fun j => j.lane? == some n
/-! ### Lane choice (R270 to R272) -/

/-- Data bytes of a job that are present: its operand, or what has come of the payload. -/
def State.laneAvail (s : State) (j : LaneJob) : Nat := if j.stream then (getD j.ticket [] s.bulk).length else j.dataLen
/-- Header blocks left of a job. -/
def LaneJob.headLeft (j : LaneJob) : Nat := cdiv j.aad.length 16 - j.headDone
/-- The next input block is present, as a header block always is, or none is left. -/
def State.lanePresent (s : State) (j : LaneJob) : Bool :=
  decide (0 < j.headLeft) || decide (j.dataLen ≤ j.position) || decide (min j.dataLen (j.position + 16) ≤ s.laneAvail j)
def State.lane (s : State) (n : Nat) : Lane := getD n {} s.lanes
def State.setLane (s : State) (n : Nat) (l : Lane) : State := { s with lanes := setK n l s.lanes }
/-- The ready jobs of a lane: input present, no IV reservation missing, room in the shadow pool (R272, R275, R281). -/
def State.laneReady (s : State) (n : Nat) : List LaneJob :=
  s.laneJobs.filter fun j => j.place == .ready n && !j.waitIv && s.lanePresent j &&
    (j.started || decide (j.shadowUnits + (s.lane n).shadowUsed ≤ 320))
def State.laneRunning (s : State) (n : Nat) : Option LaneJob := s.laneJobs.find? fun j => j.place == .running n
/-- The jobs assigned to a lane. -/
def State.laneLoad (s : State) (n : Nat) : Nat := (s.laneJobs.filter fun j => j.lane? == some n).length
/-- A lane that takes a new job: awake and not stalled, with room (R270, R279). -/
def State.laneOpen (s : State) (e : Nat × Lane) : Bool :=
  e.2.power.awake && e.2.mask.stalled.isNone && decide (s.laneLoad e.1 < 32)
/-- The lane with the fewest jobs, the lowest number winning a tie. -/
def fewest (load : Nat → Nat) : List Nat → Option Nat
  | [] => none
  | n :: l => match fewest load l with
    | some m => if load m < load n ∨ (load m = load n ∧ m < n) then some m else some n
    | none => some n
/-- R270: every awake lane holds at least 8 jobs, or none is free of a stall. -/
def State.laneWanted (s : State) : Bool :=
  let aw := s.lanes.filter fun e => e.2.power.awake
  aw.all (fun e => decide (8 ≤ s.laneLoad e.1)) || aw.all fun e => e.2.mask.stalled.isSome
/-- The lane a submission is assigned to, and the state with a gated lane that is not stalled woken for it (R270, R279). -/
def State.assignLane (s : State) : Option Nat × State :=
  let gated := ((s.lanes.filter fun e => e.2.power == .gated && e.2.mask.stalled.isNone).map (·.1)).min?
  match s.laneWanted, gated with
  | true, some n => (some n, { s with lanes := setK n { getD n {} s.lanes with power := .resuming } s.lanes })
  | _, _ => (fewest s.laneLoad ((s.lanes.filter s.laneOpen).map (·.1)), s)
/-- The lowest of a lane's 64 context slots that no job holds (R271). -/
def State.freeSlot (s : State) (n : Nat) : Option Nat :=
  (List.range 64).find? fun i => !(s.laneJobs.any fun j => j.lane? == some n && j.slot == some i)

/-- The running job of a lane gives way to a ready job of a higher-ranked class (R272 rule 1). -/
def State.preemptLane (s : State) (n : Nat) : State :=
  match s.laneRunning n with
  | some r =>
    if (s.laneReady n).any fun j => decide (j.rank < r.rank) then
      s.updLaneJob r.handle fun j => { j with place := .ready n, blocksRun := 0 }
    else s
  | none => s
/-- A job takes a context slot of a lane, which has work from then on (R40, R271). -/
def State.placeOn (s : State) (h n : Nat) : State :=
  let l := s.lane n
  ((s.updLaneJob h fun j => { j with place := .ready n, slot := s.freeSlot n, assignedAt := s.mono }).setLane n
    (if l.power.awake then { l with power := .active } else l)).preemptLane n

/-- The job of the lowest ticket. -/
def lowestTicket : List LaneJob → Option LaneJob
  | [] => none
  | j :: l => match lowestTicket l with
    | some h => if h.ticket < j.ticket then some h else some j
    | none => some j
/-- Unassigned jobs go to lanes that can take them, lowest ticket first (R270, R279). -/
def State.assignWaiting : (fuel : Nat) → State → State
  | 0, s => s
  | f + 1, s => match lowestTicket (s.laneJobs.filter fun j => j.place == .unassigned) with
    | none => s
    | some j => match s.assignLane with
      | (some n, t) => State.assignWaiting f (t.placeOn j.handle n)
      | (none, _) => s

/-- A job has left lane `n`: its shadow is given back; the key register is zeroed unless another job runs; a lane without jobs idles,
one that still resumes goes on resuming (R40, R270, R274). -/
def State.vacate (s : State) (j : LaneJob) (n : Nat) : State :=
  match getK n s.lanes with
  | none => s
  | some l =>
    let l0 := if (s.laneRunning n).isSome then l else { l with key := [] }
    let l1 := if j.started then { l0 with shadowUsed := l0.shadowUsed - j.shadowUnits } else l0
    s.setLane n (if s.laneHasJob n ∨ l.power.awake = false then l1 else { l1 with power := .idle s.mono })
/-- A lane job leaves its lane, which a job that found none may then take: slot, shadow and key register are zeroed (R274, R279). -/
def State.dropLaneJob (s : State) (j : LaneJob) : State :=
  let s1 := { s with laneJobs := s.laneJobs.filter fun x => x.handle != j.handle }
  match j.lane? with
  | some n => let t := s1.vacate j n; t.assignWaiting t.laneJobs.length
  | none => s1

/-- Every job of an invocation goes with it. -/
def State.dropJobs (s : State) (c : CoreId) : State :=
  let s1 := (s.lneJobs.filter fun j => j.core == c).foldl State.abortLneJob s
  (s1.laneJobs.filter fun j => j.core == c).foldl State.dropLaneJob s1

/-! ### Retired key states (R251) -/

/-- The versions of a key without those that no snapshot at or above `csn` sees. -/
def pruneVersions (csn : Nat) : KeyVersions → KeyVersions
  | [] => []
  | (c, v) :: l => if c ≤ csn then [(c, v)] else (c, v) :: pruneVersions csn l
/-- The running invocations; the SC's core runs none. -/
def State.invocations (s : State) : List (CoreId × Core) := s.cores.filter fun c => c.1 != .sc
/-- A state that ended at a CSN is still seen by a running invocation, or wanted by the checkpoint under way (R246). -/
def State.stillSeen (s : State) (csn : Nat) : Bool :=
  (s.invocations.any fun x => decide (x.2.snapshot < csn)) || (match s.seq.checkpoint with | some c => decide (c < csn) | none => false)
/-- The retire entries that no running invocation needs are freed, their material zeroed; keys that a partition's deletion has
erased go with the last invocation that could see them (R229). -/
def State.freeRetired (s : State) : State :=
  let needed := fun (e : Nat × Nat) => s.invocations.any fun x => decide (x.2.snapshot < e.2)
  let ks := s.durable.keys.filterMap fun e => match e.2 with
    | (c, none) :: _ => if s.stillSeen c then some e else none
    | (c, some _) :: _ => if s.stillSeen c then some e else some (e.1, pruneVersions c e.2)
    | [] => none
  { s with store := { s.store with retire := s.store.retire.filter needed }, durable := { s.durable with keys := ks } }

/-! ### Faults of tenant programs (R107) -/

/-- A completed T-world fault: recorded; the 64th within 1 s halts a tenant partition that is not resetting. -/
def State.partitionFault (s : State) (fifo p : Nat) (args : List Nat) : State :=
  let r := s.part p
  let fs := (s.mono :: r.faults).take 64
  let s1 := (s.setPart p { r with faults := fs }).event fifo St.partitionFault (p :: args)
  if fs.length = 64 ∧ s.mono - fs.getD 63 0 < 10 ^ 9 ∧ p ≠ 0 ∧ r.reset = none ∧ r.halted = false then
    ((s1.setPart p { r with faults := fs, halted := true }).event fifo St.partitionHalted [p]).cancelQueued
      (fun q => q.partition == p) St.partitionHalted
  else s1

/-! ### The ending of an invocation (R116, R117, R276, R277) -/

/-- The stream trailer of R277: the tag of an encryption or CMAC, zero for any other status than OK. -/
def trailer (st : Status) (tagLen mode : Nat) (iv tag : Bytes) : Bytes :=
  let good := st == 0
  leBytes 2 st ++ leBytes 1 tagLen ++ [0] ++
  fit 12 (if mode = 4 ∨ mode = 5 then iv else []) ++
  fit 16 (if good && !(mode == 2 || mode == 5 || mode == 7) then tag else [])

/-- The trailer of a streamed response, whose output blocks have left before it, or the ordinary response (R276, R277). -/
def endResponse (k : Core) (job : Option LaneJob) (st : Status) (body : Bytes) : Response :=
  match job with
  | some j =>
    if j.released then
      let tst := if st ≠ 0 then st else match j.place with | .done js => js | _ => St.laneJobAborted
      { req := k.req, status := 0, bulk := true, streamPart := 2, payloadLen := (if j.mode = 8 then 0 else j.dataLen) + 32,
        payload := trailer tst j.tagBytes j.mode j.iv j.tag }
    else { req := k.req, status := st, body := body }
  | none => { req := k.req, status := st, body := body }

/-- A core without an invocation leaves its cluster idle when it was the last one (R40). -/
def State.idleCluster (s : State) (c : CoreId) : State :=
  match c with
  | .sc => s
  | .tx n _ =>
    if s.cores.any (fun x => match x.1 with | .tx m _ => m == n | .sc => false) then s
    else match getK n s.clusters with
      | some x => { s with clusters := setK n { x with power := .idle s.mono } s.clusters }
      | none => s

/-- The correction of the deficits at the end of an invocation (R103): nominal cost less the cycles spent in units of
64, a free value (log 2). -/
def State.settleCost (s : State) (k : Core) : State :=
  let p := k.req.partition
  let delta : Int := (k.nominal : Int) - (Config.actualCycles s.freeCtr / 64 : Nat)
  let pd := getD (k.cls, p) 0 s.disp.partDeficit
  let qd := getD (p, k.req.queue) 0 s.disp.queueDeficit
  { s with freeCtr := s.freeCtr + 1,
           disp := { s.disp with partDeficit := setK (k.cls, p) (pd + delta) s.disp.partDeficit,
                                 queueDeficit := setK (p, k.req.queue) (qd + delta) s.disp.queueDeficit } }

/-- PWR_MIN_AWAKE. -/
def State.minAwake (s : State) : Nat := s.cfg 0x0901 0 1
/-- No compute block holds work, and all are gated but the clusters kept awake (R472). -/
def State.allQuiet (s : State) : Bool :=
  s.cores.all (fun c => c.1 == .sc) &&
  s.clusters.all (fun e => decide (e.1 < s.minAwake) || e.2.power == .gated) &&
  s.lanes.all (fun e => e.2.power == .gated) && s.lnes.all fun e => e.2.power == .gated
/-- S1 is entered of itself (R472). -/
def State.enterS1 (s : State) : State :=
  if s.porter.power = .s0 ∧ s.allQuiet then { s with porter := { s.porter with power := .s1 } } else s
/-- The invocation of core `c` ends: clean-up of R117, then its response. `st` is what its ending gives under R116
before the rule for a durable commit is applied. -/
def State.endInvocation (s : State) (c : CoreId) (k : Core) (st : Status) (body : Bytes) : State :=
  let done := k.commitCsn != 0 && st != 0
  let job := k.streamJob.bind s.laneJob?
  let s1 := if done then s.event (tapOf c) St.faultAfterCommit [st, k.req.ticket] else s
  let s2 := match job with
    | some j => match j.place with
      | .done _ => s1
      | _ => s1.event (tapOf c) St.laneJobAborted [k.req.ticket]
    | none => s1
  let s3 := { s2.dropJobs c with cores := delK c s2.cores, bulk := delK k.req.ticket s2.bulk }
  let s4 := (((s3.freeRetired).settleCost k).idleCluster c).enterS1
  (s4.sample (tapOf c) (4 + k.cls) (s.mono - k.req.at0)).respond { endResponse k job (if done then 0 else st) (if done then [] else body) with csn := k.commitCsn, snapshot := k.snapshot }

/-- Where the SC's firmware goes on: a free value, a multiple of 4 (R147, R186, log 11). -/
def State.scResume (s : State) : Word := Config.scResumePc s.freeCtr &&& ~~~3
/-- On the security controller no invocation runs: what its firmware does after a fault, a refusal, end or fail is
internal to it, so only where it goes on is changed, in world S (R186, log 11). -/
def State.scTrap (s : State) (k : Core) : State :=
  { s.setCore .sc { k with pc := s.scResume, wait := .none, insn := none, world := 0 } with freeCtr := s.freeCtr + 1 }

/-- A fault of class 0x03 (R117): precise, no effect, ends the invocation; recorded with program code, version,
program counter, instructions retired and ticket (R146); counted in world T (R107). -/
def State.endFault (s : State) (c : CoreId) (k : Core) (code : Status) : State :=
  match c with
  | .sc => s.scTrap k
  | .tx _ _ =>
    let args := [k.req.verb, k.progVersion, k.pc.toNat, k.retired, k.req.ticket]
    let s2 := (s.event (tapOf c) code args).endInvocation c k code []
    if k.world = 2 then s2.partitionFault (tapOf c) k.req.partition args else s2

/-- An ending that is no fault: end, fail, or an instruction refused for a key, unit, LNE, RNG, commit or pair reason
(R116, R156). -/
def State.endWith (s : State) (c : CoreId) (k : Core) (st : Status) (body : Bytes) : State :=
  match c with
  | .sc => s.scTrap k
  | .tx _ _ => s.endInvocation c k st body

/-! ### The frame of a Ghedo instruction -/

/-- What an instruction does: it completes with the core and the rest of the state, it waits in a state, it faults with a class
0x03 code, it is refused, or it ends the invocation itself. -/
inductive Act where
  | done (s : State) (k : Core)
  | stall (s : State) (w : Wait)
  | fault (code : Status)
  | refuse (code : Status)
  | finish (status : Status) (body : Bytes)

/-- The budget of R140. -/
abbrev instructionBudget : Nat := 1000000

def Wait.idle (w : Wait) : Bool := match w with | .none => true | _ => false
/-- A wait in which the same instruction is tried again (log 8); the end of a commit comes by itself. -/
def Wait.retries (w : Wait) : Bool :=
  match w with | .random _ => true | .unit _ _ => true | .hash _ _ => true | .interrupt => true | .job _ => true | _ => false
/-- A core takes an instruction when it waits for nothing; while it waits, it takes only the one that waits (R147). -/
def Core.takes (k : Core) (i : Option Instr) : Bool := k.wait.idle || (k.wait.retries && i.isSome && k.insn == i)

/-- The frame of an instruction, named where it may wait: no effect on a core with no invocation, or one that takes no
instruction (log 1); the budget of an invocation first (R140, R155); then the instruction's own outcome. -/
def State.ghedoFor (s : State) (c : CoreId) (i : Option Instr) (f : Core → Act) : State :=
  match s.core? c with
  | none => s
  | some k =>
    if k.takes i = false then s
    else if c ≠ .sc ∧ instructionBudget ≤ k.retired then s.endFault c k St.budgetExceeded
    else match f k with
      | .done t k' => t.setCore c { k' with retired := k.retired + 1, insn := none }
      | .stall t w => t.setCore c { k with wait := w, insn := i }
      | .fault code => s.endFault c k code
      | .refuse code => s.endWith c k code []
      | .finish st body => s.endWith c { k with retired := k.retired + 1 } st body
/-- The frame of an instruction that may wait. -/
def State.ghedoOn (s : State) (c : CoreId) (i : Instr) (f : Core → Act) : State := s.ghedoFor c (some i) f
/-- The frame of an instruction that never waits. -/
def State.ghedo (s : State) (c : CoreId) (f : Core → Act) : State := s.ghedoFor c none f

/-- An instruction that only changes its core, then goes on with the next in order. -/
def State.ghedoPure (s : State) (c : CoreId) (f : Core → Core) : State := s.ghedo c fun k => .done s (f k).adv

/-- The wait of a core for random bits, with the time it began (R136). -/
def Core.randomWait (k : Core) (now : Nat) : Wait :=
  match k.wait with | .random t => .random t | _ => .random now
/-- Another core of the cluster waits for the same kind of unit and arrived earlier, or with it under a lower ticket
(R153). -/
def State.behind (s : State) (c : CoreId) (since ticket : Nat) (f : Wait → Option Nat) : Bool :=
  match c with
  | .sc => false
  | .tx n _ => s.cores.any fun x => x.1 != c && (match x.1 with | .tx m _ => m == n | .sc => false) &&
      (match f x.2.wait with
       | some t => decide (t < since) || (t == since && decide (x.2.req.ticket < ticket))
       | none => false)

end Sys2Proof.Machine
end

