-- ==== Sys2Proof/Machine/GhedoInteger.lean ====
section
/-! DEFINITION. Integer, immediate, branch, control and system instructions (05 R158 to R161, R186; 04 R116, R118). -/

namespace Sys2Proof.Machine

abbrev Out := Host.Outcome State Fault Refusal

/-- gD from gA and gB (R158). -/
def State.alu (s : State) (c : CoreId) (d a b : GReg) (f : Word → Word → Word) : State :=
  s.ghedoPure c fun k => k.setG d (f (k.getG a) (k.getG b))
/-- gD from gA and an immediate (R159). -/
def State.aluImm (s : State) (c : CoreId) (d a : GReg) (f : Word → Word) : State :=
  s.ghedoPure c fun k => k.setG d (f (k.getG a))

def boolWord (b : Bool) : Word := if b then 1 else 0
/-- The low six bits of a count (R158). -/
def shiftCount (w : Word) : Nat := w.toNat % 64
def wordSll (a b : Word) : Word := a <<< shiftCount b
def wordSrl (a b : Word) : Word := a >>> shiftCount b
def wordSra (a b : Word) : Word := a.sshiftRight (shiftCount b)
def wordRol (a b : Word) : Word := a.rotateLeft (shiftCount b)
def wordMulhu (a b : Word) : Word := BitVec.ofNat 64 (a.toNat * b.toNat / 2 ^ 64)
def wordDivu (a b : Word) : Word := if b = 0 then BitVec.allOnes 64 else BitVec.ofNat 64 (a.toNat / b.toNat)
def wordRemu (a b : Word) : Word := if b = 0 then a else BitVec.ofNat 64 (a.toNat % b.toNat)
def wordSlt (a b : Word) : Word := boolWord (a.slt b)
def wordSltu (a b : Word) : Word := boolWord (a.ult b)
def wordSeq (a b : Word) : Word := boolWord (a == b)
def wordBswap (a : Word) : Word := BitVec.ofNat 64 (beNat (leBytes 8 a.toNat))

def execAdd (c : CoreId) (d a b : GReg) (s : State) : Out := .next (s.alu c d a b (· + ·))
def execSub (c : CoreId) (d a b : GReg) (s : State) : Out := .next (s.alu c d a b (· - ·))
def execAnd (c : CoreId) (d a b : GReg) (s : State) : Out := .next (s.alu c d a b (· &&& ·))
def execOr (c : CoreId) (d a b : GReg) (s : State) : Out := .next (s.alu c d a b (· ||| ·))
def execXor (c : CoreId) (d a b : GReg) (s : State) : Out := .next (s.alu c d a b (· ^^^ ·))
def execAndn (c : CoreId) (d a b : GReg) (s : State) : Out := .next (s.alu c d a b fun x y => x &&& ~~~y)
def execSll (c : CoreId) (d a b : GReg) (s : State) : Out := .next (s.alu c d a b wordSll)
def execSrl (c : CoreId) (d a b : GReg) (s : State) : Out := .next (s.alu c d a b wordSrl)
def execSra (c : CoreId) (d a b : GReg) (s : State) : Out := .next (s.alu c d a b wordSra)
def execRol (c : CoreId) (d a b : GReg) (s : State) : Out := .next (s.alu c d a b wordRol)
def execMul (c : CoreId) (d a b : GReg) (s : State) : Out := .next (s.alu c d a b (· * ·))
def execMulhu (c : CoreId) (d a b : GReg) (s : State) : Out := .next (s.alu c d a b wordMulhu)
def execDivu (c : CoreId) (d a b : GReg) (s : State) : Out := .next (s.alu c d a b wordDivu)
def execRemu (c : CoreId) (d a b : GReg) (s : State) : Out := .next (s.alu c d a b wordRemu)
def execSlt (c : CoreId) (d a b : GReg) (s : State) : Out := .next (s.alu c d a b wordSlt)
def execSltu (c : CoreId) (d a b : GReg) (s : State) : Out := .next (s.alu c d a b wordSltu)
def execSeq (c : CoreId) (d a b : GReg) (s : State) : Out := .next (s.alu c d a b wordSeq)
/-- sel: gA if gC is non-zero, else gB (R158). -/
def execSel (c : CoreId) (d a b x : GReg) (s : State) : Out :=
  .next (s.ghedoPure c fun k => k.setG d (if k.getG x ≠ 0 then k.getG a else k.getG b))
def execBswap (c : CoreId) (d a : GReg) (s : State) : Out := .next (s.aluImm c d a wordBswap)

def execAddi (c : CoreId) (d a : GReg) (imm : BitVec 16) (s : State) : Out :=
  .next (s.aluImm c d a (· + imm.signExtend 64))
def execAndi (c : CoreId) (d a : GReg) (imm : BitVec 16) (s : State) : Out :=
  .next (s.aluImm c d a (· &&& imm.zeroExtend 64))
def execOri (c : CoreId) (d a : GReg) (imm : BitVec 16) (s : State) : Out :=
  .next (s.aluImm c d a (· ||| imm.zeroExtend 64))
def execXori (c : CoreId) (d a : GReg) (imm : BitVec 16) (s : State) : Out :=
  .next (s.aluImm c d a (· ^^^ imm.zeroExtend 64))
/-- The shift immediate: kind by IMM[7:6], count IMM[5:0] (R159). -/
def wordShift (kind : ShiftKind) (a : Word) (n : Nat) : Word :=
  match kind with
  | .sll => a <<< n
  | .srl => a >>> n
  | .sra => a.sshiftRight n
  | .rol => a.rotateLeft n
def execShiftImm (c : CoreId) (d a : GReg) (kind : ShiftKind) (n : BitVec 6) (s : State) : Out :=
  .next (s.aluImm c d a fun x => wordShift kind x n.toNat)
def execSlti (c : CoreId) (d a : GReg) (imm : BitVec 16) (s : State) : Out :=
  .next (s.aluImm c d a fun x => wordSlt x (imm.signExtend 64))
def execSltiu (c : CoreId) (d a : GReg) (imm : BitVec 16) (s : State) : Out :=
  .next (s.aluImm c d a fun x => wordSltu x (imm.signExtend 64))
def execLi (c : CoreId) (d : GReg) (imm : BitVec 21) (s : State) : Out :=
  .next (s.ghedoPure c fun k => k.setG d (imm.signExtend 64))
/-- lih: bits [16h + 15 : 16h] of gD replaced (R159). -/
def wordInsert16 (x : Word) (h : Fin 4) (imm : BitVec 16) : Word :=
  (x &&& ~~~((0xFFFF : Word) <<< (16 * h.val))) ||| (imm.zeroExtend 64 <<< (16 * h.val))
def execLih (c : CoreId) (d : GReg) (h : Fin 4) (imm : BitVec 16) (s : State) : Out :=
  .next (s.ghedoPure c fun k => k.setG d (wordInsert16 (k.getG d) h imm))

/-! ### Branches, jumps, the return stack (R160, R120) -/

/-- PC + 4 × sext(OFF). -/
def branchTarget (pc : Word) (off : Word) : Word := pc + 4 * off
/-- A conditional branch. -/
def State.branch (s : State) (c : CoreId) (a b : GReg) (off : BitVec 16) (f : Word → Word → Bool) : State :=
  s.ghedo c fun k =>
    .done s (if f (k.getG a) (k.getG b) then { k with pc := branchTarget k.pc (off.signExtend 64) } else k.adv)

def execBeq (c : CoreId) (a b : GReg) (off : BitVec 16) (s : State) : Out := .next (s.branch c a b off (· == ·))
def execBne (c : CoreId) (a b : GReg) (off : BitVec 16) (s : State) : Out := .next (s.branch c a b off (· != ·))
def execBlt (c : CoreId) (a b : GReg) (off : BitVec 16) (s : State) : Out := .next (s.branch c a b off BitVec.slt)
def execBge (c : CoreId) (a b : GReg) (off : BitVec 16) (s : State) : Out :=
  .next (s.branch c a b off fun x y => !x.slt y)
def execBltu (c : CoreId) (a b : GReg) (off : BitVec 16) (s : State) : Out := .next (s.branch c a b off BitVec.ult)
def execBgeu (c : CoreId) (a b : GReg) (off : BitVec 16) (s : State) : Out :=
  .next (s.branch c a b off fun x y => !x.ult y)
def execJmp (c : CoreId) (off : BitVec 26) (s : State) : Out :=
  .next (s.ghedo c fun k => .done s { k with pc := branchTarget k.pc (off.signExtend 64) })
/-- call: a ninth nested call faults with RETURN_STACK_FAULT (R120). -/
def execCall (c : CoreId) (off : BitVec 26) (s : State) : Out :=
  .next (s.ghedo c fun k =>
    if 8 ≤ k.rstack.length then .fault St.returnStackFault
    else .done s { k with rstack := (k.pc + 4) :: k.rstack, pc := branchTarget k.pc (off.signExtend 64) })

/-! ### Control (R161) -/

def execNop (c : CoreId) (s : State) : Out := .next (s.ghedoPure c id)
def execRet (c : CoreId) (s : State) : Out :=
  .next (s.ghedo c fun k =>
    match k.rstack with
    | [] => .fault St.returnStackFault
    | r :: rs => .done s { k with rstack := rs, pc := r })
/-- The response body that end sends: the first gL bytes of OUT, or the body a STREAM submission fixed (R116, R276). -/
def Core.outBody (k : Core) (len : Nat) : Bytes :=
  readBytes k.out 0 (if k.outFrozen then k.outTop else len)
def execEndInv (c : CoreId) (a : GReg) (s : State) : Out :=
  .next (s.ghedo c fun k =>
    if 65536 < (k.getG a).toNat then .fault St.outLengthInvalid
    else .finish 0 (k.outBody (k.getG a).toNat))
def execFail (c : CoreId) (a : GReg) (s : State) : Out :=
  .next (s.ghedo c fun k =>
    if St.failValid (k.getG a).toNat then .finish (k.getG a).toNat [] else .fault St.statusInvalid)
def execMono (c : CoreId) (d : GReg) (s : State) : Out :=
  .next (s.ghedoPure c fun k => k.setG d (BitVec.ofNat 64 s.mono))

/-! ### The system group (R186): worlds S and C, on the security controller -/

/-- An instruction of the system group: illegal on a transaction core. -/
def State.system (s : State) (c : CoreId) (f : Core → Act) : State :=
  s.ghedo c fun k => match c with | .sc => f k | .tx _ _ => .fault St.illegalInstruction

/-- csrr: what a register reads is internal to SC firmware, a free value of the number and the value last written
(log 11). -/
def execCsrr (c : CoreId) (d : GReg) (n : BitVec 10) (s : State) : Out :=
  .next (s.system c fun k =>
    .done { s with freeCtr := s.freeCtr + 1 }
      (k.setG d (Config.systemRegister n.toNat (getD n.toNat 0 s.sysRegs) s.freeCtr)).adv)
def execCsrw (c : CoreId) (n : BitVec 10) (a : GReg) (s : State) : Out :=
  .next (s.system c fun k => .done { s with sysRegs := setK n.toNat (k.getG a) s.sysRegs } k.adv)
/-- eret: the SC goes on where its exception state says, in world S or C, both internal to its firmware: free values
(R112, log 11). -/
def execEret (c : CoreId) (s : State) : Out :=
  .next (s.system c fun k => .done { s with freeCtr := s.freeCtr + 1 }
    { k with pc := s.scResume, world := if Config.freeNat s.freeCtr % 2 = 0 then 0 else 3 })
/-- wfi: waits for an interrupt, which it takes (log 102). -/
def execWfi (c : CoreId) (s : State) : Out :=
  .next (s.ghedoOn c (.wfi c) fun k => match c with
    | .tx _ _ => .fault St.illegalInstruction
    | .sc => if s.sc.irq then .done { s with sc := { s.sc with irq := false } } k.adv else .stall s .interrupt)
def execFence (c : CoreId) (s : State) : Out := .next (s.system c fun k => .done s k.adv)

end Sys2Proof.Machine
end

