-- ==== Sys2Proof/Machine/GhedoMemory.lean ====
section
/-! DEFINITION. Windows, loads and stores, counter reads and block registers (05 R154, R162 to R165; 04 R121). -/

namespace Sys2Proof.Machine

/-! ### Windows (R121, R154) -/

/-- The size of a window in bytes. -/
def Core.winSize (k : Core) : Win → Nat
  | .inW => k.req.body.length
  | .out => 65536
  | .scr => 16384
  | .tab => 1048576
/-- All of `n` bytes from `a` on lie in a window; no bytes lie in any. -/
def Core.inWin (k : Core) (w : Win) (a n : Nat) : Bool := n == 0 || decide (a + n ≤ k.winSize w)
/-- `n` bytes of a window; TAB as of the dispatch snapshot. -/
def State.readWin (s : State) (k : Core) (w : Win) (a n : Nat) : Bytes :=
  match w with
  | .inW => slice k.req.body a n
  | .out => readBytes k.out a n
  | .scr => readBytes k.scr a n
  | .tab => s.durable.tabBytes k.partition k.snapshot a n
/-- The byte address of a memory access: gA + sext(OFF) as a 64-bit sum (R154). -/
def Core.addr (k : Core) (a : GReg) (off : BitVec 14) : Nat := (k.getG a + off.signExtend 64).toNat

/-- The CSN of the page's version as of a snapshot; 0 where never written (R164). -/
def Durable.pageVersion (d : Durable) (p page csn : Nat) : Nat :=
  let cs := if page < 256 then (getD (p, page) [] d.tab).map (·.1)
    else (d.ctrs.filter fun e => e.1.1 == p && e.1.2 / 512 == page - 256).flatMap fun e => e.2.map (·.1)
  (cs.filter fun c => decide (c ≤ csn)).foldl max 0
/-- A page that is not resident in its version is filled into the cluster's page buffer of 16 pages; the buffer drops
the page filled longest ago (R164, log 13). -/
def State.fillPage (s : State) (c : CoreId) (k : Core) (page : Nat) : State :=
  match c with
  | .sc => s
  | .tx n _ =>
    match getK n s.clusters with
    | none => s
    | some x =>
      let e := (k.partition, page, s.durable.pageVersion k.partition page k.snapshot)
      if x.pages.contains e then s
      else { s with clusters := setK n { x with pages := (e :: x.pages).take 16 } s.clusters }

/-- The pages that `n` bytes of a window from `x` on lie in are filled, where the window is TAB (R164). -/
def State.fillWin (s : State) (c : CoreId) (k : Core) (w : Win) (x n : Nat) : State :=
  if w = .tab ∧ n ≠ 0 then
    (List.range ((x + n - 1) / 4096 + 1 - x / 4096)).foldl (fun t i => t.fillPage c k (x / 4096 + i)) s
  else s

/-- A load: alignment, then window, then the value (R121, R155). -/
def State.load (s : State) (c : CoreId) (w : Win) (a : GReg) (off : BitVec 14) (n : Nat)
    (put : Core → Bytes → Core) : State :=
  s.ghedo c fun k =>
    let x := k.addr a off
    if x % n ≠ 0 then .fault St.alignmentFault
    else if w = .out ∨ k.inWin w x n = false then .fault St.windowViolation
    else .done (s.fillWin c k w x n) (put k (s.readWin k w x n)).adv
def State.loadG (s : State) (c : CoreId) (t : GReg) (w : Win) (a : GReg) (off : BitVec 14) (n : Nat) : State :=
  s.load c w a off n fun k l => k.setG t (BitVec.ofNat 64 (leNat l))
/-- A sign-extending load of `n` bytes. -/
def State.loadS (s : State) (c : CoreId) (t : GReg) (w : Win) (a : GReg) (off : BitVec 14) (n : Nat) : State :=
  s.load c w a off n fun k l => k.setG t ((BitVec.ofNat (8 * n) (leNat l)).signExtend 64)

def execLd1 (c : CoreId) (t : GReg) (w : Win) (a : GReg) (off : BitVec 14) (s : State) : Out := .next (s.loadG c t w a off 1)
def execLd2 (c : CoreId) (t : GReg) (w : Win) (a : GReg) (off : BitVec 14) (s : State) : Out := .next (s.loadG c t w a off 2)
def execLd4 (c : CoreId) (t : GReg) (w : Win) (a : GReg) (off : BitVec 14) (s : State) : Out := .next (s.loadG c t w a off 4)
def execLd8 (c : CoreId) (t : GReg) (w : Win) (a : GReg) (off : BitVec 14) (s : State) : Out := .next (s.loadG c t w a off 8)
def execLd1s (c : CoreId) (t : GReg) (w : Win) (a : GReg) (off : BitVec 14) (s : State) : Out := .next (s.loadS c t w a off 1)
def execLd2s (c : CoreId) (t : GReg) (w : Win) (a : GReg) (off : BitVec 14) (s : State) : Out := .next (s.loadS c t w a off 2)
def execLd4s (c : CoreId) (t : GReg) (w : Win) (a : GReg) (off : BitVec 14) (s : State) : Out := .next (s.loadS c t w a off 4)
def execLdb (c : CoreId) (t : BReg) (w : Win) (a : GReg) (off : BitVec 14) (s : State) : Out :=
  .next (s.load c w a off 16 fun k l => k.setB t { val := bytesBlock l, sealed := false })

/-- The bytes of a window replaced; OUT remembers the highest byte stored to (R276). -/
def Core.storeBytes (k : Core) (w : Win) (x : Nat) (l : Bytes) : Core :=
  match w with
  | .out => { k with out := writeBytes k.out x l, outTop := max k.outTop (x + l.length) }
  | .scr => { k with scr := writeBytes k.scr x l }
  | _ => k
/-- A window that takes a store of `n` bytes at `x`: OUT until it is frozen, and SCR (R121, R135). -/
def Core.canStore (k : Core) (w : Win) (x n : Nat) : Bool :=
  (w == .scr || (w == .out && !k.outFrozen)) && k.inWin w x n
/-- What an aligned store does, alignment and window checked (R155). -/
def storeAct (s : State) (k : Core) (w : Win) (x : Nat) (n : Nat) (l : Bytes) : Act :=
  if x % n ≠ 0 then .fault St.alignmentFault
  else if k.canStore w x n = false then .fault St.windowViolation
  else .done s (k.storeBytes w x l).adv
def State.storeG (s : State) (c : CoreId) (t : GReg) (w : Win) (a : GReg) (off : BitVec 14) (n : Nat) : State :=
  s.ghedo c fun k => storeAct s k w (k.addr a off) n (leBytes n (k.getG t).toNat)

def execSt1 (c : CoreId) (t : GReg) (w : Win) (a : GReg) (off : BitVec 14) (s : State) : Out := .next (s.storeG c t w a off 1)
def execSt2 (c : CoreId) (t : GReg) (w : Win) (a : GReg) (off : BitVec 14) (s : State) : Out := .next (s.storeG c t w a off 2)
def execSt4 (c : CoreId) (t : GReg) (w : Win) (a : GReg) (off : BitVec 14) (s : State) : Out := .next (s.storeG c t w a off 4)
def execSt8 (c : CoreId) (t : GReg) (w : Win) (a : GReg) (off : BitVec 14) (s : State) : Out := .next (s.storeG c t w a off 8)
/-- stb: a sealed block faults with SEAL_VIOLATION, ahead of alignment and window (R124, R155). -/
def execStb (c : CoreId) (t : BReg) (w : Win) (a : GReg) (off : BitVec 14) (s : State) : Out :=
  .next (s.ghedo c fun k =>
    if (k.getB t).sealed then .fault St.sealViolation
    else storeAct s k w (k.addr a off) 16 (blockBytes (k.getB t).val))

/-- ldctr (R163). -/
def execLdctr (c : CoreId) (d a : GReg) (s : State) : Out :=
  .next (s.ghedo c fun k =>
    let n := (k.getG a).toNat
    if 65536 ≤ n then .fault St.windowViolation
    else .done (s.fillPage c k (256 + n / 512))
      (k.setG d (BitVec.ofNat 64 (s.durable.ctrAt k.partition n k.snapshot))).adv)

/-! ### Block registers (R165) -/

/-- A block from one block, with its seal. -/
def State.block1 (s : State) (c : CoreId) (d a : BReg) (f : Block → Block) : State :=
  s.ghedoPure c fun k => k.setB d { val := f (k.getB a).val, sealed := (k.getB a).sealed }
/-- A block from two, sealed if either is. -/
def State.block2 (s : State) (c : CoreId) (d a b : BReg) (f : Block → Block → Block) : State :=
  s.ghedoPure c fun k =>
    k.setB d { val := f (k.getB a).val (k.getB b).val, sealed := (k.getB a).sealed || (k.getB b).sealed }

def execBmov (c : CoreId) (d a : BReg) (s : State) : Out := .next (s.block1 c d a id)
def execBxor (c : CoreId) (d a b : BReg) (s : State) : Out := .next (s.block2 c d a b (· ^^^ ·))
def execBand (c : CoreId) (d a b : BReg) (s : State) : Out := .next (s.block2 c d a b (· &&& ·))
def execBor (c : CoreId) (d a b : BReg) (s : State) : Out := .next (s.block2 c d a b (· ||| ·))
def execBnot (c : CoreId) (d a : BReg) (s : State) : Out := .next (s.block1 c d a fun x => ~~~x)
/-- bsel: sealed if either candidate is, whichever is chosen (R124). -/
def execBsel (c : CoreId) (d a b : BReg) (x : GReg) (s : State) : Out :=
  .next (s.ghedoPure c fun k =>
    k.setB d { val := if k.getG x ≠ 0 then (k.getB a).val else (k.getB b).val,
               sealed := (k.getB a).sealed || (k.getB b).sealed })
def execBget (c : CoreId) (d : GReg) (a : BReg) (h : Fin 2) (s : State) : Out :=
  .next (s.ghedo c fun k =>
    if (k.getB a).sealed then .fault St.sealViolation
    else .done s (k.setG d (((k.getB a).val >>> (64 * h.val)).truncate 64)).adv)
def execBshl (c : CoreId) (d a : BReg) (n : BitVec 7) (s : State) : Out := .next (s.block1 c d a (· <<< n.toNat))
def execBshr (c : CoreId) (d a : BReg) (n : BitVec 7) (s : State) : Out := .next (s.block1 c d a (· >>> n.toNat))
/-- The block whose byte i is 0xFF where bit i of the mask is 1, else 0x00. -/
def maskBlock (m : BitVec 16) : Block :=
  bytesBlock ((List.range 16).map fun i => if m.toNat.testBit i then 0xFF else 0x00)
def execBli (c : CoreId) (d : BReg) (m : BitVec 16) (s : State) : Out :=
  .next (s.ghedoPure c fun k => k.setB d { val := maskBlock m, sealed := false })
/-- A block with its bytes p to p + n - 1 replaced by the low n bytes of a word. -/
def blockInsert (b : Block) (p n : Nat) (w : Word) : Block :=
  bytesBlock ((blockBytes b).take p ++ leBytes n w.toNat ++ (blockBytes b).drop (p + n))
/-- bins: n is IMM[6:4] + 1; p + n above 16 is not an instruction (R150, R165). -/
def execBins (c : CoreId) (d : BReg) (a : GReg) (p : BitVec 4) (n1 : BitVec 3) (s : State) : Out :=
  .next (s.ghedo c fun k =>
    if 16 < p.toNat + n1.toNat + 1 then .fault St.illegalInstruction
    else .done s (k.setB d { val := blockInsert (k.getB d).val p.toNat (n1.toNat + 1) (k.getG a),
                             sealed := (k.getB d).sealed }).adv)

end Sys2Proof.Machine
end

