-- ==== Sys2Proof/Machine/GhedoCipher.lean ====
section
/-! DEFINITION. Random, cipher, MAC, hash, PIN, wrap and compare instructions (05 R166 to R175; 04 R124 to R127). -/

namespace Sys2Proof.Machine

/-! ### Short-block units and their masks (R153, R263, R278, R279) -/

/-- MASK_RESEED_BLOCKS, which a mask generator takes at its next seed (R287). -/
def State.maskLimit (s : State) : Nat := s.cfg 0x0403 0 1048576
/-- The blocks that a unit may still mask. -/
def MaskGen.room (m : MaskGen) : Nat := if m.stalled.isSome then 0 else m.limit - m.blocks
/-- `n` blocks go to the units in their order, each as far as its mask generator allows: the units after, and the blocks
left over (log 14). -/
def useSbus : (n : Nat) → List MaskGen → List MaskGen × Nat
  | n, [] => ([], n)
  | n, m :: l =>
    let t := min n m.room
    let r := useSbus (n - t) l
    ({ m with blocks := m.blocks + t } :: r.1, r.2)
/-- A request for short-block units served, in a state, or standing still in a state with its wait. -/
inductive Served where
  | ok (s : State)
  | stands (s : State) (w : Wait)
/-- When a core's wait for a short-block unit began. -/
def Wait.unitSince (w : Wait) : Option Nat := match w with | .unit t _ => some t | _ => Option.none
/-- The cluster's short-block units mask `n` blocks for an instruction of a core, one request after another, in the order
of arrival; what they cannot mask waits (R153). The security controller has no unit of the clusters. -/
def State.sbu (s : State) (c : CoreId) (k : Core) (n : Nat) : Served :=
  match c with
  | .sc => .ok s
  | .tx m _ =>
    match getK m s.clusters with
    | none => .ok s
    | some x =>
      let since := k.wait.unitSince.getD s.mono
      let left := match k.wait with | .unit _ l => if l = 0 then n else l | _ => n
      if s.behind c since k.req.ticket Wait.unitSince then .stands s (.unit since left)
      else
        let r := useSbus left x.sbus
        let t := { s with clusters := setK m { x with sbus := r.1 } s.clusters }
        -- the requests left are new ones, which arrive now
        if r.2 = 0 then .ok (t.sample m 14 (3 * (s.mono - since))) else .stands t (.unit (if r.2 = left then since else s.mono) r.2)

/-! ### Random (R166) -/

/-- An instruction that draws `len` bytes from the core's expander, and waits while it cannot deliver. -/
def drawAct (s : State) (c : CoreId) (k : Core) (len : Nat) (f : State → Bytes → Act) : Act :=
  if s.canDraw (expanderOf c) (cdiv len 64) then
    let r := s.random (expanderOf c) len
    f r.2 r.1
  else .stall s (k.randomWait s.mono)
/-- An instruction whose `blocks` pass a short-block unit. -/
def sbuAct (s : State) (c : CoreId) (k : Core) (blocks : Nat) (f : State → Act) : Act :=
  match s.sbu c k blocks with
  | .stands t w => .stall t w
  | .ok t => f t
/-- An instruction that draws and whose `blocks` pass a short-block unit. -/
def drawSbuAct (s : State) (c : CoreId) (k : Core) (len blocks : Nat) (f : State → Bytes → Act) : Act :=
  if s.canDraw (expanderOf c) (cdiv len 64) then sbuAct s c k blocks fun t => drawAct t c k len f
  else .stall s (k.randomWait s.mono)

def execRnd (c : CoreId) (d : BReg) (s : State) : Out :=
  .next (s.ghedoOn c (.rnd c d) fun k =>
    drawAct s c k 16 fun t l => .done t (k.setB d { val := bytesBlock l, sealed := false }).adv)
def execRndg (c : CoreId) (d : GReg) (s : State) : Out :=
  .next (s.ghedoOn c (.rndg c d) fun k =>
    drawAct s c k 8 fun t l => .done t (k.setG d (BitVec.ofNat 64 (leNat l))).adv)

/-! ### Ciphers (R167) -/

/-- The frame of an instruction on a key register and a short-block unit: empty handle, then the use check, then the
unit. -/
def State.keyed (s : State) (c : CoreId) (i : Instr) (kr : KReg) (typeOk : Nat → Bool) (anyOf : BitVec 16) (blocks : Nat)
    (f : Core → Handle → Core) : State :=
  s.ghedoOn c i fun k =>
    match k.getK kr with
    | none => .fault St.keyHandleEmpty
    | some h =>
      match useError h typeOk anyOf with
      | some e => .refuse e
      | none => sbuAct s c k blocks fun t => .done t (f k h).adv

/-- One block through a cipher function on bytes: the TDES instructions take the low 8 bytes and write zeros above. -/
def cipherBlock (n : Nat) (f : Bytes → Bytes) (b : Block) : Block := bytesBlock (fit 16 (f ((blockBytes b).take n)))

def execAese (c : CoreId) (d a : BReg) (kr : KReg) (s : State) : Out :=
  .next (s.keyed c (.aese c d a kr) kr isAes uEnc 1 fun k h =>
    k.setB d { val := cipherBlock 16 (aesE (keyBytes h.key)) (k.getB a).val, sealed := (k.getB a).sealed })
/-- The seal of a decrypted block: set unless the key has DEC_CLEAR, then as the source (R124). -/
def decSeal (h : Handle) (b : SealedBlock) : Bool := !hasAny h.key.attrs.usage uDecClear || b.sealed
def execAesd (c : CoreId) (d a : BReg) (kr : KReg) (s : State) : Out :=
  .next (s.keyed c (.aesd c d a kr) kr isAes (uDec ||| uDecClear) 1 fun k h =>
    k.setB d { val := cipherBlock 16 (aesD (keyBytes h.key)) (k.getB a).val, sealed := decSeal h (k.getB a) })
def execTdese (c : CoreId) (d a : BReg) (kr : KReg) (s : State) : Out :=
  .next (s.keyed c (.tdese c d a kr) kr isTdes uEnc 1 fun k h =>
    k.setB d { val := cipherBlock 8 (tdesE (keyBytes h.key)) (k.getB a).val, sealed := (k.getB a).sealed })
def execTdesd (c : CoreId) (d a : BReg) (kr : KReg) (s : State) : Out :=
  .next (s.keyed c (.tdesd c d a kr) kr isTdes (uDec ||| uDecClear) 1 fun k h =>
    k.setB d { val := cipherBlock 8 (tdesD (keyBytes h.key)) (k.getB a).val, sealed := decSeal h (k.getB a) })

/-! ### MAC steps (R168) -/

/-- The frame of the MAC group; `reserved` marks an L that is not an instruction, `tooLong` an L above the block of the
key's type, refused as a wrong type. -/
def State.macStep (s : State) (c : CoreId) (i : Instr) (kr : KReg) (reserved : Bool) (typeOk : Nat → Bool) (len : Nat)
    (f : Core → Handle → Core) : State :=
  if reserved then s.ghedo c fun _ => .fault St.illegalInstruction
  else s.keyed c i kr (fun t => typeOk t && decide (len ≤ blockLen t)) (uMacGen ||| uMacVer) 1 f

def execCmacu (c : CoreId) (d a : BReg) (kr : KReg) (len : BitVec 5) (s : State) : Out :=
  .next (s.macStep c (.cmacu c d a kr len) kr (decide (16 < len.toNat)) isSym len.toNat fun k h =>
    let t := h.key.attrs.keyType
    let n := blockLen t
    let cv := (blockBytes (k.getB d).val).take n
    let m := (blockBytes (k.getB a).val).take n
    let r := if len = 0 then ecbE t (keyBytes h.key) (xorBytes cv m) else cmacFinal t (keyBytes h.key) cv (m.take len.toNat)
    k.setB d { val := bytesBlock (fit 16 r), sealed := (k.getB d).sealed || (k.getB a).sealed })
def execCmac1 (c : CoreId) (d a : BReg) (kr : KReg) (len : BitVec 5) (s : State) : Out :=
  .next (s.macStep c (.cmac1 c d a kr len) kr (decide (16 < len.toNat)) isSym len.toNat fun k h =>
    let r := cmac h.key.attrs.keyType (keyBytes h.key) ((blockBytes (k.getB a).val).take len.toNat)
    k.setB d { val := bytesBlock (fit 16 r), sealed := (k.getB a).sealed })
def execCbcmac (c : CoreId) (d a : BReg) (kr : KReg) (s : State) : Out :=
  .next (s.macStep c (.cbcmac c d a kr) kr false isSym 0 fun k h =>
    let t := h.key.attrs.keyType
    let n := blockLen t
    let r := ecbE t (keyBytes h.key) (xorBytes ((blockBytes (k.getB d).val).take n) ((blockBytes (k.getB a).val).take n))
    k.setB d { val := bytesBlock (fit 16 r), sealed := (k.getB d).sealed || (k.getB a).sealed })
/-- A step of ISO/IEC 9797-1 MAC algorithm 3 with the key's left and right halves, bytes 0 to 7 and 8 to 15, of a
three-key key too, whose last 8 bytes take no part (DESIGN CHOICE, log 103). -/
def alg3Step (key : Bytes) (final : Bool) (x : Bytes) : Bytes :=
  let l := slice key 0 8
  let r := slice key 8 8
  if final then desE l (desD r (desE l x)) else desE l x
def execCbcmac3 (c : CoreId) (d a : BReg) (kr : KReg) (len : BitVec 5) (s : State) : Out :=
  .next (s.macStep c (.cbcmac3 c d a kr len) kr (decide (1 < len.toNat)) isTdes len.toNat fun k h =>
    let x := xorBytes ((blockBytes (k.getB d).val).take 8) ((blockBytes (k.getB a).val).take 8)
    k.setB d { val := bytesBlock (fit 16 (alg3Step (keyBytes h.key) (len == 1) x)),
               sealed := (k.getB d).sealed || (k.getB a).sealed })

/-! ### Hash contexts (R169, R170) -/

/-- Bytes of a compression: 64 for SHA-256, else 128. -/
def hashBlock : HashAlg → Nat
  | .sha256 => 64 | _ => 128
/-- The compressions running on the cluster's two hash units. -/
def State.hashBusy (s : State) (c : CoreId) : Nat :=
  match c with
  | .sc => 0
  | .tx n _ => ((s.cores.filter fun x => match x.1 with | .tx m _ => m == n | .sc => false).map fun x =>
      (x.2.hash.toList.filter (·.running)).length).sum
/-- A context after `l` is absorbed; a compression starts when a block boundary is reached. -/
def HashCtx.absorb (x : HashCtx) (l : Bytes) (sealed : Bool) : HashCtx :=
  let n := hashBlock x.alg
  { x with absorbed := x.absorbed ++ l, sealed := x.sealed || sealed,
           running := decide (x.absorbed.length / n < (x.absorbed.length + l.length) / n) }
/-- When a core's wait for a hash unit began. -/
def Wait.hashSince (w : Wait) : Option Nat := match w with | .hash t true => some t | _ => Option.none
/-- The frame of hashu: a context whose compression is running is waited for, and so is a unit where one is needed, in the
order of arrival (R153, R170). -/
def State.hashu (s : State) (c : CoreId) (i : Instr) (h : Fin 2) (bad : Bool) (needsUnit : Core → Bool) (f : Core → Core) :
    State :=
  s.ghedoOn c i fun k =>
    let since := k.wait.hashSince.getD s.mono
    if bad then .fault St.illegalInstruction
    else if k.hash[h].running then .stall s (.hash s.mono false)
    else if needsUnit k && (decide (2 ≤ s.hashBusy c) || s.behind c since k.req.ticket Wait.hashSince) then
      .stall s (.hash since true)
    else .done s (f k).adv
def Core.setHash (k : Core) (h : Fin 2) (x : HashCtx) : Core := { k with hash := k.hash.set h x }

def execHashuStart (c : CoreId) (h : Fin 2) (alg : HashAlg) (a : BReg) (len : BitVec 5) (s : State) : Out :=
  .next (s.hashu c (.hashuStart c h alg a len) h (decide (16 < len.toNat)) (fun _ => false) fun k =>
    k.setHash h (HashCtx.absorb { alg := alg } ((blockBytes (k.getB a).val).take len.toNat) (k.getB a).sealed))
/-- A finalised context is discarded and restarted with its algorithm; its seal flag stays (R169). -/
def HashCtx.fresh (x : HashCtx) : HashCtx := if x.finalised then { alg := x.alg, sealed := x.sealed } else x
def execHashuAbsorb (c : CoreId) (h : Fin 2) (a : BReg) (len : BitVec 5) (s : State) : Out :=
  .next (s.hashu c (.hashuAbsorb c h a len) h (decide (16 < len.toNat))
    (fun k => ((k.hash[h].fresh).absorb ((blockBytes (k.getB a).val).take len.toNat) false).running)
    fun k => k.setHash h ((k.hash[h].fresh).absorb ((blockBytes (k.getB a).val).take len.toNat) (k.getB a).sealed))
def execHashuOut (c : CoreId) (d : BReg) (h : Fin 2) (j : Fin 4) (s : State) : Out :=
  .next (s.hashu c (.hashuOut c d h j) h false (fun k => !k.hash[h].finalised) fun k =>
    let x := k.hash[h]
    (k.setHash h { x with finalised := true }).setB d
      { val := bytesBlock (slice (sha x.alg x.absorbed) (16 * j.val) 16), sealed := x.sealed })
def execHashuDiscard (c : CoreId) (h : Fin 2) (s : State) : Out :=
  .next (s.hashu c (.hashuDiscard c h) h false (fun _ => false) fun k => k.setHash h {})
/-- A compression completes: its context runs no more and its unit is free; a hashu that waits goes on when it is tried
again, the earliest first (R153, R170). -/
def State.compressionDone (s : State) (c : CoreId) (h : Fin 2) : State :=
  match s.core? c with
  | none => s
  | some k =>
    if k.hash[h].running = false then s
    else s.setCore c (k.setHash h { k.hash[h] with running := false })
def execHashCompressionDone (c : CoreId) (h : Fin 2) (s : State) : Out := .next (s.compressionDone c h)

/-! ### PIN fields (R171 to R173) -/

/-- The nibbles of bytes, high nibble first. -/
def nibbles (l : Bytes) : List Nat := l.flatMap fun b => [b.toNat / 16, b.toNat % 16]
/-- Bytes of nibbles, high nibble first. -/
def packNibbles : List Nat → Bytes
  | a :: b :: l => BitVec.ofNat 8 (a * 16 + b) :: packNibbles l
  | [a] => [BitVec.ofNat 8 (a * 16)]
  | [] => []
/-- Exactly `n` nibbles, filled with `f`. -/
def fitNibbles (n f : Nat) (l : List Nat) : List Nat := (l ++ List.replicate n f).take n
/-- A format of ISO 9564-1 that pinfmt and pine take (R172, R173). -/
def pinFormatOk (fmt : Nat) : Bool := fmt == 0 || fmt == 1 || fmt == 3 || fmt == 4
/-- The plain PIN field that pinfmt looks at. -/
def pinField (fmt : Nat) (s p : Bytes) : Bytes :=
  if fmt = 4 then s else if fmt = 1 then s.take 8 else xorBytes (s.take 8) (p.take 8)
/-- Well-formed of the format: control nibble, length, digits, fill (format 1 fill and the random half of format 4
unchecked). -/
def pinFieldOk (fmt : Nat) (field : Bytes) : Bool :=
  let ns := nibbles (field.take 8)
  let n := ns.getD 1 0
  let digits := (ns.drop 2).take n
  let fill := (ns.drop 2).drop n
  ns.getD 0 99 == fmt && decide (4 ≤ n) && decide (n ≤ 12) && digits.all (fun x => decide (x ≤ 9)) &&
  (match fmt with
    | 0 => fill.all (· == 15)
    | 3 => fill.all (fun x => decide (10 ≤ x))
    | 4 => fill.all (· == 10)
    | _ => true)
/-- The canonical PIN field of R171. -/
def canonicalPin (digits : List Nat) : Bytes :=
  fit 16 (BitVec.ofNat 8 digits.length :: packNibbles (fitNibbles 12 15 digits))
def canonicalOf (field : Bytes) : Bytes :=
  let ns := nibbles (field.take 8)
  canonicalPin ((ns.drop 2).take (ns.getD 1 0))
/-- The comparison limit of R127 counts an instruction with a sealed operand. -/
def Core.compareLimit (k : Core) (sealed : Bool) : Bool := sealed && decide (4 ≤ k.sealedCompares)
def Core.countCompare (k : Core) (sealed : Bool) : Core :=
  if sealed then { k with sealedCompares := k.sealedCompares + 1 } else k

def execPinfmt (c : CoreId) (d : BReg) (v : GReg) (a p : BReg) (fmt : BitVec 3) (s : State) : Out :=
  .next (s.ghedo c fun k =>
    let f := fmt.toNat
    let sealed := (k.getB a).sealed || (k.getB p).sealed
    if pinFormatOk f = false ∨ k.world = 4 then .fault St.illegalInstruction
    else if k.compareLimit sealed then .fault St.compareLimit
    else
      let field := pinField f (blockBytes (k.getB a).val) (blockBytes (k.getB p).val)
      let ok := pinFieldOk f field
      .done s (((k.setB d { val := if ok then bytesBlock (canonicalOf field) else 0, sealed := true }).setG v
        (boolWord ok)).countCompare sealed).adv)

/-- The clear PIN block that pine builds from a canonical field and random bytes (R173): N as given, the first
min(N, 12) places from the digit nibbles, the rest from the format's fill. -/
def pinBlock (fmt : Nat) (canon rnd : Bytes) : Bytes :=
  let n := (nibbles (canon.take 1)).getD 1 0
  let digits := (nibbles ((canon.drop 1).take 6)).take (min n 12)
  let rn := nibbles rnd
  let places := fun (fill : Nat → Nat) => (List.range 14).map fun i => if i < digits.length then digits.getD i 0 else fill (rn.getD i 0)
  match fmt with
  | 0 => packNibbles (0 :: n :: places fun _ => 15)
  | 1 => packNibbles (1 :: n :: places id)
  | 3 => packNibbles (3 :: n :: places fun r => 10 + r % 6)
  | _ => packNibbles (4 :: n :: places fun _ => 10) ++ fit 8 rnd
/-- The enciphered PIN block: one TDES block, or E(E(field) xor PAN field) under AES (R173). -/
def encipherPin (fmt : Nat) (key canon pan rnd : Bytes) : Bytes :=
  let f := pinBlock fmt canon rnd
  match fmt with
  | 4 => aesE key (xorBytes (aesE key f) pan)
  | 1 => tdesE key f
  | _ => tdesE key (xorBytes f (pan.take 8))

def execPine (c : CoreId) (d a p : BReg) (kr : KReg) (fmt : BitVec 3) (s : State) : Out :=
  .next (s.ghedoOn c (.pine c d a p kr fmt) fun k =>
    let f := fmt.toNat
    if pinFormatOk f = false ∨ k.world = 4 then .fault St.illegalInstruction
    else match k.getK kr with
    | none => .fault St.keyHandleEmpty
    | some h =>
      if (k.getB a).sealed = false then .fault St.sealViolation
      else match useError h (if f = 4 then isAes else isTdes) uPinEnc with
      | some e => .refuse e
      | none =>
        let put := fun (t : State) (rnd : Bytes) => Act.done t (k.setB d
            { val := bytesBlock (fit 16 (encipherPin f (keyBytes h.key) (blockBytes (k.getB a).val)
                (blockBytes (k.getB p).val) rnd)), sealed := false }).adv
        let blocks := if f = 4 then 2 else 1
        if f = 0 then sbuAct s c k blocks fun t => put t [] else drawSbuAct s c k 8 blocks put)

/-! ### Wrapping and comparison (R174, R175) -/

/-- The 48-byte wrapped form of R174. -/
def wrapForm (key iv plain : Bytes) : Bytes :=
  let r := gcmEnc key iv [] plain 16
  iv ++ List.replicate 4 0 ++ r.1 ++ r.2
/-- The plaintext of a wrapped form that verifies and whose 4 bytes after the IV are zero. -/
def unwrapForm (key form : Bytes) : Option Bytes :=
  if allZero (slice form 12 4) then gcmDec key (form.take 12) [] (slice form 16 16) (slice form 32 16) else none

def execBwrap (c : CoreId) (a : GReg) (d : BReg) (kr : KReg) (s : State) : Out :=
  .next (s.ghedoOn c (.bwrap c a d kr) fun k =>
    let x := (k.getG a).toNat
    match k.getK kr with
    | none => .fault St.keyHandleEmpty
    | some h =>
      if x % 16 ≠ 0 then .fault St.alignmentFault
      else if k.inWin .scr x 48 = false then .fault St.windowViolation
      else match useError h (· == 5) uWrap with
      | some e => .refuse e
      | none => drawSbuAct s c k 12 2 fun t iv =>
        .done t (k.storeBytes .scr x (wrapForm (keyBytes h.key) iv (blockBytes (k.getB d).val))).adv)
def execBopen (c : CoreId) (d : BReg) (v : GReg) (w : Win) (a : GReg) (kr : KReg) (s : State) : Out :=
  .next (s.ghedoOn c (.bopen c d v w a kr) fun k =>
    let x := (k.getG a).toNat
    match k.getK kr with
    | none => .fault St.keyHandleEmpty
    | some h =>
      if x % 16 ≠ 0 then .fault St.alignmentFault
      else if w = .out ∨ k.inWin w x 48 = false then .fault St.windowViolation
      else match useError h (· == 5) uUnwrap with
      | some e => .refuse e
      | none => sbuAct (s.fillWin c k w x 48) c k 2 fun t =>
          let r := unwrapForm (keyBytes h.key) (s.readWin k w x 48)
          .done t ((k.setB d { val := match r with | some l => bytesBlock l | none => 0, sealed := true }).setG v
            (boolWord r.isSome)).adv)
/-- The bytes a mask selects are equal in both blocks. -/
def maskedEq (x y : Block) (mask : BitVec 16) : Bool := (x ^^^ y) &&& maskBlock mask == 0
def execCtcmp (c : CoreId) (d : Fin 16) (a b : BReg) (mask : BitVec 16) (s : State) : Out :=
  .next (s.ghedo c fun k =>
    let sealed := (k.getB a).sealed || (k.getB b).sealed
    if mask = 0 then .fault St.illegalInstruction
    else if k.compareLimit sealed then .fault St.compareLimit
    else .done s ((k.setG (d.castLE (by decide)) (boolWord (maskedEq (k.getB a).val (k.getB b).val mask))).countCompare
      sealed).adv)

end Sys2Proof.Machine
end

