-- ==== Sys2Proof/Machine/KeyBlocks.lean ====
section
/-! DEFINITION. X9.143 key blocks: header, mapping to attributes, import and export (07 R255 to R258). The header's
character positions are those of the standard (PRESUMED, log 15). -/

namespace Sys2Proof.Machine

/-! ### ASCII fields -/

def digitVal (b : Byte) : Option Nat :=
  let n := b.toNat
  if 48 ≤ n ∧ n ≤ 57 then some (n - 48) else none
def hexVal (b : Byte) : Option Nat :=
  let n := b.toNat
  if 48 ≤ n ∧ n ≤ 57 then some (n - 48) else if 65 ≤ n ∧ n ≤ 70 then some (n - 55)
  else if 97 ≤ n ∧ n ≤ 102 then some (n - 87) else none
def parseDec (l : Bytes) : Option Nat := l.foldl (fun a b => match a, digitVal b with
  | some x, some d => some (x * 10 + d) | _, _ => none) (some 0)
def parseHex (l : Bytes) : Option Nat := l.foldl (fun a b => match a, hexVal b with
  | some x, some d => some (x * 16 + d) | _, _ => none) (some 0)
def hexDigit (n : Nat) : Byte := BitVec.ofNat 8 (if n < 10 then 48 + n else 55 + n)
def hexBytes (l : Bytes) : Bytes := l.flatMap fun b => [hexDigit (b.toNat / 16), hexDigit (b.toNat % 16)]
/-- The bytes that pairs of hexadecimal characters spell. -/
def unhex : Bytes → Option Bytes
  | a :: b :: l => match hexVal a, hexVal b, unhex l with
    | some x, some y, some r => some (BitVec.ofNat 8 (x * 16 + y) :: r)
    | _, _, _ => none
  | [] => some []
  | [_] => none

/-! ### Usage rows (R256) -/

/-- A row of R256: key usage (two characters), mode of use, USAGE bits, DERIVE_CLASS. -/
structure UsageRow where
  usage : String
  mode : Nat
  bits : BitVec 16
  cls : Nat

/-- The rows of R256 in table order. -/
def usageRows : List UsageRow :=
  [ ⟨"P0", 66, uPinEnc ||| uDec, 0⟩, ⟨"P0", 69, uPinEnc, 0⟩,
    ⟨"K0", 66, uWrap ||| uUnwrap, 0⟩, ⟨"K0", 69, uWrap, 0⟩, ⟨"K0", 68, uUnwrap, 0⟩,
    ⟨"K1", 66, uWrap ||| uUnwrap, 0⟩, ⟨"K1", 69, uWrap, 0⟩, ⟨"K1", 68, uUnwrap, 0⟩,
    ⟨"D0", 66, uEnc ||| uDecClear, 0⟩, ⟨"D0", 69, uEnc, 0⟩, ⟨"D0", 68, uDecClear, 0⟩,
    ⟨"M1", 67, uMacGen ||| uMacVer, 0⟩, ⟨"M1", 71, uMacGen, 0⟩, ⟨"M1", 86, uMacVer, 0⟩,
    ⟨"M3", 67, uMacGen ||| uMacVer, 0⟩, ⟨"M3", 71, uMacGen, 0⟩, ⟨"M3", 86, uMacVer, 0⟩,
    ⟨"M6", 67, uMacGen ||| uMacVer, 0⟩, ⟨"M6", 71, uMacGen, 0⟩, ⟨"M6", 86, uMacVer, 0⟩,
    ⟨"V0", 67, uPinVer, 0⟩, ⟨"V0", 71, uPinVer, 0⟩, ⟨"V0", 86, uPinVer, 0⟩,
    ⟨"V1", 67, uPinVer, 0⟩, ⟨"V1", 71, uPinVer, 0⟩, ⟨"V1", 86, uPinVer, 0⟩,
    ⟨"V2", 67, uPinVer, 0⟩, ⟨"V2", 71, uPinVer, 0⟩, ⟨"V2", 86, uPinVer, 0⟩,
    ⟨"B0", 88, uDerive, 1⟩, ⟨"B1", 88, uDerive, 2⟩, ⟨"E0", 88, uDerive, 3⟩,
    ⟨"S0", 83, uSign, 0⟩, ⟨"S0", 86, uVerify, 0⟩, ⟨"D1", 68, uDecClear, 0⟩, ⟨"K3", 88, uDerive, 4⟩ ]

/-- The row a block's usage and mode name. -/
def importRow (usage : Bytes) (mode : Nat) : Option UsageRow :=
  usageRows.find? fun r => ascii r.usage == usage && r.mode == mode
/-- The row an export takes: USAGE without EXPORT and the DERIVE_CLASS; among the MAC rows M6 for AES and M1 for TDES;
D1 for an RSA private key; none for a symmetric key that holds DEC without PIN_ENC (no row has those bits). -/
def exportRow (a : Attrs) : Option UsageRow :=
  usageRows.find? fun r =>
    r.bits == a.usage &&& ~~~uExport && (r.mode == a.mode || (a.mode == 0)) &&
    (!hasAny r.bits uDerive || r.cls == deriveClass a) &&
    (!hasAny r.bits (uMacGen ||| uMacVer) || r.usage == (if isAes a.keyType then "M6" else "M1")) &&
    (r.bits != uDecClear || r.usage == (if isRsaPriv a.keyType then "D1" else "D0"))

/-! ### Headers -/

/-- The 0H block's fields (R257). -/
structure Block0H where
  usage : BitVec 16
  worldMask : BitVec 8
  lcMask : BitVec 8
  expiryS : Nat
  keyType : Nat

def parse0H (l : Bytes) : Option Block0H :=
  match unhex l with
  | some d => if d.length = 12 ∧ allZero (slice d 9 3) = true then
      some { usage := BitVec.ofNat 16 (leAt d 0 2), worldMask := BitVec.ofNat 8 (leAt d 2 1),
             lcMask := BitVec.ofNat 8 (leAt d 3 1), expiryS := leAt d 4 4, keyType := leAt d 8 1 } else none
  | none => none
/-- A 0H block with reserved or out-of-range values (R262, KEY_MALFORMED). -/
def bad0H (b : Block0H) : Bool :=
  b.usage.toNat / 2 ^ 13 != 0 || b.worldMask.toNat / 32 != 0 || b.lcMask.toNat / 8 != 0 || !keyTypeKnown b.keyType
def bytes0H (a : Attrs) : Bytes :=
  hexBytes (leBytes 2 a.usage.toNat ++ leBytes 1 a.worldMask.toNat ++ leBytes 1 a.lcMask.toNat ++
    leBytes 4 a.expiryS ++ leBytes 1 a.keyType ++ [0, 0, 0])

/-- Walks the optional blocks: `n` left, `l` what follows. Answers the 0H payload if there is one, an unsupported
block, or an inconsistent length. -/
def walkOptional : (n : Nat) → (l : Bytes) → (seen : Option Bytes) → Except Status (Option Bytes)
  | 0, _, seen => .ok seen
  | n + 1, l, seen =>
    if l.length < 4 then .error St.keyBlockInvalid
    else if l.take 2 == ascii "0H" then
      if slice l 2 4 == ascii "001C" ∧ 30 ≤ l.length then walkOptional n (l.drop 30) (some (slice l 6 24))
      else .error St.keyBlockInvalid
    else match parseHex (slice l 2 2) with
      | none => .error St.keyBlockInvalid
      | some k =>
        if k < 4 ∨ l.length < k then .error St.keyBlockInvalid
        else if l.take 2 == ascii "KS" || l.take 2 == ascii "KV" || l.take 2 == ascii "PB" then
          walkOptional n (l.drop k) seen
        else .error St.keyBlockUnsupported

/-- What a key block says, verified under the wrapping key. -/
structure BlockContent where
  row : UsageRow
  exportable : Bool
  keyType : Nat
  material : Bytes
  ext : Option Block0H

/-- Whether a key of the type and size has an X9.143 form (R255): symmetric, RSA private to 3,072 and public to 16,384 bits,
EC private. -/
def hasBlockForm (k : KeyMat) : Bool :=
  let t := k.attrs.keyType
  isSym t || isEcPriv t || (t == 0x81 && decide (k.material.length ≤ 16384 / 8 + 8)) ||
  (isRsaPriv t && decide (k.material.length ≤ 7 * 3072 / 16 + 8))

/-- The type of a symmetric key by algorithm character and length; DER names the others. -/
def blockKeyType (alg : Nat) (d : Bytes) : Nat :=
  if alg = 84 then (if d.length = 16 then 1 else if d.length = 24 then 2 else 0)
  else if alg = 65 then (if d.length = 16 then 3 else if d.length = 24 then 4 else if d.length = 32 then 5 else 0)
  else Config.derKeyType alg d

/-- Verification of a key block under a wrapping key: lengths and MAC, then the supported features (R255, log 15). -/
def openBlock (kek : KeyMat) (blk : Bytes) : Except Status BlockContent :=
  let kt := kek.attrs.keyType
  let version := (blk.getD 0 0).toNat
  let alg := (blk.getD 7 0).toNat
  let ex := (blk.getD 11 0).toNat
  if blk.length < 16 ∨ parseDec (slice blk 1 4) ≠ some blk.length then .error St.keyBlockInvalid
  else if version ≠ (if isAes kt then 68 else 66) then .error St.keyBlockUnsupported
  else match Config.x9143Unwrap (keyBytes kek) blk with
  | none => .error St.keyBlockInvalid
  | some d =>
    match parseDec (slice blk 12 2) with
    | none => .error St.keyBlockInvalid
    | some n =>
      if slice blk 14 2 ≠ ascii "00" then .error St.keyBlockInvalid
      else if 4 < n then .error St.keyBlockUnsupported
      else match walkOptional n (blk.drop 16) none with
      | .error e => .error e
      | .ok h =>
        if ¬ (ex = 69 ∨ ex = 78 ∨ ex = 83) ∨ ¬ (alg = 84 ∨ alg = 65 ∨ alg = 82 ∨ alg = 69) then
          .error St.keyBlockUnsupported
        else match importRow (slice blk 5 2) (blk.getD 8 0).toNat with
        | none => .error St.keyBlockUnsupported
        | some row =>
          let t := blockKeyType alg d
          let m := if isSym t then d else Config.derDecode t d
          if t = 0 ∨ hasBlockForm { attrs := { keyType := t }, material := m } = false then .error St.keyBlockUnsupported
          else if wrapTooWeak kt t then .error St.keyWrapTooWeak
          else
            match h with
            | none => .ok { row := row, exportable := ex == 69, keyType := t, material := m, ext := none }
            | some l => match parse0H l with
              | none => .error St.keyMalformed
              | some b =>
                if bad0H b then .error St.keyMalformed
                else .ok { row := row, exportable := ex == 69, keyType := t, material := m, ext := some b }

/-- The earlier non-zero expiry (R257). -/
def earlier (a b : Nat) : Nat := if a = 0 then b else if b = 0 then a else min a b

/-- The key an import gives (R257): never wider than block, template and 0H allow. Without a template (kunw) the
world's own masks stand in (log 15). -/
def importKey (world partition parentSlot : Nat) (tmpl : Option Attrs) (c : BlockContent) : Except Status KeyMat :=
  let granted := c.row.bits ||| (if c.exportable then uExport else 0)
  let u1 := match tmpl with | some t => granted &&& t.usage | none => granted
  let u := match c.ext with | some e => u1 &&& e.usage | none => u1
  let wm0 := match tmpl with | some t => t.worldMask | none => worldMaskAllowed world partition
  let lm0 := match tmpl with | some t => t.lcMask | none => 7
  let wm := match c.ext with | some e => wm0 &&& e.worldMask | none => wm0
  let lm := match c.ext with | some e => lm0 &&& e.lcMask | none => lm0
  let x0 := match tmpl with | some t => t.expiryS | none => 0
  let xs := match c.ext with | some e => earlier x0 e.expiryS | none => x0
  let typeBad := (match tmpl with | some t => t.keyType != c.keyType | none => false) ||
    (match c.ext with | some e => e.keyType != c.keyType | none => false)
  let fl0 := match tmpl with | some t => t.flags &&& (fIv64 ||| fPinned) | none => 0
  let a : Attrs :=
    { keyType := c.keyType, usage := u, worldMask := wm, lcMask := lm, expiryS := xs, level := 3, owner := partition,
      flags := fl0 ||| BitVec.ofNat 8 (if hasAny u uDerive then c.row.cls else 0),
      mode := match tmpl with | some t => t.mode | none => 0, nonce := match tmpl with | some t => t.nonce | none => 0 }
  if typeBad ∨ usageNotPermitted a then .error St.keyTypeMismatch
  else if u &&& ~~~uExport = 0 then .error St.keyTemplateDenied
  else if usageConflict 0 a then .error St.keyUsageConflict
  else if wm = 0 ∨ lm = 0 then .error St.keyTemplateDenied
  else if modeAgrees a.mode u = false then .error St.keyTemplateDenied
  else .ok (keyFromTemplate partition parentSlot a c.material)

/-- The ASCII header of an export without version and length, which the build adds (R255, R256, R257). -/
def exportHeader (a : Attrs) (row : UsageRow) : Bytes :=
  ascii row.usage ++
  [BitVec.ofNat 8 (if isTdes a.keyType then 84 else if isAes a.keyType then 65
    else if a.keyType = 0x41 ∨ a.keyType = 0x81 then 82 else 69)] ++
  [BitVec.ofNat 8 (if a.mode = 0 then row.mode else a.mode)] ++ ascii "00" ++ ascii "E" ++ ascii "01" ++ ascii "00" ++
  ascii "0H001C" ++ bytes0H a

/-- The block that a key takes under a wrapping key; its length is the same for every row. -/
def exportBlock (kek k : KeyMat) (pad : Bytes) : Bytes :=
  let row := (exportRow k.attrs).getD ⟨"P0", 66, 0, 0⟩
  Config.x9143Wrap (if isAes kek.attrs.keyType then 68 else 66) (keyBytes kek) (exportHeader k.attrs row)
    (if isSym k.attrs.keyType then keyBytes k else Config.derEncode k.attrs.keyType k.material) pad
/-- Export of a key under a wrapping key: its refusals in the order of R242 and R238, then the block. -/
def sealBlock (kek : KeyMat) (k : KeyMat) (pad : Bytes) : Except Status Bytes :=
  if isEphemeral k.attrs then .error St.keyEphemeral
  else if hasAny k.attrs.usage uExport = false then .error St.keyUsageDenied
  else if hasBlockForm k = false then .error St.keyBlockUnsupported
  else if (exportRow k.attrs).isNone then .error St.keyBlockUnsupported
  else if wrapTooWeak kek.attrs.keyType k.attrs.keyType then .error St.keyWrapTooWeak
  else .ok (exportBlock kek k pad)

end Sys2Proof.Machine
end

