-- ==== Sys2Proof/Machine/GhedoKey.lean ====
section
/-! DEFINITION. Key register instructions: kld, kclr, kmov, kattr, kgen, kdrv, kform, kunw, kexp (05 R176 to R179;
07 R239 to R243). -/

namespace Sys2Proof.Machine

/-! ### Where keys are held (R243, R250, R282) -/

/-- The slots of key slot RAM above the boughs (R230). -/
def State.leafSlots (s : State) : Nat := 65536 - s.partitionCount
/-- The last least recently used entry that is not pinned leaves the slots. -/
def evictLast {β : Type} (pinned : Nat → Bool) : List (Nat × β) → List (Nat × β)
  | [] => []
  | e :: l => if l.any (fun x => !pinned x.1) then e :: evictLast pinned l else if pinned e.1 then e :: evictLast pinned l else l
/-- A key as key slot RAM holds it, with a live counter (R232, R281). -/
def State.keySlot (s : State) (ref : Nat) (k : KeyMat) (v : Nat) : KeySlot :=
  let a := getD ref {} s.store.area
  { v := v, material := slotMaterial a.first a.records.length k, attrs := k.attrs }
/-- A stored key is looked up in key slot RAM; a miss fills it from the record area, and the live counter of its
deterministic IVs becomes R + 65,536 (R243, R282). -/
def State.touchSlot (s : State) (ref : Nat) : State :=
  match getK ref s.store.slots with
  | some v => { s with store := { s.store with slots := (ref, v) :: delK ref s.store.slots } }
  | none =>
    match s.durable.keyNow ref with
    | none => s
    | some k =>
      let pinned := fun r => match s.durable.keyNow r with | some x => isPinned x.attrs | none => false
      let kept := if s.leafSlots ≤ s.store.slots.length then evictLast pinned s.store.slots else s.store.slots
      { s with store := { s.store with slots := (ref, s.keySlot ref k (k.attrs.nonce + 65536)) :: kept } }
/-- The partition's REVOCATION_EPOCH. -/
def State.revEpoch (s : State) (p : Nat) : Nat := match getK p s.durable.parts with | some x => x.revEpoch | none => 0
/-- kld on a cluster: an entry of the key cache slice with the current epoch serves; otherwise the walk looks up the
key and its branch in key slot RAM and the slice takes the key, most recently used first (R250). -/
def State.fillKey (s : State) (c : CoreId) (ref parentSlot : Nat) : State :=
  match c with
  | .sc => s.touchSlot ref
  | .tx n _ =>
    match getK n s.clusters with
    | none => s
    | some x =>
      let ep := getD (refPartition ref) 0 x.epochs
      if getK ref x.slice = some ep then
        { s with clusters := setK n { x with slice := (ref, ep) :: delK ref x.slice } s.clusters }
      else
        let s1 := s.touchSlot ref
        let s2 := if parentSlot = 0 then s1 else s1.touchSlot (mkRef (refPartition ref) 1 parentSlot)
        { s2 with clusters := setK n { x with slice := ((ref, ep) :: delK ref x.slice).take 1024 } s2.clusters }

/-! ### kld (R131, R242) -/

/-- The checks of R242 in order, as of the dispatch snapshot: the key, or the status of the first that fails. The worlds of
the SC have no dispatch and take MONO_NS as it is (log 101). -/
def loadKey (s : State) (k : Core) (ref : Nat) : Except Status KeyMat :=
  if refOk ref = false then .error St.keyMalformed
  else if refPartition ref ≠ k.partition then .error St.keyPartitionDenied
  else match s.durable.keyAt ref k.snapshot with
  | none => .error St.keyNotFound
  | some m =>
    if isTombstone m.attrs then .error St.keyInvalidated
    else if m.attrs.worldMask.getLsbD k.world = false then .error St.keyWorldDenied
    else if m.attrs.lcMask &&& lcBit s.lifecycle = 0 then .error St.keyLifecycleDenied
    else if m.attrs.expiryS ≠ 0 ∧ m.attrs.expiryS * 10 ^ 9 ≤ (if k.world = 0 ∨ k.world = 3 then s.mono else k.dispatched) then .error St.keyExpired
    else if refKind ref ≠ 1 ∧ s.durable.ancestryOk k.partition k.snapshot m.attrs = false then
      .error St.keyAncestorInvalid
    else .ok m

/-- A handle for a reference, and the state with the stores filled. -/
def State.kld (s : State) (c : CoreId) (k : Core) (ref : Nat) : Except Status (Handle × State) :=
  match loadKey s k ref with
  | .error e => .error e
  | .ok m => .ok ({ ref := some ref, key := m }, s.fillKey c ref m.attrs.parentSlot)

def execKld (c : CoreId) (d : KReg) (a : GReg) (s : State) : Out :=
  .next (s.ghedo c fun k =>
    match s.kld c k (k.getG a).toNat with
    | .error e => .refuse e
    | .ok (h, t) => .done t (k.setK d (some h)).adv)
def execKclr (c : CoreId) (d : KReg) (s : State) : Out := .next (s.ghedoPure c fun k => k.setK d none)
def execKmov (c : CoreId) (d a : KReg) (s : State) : Out :=
  .next (s.ghedo c fun k =>
    match k.getK a with
    | none => .fault St.keyHandleEmpty
    | some h => .done s (k.setK d (some h)).adv)

/-- An attribute of a key (R176): 0 to 4; 5 is the check value, byte 0 in bits 23 to 16. -/
def attrValue (a : Attrs) : Nat → Nat
  | 0 => a.keyType | 1 => a.usage.toNat | 2 => a.generation | 3 => a.expiryS | _ => a.mode
def execKattr (c : CoreId) (d : GReg) (a : KReg) (f : BitVec 5) (s : State) : Out :=
  .next (s.ghedoOn c (.kattr c d a f) fun k =>
    if 5 < f.toNat then .fault St.illegalInstruction
    else match k.getK a with
    | none => .fault St.keyHandleEmpty
    | some h =>
      if f.toNat < 5 then .done s (k.setG d (BitVec.ofNat 64 (attrValue h.key.attrs f.toNat))).adv
      else if isSym h.key.attrs.keyType then
        sbuAct s c k 1 fun t => .done t (k.setG d (BitVec.ofNat 64 (beNat (checkValue h.key)))).adv
      else  -- the spec states no check value for an asymmetric key (log 16)
        .done s.free.2 (k.setG d (BitVec.ofNat 64 (s.free.1 % 2 ^ 24))).adv)

/-! ### Keys made from templates -/

/-- The 32-byte template at an SCR offset, when all of it lies in SCR (R238). -/
def Core.template (k : Core) (a : Nat) : Option Attrs :=
  if k.inWin .scr a 32 then some (parseAttrs (readBytes k.scr a 32)) else none

def execKgen (c : CoreId) (d : KReg) (a : GReg) (s : State) : Out :=
  .next (s.ghedoOn c (.kgen c d a) fun k =>
    match k.template (k.getG a).toNat with
    | none => .fault St.windowViolation
    | some t =>
      match symTemplateError k.world k.partition t with
      | some e => .refuse e
      | none => drawAct s c k (symLen t.keyType) fun st l =>
          .done st (k.setK d (some { ref := none, key := keyFromTemplate k.partition t.parentSlot t l })).adv)

/-! ### kdrv (R177, R240) -/

/-- X9.24-3 key usage indicators in the derivation data: the USAGE bits they allow (PRESUMED values, log 17). -/
def dukptAllows (kui : Nat) : BitVec 16 :=
  if kui = 0x1000 then uPinEnc ||| uDec
  else if kui = 0x2000 ∨ kui = 0x2001 ∨ kui = 0x2002 then uMacGen ||| uMacVer
  else if kui = 0x3000 ∨ kui = 0x3001 ∨ kui = 0x3002 then uEnc ||| uDecClear
  else if kui = 0x8000 ∨ kui = 0x8001 then uDerive ||| uExport
  else 0
/-- The variant of X9.24-1 that a template's usage selects: 0 PIN, 1 MAC, 2 data, 3 none; nothing when it names none. -/
def tdesVariant (a : Attrs) : Option Nat :=
  let u := a.usage
  if u = uPinEnc ||| uDec then some 0
  else if within u (uMacGen ||| uMacVer) then some 1
  else if within u (uEnc ||| uDecClear) then some 2
  else if hasAny u uDerive && within u (uDerive ||| uExport) && deriveClass a == 2 then some 3
  else none
/-- The table of R240: whether an algorithm may give a child of this template to a parent of this class. -/
def deriveAllowed (alg : Nat) (parentClass : Nat) (b : Bytes) (a : Attrs) : Bool :=
  match alg with
  | 1 =>
    let m := dukptAllows (beNat (slice b 2 2))
    (parentClass == 1 || parentClass == 2) && within a.usage m && (m != uDerive ||| uExport || hasAny a.usage uDerive && deriveClass a == 2)
  | 2 =>
    (parentClass == 1 || parentClass == 2) && decide ((b.getD 8 0).toNat ≤ 1) && allZero (b.drop 9) &&
    (match tdesVariant a with | some v => v != 0 || b.getD 8 0 == 0 | none => false)
  | 3 => parentClass == 3 && within a.usage (uMacGen ||| uMacVer ||| uEnc)
  | 4 => parentClass == 3 && a.usage == uDerive && deriveClass a == 3
  | _ => parentClass == 0 && !hasAny a.usage (uPinEnc ||| uPinVer) && (!hasAny a.usage uDerive || deriveClass a == 0)
/-- The parent types of an algorithm (R177). -/
def deriveParent (alg t : Nat) : Bool :=
  match alg with
  | 1 => isAes t | 2 => t == 1 | 3 => isSym t | 4 => t == 1 | _ => isAes t
/-- Exactly `n` bytes of the derived material; bytes beyond what the algorithm makes are free (log 18). -/
def deriveFit (n draw : Nat) (l : Bytes) : Bytes := l.take n ++ fit (n - l.length) (Config.freeBytes draw (n - l.length))
/-- The child's material (R177). -/
def deriveBytes (alg : Nat) (pt : Nat) (key b : Bytes) (a : Attrs) (draw : Nat) : Bytes :=
  let n := symLen a.keyType
  match alg with
  | 1 => ((List.range (cdiv n 16)).flatMap fun i =>
      aesE key (b.take 1 ++ [BitVec.ofNat 8 (i + 1)] ++ b.drop 2)).take n
  | 2 =>
    let m := fit 16 (Config.dukptNrkg key (b.take 8))
    deriveFit n draw (match tdesVariant a with
      | some 3 => m
      | some v => fit 16 (Config.dukptVariant v (b.getD 8 0).toNat m)
      | none => m)
  | 3 => deriveFit n draw (ecbE pt key (fit (blockLen pt) (b.take 2 ++ [0xF0])) ++ ecbE pt key (fit (blockLen pt) (b.take 2 ++ [0x0F])))
  | 4 => deriveFit n draw (oddParity (tdesE key (b.take 8) ++ tdesE key (xorBytes (b.take 8) (List.replicate 8 0xFF))))
  | _ => ((List.range (cdiv n 16)).flatMap fun i =>
      cmac pt key ([BitVec.ofNat 8 (i + 1)] ++ b ++ beBytes 2 (8 * n))).take n
/-- A derived key, or the status that refuses it: the parent's type and DERIVE, the template's rules, then R240. -/
def derive (world partition : Nat) (parent : Handle) (b : Bytes) (t : Attrs) (alg draw : Nat) : Except Status Handle :=
  match useError parent (deriveParent alg) uDerive with
  | some e => .error e
  | none =>
    match templateError world partition true t with
    | some e => .error e
    | none =>
      if isSym t.keyType = false then .error St.keyTypeMismatch
      else if deriveAllowed alg (deriveClass parent.key.attrs) b t = false then .error St.keyTemplateDenied
      else .ok { ref := none,
                 key := keyFromTemplate partition (sourceParent parent) t
                   (deriveBytes alg parent.key.attrs.keyType (keyBytes parent.key) b t draw) }

def execKdrv (c : CoreId) (d p : KReg) (a : BReg) (t : GReg) (alg : BitVec 8) (s : State) : Out :=
  .next (s.ghedoOn c (.kdrv c d p a t alg) fun k =>
    if alg = 0 ∨ 5 < alg.toNat then .fault St.illegalInstruction
    else match k.getK p with
    | none => .fault St.keyHandleEmpty
    | some h =>
      if (k.getB a).sealed then .fault St.sealViolation
      else match k.template (k.getG t).toNat with
      | none => .fault St.windowViolation
      | some tm =>
        match derive k.world k.partition h (blockBytes (k.getB a).val) tm alg.toNat s.freeCtr with
        | .error e => .refuse e
        | .ok h' => sbuAct s c k (cdiv (symLen tm.keyType) 8) fun st =>
            .done { st with freeCtr := st.freeCtr + 1 } (k.setK d (some h')).adv)

/-- The USAGE bits a kform template may give (R178). -/
def formUsage : BitVec 16 := uEnc ||| uDec ||| uDecClear ||| uMacGen ||| uMacVer
def execKform (c : CoreId) (d : KReg) (a b : BReg) (t : GReg) (s : State) : Out :=
  .next (s.ghedo c fun k =>
    if (k.getB a).sealed ∨ (k.getB b).sealed then .fault St.sealViolation
    else match k.template (k.getG t).toNat with
    | none => .fault St.windowViolation
    | some tm =>
      if keyTypeKnown tm.keyType ∧ isSym tm.keyType = false then .refuse St.keyTypeMismatch
      else match templateError k.world k.partition false tm with
      | some e => .refuse e
      | none =>
        if within tm.usage formUsage = false then .refuse St.keyTemplateDenied
        else
          let m := keyFromTemplate k.partition tm.parentSlot tm
            ((blockBytes (k.getB a).val ++ blockBytes (k.getB b).val).take (symLen tm.keyType))
          .done s (k.setK d (some { ref := none, key := { m with attrs := { m.attrs with flags := m.attrs.flags ||| fEphemeral } } })).adv)

/-! ### kunw and kexp (R179) -/

def execKunw (c : CoreId) (d w : KReg) (win : Win) (a len : GReg) (s : State) : Out :=
  .next (s.ghedoOn c (.kunw c d w win a len) fun k =>
    let x := (k.getG a).toNat
    let n := (k.getG len).toNat
    match k.getK w with
    | none => .fault St.keyHandleEmpty
    | some h =>
      if win = .out ∨ k.inWin win x n = false then .fault St.windowViolation
      else match useError h isSym uUnwrap with
      | some e => .refuse e
      | none =>
        match openBlock h.key (s.readWin k win x n) with
        | .error e => .refuse e
        | .ok content =>
          match importKey k.world k.partition (sourceParent h) none content with
          | .error e => .refuse e
          | .ok m => sbuAct (s.fillWin c k win x n) c k (cdiv n 16) fun st =>
              .done st (k.setK d (some { ref := none, key := m })).adv)

def execKexp (c : CoreId) (d : GReg) (a w : KReg) (win : Win) (addr : GReg) (s : State) : Out :=
  .next (s.ghedoOn c (.kexp c d a w win addr) fun k =>
    let x := (k.getG addr).toNat
    match k.getK a, k.getK w with
    | some ka, some kw =>
      let pad := Config.freeBytes s.freeCtr 32
      let n := (exportBlock kw.key ka.key pad).length
      if k.canStore win x n = false then .fault St.windowViolation
      else match useError kw isSym uWrap with
      | some e => .refuse e
      | none => match sealBlock kw.key ka.key pad with
        | .error e => .refuse e
        | .ok l => sbuAct s c k (cdiv n 16) fun st => .done { st with freeCtr := st.freeCtr + 1 }
              ((k.storeBytes win x l).setG d (BitVec.ofNat 64 n)).adv
    | _, _ => .fault St.keyHandleEmpty)

end Sys2Proof.Machine
end

