-- ==== Sys2Proof/Machine/LneOps.lean ====
section
/-! DEFINITION. The operations of the long-number engines: encodings, descriptor rules, engine time, outcomes
(09 R291 to R301; 06 R217). -/

namespace Sys2Proof.Machine

/-! ### Parameters (R217) and encodings (R294) -/

/-- The private KEY_TYPE of an ALG value; 0 where it names none. -/
def algPrivate (alg : Nat) : Nat :=
  if alg = 1 ∨ alg = 2 then 0x41 else if 3 ≤ alg ∧ alg ≤ 7 then 0x40 + alg
  else if 8 ≤ alg ∧ alg ≤ 0xC then 0x40 + alg
  else if alg = 0x10 ∨ alg = 0x11 then 0x40 + alg
  else if 0x12 ≤ alg ∧ alg ≤ 0x16 then 0x31 + alg
  else if 0x17 ≤ alg ∧ alg ≤ 0x1B then 0x40 + alg
  else if 0x20 ≤ alg ∧ alg ≤ 0x22 then 0x40 + alg else 0
/-- The public KEY_TYPE of an ALG value. -/
def algPublic (alg : Nat) : Nat := if alg = 0xD then 0x8D else if alg ≤ 0xC ∧ alg ≠ 0 then algPrivate alg + 0x40 else 0
def algIsRsa (alg : Nat) : Bool := alg == 1 || alg == 2
/-- Digest bytes of the ALG's hash, for the ALG values that may be prehashed; 0 for the others. -/
def algDigest (alg : Nat) : Nat :=
  if alg = 1 ∨ alg = 2 ∨ alg = 3 ∨ alg = 6 then 32 else if alg = 4 ∨ alg = 7 then 48 else if alg = 5 then 64 else 0
/-- ALG values that take a context: Ed448 and ML-DSA. -/
def algContext (alg : Nat) : Bool := decide (9 ≤ alg ∧ alg ≤ 0xC)
/-- Hash bytes of an OAEP hash parameter. -/
def oaepHash (h : Nat) : Nat := if h = 1 then 32 else if h = 2 then 48 else if h = 3 then 64 else 0

/-- Modulus bits of an RSA key from its stored material: CRT form of 3.5 × bits / 8 + 8 bytes, or n and 8 bytes (R244). -/
def rsaBits (t : Nat) (material : Bytes) : Nat :=
  if t = 0x41 then (material.length - 8) * 16 / 7 else (material.length - 8) * 8
/-- Length of the public value of a private KEY_TYPE: peer value, encapsulation key, result of KEYGEN. -/
def valueLen (t k : Nat) : Nat :=
  match t with
  | 0x50 => 32 | 0x51 => 56
  | 0x57 => 256 | 0x58 => 384 | 0x59 => 512 | 0x5A => 768 | 0x5B => 1024
  | 0x60 => 800 | 0x61 => 1184 | 0x62 => 1568
  | _ => publicLen (t + 0x40) k
/-- Length of a signature of an ALG; 0 for HSS, whose length follows from its parameter sets. -/
def sigLen (alg k : Nat) : Nat :=
  if algIsRsa alg then k else match alg with
  | 3 => 64 | 4 => 96 | 5 => 132 | 6 => 64 | 7 => 96 | 8 => 64 | 9 => 114 | 0xA => 2420 | 0xB => 3309 | 0xC => 4627
  | _ => 0
/-- Length of an ML-KEM ciphertext. -/
def kemCtLen (alg : Nat) : Nat := if alg = 0x20 then 768 else if alg = 0x21 then 1088 else if alg = 0x22 then 1568 else 0
/-- Length of a shared secret of an agreement (PRESUMED from the schemes' standards, log 17). -/
def secretLen (alg : Nat) : Nat :=
  match alg with
  | 0x10 => 32 | 0x11 => 56 | 0x12 => 32 | 0x13 => 48 | 0x14 => 66 | 0x15 => 32 | 0x16 => 48
  | 0x17 => 256 | 0x18 => 384 | 0x19 => 512 | 0x1A => 768 | 0x1B => 1024 | _ => 32

/-! ### Operation groups (R291) -/

def opSign (op : Nat) : Bool := op == 0x01 || op == 0x0B
def opVerify (op : Nat) : Bool := op == 0x02 || op == 0x0C
def opDigest (op : Nat) : Bool := op == 0x0B || op == 0x0C
/-- The parameter is valid for the operation. -/
def paramOk (op p : Nat) : Bool :=
  match op with
  | 0x01 => decide (1 ≤ p ∧ p ≤ 0xC) | 0x0B => decide (1 ≤ p ∧ p ≤ 7)
  | 0x02 => decide (1 ≤ p ∧ p ≤ 0xD) | 0x0C => decide (1 ≤ p ∧ p ≤ 7)
  | 0x03 => decide (0x10 ≤ p ∧ p ≤ 0x1B) | 0x04 => decide (0x20 ≤ p ∧ p ≤ 0x22) | 0x05 => decide (0x20 ≤ p ∧ p ≤ 0x22)
  | 0x06 => decide (1 ≤ p ∧ p ≤ 0xC) || decide (0x10 ≤ p ∧ p ≤ 0x1B) || decide (0x20 ≤ p ∧ p ≤ 0x22)
  | 0x07 => decide (1 ≤ p ∧ p ≤ 3) | 0x08 => decide (1 ≤ p ∧ p ≤ 3)
  | 0x09 => p == 0
  | _ => false
/-- The key an operation demands in KEYREG: type test and usage; nothing where it takes none. -/
def opKey (op p : Nat) : Option ((Nat → Bool) × BitVec 16) :=
  if opSign op then some ((· == algPrivate p), uSign)
  else if opVerify op then some ((· == algPublic p), uVerify)
  else match op with
  | 0x03 => some ((· == algPrivate p), uDerive)
  | 0x05 => some ((· == algPrivate p), uDerive)
  | 0x07 => some ((· == 0x41), uDecClear)
  | _ => none
/-- The operation delivers a key in RESULT_KEYREG. -/
def opResultKey (op : Nat) : Bool := op == 3 || op == 4 || op == 5 || op == 6
/-- The RSA modulus bits in force: the key's, else OPERAND_BITS. -/
def opBitsOf (bits : Nat) (key : Option Handle) : Nat :=
  match key with
  | some h => if h.key.attrs.keyType = 0x41 ∨ h.key.attrs.keyType = 0x81 then rsaBits h.key.attrs.keyType h.key.material else bits
  | none => bits
/-- The largest result of an operation in bytes. -/
def resultLen (op p bits : Nat) : Nat :=
  let k := bits / 8
  if opSign op then sigLen p k
  else match op with
  | 4 => kemCtLen p
  | 6 => valueLen (algPrivate p) k
  | 7 => k - 2 * oaepHash p - 2
  | 8 => k
  | 9 => k
  | _ => 0

/-- OPERAND_BITS as R292 sets it. -/
def opBitsOk (op p bits : Nat) (key : Option Handle) : Bool :=
  let step := bits % 64 == 0
  let own := match key with | some h => bits == 0 || bits == rsaBits h.key.attrs.keyType h.key.material | none => false
  if (opSign op && algIsRsa p) || op == 7 then own
  else if opVerify op && algIsRsa p then
    (match key with | some _ => own | none => step && decide (1024 ≤ bits ∧ bits ≤ 16384))
  else if op == 8 then step && decide (2048 ≤ bits ∧ bits ≤ 16384)
  else if op == 6 && algIsRsa p then step && decide (2048 ≤ bits ∧ bits ≤ 16384)
  else if op == 9 then step && decide (64 ≤ bits ∧ bits ≤ 16384)
  else bits == 0
/-- Operand lengths as R291, R293 and R294 fix them; `b` are the RSA modulus bits in force. -/
def operandsOk (op p b : Nat) (hasKey : Bool) (n0 n1 n2 n3 : Nat) : Bool :=
  let k := b / 8
  let ctx := fun n => if algContext p then decide (n ≤ 255) else n == 0
  let digest := !opDigest op || n0 == algDigest p
  decide (n0 + n1 + n2 + n3 ≤ 69632) &&
  (if opSign op then digest && (if op == 1 then ctx n1 else n1 == 0) && n2 == 0 && n3 == 0
   else if opVerify op then
     digest && (p == 0xD || n1 == sigLen p k) && (if hasKey then n2 == 0 else n2 == publicLen (algPublic p) k) &&
     (if op == 2 then ctx n3 else n3 == 0)
   else match op with
   | 3 => n0 == valueLen (algPrivate p) k && n1 == 0 && n2 == 0 && n3 == 0
   | 4 => n0 == valueLen (algPrivate p) k && n1 == 0 && n2 == 0 && n3 == 0
   | 5 => n0 == kemCtLen p && n1 == 0 && n2 == 0 && n3 == 0
   | 6 => n0 == 0 && n1 == 0 && n2 == 0 && n3 == 0
   | 7 => n0 == k && decide (n1 ≤ 256) && n2 == 0 && n3 == 0
   | 8 => decide (n0 + 2 * oaepHash p + 2 ≤ k) && decide (n1 ≤ 256) && n2 == k + 8 && n3 == 0
   | 9 => n0 == k && decide (1 ≤ n1 ∧ n1 ≤ 2048) && n2 == k && n3 == 0
   | _ => false)

/-! ### Engine time (R295, R296) -/

/-- The time of an RSA private operation, at the next listed length. -/
def rsaPrivateCycles (b : Nat) : Nat :=
  if b ≤ 2048 then 128000 else if b ≤ 3072 then 432000 else if b ≤ 4096 then 960000 else if b ≤ 8192 then 7680000
  else 61440000
/-- M of the RSA public time. -/
def rsaM (b : Nat) : Nat := cdiv (180 * b * b) (2048 * 2048)
def bitLen (n : Nat) : Nat := if n = 0 then 0 else Nat.log2 n + 1
def rsaPublicCycles (b e : Nat) : Nat := (bitLen e + 2) * rsaM b + 420
/-- Table time of an operation; ML-DSA attempts and RSA prime candidates are free (R298, log 7). -/
def tableCycles (op p b e x : Nat) (free : Nat) : Nat :=
  let byAlg := fun (sign verify gen : Nat) => if opSign op then sign else if opVerify op then verify else gen
  match op with
  | 7 => rsaPrivateCycles b + 2000
  | 8 => rsaPublicCycles b e + 1500
  | 9 => 16 * x * max 8 (rsaM b) + 600
  | _ =>
    match p with
    | 1 => byAlg (rsaPrivateCycles b) (rsaPublicCycles b e) free
    | 2 => byAlg (rsaPrivateCycles b) (rsaPublicCycles b e) free
    | 3 => byAlg 25600 51200 24000 | 0x12 => 24000
    | 4 => byAlg 57600 115200 54000 | 0x13 => 54000
    | 5 => byAlg 128000 256000 120000 | 0x14 => 120000
    | 6 => byAlg 30720 61440 28800 | 0x15 => 28800
    | 7 => byAlg 69120 138240 64800 | 0x16 => 64800
    | 8 => byAlg 21840 43200 19200
    | 9 => byAlg 52800 105600 48000
    | 0xA => byAlg (4800 + 9200 * (1 + free % 1000)) 17600 24000
    | 0xB => byAlg (6400 + 11300 * (1 + free % 1000)) 25600 38400
    | 0xC => byAlg (8000 + 20400 * (1 + free % 1000)) 38400 57600
    | 0xD => 200 + free
    | 0x10 => 19200 | 0x11 => 48000
    | 0x17 => if op = 6 then 90000 else 420000
    | 0x18 => if op = 6 then 240000 else 1150000
    | 0x19 => if op = 6 then 520000 else 2500000
    | 0x1A => if op = 6 then 1600000 else 7800000
    | 0x1B => if op = 6 then 3600000 else 17500000
    | 0x20 => if op = 6 then 9600 else if op = 4 then 12000 else 14400
    | 0x21 => if op = 6 then 14400 else if op = 4 then 16800 else 19200
    | 0x22 => if op = 6 then 21600 else if op = 4 then 24000 else 26400
    | _ => 0
/-- Hash time of a message longer than 32 bytes (R296); an HSS verification, which R296 does not name, makes one SHA-256 pass (log 139). -/
def hashCycles (op p n : Nat) : Nat :=
  if n ≤ 32 ∨ (op ≠ 1 ∧ op ≠ 2) then 0
  else match p with
  | 8 => 2 * (82 * cdiv (n + 17) 128)
  | 9 => 2 * (24 * cdiv (n + 1) 136)
  | 0xA => 24 * cdiv (n + 1) 136 | 0xB => 24 * cdiv (n + 1) 136 | 0xC => 24 * cdiv (n + 1) 136
  | 4 => 82 * cdiv (n + 17) 128 | 5 => 82 * cdiv (n + 17) 128 | 7 => 82 * cdiv (n + 17) 128
  | _ => 66 * cdiv (n + 9) 64

/-- Cycles of the levels that an HSS signature names, from its first LMS signature on (R295, R301). -/
def hssLevels : (levels : Nat) → Bytes → Nat
  | 0, _ => 0
  | n + 1, l =>
    let q := lmotsParams (beNat (slice l 4 4))
    let h := lmsHeight (beNat (slice l (40 + 32 * q.1) 4))
    66 * (q.1 * (2 ^ q.2 - 1) + h + 5) + hssLevels n (l.drop (44 + 32 * q.1 + 32 * h + 56))
/-- What stands in for the time that the operation and its lengths do not fix: an HSS job's levels, else a free value. -/
def freeCycles (op p : Nat) (key : Option Handle) (ops : List Bytes) (free : Nat) : Nat :=
  if opVerify op ∧ p = 0xD then
    let pub := match key with | some h => h.key.material | none => ops.getD 2 []
    hssLevels (min 8 (beNat (pub.take 4))) ((ops.getD 1 []).drop 4)
  else free

/-! ### Refusal before the full time (R299) -/

/-- A refusal marked pre-check in R301. -/
def preChecked (op p st : Nat) : Bool :=
  st == St.pointNotOnCurve || (st == St.operandRange && op == 3) ||
  (st == St.operandInvalid && (op == 2 || op == 0xC || op == 4 || op == 8 || op == 9) && !(opVerify op && 3 ≤ p && p ≤ 0xC))
/-- The fixed cycles of a pre-check. -/
def preCheckCycles (op p : Nat) : Nat :=
  if op = 2 ∨ op = 3 ∨ op = 4 ∨ op = 0xC then
    match p with
    | 3 => 600 | 6 => 600 | 0x12 => 600 | 0x15 => 600
    | 4 => 1000 | 7 => 1000 | 0x13 => 1000 | 0x16 => 1000
    | 5 => 1600 | 0x14 => 1600
    | 8 => 2800 | 9 => 6400
    | 0x20 => 1200 | 0x21 => 1800 | 0x22 => 2400
    | _ => 200
  else 200
/-- The engine cycles at which an outcome is reported: the pre-check's, two signing times where both ECDSA nonces fail,
1,000 attempts where ML-DSA finds no signature, else the table time (R299, R301). -/
def reportCycles (op p st table : Nat) : Nat :=
  if preChecked op p st then preCheckCycles op p
  else if st = St.retryLimit ∧ opSign op ∧ 3 ≤ p ∧ p ≤ 7 then 2 * table
  else if st = St.retryLimit ∧ op = 1 ∧ p = 0xA then 4800 + 9200 * 1000
  else if st = St.retryLimit ∧ op = 1 ∧ p = 0xB then 6400 + 11300 * 1000
  else if st = St.retryLimit ∧ op = 1 ∧ p = 0xC then 8000 + 20400 * 1000
  else table

/-! ### Outcomes (R301) -/

/-- What a job gives: a status, the result in SCR, the secret or private key it delivers. -/
structure LneOutcome where
  status : Status
  result : Bytes := []
  secret : Option (Nat × Bytes) := none

/-- The public RSA key of an operation: modulus and exponent, from the operand or the key. -/
def rsaPublicOf (key : Option Handle) (operand : Bytes) (k : Nat) : Nat × Nat :=
  let l := match key with
    | some h => if h.key.attrs.keyType = 0x81 then h.key.material else Config.publicKey 0x41 h.key.material
    | none => operand
  (beNat (slice l 0 k), beNat (slice l k 8))
/-- An RSA key in an operand that R301 refuses at the pre-check. -/
def rsaOperandBad (b n e : Nat) : Bool := n % 2 == 0 || decide (n < 2 ^ (b - 1)) || e % 2 == 0 || decide (e < 3)
/-- Random bytes enter the result of an operation: PSS salts, ECDSA nonces, hedged ML-DSA signatures, encapsulations, generated
keys, OAEP seeds (R291). Every other operation gives the same for the same operands; blinding does not show in a result. -/
def usesRandom (op p : Nat) : Bool :=
  (opSign op && (decide (2 ≤ p ∧ p ≤ 7) || decide (0xA ≤ p ∧ p ≤ 0xC))) || op == 4 || op == 6 || op == 8
/-- The public part that KEYGEN gives; the exponent of an RSA key is 65,537 (R291). -/
def generatedPublic (t k : Nat) (priv : Bytes) : Bytes :=
  if t = 0x41 then fit k (Config.publicKey t priv) ++ beBytes 8 65537 else fit (valueLen t k) (Config.publicKey t priv)
/-- The secret an operation delivers as a kdrv parent (R240). -/
def secretOut (n : Nat) (l : Bytes) : Option (Nat × Bytes) := some (5, fit 32 (Config.secretKey (fit n l)))

/-- The refusal of a verification on its public inputs alone, those marked pre-check in R301 first; `pub` is the public key. -/
def verifyRefusal (p b : Nat) (inOperand : Bool) (n e : Nat) (pub sig : Bytes) : Option Status :=
  if algIsRsa p then
    if inOperand && rsaOperandBad b n e then some St.operandInvalid
    else if n ≤ beNat sig then some St.operandRange
    else if beNat sig = 0 then some St.invalidSignature else none
  else if p = 8 ∨ p = 9 then
    if edPointOk p pub = false then some St.pointNotOnCurve
    else if edPointOk p sig = false ∨ edScalarOk p sig = false then some St.invalidSignature else none
  else if p = 0xD then
    let w := hssCheck pub sig
    if w.unsupported then some St.operandInvalid else if w.consistent = false then some St.invalidSignature else none
  else match curveOf p with
    | some c => if c.pointOk pub = false then some St.pointNotOnCurve else if c.rsBad sig then some St.invalidSignature else none
    | none => none

/-- The outcome of a whole-set operation (R291, R301); operation 0 is a subtree of the device identity, whose nodes the security
controller takes (R451). -/
def lneOutcome (op p bits : Nat) (key : Option Handle) (ops : List Bytes) (rnd : Bytes) : LneOutcome :=
  let b := opBitsOf bits key
  let k := b / 8
  let o0 := ops.getD 0 []
  let o1 := ops.getD 1 []
  let o2 := ops.getD 2 []
  let kt := match key with | some h => h.key.attrs.keyType | none => 0
  let km := match key with | some h => h.key.material | none => []
  let used := if usesRandom op p then rnd else []
  let value := Config.lneResult (op * 256 + p) bits kt km ops used
  let fails := Config.lneFails (op * 256 + p) bits kt km ops used
  let faulty := Config.lneFaulty (op * 256 + p) km ops rnd
  if opSign op then
    if algIsRsa p && faulty then { status := St.lneFaultDetected }
    else if (decide (3 ≤ p ∧ p ≤ 7) || decide (0xA ≤ p ∧ p ≤ 0xC)) && fails then { status := St.retryLimit }
    else { status := 0, result := fit (sigLen p k) value }
  else if opVerify op then
    match verifyRefusal p b key.isNone (rsaPublicOf key o2 k).1 (rsaPublicOf key o2 k).2 (if key.isSome then km else o2) o1 with
    | some e => { status := e }
    | none => { status := if fails then St.invalidSignature else 0 }
  else match op with
  | 3 =>
    match curveOf p with
    | some c =>
      if c.pointOk o0 = false then { status := St.pointNotOnCurve }
      else if fails then { status := St.operandInvalid }
      else { status := 0, secret := secretOut (secretLen p) value }
    | none =>
      if p = 0x10 ∨ p = 0x11 then
        (if allZero (fit (secretLen p) value) then { status := St.operandInvalid }
         else { status := 0, secret := secretOut (secretLen p) value })
      else if beNat o0 < 2 ∨ ffPrime p - 2 < beNat o0 then { status := St.operandRange }
      else if ffSubgroupOk p (beNat o0) = false then { status := St.operandInvalid }
      else { status := 0, secret := secretOut (secretLen p) value }
  | 4 =>
    if kemKeyOk o0 = false then { status := St.operandInvalid }
    else
      let r := Config.kemEncapsulate o0 rnd
      { status := 0, result := fit (kemCtLen p) r.1, secret := secretOut 32 r.2 }
  | 5 => { status := 0, secret := secretOut 32 value }
  | 6 =>
    if algIsRsa p && fails then { status := St.retryLimit }
    else
      let t := algPrivate p
      let priv := fit (privateLen t bits) (Config.makePrivate t bits rnd)
      { status := 0, result := generatedPublic t k priv, secret := some (t, priv) }
  | 7 =>
    if (rsaPublicOf key [] k).1 ≤ beNat o0 then { status := St.operandRange }
    else if faulty then { status := St.lneFaultDetected }
    else if fails then { status := St.oaepDecodingFailed }
    else { status := 0, result := value.take (k - 2 * oaepHash p - 2) }
  | 8 =>
    if rsaOperandBad b (rsaPublicOf none o2 k).1 (rsaPublicOf none o2 k).2 then { status := St.operandInvalid }
    else { status := 0, result := fit k value }
  | 0 => { status := 0 }
  | _ =>
    let m := beNat o2
    if m % 2 = 0 then { status := St.operandInvalid }
    else { status := 0, result := beBytes (bits / 8) (modExp (beNat o0) m o1) }

/-! ### Draws (R300) -/

/-- The bytes that R291 and R300 state for a job that draws: 64-bit multiples for both CRT exponents, or of the group order, and
ECDSA's additional data; at least one byte for the rest. -/
def statedDraw (op p : Nat) : Nat :=
  if algIsRsa p ∧ opSign op ∨ op = 7 then 16
  else if opSign op ∧ 3 ≤ p ∧ p ≤ 7 then 40
  else if opSign op ∧ (p = 8 ∨ p = 9) ∨ op = 3 ∧ 0x10 ≤ p ∧ p ≤ 0x16 then 8 else 1
/-- The bytes a job draws at load: none where it uses no private key and is no KEYGEN, KEM_ENCAP or OAEP_ENCRYPT; else its
operation's own number, free above what is stated (log 55). -/
def lneNeed (operation bits : Nat) (micro : Bool) (key : Option Handle) (draw : Nat) : Nat :=
  let op := operation / 256
  let p := operation % 256
  let draws := match key with
    | some h => isPrivate h.key.attrs.keyType
    | none => !micro && (op == 4 || op == 6 || op == 8)
  if draws then
    max (if micro then 1 else statedDraw op p)
      (Config.lneDrawBytes operation bits (match key with | some h => h.key.attrs.keyType | none => 0)
        (match key with | some h => h.key.material.length | none => 0)
        (if micro = false ∧ op = 6 ∧ algIsRsa p then draw else 0))
  else 0

end Sys2Proof.Machine
end

