-- ==== Sys2Proof/Machine/GhedoJob.lean ====
section
/-! DEFINITION. Engine jobs: lsub, xsub, jwait, jtest (05 R180 to R184; 04 R133 to R135; 08 R267, R270; 09 R290 to
R293, R309), and the stage and commit group (05 R185; 04 R137, R138). -/

namespace Sys2Proof.Machine

/-! ### Operand references (R181) -/

/-- OFFSET, LEN and WIN of an 8-byte operand reference. -/
structure OperandRef where
  off : Nat
  len : Nat
  win : Nat

def parseRef (l : Bytes) : OperandRef := { off := leAt l 0 4, len := leAt l 4 3, win := leAt l 7 1 }
/-- The window a WIN byte names; OUT and other values are refused. -/
def refWin (w : Nat) : Option Win := if w = 0 then some .inW else if w = 2 then some .scr else if w = 3 then some .tab else none
/-- Every byte of the reference lies in a window it may name. -/
def Core.refOk (k : Core) (r : OperandRef) : Bool :=
  match refWin r.win with
  | some w => k.inWin w r.off r.len
  | none => false
def State.readRef (s : State) (k : Core) (r : OperandRef) : Bytes :=
  match refWin r.win with
  | some w => s.readWin k w r.off r.len
  | none => []
/-- The pages of TAB that a reference reads are filled into the page buffer (R164). -/
def State.fillRef (s : State) (c : CoreId) (k : Core) (r : OperandRef) : State :=
  match refWin r.win with
  | some w => s.fillWin c k w r.off r.len
  | none => s
/-- The 64-byte descriptor at an SCR address, or the fault its address meets (R155, R180, log 20). -/
def Core.descriptor (k : Core) (x : Nat) : Except Status Bytes :=
  if x % 16 ≠ 0 then .error St.alignmentFault
  else if k.inWin .scr x 64 = false then .error St.windowViolation
  else .ok (readBytes k.scr x 64)
/-- The key register a descriptor names: 0 to 7; nothing for 0xFF; `none` outside for other values. -/
def keyRegOf (v : Nat) : Option KReg := if h : v < 8 then some ⟨v, h⟩ else none

/-! ### LNE jobs -/

/-- The staging units in use (R290). -/
def State.lneUnits (s : State) : Nat := (s.lneJobs.map (·.units)).sum
/-- LNE_MICROCODE_GRANT for a partition and program (R310). -/
def State.microGrant (s : State) (p prog : Nat) : Bool := s.cfg 0x0502 (p * 4096 + prog) 0 == 1
def State.microProgram (s : State) (n : Nat) : Option MicroProgram := s.microcode.find? (·.number == n)
/-- Whether a whole-set descriptor keeps R291 to R293. -/
def lneDescriptorOk (d : Bytes) (op p bits : Nat) (key : Option Handle) (keyReg rkey : Nat) (r : List OperandRef) : Bool :=
  let b := opBitsOf bits key
  let n := fun i => (r.map (·.len)).getD i 0
  leAt d 2 1 == 0 && leAt d 7 1 == 0 && allZero (slice d 52 12) &&
  (decide (keyReg < 8) || keyReg == 255) && (decide (rkey < 8) || rkey == 255) &&
  paramOk op p &&
  (if opVerify op then true else (opKey op p).isSome == decide (keyReg < 8)) &&
  opBitsOk op p bits key && operandsOk op p b (decide (keyReg < 8)) (n 0) (n 1) (n 2) (n 3) &&
  (opResultKey op == decide (rkey < 8)) && leAt d 40 4 % 8 == 0 &&
  decide (resultLen op p b ≤ leAt d 44 4)

/-- The status that refuses the key or the template of a valid operation at submission (R156, R292). -/
def lneKeyError (k : Core) (op p : Nat) (key : Option Handle) (tmpl : Attrs) : Option Status :=
  if paramOk op p = false then none
  else match key, opKey op p with
  | some h, some (ty, u) => useError h ty u
  | _, _ =>
    if op = 6 then
      match templateError k.world k.partition false tmpl with
      | some e => some e
      | none => if tmpl.keyType = algPrivate p then none else some St.keyTypeMismatch
    else none

/-- Whether a world and partition may run a microcode program (R309): M none, T those granted to it. -/
def State.microPermitted (s : State) (k : Core) (op : Nat) : Bool :=
  k.world != 4 && (k.world != 2 || s.microGrant k.partition op)
/-- The engine cycles a microcode program declares for an OPERAND_BITS (R307). -/
def microCycles (m : MicroProgram) (bits : Nat) : Option Nat := getK bits m.cycles
/-- Whether operand lengths keep a program's layout. -/
def layoutOk : List (Nat × Nat) → List Nat → Bool
  | (lo, hi) :: l, n :: ns => decide (lo ≤ n ∧ n ≤ hi) && layoutOk l ns
  | [], ns => ns.all (· == 0)
  | _ :: _, [] => false
/-- Whether a microcode descriptor keeps its program's header and the layout of R182. -/
def microDescriptorOk (m : MicroProgram) (d : Bytes) (bits keyReg rkey : Nat) (r : List OperandRef) : Bool :=
  leAt d 2 1 == 1 && leAt d 7 1 == 0 && allZero (slice d 52 12) &&
  (decide (keyReg < 8) || keyReg == 255) && (decide (rkey < 8) || rkey == 255) &&
  (m.keyTypes.isEmpty != decide (keyReg < 8)) && (m.resultKey == decide (rkey < 8)) &&
  (microCycles m bits).isSome && layoutOk m.layout (r.map (·.len)) && decide ((r.map (·.len)).sum ≤ 69632) &&
  leAt d 40 4 % 8 == 0 && decide (m.resultMax ≤ leAt d 44 4)
/-- How a microcode job fails at submission, if it does. -/
def State.microFails (s : State) (k : Core) (d : Bytes) (op bits keyReg rkey : Nat) (r : List OperandRef) : Option Status :=
  match s.microProgram op with
  | none => some St.lneDescriptorInvalid
  | some m =>
    if s.microPermitted k op = false then some St.microcodeNotPermitted
    else if microDescriptorOk m d bits keyReg rkey r then none else some St.lneDescriptorInvalid
/-- The status that refuses the key of a microcode job (R156). -/
def State.microKeyError (s : State) (op : Nat) (key : Option Handle) : Option Status :=
  match s.microProgram op, key with
  | some m, some h => if m.keyTypes.isEmpty then none else useError h m.keyTypes.contains m.usage
  | _, _ => none

/-- Who submits a job: its core, ticket, partition and rank (R302). -/
structure Submitter where
  core : CoreId
  ticket : Nat
  partition : Nat
  rank : Nat
/-- An invocation submits with its request's ticket, partition and class; the SC's jobs rank as class 3. -/
def Core.submitter (k : Core) (c : CoreId) : Submitter :=
  { core := c, ticket := k.req.ticket, partition := k.req.partition, rank := classRank (if c = .sc then 3 else k.cls) }
/-- The most LNE jobs a core may have outstanding (R134, R302). -/
def lneJobLimit (c : CoreId) : Nat := if c = .sc then 256 else 8
/-- The LNE jobs a core has outstanding. -/
def State.lneOutstanding (s : State) (c : CoreId) (k : Core) : Nat :=
  if c = .sc then (s.lneJobs.filter (·.core == .sc)).length else (k.jobs.filter fun j => !j.2).length
/-- The staging units of a job's operands and greatest result (R290). -/
def stagingUnits (ops : List Bytes) (maxRes : Nat) : Nat := cdiv ((ops.map List.length).sum + maxRes) 1024
/-- The engine time of a whole-set job, its free part drawn (R295, R296). -/
def State.lneTable (s : State) (op p bits : Nat) (key : Option Handle) (ops : List Bytes) : Nat :=
  let b := opBitsOf bits key
  tableCycles op p b (rsaPublicOf key (ops.getD 2 []) (b / 8)).2 (ops.getD 1 []).length
    (freeCycles op p key ops (Config.freeNat s.freeCtr)) + hashCycles op p (ops.getD 0 []).length
/-- A job as it is submitted. -/
def State.lneJobOf (s : State) (u : Submitter) (operation bits : Nat) (micro : Bool) (key : Option Handle) (ops : List Bytes)
    (tmpl : Bytes) (maxRes table : Nat) : LneJob :=
  { handle := s.nextHandle, core := u.core, ticket := u.ticket, partition := u.partition, rank := u.rank, submitted := s.mono,
    operation := operation, opBits := bits, micro := micro, key := key, operands := ops, resultKeyReg := 255, resultOffset := 0,
    template := tmpl, units := stagingUnits ops maxRes, table := table, place := .waiting,
    need := lneNeed operation bits micro key (Config.freeNat s.freeCtr) }
/-- A job of the whole set. -/
def State.wholeJob (s : State) (u : Submitter) (op p bits : Nat) (key : Option Handle) (ops : List Bytes) (tmpl : Bytes) : LneJob :=
  s.lneJobOf u (op * 256 + p) bits false key ops tmpl (resultLen op p (opBitsOf bits key)) (s.lneTable op p bits key ops)
/-- A submitted job takes the next handle and enters the wait list. -/
def State.addLne (s : State) (j : LneJob) : State :=
  { s with nextHandle := s.nextHandle + 1, freeCtr := s.freeCtr + 1, lneJobs := s.lneJobs ++ [j] }.wakeLne

def execLsub (c : CoreId) (d a : GReg) (s : State) : Out :=
  .next (s.ghedoOn c (.lsub c d a) fun k =>
    match k.descriptor (k.getG a).toNat with
    | .error e => .fault e
    | .ok ds =>
      let opw := leAt ds 0 2
      let micro := bit (leAt ds 2 1) 0
      let keyReg := leAt ds 3 1
      let bits := leAt ds 4 2
      let rkey := leAt ds 6 1
      let refs := [parseRef (slice ds 8 8), parseRef (slice ds 16 8), parseRef (slice ds 24 8), parseRef (slice ds 32 8)]
      let key := (keyRegOf keyReg).bind k.getK
      let tmplOff := leAt ds 48 4
      let op := opw / 256
      let p := opw % 256
      if keyReg < 8 ∧ key.isNone = true then .fault St.keyHandleEmpty
      else if refs.all k.refOk = false ∨ k.inWin .scr (leAt ds 40 4) (8 + leAt ds 44 4) = false then .fault St.windowViolation
      else if lneJobLimit c ≤ s.lneOutstanding c k then .fault St.jobLimit
      else
        let tmpl := readBytes k.scr tmplOff 32
        -- a template outside SCR fails the job, like every other error of a field (R181)
        let noTmpl := decide (op = 6) && !micro && !k.inWin .scr tmplOff 32
        match (if micro then s.microKeyError opw key else if noTmpl then none else lneKeyError k op p key (parseAttrs tmpl)) with
        | some e => .refuse e
        | none =>
          let t := refs.foldl (fun t r => t.fillRef c k r) s
          let ops := refs.map (s.readRef k)
          let fails : Option Status :=
            if micro then s.microFails k ds opw bits keyReg rkey refs
            else if lneDescriptorOk ds op p bits key keyReg rkey refs && !noTmpl then none else some St.lneDescriptorInvalid
          let j0 : LneJob := match micro, s.microProgram opw with
            | true, some m => t.lneJobOf (k.submitter c) opw bits true key ops tmpl m.resultMax ((microCycles m bits).getD 0)
            | true, none => t.lneJobOf (k.submitter c) opw bits true key ops tmpl 0 0
            | false, _ => t.wholeJob (k.submitter c) op p bits key ops tmpl
          let j1 : LneJob := { j0 with resultKeyReg := rkey, resultOffset := leAt ds 40 4 }
          let j : LneJob := match fails with
            | some e => { j1 with place := .done e, units := 0 }
            | none => j1
          if 2048 < s.lneUnits + j.units then .stall t (.job 0)
          else .done (t.addLne j) ({ k.adv with jobs := (s.nextHandle, false) :: k.jobs }.setG d (BitVec.ofNat 64 s.nextHandle)))

/-! ### Lane jobs -/

/-- The key usage a lane mode demands (R184). -/
def laneUsageError (h : Handle) (mode : Nat) : Option Status :=
  let u := h.key.attrs.usage
  let need : Bool :=
    if mode = 1 ∨ mode = 4 ∨ mode = 6 then hasAny u uEnc
    else if mode = 2 ∨ mode = 5 ∨ mode = 7 then hasAny u uDecClear
    else if mode = 3 then hasAny u uEnc && hasAny u uDecClear
    else hasAny u uMacGen
  if isAes h.key.attrs.keyType = false then some St.keyTypeMismatch
  else if need then none else some St.keyUsageDenied
/-- The values of R183 and R267 outside lengths. -/
def laneFieldsOk (ds : Bytes) (mode tagB ivB : Nat) (ivKey : Bool) (aadLen srcLen : Nat) (stream : Bool) : Bool :=
  let gcm := mode == 4 || mode == 5
  let ccm := mode == 6 || mode == 7
  decide (1 ≤ mode ∧ mode ≤ 8) && leAt ds 1 1 / 4 == 0 && allZero (slice ds 5 3) && allZero (slice ds 36 28) &&
  decide (leAt ds 2 1 < 8) && (!ivKey || mode == 4) &&
  (if gcm then decide (12 ≤ tagB ∧ tagB ≤ 16) && ivB == (if ivKey then 0 else 12)
   else if ccm then (tagB == 4 || tagB == 6 || tagB == 8 || tagB == 10 || tagB == 12 || tagB == 14 || tagB == 16) &&
     decide (7 ≤ ivB ∧ ivB ≤ 13)
   else if mode == 8 then decide (4 ≤ tagB ∧ tagB ≤ 16) && ivB == 0
   else tagB == 0 && ivB == 16) &&
  (gcm || ccm || aadLen == 0) && decide (aadLen ≤ 1048576) && (stream || decide (srcLen ≤ 1048576))
/-- The data length limits of R267 and R285. -/
def laneLengthOk (mode n nonceLen : Nat) (iv : Bytes) : Bool :=
  let top := 2 ^ 36 - 32
  match mode with
  | 1 => decide (16 ≤ n ∧ n ≤ top) && n % 16 == 0
  | 2 => decide (16 ≤ n ∧ n ≤ top) && n % 16 == 0
  | 3 => decide (1 ≤ n ∧ n ≤ top) && decide (beNat iv + cdiv n 16 ≤ 2 ^ 128)
  | 6 => decide (n < 256 ^ (15 - nonceLen)) && decide (n ≤ top)
  | 7 => decide (n < 256 ^ (15 - nonceLen)) && decide (n ≤ top)
  | _ => decide (n ≤ top)

/-- A lane job is submitted: it takes the next handle; one that has not failed at once goes to a lane, or waits for one. -/
def State.submitLane (s : State) (j : LaneJob) : State :=
  let t := { s with nextHandle := s.nextHandle + 1, laneJobs := s.laneJobs ++ [j] }
  match j.place with
  | .done _ => t
  | _ => match t.assignLane with
    | (some l, u) => u.placeOn j.handle l
    | (none, _) => t

def execXsub (c : CoreId) (d a : GReg) (s : State) : Out :=
  .next (s.ghedo c fun k =>
    match k.descriptor (k.getG a).toNat with
    | .error e => .fault e
    | .ok ds =>
      let mode := leAt ds 0 1
      let stream := bit (leAt ds 1 1) 0
      let ivKey := bit (leAt ds 1 1) 1
      let keyReg := leAt ds 2 1
      let tagB := leAt ds 3 1
      let ivB := leAt ds 4 1
      let aad := parseRef (slice ds 16 8)
      let src := parseRef (slice ds 24 8)
      let n := if stream then k.req.payloadLen else src.len
      let outLen := if mode = 8 then 0 else n
      let key := (keyRegOf keyReg).bind k.getK
      if keyReg < 8 ∧ key.isNone = true then .fault St.keyHandleEmpty
      else if (stream = true ∧ (k.req.bulk = false ∨ k.streamJob.isSome = true)) ∨ k.refOk aad = false ∨
          (stream = false ∧ k.refOk src = false) ∨ k.inWin .scr (leAt ds 12 4) tagB = false ∨
          (stream = false ∧ k.inWin .scr (leAt ds 32 4) outLen = false) then .fault St.windowViolation
      else if 2 ≤ (k.jobs.filter (·.2)).length then .fault St.jobLimit
      else
        match (match key with | some h => if 1 ≤ mode ∧ mode ≤ 8 then laneUsageError h mode else none | none => none) with
        | some e => .refuse e
        | none =>
          let iv := readBytes k.scr (leAt ds 8 4) ivB
          let st0 : Option Status :=
            if laneFieldsOk ds mode tagB ivB ivKey aad.len src.len stream = false ∨
                k.inWin .scr (leAt ds 8 4) (if ivKey then 12 else ivB) = false then some St.laneDescriptorInvalid
            else if laneLengthOk mode n ivB iv = false then some St.messageLengthInvalid else none
          let j : LaneJob :=
            { handle := s.nextHandle, core := c, ticket := k.req.ticket, partition := k.req.partition,
              rank := classRank k.cls, submitted := s.mono, assignedAt := s.mono, mode := mode, stream := stream,
              ivFromKey := ivKey, key := key.getD { ref := none, key := { attrs := {}, material := [] } },
              tagBytes := tagB, iv := iv,
              expected := if mode = 5 ∨ mode = 7 then readBytes k.scr (leAt ds 12 4) tagB else [],
              aad := s.readRef k aad, source := if stream then [] else s.readRef k src, dataLen := n,
              destOffset := leAt ds 32 4, tagOffset := leAt ds 12 4, ivOffset := leAt ds 8 4,
              place := match st0 with | some e => .done e | none => .unassigned }
          let k1 : Core := { k.adv with jobs := (s.nextHandle, true) :: k.jobs, outFrozen := k.outFrozen || stream,
                                        streamJob := if stream then some s.nextHandle else k.streamJob }
          .done (((s.fillRef c k aad).fillRef c k (if stream then { src with len := 0 } else src)).submitLane j) (k1.setG d (BitVec.ofNat 64 s.nextHandle)))

/-! ### jwait and jtest -/

/-- The core once an LNE job's result has been made visible (R133, R182). -/
def Core.takeLne (k : Core) (j : LneJob) : Core :=
  match j.place with
  | .done st =>
    if st = 0 then
      let k1 := { k with scr := writeBytes k.scr j.resultOffset (leBytes 8 j.result.length ++ j.result) }
      match keyRegOf j.resultKeyReg, j.resultKey with
      | some r, some h => k1.setK r (some h)
      | _, _ => k1
    else k
  | _ => k
/-- The core once a lane job's output has been made visible (R275). -/
def Core.takeLane (k : Core) (j : LaneJob) : Core :=
  match j.place with
  | .done st =>
    if st = 0 then
      let k1 := if j.stream ∨ j.mode = 8 then k else { k with scr := writeBytes k.scr j.destOffset j.output }
      let k2 := if j.mode = 5 ∨ j.mode = 7 then k1
        else { k1 with scr := writeBytes k1.scr j.tagOffset (j.tag.take j.tagBytes) }
      if j.ivFromKey then { k2 with scr := writeBytes k2.scr j.ivOffset j.iv } else k2
    else k
  | _ => k
def Core.dropJob (k : Core) (h : Nat) : Core := { k with jobs := k.jobs.filter fun j => j.1 != h }

def execJwait (c : CoreId) (d a : GReg) (s : State) : Out :=
  .next (s.ghedoOn c (.jwait c d a) fun k =>
    let h := (k.getG a).toNat
    match getK h k.jobs with
    | none => .fault St.jobHandleInvalid
    | some false =>
      match s.lneJob? h with
      | none => .fault St.jobHandleInvalid
      | some j => match j.place with
        | .done st => .done (s.dropLneJob j) ((((k.takeLne j).dropJob h).setG d (BitVec.ofNat 64 st)).adv)
        | _ => .stall s (.job h)
    | some true =>
      match s.laneJob? h with
      | none => .fault St.jobHandleInvalid
      | some j => match j.place with
        | .done st =>
          -- the record of a STREAM job stays for the trailer (R277)
          .done (if j.stream then s else s.dropLaneJob j) ((((k.takeLane j).dropJob h).setG d (BitVec.ofNat 64 st)).adv)
        | _ => .stall s (.job h))
def execJtest (c : CoreId) (d a : GReg) (s : State) : Out :=
  .next (s.ghedo c fun k =>
    let h := (k.getG a).toNat
    match getK h k.jobs with
    | none => .fault St.jobHandleInvalid
    | some lane =>
      let done := if lane then (match s.laneJob? h with | some j => (match j.place with | .done _ => true | _ => false) | none => false)
        else (match s.lneJob? h with | some j => (match j.place with | .done _ => true | _ => false) | none => false)
      .done s (k.setG d (boolWord done)).adv)

/-! ### Stage and commit (R137, R138, R185) -/

def tabBytesOf : CItem → Nat
  | .tabWrite _ d => d.length
  | _ => 0
/-- The order of R155 for a stage instruction: STAGE_AFTER_COMMIT, then STAGE_LIMIT. -/
def Core.stageError (k : Core) (item : CItem) : Option Status :=
  if k.commitMade then some St.stageAfterCommit
  else if 256 ≤ k.stage.length ∨ 65536 < (k.stage.map tabBytesOf).sum + tabBytesOf item then some St.stageLimit
  else none
def stageAct (s : State) (k : Core) (item : CItem) : Act :=
  match k.stageError item with
  | some e => .fault e
  | none => .done s { k.adv with stage := k.stage ++ [item] }

/-- The key a KEY_PUT item carries: a leaf, its parent already that of R239. -/
def putKey (h : Handle) : KeyMat := { h.key with attrs := { h.key.attrs with level := 3 } }
/-- The four stage instructions have no world of their own in R113 and R185, so in world M they stage their item, which the
commit then refuses with ITEM_NOT_PERMITTED where it is not one of M's (DESIGN CHOICE, log 100). -/
def execSkput (c : CoreId) (kr : KReg) (a : GReg) (s : State) : Out :=
  .next (s.ghedo c fun k =>
    match k.getK kr with
    | none => .fault St.keyHandleEmpty
    | some h =>
      let item := CItem.keyPut (k.getG a).toNat (putKey h)
      match k.stageError item with
      | some e => .fault e
      | none => if isEphemeral h.key.attrs then .refuse St.keyEphemeral else stageAct s k item)
/-- In world M as skput (log 100). -/
def execSkinv (c : CoreId) (a : GReg) (s : State) : Out :=
  .next (s.ghedo c fun k => stageAct s k (.keyInvalidate (k.getG a).toNat))
/-- In world M as skput (log 100). -/
def execSctr (c : CoreId) (a b : GReg) (s : State) : Out :=
  .next (s.ghedo c fun k =>
    if 65536 ≤ (k.getG a).toNat then .fault St.windowViolation
    else stageAct s k (.ctrAdd (k.getG a).toNat (k.getG b).toInt))
/-- In world M as skput (log 100). -/
def execStab (c : CoreId) (a b : GReg) (s : State) : Out :=
  .next (s.ghedo c fun k =>
    let x := (k.getG b).toNat
    if x % 16 ≠ 0 then .fault St.alignmentFault
    else if 255 < (k.getG a).toNat ∨ k.inWin .scr x 4096 = false then .fault St.windowViolation
    else stageAct s k (.tabWrite (k.getG a).toNat (readBytes k.scr x 4096)))
/-- The length of the program image at an SCR address: header, code, SIG_LEN and signature (R142). -/
def Core.imageLen (k : Core) (x : Nat) : Nat :=
  let code := leAt (readBytes k.scr (x + 16) 4) 0 4
  130 + code + leAt (readBytes k.scr (x + 128 + code) 2) 0 2
/-- The body length of an item kind that sitem takes from SCR: its item header gives none, so the kind's own (R341); a
PROGRAM_PUT body is an image of R142, whose CODE_BYTES and SIG_LEN give its length, a KEY_PUT body has the extension records that its
first record counts (log 106). -/
def Core.itemBodyLen (k : Core) (kind x : Nat) : Nat :=
  match kind with
  | 1 => 8 + 512 * (1 + leAt (readBytes k.scr (x + 68) 2) 0 2)
  | 2 => 16 | 3 => 16 | 4 => 4112 | 5 => k.imageLen x | 6 => 8 | 7 => 56 | 8 => 16 | 0x19 => 8 | 0x20 => 8
  | _ => 8
/-- An item from its kind and body, where the two decode (R341). -/
def decodeItem (kind : Nat) (b : Bytes) : CItem :=
  match kind with
  | 2 => if b.length = 16 ∧ allZero (b.drop 8) = true then .keyInvalidate (leAt b 0 8) else .malformed 2
  | 3 => if b.length = 16 ∧ allZero (slice b 4 4) = true ∧ leAt b 0 4 < 65536 then
      .ctrAdd (leAt b 0 4) (BitVec.ofNat 64 (leAt b 8 8)).toInt else .malformed 3
  | 4 => if b.length = 4112 ∧ allZero (slice b 2 14) = true ∧ leAt b 0 2 < 256 then .tabWrite (leAt b 0 2) (b.drop 16)
      else .malformed 4
  | 5 => .programPut b
  | 6 => if b.length = 8 ∧ allZero (b.drop 2) = true then .programDelete (leAt b 0 2) else .malformed 6
  | 7 => if b.length = 56 ∧ allZero (slice b 2 2) = true ∧ allZero (slice b 9 7) = true ∧ leAt b 8 1 ≤ 40 ∧
        allZero (b.drop (16 + leAt b 8 1)) = true then
      .configSet (leAt b 0 2) (leAt b 4 4) (slice b 16 (leAt b 8 1)) else .malformed 7
  | 0x19 => if b.length = 8 ∧ allZero (b.drop 1) = true then .rngSourceEnable (leAt b 0 1) else .malformed 0x19
  | 0x20 => if b.length = 8 ∧ allZero (b.drop 1) = true ∧ leAt b 0 1 < 2 then .bootPreferredSlot (leAt b 0 1)
      else .malformed 0x20
  | n => .malformed n
/-- A KEY_PUT item from its body: REFERENCE, then the records of that leaf under the partition's bough, opened as they are staged
(R244, R341, log 121). -/
def State.decodeKeyPut (s : State) (p : Nat) (b : Bytes) : CItem :=
  let recs := pieces 512 (b.drop 8)
  match openRecords (s.boughOf p) recs.length recs with
  | some [(r, k)] => if r = leAt b 0 8 ∧ isTombstone k.attrs = false ∧ k.attrs.level = 3 then .keyPut r k else .malformed 1
  | _ => .malformed 1
/-- The number in a TAB_WRITE or CTR_ADD body that R185 refuses: a page above 255, a counter of 65,536 or more. -/
def itemNumberBad (kind : Nat) (b : Bytes) : Bool :=
  (kind == 4 && decide (255 < leAt b 0 2)) || (kind == 3 && decide (65536 ≤ leAt b 0 4))
def execSitem (c : CoreId) (a b : GReg) (s : State) : Out :=
  .next (s.ghedo c fun k =>
    let x := (k.getG b).toNat
    let kind := (k.getG a).toNat
    if k.world ≠ 1 ∧ k.world ≠ 4 then .fault St.illegalInstruction
    else if kind = 4 ∧ x % 16 ≠ 0 then .fault St.alignmentFault
    else if k.inWin .scr x (k.itemBodyLen kind x) = false ∨ itemNumberBad kind (readBytes k.scr x 16) = true then
      .fault St.windowViolation
    else
      let b := readBytes k.scr x (k.itemBodyLen kind x)
      stageAct s k (if kind = 1 then s.decodeKeyPut k.partition b else decodeItem kind b))

end Sys2Proof.Machine
end

