-- ==== Sys2Proof/Machine/LneEvents.lean ====
section
/-! DEFINITION. How LNE jobs share engines: load, yield, completion, age promotion, starvation (09 R297 to R308). -/

namespace Sys2Proof.Machine

/-- The free bank of an engine, the lower number first; a suspended engine keeps both banks taken until its
pre-emptor ends, and takes no preload before the switch back (R304). -/
def Lne.freeBank (e : Lne) : Option Nat :=
  if e.suspended.isSome then none
  else if e.bank0.job.isNone then some 0 else if e.bank1.job.isNone then some 1 else none
/-- A free bank last owned by a partition, else none. -/
def Lne.ownFree (e : Lne) (p : Nat) : Option Nat :=
  if e.suspended.isSome then none
  else if e.bank0.job.isNone && e.bank0.owner == some p then some 0
  else if e.bank1.job.isNone && e.bank1.owner == some p then some 1 else none
/-- The first engine that answers, by number. -/
def firstLne (f : Lne → Option Nat) : List (Nat × Lne) → Option (Nat × Nat)
  | [] => none
  | (n, e) :: l => match f e with
    | some b => some (n, b)
    | none => firstLne f l
/-- Where R303 loads a job of a partition: idle engine with an own bank, idle engine, busy engine with an own bank,
busy engine, each by lowest number. -/
def State.lneTarget (s : State) (p : Nat) : Option (Nat × Nat) :=
  let l := sortByKey (s.lnes.filter fun e => e.2.power.awake)
  let idle := l.filter fun e => e.2.empty
  let busy := l.filter fun e => !e.2.empty
  (firstLne (·.ownFree p) idle) <|> (firstLne Lne.freeBank idle) <|> (firstLne (·.ownFree p) busy) <|> (firstLne Lne.freeBank busy)
/-- A preloaded, unstarted job of lower rank that gives its bank to a job of higher rank (R303); of several the lowest-numbered engine's,
and only where no bank is free (log 138). -/
def State.lneDisplace (s : State) (rank : Nat) : Option (Nat × Nat × LneJob) :=
  let f := fun (e : Lne) => match e.active with
    | some a => if e.suspended.isSome then none else match (e.bank (1 - a)).job.bind s.lneJob? with
      | some w => if rank < w.rank then some (1 - a) else none
      | none => none
    | none => none
  match firstLne f (sortByKey (s.lnes.filter fun e => e.2.power.awake)) with
  | some (n, b) => match ((getD n {} s.lnes).bank b).job.bind s.lneJob? with
    | some w => some (n, b, w)
    | none => none
  | none => none

/-- The draw of a job in its bank, where expander 16 can serve it: its bits are held for its start (R300). -/
def State.drawLne (s : State) (h : Nat) : State :=
  match s.lneJob? h with
  | none => s
  | some j => match j.place with
    | .loaded n _ =>
      if j.drawn then s
      else match s.tryReads 16 (.lneJob h) [j.need] with
        | (some l, t) => (t.updLneJob h fun x => { x with drawn := true, rnd := l }).resumeLne n
        | (none, t) => t
    | _ => s
/-- The loaded jobs that still wait for random bits draw when expander 16 can deliver again, in the order of their loads
(R325, R327). -/
def State.drawLoaded (s : State) : State :=
  (sortByKey ((s.lneJobs.filter fun j => !j.drawn).map fun j => (j.loadedAt, j.handle))).foldl (fun t e => t.drawLne e.2) s
/-- A job is loaded into a bank; on an idle engine it starts, once it has its random bits (R300, R303). -/
def State.loadLne (s : State) (j : LneJob) (n b : Nat) : State :=
  match getK n s.lnes with
  | none => s
  | some e =>
    let e1 := { e.setBank b { owner := some j.partition, job := some j.handle } with
                power := .active, active := if e.active.isNone then some b else e.active }
    let t := { s with lnes := setK n e1 s.lnes }.updLneJob j.handle fun x =>
      { x with place := .loaded n b, loadedAt := s.mono, drawn := j.need == 0, since := none, woke := false }
    (t.resumeLne n).drawLne j.handle

/-- A preloaded, unstarted job returns to the list in its place (R303). -/
def State.unloadLne (s : State) (w : LneJob) (n b : Nat) : State :=
  let t := s.updLneJob w.handle fun x => { x with place := .waiting, since := none, drawn := true, rnd := [] }
  match getK n t.lnes with
  | some e => { t with lnes := setK n (e.setBank b { e.bank b with job := none }) t.lnes }
  | none => t
/-- The head of the wait list is loaded where R303 says; a job for which an engine resumes waits for it (R305). -/
def State.lneJobLoad (s : State) : State :=
  match s.lneNext with
  | none => s
  | some j =>
    let idle := s.lnes.any fun e => e.2.power.awake && e.2.empty
    if j.woke = true ∧ idle = false ∧ (s.lnes.any fun e => e.2.power == .resuming) = true then s
    else match s.lneTarget j.partition with
    | some (n, b) => (s.loadLne j n b).wakeLne
    | none =>
      match s.lneDisplace j.rank with
      | some (n, b, w) => ((s.unloadLne w n b).loadLne j n b).wakeLne
      | none => s.wakeLne

/-- The cycles a job has spent in its bank by now: 2.4 cycles a nanosecond (R289). -/
def LneJob.spent (j : LneJob) (now : Nat) : Nat :=
  match j.since with
  | some t => j.ran + (now - t) * 12 / 5
  | none => j.ran
/-- A switch at a yield point when the preloaded job ranks higher, or ranks with it and is short enough (R304). -/
def State.lneYield (s : State) (n : Nat) : State :=
  match getK n s.lnes with
  | none => s
  | some e =>
    match e.active, e.suspended with
    | some a, none =>
      match (e.bank a).job.bind s.lneJob?, (e.bank (1 - a)).job.bind s.lneJob? with
      | some j, some w =>
        let left := j.table - j.spent s.mono
        let go := decide (w.rank < j.rank) || (w.rank == j.rank && decide (w.table * s.cfg 0x0501 0 8 ≤ left))
        if go && w.drawn && j.since.isSome then
          ({ s with lnes := setK n { e with active := some (1 - a), suspended := some a } s.lnes }.updLneJob j.handle
            fun x => { x with ran := j.spent s.mono, since := none }).updLneJob w.handle
            fun x => { x with since := some s.mono }
        else s
      | _, _ => s
    | _, _ => s

/-- The outcome of a job, its random bits those drawn at load. -/
def LneJob.outcome (s : State) (j : LneJob) : LneOutcome :=
  if j.micro then
    match s.microProgram j.operation with
    | none => { status := St.aborted }
    | some m =>
      match Config.microcode j.operation (match j.key with | some h => h.key.material | none => []) j.operands j.rnd with
      | .ok l => { status := 0, result := l.1.take m.resultMax,
                   secret := if m.resultKey then some (5, fit 32 (Config.secretKey l.2)) else none }
      | .error _ => { status := St.aborted }
  else lneOutcome (j.operation / 256) (j.operation % 256) j.opBits j.key j.operands j.rnd
/-- The key a job delivers: a KEYGEN private key with the template's attributes, else a kdrv parent of class 0 (R240,
R291, R239), whose other attributes are the model's (log 134). -/
def LneJob.keyOf (j : LneJob) (ty : Nat) (m : Bytes) : Handle :=
  let t := parseAttrs j.template
  if j.operation / 256 = 6 ∧ j.micro = false then
    { ref := none, key := keyFromTemplate j.partition t.parentSlot t m }
  else
    { ref := none,
      key := { attrs := { keyType := ty, usage := uDerive, owner := j.partition, worldMask := 0x06, lcMask := 7,
                          parentSlot := match j.key with | some h => sourceParent h | none => t.parentSlot % 256 },
               material := m } }

/-- The job's engine goes on: bank freed, or wiped as for an abort (R300, R308); the other bank's job resumes or starts
(R304). -/
def State.lneFinish (s : State) (j : LneJob) (n b : Nat) (wipe : Bool) (st : Status) (res : Bytes) (key : Option Handle) : State :=
  let s1 := s.updLneJob j.handle fun x =>
    { x with place := .done st, result := res, resultKey := key, ran := j.table, since := none }
  match getK n s1.lnes with
  | some e =>
    let gone := (getK j.partition s.durable.parts).isNone  -- the bank of a deleted partition is wiped too (R306)
    ({ s1 with lnes := setK n (e.dropJob s.mono b (wipe || gone)) s1.lnes }.resumeLne n).wakeLne
  | none => s1
/-- Completion at the time of R299: status and result posted, MONO_NS at least at that time (log 2). -/
def State.lneComplete (s : State) (n : Nat) : State :=
  match getK n s.lnes with
  | none => s
  | some e =>
    match e.active with
    | none => s
    | some b =>
      match (e.bank b).job.bind s.lneJob? with
      | none => s
      | some j =>
        match j.since with
        | none => s
        | some t =>
          let o := j.outcome s
          let full := if j.micro then j.table else reportCycles (j.operation / 256) (j.operation % 256) o.status j.table
          let s0 := { s with mono := max s.mono (t + cdiv ((full - j.ran) * 5) 12) }
          let s1 := if o.status = St.lneFaultDetected ∨ o.status = St.retryLimit ∨ o.status = St.aborted then
            s0.event (tapOf j.core) o.status [j.ticket] else s0
          s1.lneFinish j n b (j.micro && o.status == St.aborted) o.status o.result (o.secret.map fun x => j.keyOf x.1 x.2)
def State.lneAge (s : State) (h : Nat) : State :=
  match s.lneJob? h with
  | some j => if j.place = .waiting then
      ({ s with mono := max s.mono (j.submitted + 10 ^ 7) }.updLneJob h fun x => { x with rank := 0 }).wakeLne else s
  | none => s
/-- A loaded job that could not draw within 1 ms fails with RNG_STARVED and is wiped (R300). -/
def State.lneStarve (s : State) (h : Nat) : State :=
  match s.lneJob? h with
  | some j => match j.place with
    | .loaded n b => if j.drawn then s else
        ({ s with mono := max s.mono (j.loadedAt + 10 ^ 6) }.scEvent St.rngStarved [16]).lneFinish j n b true St.rngStarved [] none
    | _ => s
  | none => s

/-! ### Handshake work (R72, R94, R95, R302) -/

/-- The LNE operations of a handshake, one after another: the ephemeral X25519 key, ML-KEM-768 encapsulation, X25519 agreement,
the two signatures (R69, R70; log 109). -/
def helloOps : List Nat := [0x0610, 0x0421, 0x0310, 0x0104, 0x010B]
/-- The job of one of them: partition 0's, of rank class 3. Its signatures cover 49 bytes (R70). -/
def State.helloJob (s : State) (h : Hello) (op : Nat) : LneJob :=
  let u : Submitter := { core := .sc, ticket := h.ticket, partition := 0, rank := classRank 3 }
  let key := fun (t : Nat) (m : Bytes) => some ({ ref := none, key := { attrs := { keyType := t }, material := m } } : Handle)
  let seed := match s.sc.identity with | some (x, _) => x | none => []
  match op with
  | 0x0610 => s.wholeJob u 6 0x10 0 none [[], [], [], []] (attrsBytes { keyType := 0x50 })
  | 0x0421 => s.wholeJob u 4 0x21 0 none [slice h.body 136 1184, [], [], []] []
  | 0x0310 => s.wholeJob u 3 0x10 0 (key 0x50 (fit 32 (h.rnds.headD []))) [slice h.body 104 32, [], [], []] []
  | 0x0104 => s.wholeJob u 1 0x04 0 (key 0x44 (Config.makePrivate 0x84 0 seed)) [List.replicate 49 0, [], [], []] []
  | _ => s.wholeJob u 1 0x0B 0 (key 0x4B (Config.makePrivate 0x8B 0 seed)) [List.replicate 49 0, [], [], []] []
def State.setHello (s : State) (h : Hello) : State :=
  { s with net := { s.net with hellos := s.net.hellos.map fun x => if x.sid = h.sid then h else x } }
/-- The SC's jobs and the staging store leave room for one more job of the security controller (R290, R302). -/
def State.scJobFits (s : State) (j : LneJob) : Bool :=
  decide ((s.lneJobs.filter (·.core == .sc)).length < lneJobLimit .sc) && decide (s.lneUnits + j.units ≤ 2048)
/-- A handshake collects its job once it is done, and submits the next one where there is room. -/
def State.helloStep (s : State) (h : Hello) : State :=
  let d := match h.job.bind s.lneJob? with
    | some j => match j.place with
      | .done st => (s.dropLneJob j, { h with job := none, rnds := h.rnds ++ [j.rnd], starved := h.starved || st == St.rngStarved })
      | _ => (s, h)
    | none => (s, h)
  match d.2.job, d.2.left with
  | none, op :: l =>
    let j := d.1.helloJob d.2 op
    if d.2.starved ∨ d.1.scJobFits j = false then d.1.setHello d.2
    else
      (d.1.addLne j).setHello { d.2 with job := some j.handle, left := l }
  | _, _ => d.1.setHello d.2
/-- The job that checks a client's signature under the public key of its credential: partition 0's, of rank class 3 (R71, R72). -/
def State.finishJob (s : State) (x : Session) (c : FinishCheck) : LneJob :=
  s.wholeJob { core := .sc, ticket := c.ticket, partition := 0, rank := classRank 3 } 2 (c.key.attrs.keyType - 0x80) 0
    (some { ref := none, key := c.key }) [ascii "caravan v1 client" ++ x.th, c.sig, [], []] []
/-- A signature check that has been dispatched submits its job where there is room. -/
def State.finishStep (s : State) (x : Session) : State :=
  match x.check with
  | some c =>
    let j := s.finishJob x c
    if c.ticket = 0 ∨ c.job.isSome ∨ s.scJobFits j = false then s
    else { s.addLne j with net := { s.net with sessions := s.net.sessions.map fun y =>
            if y.id = x.id then { y with check := some { c with job := some j.handle } } else y } }
  | none => s
/-- Every handshake goes on as far as it can. -/
def State.helloWork (s : State) : State := s.net.sessions.foldl State.finishStep (s.net.hellos.foldl State.helloStep s)
/-- The work of a handshake is dispatched: MODULE_RANDOM is drawn, where it can be, and its first job submitted; or the check of a
client's signature begins. -/
def State.beginHello (s : State) (sid ticket : Nat) : State :=
  match s.net.hellos.find? (·.sid == sid) with
  | none => State.helloWork { s with net := { s.net with sessions := s.net.sessions.map fun y =>
      if y.id = sid then { y with check := y.check.map fun c => { c with ticket := ticket } } else y } }
  | some h =>
    let r := if s.canDraw 12 then s.random 12 32 else ([], s)
    (r.2.setHello { h with ticket := ticket, begun := s.mono, random := r.1, left := helloOps }).helloWork

def execLneJobLoad (s : State) : Out := .next s.lneJobLoad
def execLneYieldPoint (engine : Nat) (s : State) : Out := .next (s.lneYield engine)
def execLneAgePromotion (handle : Nat) (s : State) : Out := .next (s.lneAge handle)

end Sys2Proof.Machine
end

