-- ==== Sys2Proof/Machine/LaneEvents.lean ====
section
/-! DEFINITION. How lane jobs share lanes, draw deterministic IVs and complete, and how mask generators get their seeds
(08 R265 to R285). -/

namespace Sys2Proof.Machine

/-! ### Choice (R272) -/

def State.quantum (s : State) : Nat := s.cfg 0x0401 0 4096
def State.resumeBlocks (s : State) : Nat := s.cfg 0x0402 0 512
/-- Rank, then ticket (R272 rule 5). -/
def laneBefore (a b : LaneJob) : Bool := decide (a.rank < b.rank) || (a.rank == b.rank && decide (a.ticket < b.ticket))
def laneHead : List LaneJob → Option LaneJob
  | [] => none
  | j :: l => match laneHead l with
    | some h => if laneBefore h j then some h else some j
    | none => some j

/-! ### What a context holds (R267, R268, R271) -/

/-- A job as it starts with its IV: counter and chaining, GHASH or CBC-MAC value after the header. -/
def LaneJob.begin (j : LaneJob) (iv : Bytes) : LaneJob :=
  let key := keyBytes j.key.key
  match j.mode with
  | 1 => { j with iv := iv, chain := iv }
  | 2 => { j with iv := iv, chain := iv }
  | 3 => { j with iv := iv, counter := beNat iv }
  | 4 => { j with iv := iv, counter := 2, chain := gcmStart key j.aad }
  | 5 => { j with iv := iv, counter := 2, chain := gcmStart key j.aad }
  | 6 => { j with iv := iv, counter := 1, chain := ccmStart key iv j.aad j.dataLen j.tagBytes }
  | 7 => { j with iv := iv, counter := 1, chain := ccmStart key iv j.aad j.dataLen j.tagBytes }
  | _ => { j with iv := iv, chain := List.replicate 16 0 }
/-- The last block of a byte string of whole blocks, or what stood before it. -/
def lastBlock (old l : Bytes) : Bytes := if l.length < 16 then old else l.drop (l.length - 16)
/-- Data blocks go through the lane: the context after them, and their output. -/
def LaneJob.feed (j : LaneJob) (l : Bytes) : LaneJob × Bytes :=
  let t := j.key.key.attrs.keyType
  let key := keyBytes j.key.key
  let n := cdiv l.length 16
  match j.mode with
  | 1 => let o := cbcEnc t key j.chain l; ({ j with chain := lastBlock j.chain o }, o)
  | 2 => ({ j with chain := lastBlock j.chain l }, cbcDec t key j.chain l)
  | 3 => ({ j with counter := j.counter + n }, ctrLoop key j.counter (pieces 16 l))
  | 4 => let o := gctr key j.iv j.counter l; ({ j with counter := j.counter + n, chain := ghashOver (gcmH key) j.chain o }, o)
  | 5 => ({ j with counter := j.counter + n, chain := ghashOver (gcmH key) j.chain l }, gctr key j.iv j.counter l)
  | 6 => ({ j with counter := j.counter + n, chain := cbcMacOver key j.chain l }, ccmCtr key j.iv j.counter l)
  | 7 => let o := ccmCtr key j.iv j.counter l; ({ j with counter := j.counter + n, chain := cbcMacOver key j.chain o }, o)
  | _ =>
    if j.position + l.length < j.dataLen then ({ j with chain := cbcMacOver key j.chain l }, [])
    else ({ j with chain := cmacLoop t key j.chain (pieces 16 l) }, [])
/-- Status and tag of a job whose last block has gone in (R183, R267). -/
def LaneJob.finish (j : LaneJob) : Status × Bytes :=
  let t := j.key.key.attrs.keyType
  let key := keyBytes j.key.key
  match j.mode with
  | 4 => (0, gcmTag key j.iv j.chain j.aad.length j.dataLen j.tagBytes)
  | 5 => (if gcmTag key j.iv j.chain j.aad.length j.dataLen j.tagBytes = j.expected then 0 else St.tagMismatch, [])
  | 6 => (0, ccmTag key j.iv j.chain j.tagBytes)
  | 7 => (if ccmTag key j.iv j.chain j.tagBytes = j.expected then 0 else St.tagMismatch, [])
  | 8 => (0, (if j.dataLen = 0 then cmac t key [] else j.chain).take j.tagBytes)
  | _ => (0, [])
/-- `n` data bytes of a job from its position on. -/
def State.laneBytes (s : State) (j : LaneJob) (n : Nat) : Bytes :=
  ((if j.stream then getD j.ticket [] s.bulk else j.source).drop j.position).take n

/-! ### Output and endings (R274 to R277) -/

/-- Header and body of a streamed response are released, once (R276). -/
def State.releaseStream (s : State) (j : LaneJob) : State :=
  if j.released ∨ j.stream = false then s
  else match s.core? j.core with
  | none => s
  | some k =>
    (s.updLaneJob j.handle fun x => { x with released := true }).respond
      { req := k.req, status := 0, body := readBytes k.out 0 k.outTop, bulk := true,
        payloadLen := (if j.mode = 8 then 0 else j.dataLen) + 32, csn := k.commitCsn, snapshot := k.snapshot,
        streamPart := 1 }

/-- An output block of a STREAM job goes to egress as the lane makes it (R276). -/
def State.streamOut (s : State) (j : LaneJob) (out : Bytes) : State :=
  match s.core? j.core with
  | none => s
  | some k => s.respond { req := k.req, status := 0, bulk := true, payload := out, csn := k.commitCsn, snapshot := k.snapshot,
                          streamPart := 4 }
/-- A key handle of no key. -/
def noKey : Handle := { ref := none, key := { attrs := {}, material := [] } }
/-- A job leaves its lane with a status: context slot and lane key register are zeroed, the output stays for jwait; a lane without
jobs idles (R274, log 22). -/
def State.finishLane (s : State) (h : Nat) (st : Status) (out tag : Bytes) : State :=
  match s.laneJob? h with
  | none => s
  | some j =>
    let s1 := s.updLaneJob h fun x =>
      { x with place := .done st, waitIv := false, output := out, tag := tag, slot := none, counter := 0, chain := [], aad := [],
               source := [], expected := [], key := noKey }
    let s2 := match j.lane? with
      | some n => s1.vacate j n
      | none => s1
    s2.assignWaiting s2.laneJobs.length

/-! ### Deterministic IVs (R280 to R284) -/

/-- A reservation of a key's next block of IV values is asked for, once (R281). -/
def State.requestIv (s : State) (ref newR : Nat) : State :=
  if s.seq.waiting.any (fun w => w.src == .iv ref) || s.seq.accepted.any (fun a => a.src == .iv ref) then s
  else
    let items := [CItem.ivReserve ref newR]
    let w : PendingCommit := { src := .iv ref, ticket := 0, partition := refPartition ref, items := items,
                               lines := 2, arrived := s.mono, free := some s.mono }
    { s with seq := { s.seq with waiting := s.seq.waiting ++ [w] } }

/-- What a draw gives: the job fails, it waits for a reservation, or it has its IV. -/
inductive IvDraw where
  | fails (st : Status) | waits (s : State) | drawn (iv : Bytes) (s : State)

/-- The next deterministic IV of a job's key; none under a key that is not the one stored at its reference (log 23) or
that came by PARTITION_RESTORE (R284). -/
def State.drawIv (s : State) (j : LaneJob) : IvDraw :=
  match j.key.ref with
  | none => .fails St.nonceExhausted
  | some r =>
    let t := s.touchSlot r
    match getK r t.store.slots, t.durable.keyNow r with
    | some v, some k =>
      let top := if hasFlag k.attrs.flags fIv64 then 2 ^ 64 else 2 ^ 32
      let start := k.attrs.nonce
      let same := match t.durable.keyLive r with | some x => x.material == j.key.key.material | none => false
      if j.key.key.restored ∨ k.restored ∨ same = false ∨ top ≤ v.v then .fails St.nonceExhausted
      else if start + 65536 ≤ v.v then .waits ((t.requestIv r (start + 65536)).scEvent St.ivReservationWait [r])
      else
        let t1 := { t with store := { t.store with slots := setK r { v with v := v.v + 1 } t.store.slots } }
        .drawn (fixedField j.key.key ++ beBytes 8 v.v)
          (if start + 32768 ≤ v.v + 1 ∧ start + 65536 < top then t1.requestIv r (start + 65536) else t1)
    | _, _ => .fails St.nonceExhausted
/-- The jobs that wait for a key's reservation go on. -/
def State.wakeIv (s : State) (ref : Nat) : State :=
  { s with laneJobs := s.laneJobs.map fun j => if j.key.ref = some ref then { j with waitIv := false } else j }
/-- The reservation was refused: the jobs that wait for it fail (R281). -/
def State.failIv (s : State) (ref : Nat) (cause : Status) : State :=
  let hit := s.laneJobs.filter fun j => j.waitIv && j.key.ref == some ref
  hit.foldl (fun t j => (t.event (tapOf j.core) St.ivReservationUnavailable [cause, j.ticket]).finishLane j.handle
    St.ivReservationUnavailable [] []) s

/-! ### Running (R272) -/

/-- Whole data blocks of a job that are present, up to its quantum. -/
def State.dataBlocks (s : State) (j : LaneJob) : Nat :=
  let whole := if j.dataLen ≤ s.laneAvail j then cdiv (j.dataLen - j.position) 16 else (s.laneAvail j - j.position) / 16
  min whole (if j.blocksRun < j.quantum then j.quantum - j.blocksRun else j.quantum)
/-- The running job takes its header and the input that is there, as far as the mask generator may still mask; what comes out goes to
the shadow, or of a STREAM job to egress after header and body (R268, R272, R275, R276). -/
def State.laneAdvance (s : State) (n : Nat) : State :=
  match s.laneRunning n with
  | none => s
  | some j =>
    let l := s.lane n
    let room := l.mask.limit - l.mask.blocks
    let head := min j.headLeft room
    let m := if head < j.headLeft then 0 else min (s.dataBlocks j) (room - head)
    let d := s.laneBytes j (min (16 * m) (j.dataLen - j.position))
    let f := j.feed d
    let j1 := { f.1 with position := j.position + d.length, blocksRun := j.blocksRun + m, headDone := j.headDone + head
                         output := if j.stream then [] else j.output ++ f.2 }
    let s1 := (s.updLaneJob j.handle fun _ => j1).setLane n { l with mask := { l.mask with blocks := l.mask.blocks + head + m } }
    if j.stream ∧ f.2 ≠ [] then (s1.releaseStream j1).streamOut j1 f.2 else s1

/-- A ready job starts or resumes on its lane with its key in the lane's key register, drawing its IV at its start; the quantum and
the resume threshold are those in force at its start (R271, R280, R287). -/
def State.laneStart (s : State) (n : Nat) (j : LaneJob) : State :=
  let l := s.lane n
  let go := fun (t : State) (f : LaneJob → LaneJob) =>
    let l1 := if j.started then l else { l with shadowUsed := l.shadowUsed + j.shadowUnits }
    ((t.updLaneJob j.handle fun x => { f x with place := .running n, started := true, blocksRun := 0 }).setLane n
      { l1 with power := .active, key := keyBytes j.key.key }).laneAdvance n
  let first := fun (iv : Bytes) (x : LaneJob) => { x.begin iv with quantum := s.quantum, resume := s.resumeBlocks }
  let s := if j.started then s else s.sample (tapOf j.core) 13 (s.mono - j.submitted)
  if j.started then go s id
  else if j.ivFromKey then
    match s.drawIv j with
    | .fails st => s.finishLane j.handle st [] []
    | .waits t => t.updLaneJob j.handle fun x => { x with waitIv := true }
    | .drawn iv t => go t (first iv)
  else go s (first j.iv)

/-- The lane takes its next ready job, if any. -/
def State.lanePick (s : State) (n : Nat) : State :=
  match laneHead (s.laneReady n) with
  | none => s
  | some j => s.laneStart n j

/-- A block boundary of an awake lane that is not stalled: the running job gives way under rules 1 to 3 of R272, or goes
on. -/
def State.laneBoundary (s : State) (n : Nat) : State :=
  match getK n s.lanes with
  | none => s
  | some l =>
    if l.power.awake = false ∨ l.mask.stalled.isSome then s
    else match s.laneRunning n with
    | none => s.lanePick n
    | some j =>
      let better := (s.laneReady n).any fun x => decide (x.rank < j.rank)
      let equal := (s.laneReady n).any fun x => x.rank == j.rank
      let left := decide (j.position < j.dataLen) || decide (0 < j.headLeft)
      if better then (s.updLaneJob j.handle fun x => { x with place := .ready n, blocksRun := 0 }).lanePick n
      else if left ∧ j.quantum ≤ j.blocksRun ∧ equal then
        (s.updLaneJob j.handle fun x => { x with place := .ready n, blocksRun := 0 }).lanePick n
      else if left ∧ s.lanePresent j = false then
        (s.updLaneJob j.handle fun x => { x with place := .suspended n s.mono, blocksRun := 0 }).lanePick n
      else s.laneAdvance n

/-- Rule 4 of R272: a suspended job is ready again when its next blocks are there. -/
def State.laneData (s : State) (ticket : Nat) : State :=
  { s with laneJobs := s.laneJobs.map fun j =>
      if j.ticket = ticket ∧ j.stream = true then
        match j.place with
        | .suspended n _ =>
          if decide (j.dataLen ≤ s.laneAvail j) || decide (j.position + 16 * j.resume ≤ s.laneAvail j) then
            { j with place := .ready n } else j
        | _ => j
      else j }

def execLaneJobStart (lane : Nat) (s : State) : Out := .next (s.laneBoundary lane)
def execLaneResumeTimer (handle : Nat) (s : State) : Out :=
  .next (match s.laneJob? handle with
    | some j => match j.place with
      | .suspended n t =>
        if s.lanePresent j then
          { s with mono := max s.mono (t + 20000) }.updLaneJob handle fun x => { x with place := .ready n }
        else s
      | _ => s
    | none => s)
/-- The running job whose last input block has gone in completes (R274, R276). -/
def State.laneComplete (s : State) (n : Nat) : State :=
  match s.laneRunning n with
  | none => s
  | some j =>
    if j.position < j.dataLen ∨ 0 < j.headLeft ∨ (s.lane n).mask.stalled.isSome then s
    else
      let o := j.finish
      let s1 := s.finishLane j.handle o.1 (if o.1 = 0 then j.output else []) o.2
      let s2 := if o.1 = 0 then s1.releaseStream j else s1
      s2.lanePick n
def execLaneJobComplete (lane : Nat) (s : State) : Out := .next (s.laneComplete lane)
/-- The DRBG named for a job that no lane could take: that of the lowest-numbered stalled lane's group (R279, log 105). -/
def State.stalledExpander (s : State) : Nat :=
  13 + (((s.lanes.filter fun e => e.2.mask.stalled.isSome).map (·.1)).min?.getD 0) / 4
/-- The end of a job's wait for a stalled lane, or for any lane (R279). -/
def State.laneStarve (s : State) (h : Nat) : State :=
  match s.laneJob? h with
  | none => s
  | some j =>
    match j.place, j.lane? with
    | .unassigned, _ =>
      ({ s with mono := max s.mono (j.submitted + 10 ^ 6) }.scEvent St.rngStarved [s.stalledExpander]).finishLane h St.rngStarved [] []
    | _, some n => match (s.lane n).mask.stalled with
      | some t =>
        ({ s with mono := max s.mono (max t j.assignedAt + 10 ^ 6) }.scEvent St.rngStarved [13 + n / 4]).finishLane h
          St.rngStarved [] []
      | none => s
    | _, none => s
def execLaneStallTimeout (handle : Nat) (s : State) : Out := .next (s.laneStarve handle)

/-! ### Mask generators (R278, R279) -/

def State.mask? (s : State) : MaskUnit → Option MaskGen
  | .sbu n u => match getK n s.clusters with | some x => x.sbus[u]? | none => none
  | .lane n => (getK n s.lanes).map (·.mask)
def State.setMask (s : State) (u : MaskUnit) (m : MaskGen) : State :=
  match u with
  | .sbu n i => match getK n s.clusters with
    | some x => { s with clusters := setK n { x with sbus := x.sbus.set i m } s.clusters }
    | none => s
  | .lane n => match getK n s.lanes with
    | some l => s.setLane n { l with mask := m }
    | none => s
/-- At three quarters of the limit a mask generator asks for its next seed. -/
def State.maskRequest (s : State) (u : MaskUnit) : State :=
  match s.mask? u with
  | some m =>
    if m.asked = false ∧ m.limit * 3 ≤ m.blocks * 4 then
      { s.setMask u { m with asked := true } with rng := { s.rng with masks := s.rng.masks ++ [u] } }
    else s
  | none => s
/-- At the limit without a seed the unit stops. -/
def State.maskStall (s : State) (u : MaskUnit) : State :=
  match s.mask? u with
  | some m =>
    if m.stalled.isNone ∧ m.limit ≤ m.blocks then
      (s.setMask u { m with asked := true, stalled := some s.mono }).event
        (match u with | .sbu n _ => n | .lane _ => 16) St.maskReseedStall (match u with | .sbu n i => [n, i] | .lane n => [n])
    else s
  | none => s
/-- A seed that was asked for arrives where the expander can deliver it; a stopped unit goes on. -/
def State.maskSeed (s : State) (u : MaskUnit) : State :=
  match s.mask? u with
  | some m =>
    if m.asked ∧ s.delivers (maskExpander u) 1 then
      let t := (s.random (maskExpander u) 32).2.setMask u { limit := s.maskLimit }
      let t1 := { t with rng := { t.rng with masks := t.rng.masks.filter (· != u) } }
      t1.assignWaiting t1.laneJobs.length
    else s
  | none => s
def execMaskReseedRequest (u : MaskUnit) (s : State) : Out := .next (s.maskRequest u)
def execMaskReseedStall (u : MaskUnit) (s : State) : Out := .next (s.maskStall u)
def execMaskSeedArrival (u : MaskUnit) (s : State) : Out := .next (s.maskSeed u)

end Sys2Proof.Machine
end

