-- ==== Sys2Proof/Machine/ConfigItems.lean ====
section
/-! DEFINITION. Configuration items: who may stage them, their scopes and ranges, and their values in force (11 R342;
02 R47; 03 R93, R94; 07 R243, R245; 08 R287; 09 R310; 10 R328; 12 R354; 15 R434; 16 R476; 17 R508). -/

namespace Sys2Proof.Machine

/-- What the SCOPE of an item names (R342). -/
inductive ScopeKind where
  | module | port | partition | queue | cls | grant | cluster | channel | event
deriving DecidableEq, Repr

/-- The scope of an item; nothing for an ITEM_ID that names none. -/
def itemScope (item : Nat) : Option ScopeKind :=
  match item with
  | 0x0101 => some .port | 0x0102 => some .port | 0x0103 => some .port | 0x0104 => some .port | 0x0105 => some .port
  | 0x0106 => some .module | 0x0107 => some .port | 0x0108 => some .module | 0x0109 => some .module
  | 0x010A => some .module | 0x010B => some .module | 0x010C => some .module | 0x010D => some .partition
  | 0x0201 => some .queue | 0x0202 => some .queue | 0x0203 => some .queue | 0x0204 => some .queue
  | 0x0205 => some .cls | 0x0206 => some .partition | 0x0207 => some .partition | 0x0208 => some .partition
  | 0x0301 => some .partition | 0x0302 => some .partition
  | 0x0401 => some .module | 0x0402 => some .module | 0x0403 => some .module
  | 0x0501 => some .module | 0x0502 => some .grant
  | 0x0601 => some .module | 0x0602 => some .module | 0x0603 => some .module
  | 0x0701 => some .module | 0x0702 => some .module | 0x0703 => some .module
  | 0x0801 => some .module | 0x0802 => some .channel | 0x0803 => some .module | 0x0804 => some .module
  | 0x0805 => some .module | 0x0806 => some .module
  | 0x0901 => some .module | 0x0902 => some .cluster | 0x0903 => some .module
  | 0x0A01 => some .module | 0x0A02 => some .event | 0x0A03 => some .module
  | _ => none

/-- The partition that a scope names. -/
def scopePartition (k : ScopeKind) (scope : Nat) : Option Nat :=
  match k with
  | .partition => some scope | .queue => some (scope / 16) | .cls => some (scope / 4) | .grant => some (scope / 4096)
  | _ => none

/-- The status of a value or scope out of range, by the item's group (R15, R342). -/
def groupStatus (item : Nat) : Status :=
  match item / 256 with
  | 1 => St.netConfigInvalid | 2 => St.queueConfigInvalid | 3 => St.keyConfigInvalid | 4 => St.cipherConfigInvalid
  | 5 => St.lneConfigInvalid | 6 => St.rngConfigInvalid | 7 => St.pairConfigInvalid | 8 => St.platformMalformed
  | 9 => St.powerMalformed | _ => St.diagMalformed

/-- A 4-byte integer in a range. -/
def intIn (v : Bytes) (lo hi : Nat) : Bool := v.length == 4 && decide (lo ≤ leNat v) && decide (leNat v ≤ hi)
/-- A 1-byte enumeration of `n` values. -/
def enumIn (v : Bytes) (n : Nat) : Bool := v.length == 1 && decide (leNat v < n)
/-- One to `most` addresses of `n` bytes, each followed by its prefix length, or none. -/
def addrsIn (v : Bytes) (n most : Nat) : Bool :=
  v.length % (n + 1) == 0 && decide (v.length / (n + 1) ≤ most) &&
  (pieces (n + 1) v).all fun a => decide (leAt a n 1 ≤ 8 * n)

/-- The range of each item's value (R47, R93, R243, R245, R287, R310, R328, R354, R434, R476, R508). -/
def State.valueOk (s : State) (item : Nat) (v : Bytes) : Bool :=
  match item with
  | 0x0101 => enumIn v 4
  | 0x0102 => v.length == 6 && leAt v 0 1 % 2 == 0
  | 0x0103 => intIn v 0 4094
  | 0x0104 => addrsIn v 4 1
  | 0x0105 => addrsIn v 16 2
  | 0x0106 => intIn v 1 65535
  | 0x0107 => intIn v 1280 9194
  | 0x0108 => enumIn v 2
  | 0x0109 => v.length == 0 || (v.length == 20 && leAt v 0 1 / 16 == 14 && leAt v 4 1 == 0xFF)
  | 0x010A => v.length == 6 && decide (10 ≤ leAt v 0 4 ∧ leAt v 0 4 ≤ 100000) && decide (1 ≤ leAt v 4 2 ∧ leAt v 4 2 ≤ 1024)
  | 0x010B => intIn v 256 65536
  | 0x010C => intIn v 1 86400
  | 0x010D => intIn v 1 (s.sessionCount - 1024)
  | 0x0201 => enumIn v 2
  | 0x0202 => intIn v 0 3
  | 0x0203 => intIn v 1 255
  | 0x0204 => intIn v 0 1048576
  | 0x0205 => intIn v 1 255
  | 0x0206 => intIn v 0 1024
  | 0x0207 => intIn v 1 100
  | 0x0208 => intIn v 0 1024
  | 0x0301 => intIn v 0 16384
  | 0x0302 => intIn v 0 16777215
  | 0x0401 => intIn v 256 65536
  | 0x0402 => intIn v 64 1024
  | 0x0403 => v.length == 4 && [65536, 131072, 262144, 524288, 1048576].contains (leNat v)
  | 0x0501 => intIn v 2 64
  | 0x0502 => enumIn v 2
  | 0x0601 => intIn v 20 41
  | 0x0602 => intIn v 730 795
  | 0x0603 => intIn v 256 4096
  | 0x0701 => intIn v 0 65535
  | 0x0702 => v.length == 0 || v.length == 16
  | 0x0703 => intIn v 1 600
  | 0x0801 => enumIn v 2
  | 0x0802 => enumIn v 4
  | 0x0803 => intIn v 0 (2 ^ 32 - 65536) && leNat v % 4096 == 0
  | 0x0804 => v.length == 0 || v.length == 32
  | 0x0805 => intIn v 1 60
  | 0x0806 => intIn v 10 5000
  | 0x0901 => intIn v 0 s.clusterCount
  | 0x0902 => intIn v 0 65536
  | 0x0903 => intIn v 0 3600
  | 0x0A01 => intIn v 1 3600
  | 0x0A02 => intIn v 1 1500000
  | _ => false

/-- Whether a scope exists (R47, R476, R508, R384; R310 for a grant's program). -/
def State.scopeOk (s : State) (k : ScopeKind) (scope : Nat) : Bool :=
  match k with
  | .module => scope == 0
  | .port => decide (scope < s.portCount)
  | .cluster => decide (scope < s.clusterCount)
  | .channel => decide (scope < 2)
  | .event => decide (scope < 896)
  | .grant => s.microcode.any fun m => m.number == scope % 4096
  | _ => true

/-- A fixed setting of partition 0 (R94, R245). -/
def fixedOfZero (item scope : Nat) : Bool :=
  ((item == 0x0201 || item == 0x0202) && decide (scope < 16) && (decide (scope < 4) || scope == 15)) ||
  ((item == 0x0206 || item == 0x0207 || item == 0x0208 || item == 0x0302) && scope == 0)

/-- An item of rows 1 to 4 of R93: open to stages of its own partition. -/
def isQueueItem (item : Nat) : Bool := decide (0x0201 ≤ item ∧ item ≤ 0x0204)

/-- Whether the stager of a partition's stage may use an item (R93, R341, R497: the wall clock is set by CLOCK_SET only). -/
def configPermitted (stager item scope : Nat) : Bool :=
  item != 0x0A03 && (stager == 0 || (isQueueItem item && scope / 16 == stager))

/-- Permission alone, as STAGE_ADD checks it: the item exists and its stager may use it (R341). -/
def configAddError (stager item scope : Nat) : Option Status :=
  match itemScope item with
  | none => some St.commitItemInvalid
  | some _ => if configPermitted stager item scope then none else some St.itemNotPermitted

/-- The first rule a CONFIG_SET item breaks against a head state's partition list (R91, R94, R341, R346). -/
def State.configError (s : State) (head : Durable) (stager item scope : Nat) (v : Bytes) : Option Status :=
  match itemScope item with
  | none => some St.commitItemInvalid
  | some k =>
    if configPermitted stager item scope = false then some St.itemNotPermitted
    else match scopePartition k scope with
    | some p =>
      if s.partitionCount ≤ p then some St.partitionOutOfRange
      else if (getK p head.parts).isNone then some St.partitionNotDefined
      else if fixedOfZero item scope then some St.partitionProtected
      else if s.scopeOk k scope && s.valueOk item v then none else some (groupStatus item)
    | none => if s.scopeOk k scope && s.valueOk item v then none else some (groupStatus item)

/-! ### Values in force -/

/-- A number from a configuration, or its default. -/
def Durable.cfg (d : Durable) (item scope dflt : Nat) : Nat :=
  match getK (item, scope) d.config with
  | some v => leNat v
  | none => dflt

/-- Whether a queue is defined (R93, R94). -/
def State.queueDefined (s : State) (p q : Nat) : Bool :=
  s.cfg 0x0201 (p * 16 + q) (if q < 4 ∨ (p = 0 ∧ q = 15) then 1 else 0) == 1
/-- The class of a queue (R93, R94). -/
def State.queueClass (s : State) (p q : Nat) : Nat :=
  s.cfg 0x0202 (p * 16 + q) (if q < 4 then q else if p = 0 ∧ q = 15 then 3 else 1)
def State.queueWeight (s : State) (p q : Nat) : Nat := s.cfg 0x0203 (p * 16 + q) 16
def State.queueDepth (s : State) (p q : Nat) : Nat := s.cfg 0x0204 (p * 16 + q) 0
def State.partWeight (s : State) (p cls : Nat) : Nat := s.cfg 0x0205 (p * 4 + cls) 16
/-- PART_BURST_RESERVE in bytes (R93, R94). -/
def Durable.burstReserve (d : Durable) (p : Nat) : Nat := 1024 * d.cfg 0x0206 p (if p = 0 then 1024 else 2)
/-- PART_BURST_SHARE in percent. -/
def State.burstShare (s : State) (p : Nat) : Nat := s.cfg 0x0207 p (if p = 0 then 100 else 25)
/-- PART_SPILL_QUOTA in bytes. -/
def State.spillQuota (s : State) (p : Nat) : Nat := 1048576 * s.cfg 0x0208 p 64
def Durable.pinMax (d : Durable) (p : Nat) : Nat := d.cfg 0x0301 p 0
def Durable.keyQuota (d : Durable) (p : Nat) : Nat := d.cfg 0x0302 p 65536

/-- The sum of the burst reservations of all defined partitions (R98). -/
def Durable.burstSum (d : Durable) : Nat := (d.parts.map fun e => d.burstReserve e.1).sum

/-- The bytes of an item's VALUE in force; none where it was never set or is "none". -/
def State.cfgBytes (s : State) (item scope : Nat) : Bytes := (getK (item, scope) s.durable.config).getD []

/-! Items of later chapters, by name. -/

def State.pairId (s : State) : Nat := s.cfg 0x0701 0 0
def State.paired (s : State) : Bool := s.pairId != 0
def State.partnerSerial (s : State) : Bytes := s.cfgBytes 0x0702 0
def State.prfEnabled (s : State) : Bool := s.cfg 0x0801 0 0 == 1

end Sys2Proof.Machine
end

