-- ==== Sys2Proof/Machine/GhedoWords.lean ====
section
/-! DEFINITION. The Ghedo instruction that a word stands for, and which tenant images load (04 R142, R143; 05 R147 to
R151). The table gives its rows no bits: these words are what programs are made of, and the loader checks them. -/

namespace Sys2Proof.Machine

/-! ### Fields of a word (R148) -/

def wOp (w : Nat) : Nat := bits w 31 26
def wD (w : Nat) : Nat := bits w 25 21
def wA (w : Nat) : Nat := bits w 20 16
def wB (w : Nat) : Nat := bits w 15 11
def wC (w : Nat) : Nat := bits w 10 6
def wFn (w : Nat) : Nat := bits w 5 0
/-- K[10:8] and X[7:0] of the K format. -/
def wX (w : Nat) : Nat := bits w 7 0
/-- A 5-bit field that names a block register (R149). -/
def isBlk (n : Nat) : Bool := decide (n < 16)
/-- A 5-bit field that names a key register (R149). -/
def isKey (n : Nat) : Bool := decide (n < 8)
def isPinFmt (n : Nat) : Bool := n == 0 || n == 1 || n == 3 || n == 4

/-! ### Groups -/

/-- OP 0x01 (R158). -/
def okInteger (w : Nat) : Bool :=
  decide (wFn w ≤ 0x12) && (wFn w == 0x11 || wC w == 0) && (wFn w != 0x12 || wB w == 0)
/-- OP 0x14 (R161). -/
def okControl (w : Nat) : Bool :=
  wB w == 0 && wC w == 0 &&
  (((wFn w == 0 || wFn w == 1) && wD w == 0 && wA w == 0) || ((wFn w == 2 || wFn w == 3) && wD w == 0) ||
   (wFn w == 4 && wA w == 0))
/-- OP 0x28 (R165). -/
def okBlock (w : Nat) : Bool :=
  match wFn w with
  | 0 => isBlk (wD w) && isBlk (wA w) && wB w == 0 && wC w == 0
  | 4 => isBlk (wD w) && isBlk (wA w) && wB w == 0 && wC w == 0
  | 1 => isBlk (wD w) && isBlk (wA w) && isBlk (wB w) && wC w == 0
  | 2 => isBlk (wD w) && isBlk (wA w) && isBlk (wB w) && wC w == 0
  | 3 => isBlk (wD w) && isBlk (wA w) && isBlk (wB w) && wC w == 0
  | 5 => isBlk (wD w) && isBlk (wA w) && isBlk (wB w)
  | 6 => isBlk (wA w) && wB w == 0 && decide (wC w ≤ 1)
  | _ => false
/-- OP 0x31 (R168): the length stands in P. -/
def okMac (w : Nat) : Bool :=
  isBlk (wD w) && isBlk (wA w) && decide (wB w ≤ 16) && decide (wX w ≤ 3) &&
  (wX w != 2 || wB w == 0) && (wX w != 3 || decide (wB w ≤ 1))
/-- OP 0x32 (R169). -/
def okHash (w : Nat) : Bool :=
  let mode := bits w 14 12
  let alg := bits w 11 10
  let len := bits w 9 5
  bits w 4 0 == 0 &&
  (match mode with
   | 0 => wD w == 0 && isBlk (wA w) && decide (alg ≤ 2) && decide (len ≤ 16)
   | 1 => wD w == 0 && isBlk (wA w) && alg == 0 && decide (len ≤ 16)
   | 2 => isBlk (wD w) && wA w == 0 && alg == 0 && decide (len ≤ 3)
   | 3 => wD w == 0 && wA w == 0 && alg == 0 && len == 0
   | _ => false)
/-- OP 0x35 (R174). -/
def okWrap (w : Nat) : Bool :=
  isBlk (wD w) && bits w 5 1 == 0 && (if bit w 0 then true else wB w == 0 && bits w 7 6 == 2)
/-- OP 0x36 (R176). -/
def okKey (w : Nat) : Bool :=
  wB w == 0 &&
  (match wFn w with
   | 0 => isKey (wD w) && wC w == 0
   | 1 => isKey (wD w) && wA w == 0 && wC w == 0
   | 2 => isKey (wD w) && isKey (wA w) && wC w == 0
   | 3 => isKey (wA w) && decide (wC w ≤ 5)
   | 4 => isKey (wD w) && wC w == 0
   | _ => false)
/-- OP 0x3B (R185). -/
def okStage (w : Nat) : Bool :=
  wC w == 0 &&
  (match wFn w with
   | 0 => wD w == 0 && isKey (wA w)
   | 1 => wD w == 0 && wB w == 0
   | 2 => wD w == 0
   | 3 => wD w == 0
   | 4 => wD w == 0
   | 5 => wB w == 0
   | _ => false)

/-! ### The words (R148 to R151) -/

def gField (n : Nat) : GReg := ⟨n % 32, Nat.mod_lt _ (by decide)⟩
/-- The low four bits of a field that names a block register (R149). -/
def bField (n : Nat) : BReg := ⟨n % 16, Nat.mod_lt _ (by decide)⟩
/-- The low three bits of a field that names a key register (R149). -/
def kField (n : Nat) : KReg := ⟨n % 8, Nat.mod_lt _ (by decide)⟩
/-- WIN of the M format and of the wrap and key block groups (R162). -/
def winField (n : Nat) : Win := if n = 0 then .inW else if n = 1 then .out else if n = 2 then .scr else .tab
def gD (w : Nat) : GReg := gField (wD w)
def gA (w : Nat) : GReg := gField (wA w)
def gB (w : Nat) : GReg := gField (wB w)
def bD (w : Nat) : BReg := bField (wD w)
def bA (w : Nat) : BReg := bField (wA w)
def bB (w : Nat) : BReg := bField (wB w)
def kK (w : Nat) : KReg := kField (bits w 10 8)
def imm16 (w : Nat) : BitVec 16 := BitVec.ofNat 16 w
def offM (w : Nat) : BitVec 14 := BitVec.ofNat 14 w
def winM (w : Nat) : Win := winField (bits w 15 14)

/-- OP 0x01. -/
def integerInstr (c : CoreId) (w : Nat) : Option Instr :=
  if okInteger w = false then none
  else
    let d := gD w
    let a := gA w
    let b := gB w
    match wFn w with
    | 0x00 => some (.add c d a b) | 0x01 => some (.sub c d a b) | 0x02 => some (.and c d a b) | 0x03 => some (.or c d a b)
    | 0x04 => some (.xor c d a b) | 0x05 => some (.andn c d a b) | 0x06 => some (.sll c d a b) | 0x07 => some (.srl c d a b)
    | 0x08 => some (.sra c d a b) | 0x09 => some (.rol c d a b) | 0x0A => some (.mul c d a b) | 0x0B => some (.mulhu c d a b)
    | 0x0C => some (.divu c d a b) | 0x0D => some (.remu c d a b) | 0x0E => some (.slt c d a b) | 0x0F => some (.sltu c d a b)
    | 0x10 => some (.seq c d a b) | 0x11 => some (.sel c d a b (gField (wC w))) | _ => some (.bswap c d a)
/-- OP 0x02 to 0x13: immediates, constants, branches, jumps. -/
def immediateInstr (c : CoreId) (w : Nat) : Option Instr :=
  let d := gD w
  let a := gA w
  match wOp w with
  | 0x02 => some (.addi c d a (imm16 w)) | 0x03 => some (.andi c d a (imm16 w)) | 0x04 => some (.ori c d a (imm16 w))
  | 0x05 => some (.xori c d a (imm16 w)) | 0x07 => some (.slti c d a (imm16 w)) | 0x08 => some (.sltiu c d a (imm16 w))
  | 0x06 => if bits w 15 8 = 0 then
      some (.shiftImm c d a (match bits w 7 6 with | 0 => .sll | 1 => .srl | 2 => .sra | _ => .rol) (BitVec.ofNat 6 w)) else none
  | 0x09 => some (.li c d (BitVec.ofNat 21 w))
  | 0x0A => if bits w 18 16 = 0 then some (.lih c d ⟨bits w 20 19 % 4, Nat.mod_lt _ (by decide)⟩ (imm16 w)) else none
  | 0x0C => some (.beq c d a (imm16 w)) | 0x0D => some (.bne c d a (imm16 w)) | 0x0E => some (.blt c d a (imm16 w))
  | 0x0F => some (.bge c d a (imm16 w)) | 0x10 => some (.bltu c d a (imm16 w)) | 0x11 => some (.bgeu c d a (imm16 w))
  | 0x12 => some (.jmp c (BitVec.ofNat 26 w)) | 0x13 => some (.call c (BitVec.ofNat 26 w))
  | _ => none
/-- OP 0x14 and 0x15: control and the system group (R161, R186). -/
def controlInstr (c : CoreId) (w : Nat) : Option Instr :=
  let n := BitVec.ofNat 10 (32 * wB w + wC w)
  match wOp w with
  | 0x14 => if okControl w = false then none else match wFn w with
    | 0 => some (.nop c) | 1 => some (.ret c) | 2 => some (.endInv c (gA w)) | 3 => some (.fail c (gA w))
    | _ => some (.mono c (gD w))
  | 0x15 => match wFn w with
    | 0 => if wA w = 0 then some (.csrr c (gD w) n) else none
    | 1 => if wD w = 0 then some (.csrw c n (gA w)) else none
    | 2 => if bits w 25 6 = 0 then some (.eret c) else none
    | 3 => if bits w 25 6 = 0 then some (.wfi c) else none
    | 4 => if bits w 25 6 = 0 then some (.fence c) else none
    | _ => none
  | _ => none
/-- OP 0x18 to 0x25: loads, stores, counter read (R162, R163). -/
def memoryInstr (c : CoreId) (w : Nat) : Option Instr :=
  let t := gD w
  let v := winM w
  let a := gA w
  let o := offM w
  match wOp w with
  | 0x18 => some (.ld1 c t v a o) | 0x19 => some (.ld2 c t v a o) | 0x1A => some (.ld4 c t v a o) | 0x1B => some (.ld8 c t v a o)
  | 0x1C => some (.ld1s c t v a o) | 0x1D => some (.ld2s c t v a o) | 0x1E => some (.ld4s c t v a o)
  | 0x1F => if isBlk (wD w) then some (.ldb c (bD w) v a o) else none
  | 0x20 => some (.st1 c t v a o) | 0x21 => some (.st2 c t v a o) | 0x22 => some (.st4 c t v a o) | 0x23 => some (.st8 c t v a o)
  | 0x24 => if isBlk (wD w) then some (.stb c (bD w) v a o) else none
  | 0x25 => if wB w = 0 ∧ wC w = 0 ∧ wFn w = 0 then some (.ldctr c t a) else none
  | _ => none
/-- OP 0x28 to 0x2C: block registers and random (R165, R166). -/
def blockInstr (c : CoreId) (w : Nat) : Option Instr :=
  match wOp w with
  | 0x28 => if okBlock w = false then none else match wFn w with
    | 0 => some (.bmov c (bD w) (bA w)) | 1 => some (.bxor c (bD w) (bA w) (bB w)) | 2 => some (.band c (bD w) (bA w) (bB w))
    | 3 => some (.bor c (bD w) (bA w) (bB w)) | 4 => some (.bnot c (bD w) (bA w))
    | 5 => some (.bsel c (bD w) (bA w) (bB w) (gField (wC w)))
    | _ => some (.bget c (gD w) (bA w) ⟨wC w % 2, Nat.mod_lt _ (by decide)⟩)
  | 0x29 =>
    if isBlk (wD w) && isBlk (wA w) && bits w 15 8 == 0 then
      some (if bit w 7 then .bshr c (bD w) (bA w) (BitVec.ofNat 7 w) else .bshl c (bD w) (bA w) (BitVec.ofNat 7 w)) else none
  | 0x2A => if isBlk (wD w) && wA w == 0 then some (.bli c (bD w) (imm16 w)) else none
  | 0x2B =>
    if isBlk (wD w) && bits w 15 7 == 0 && decide (bits w 3 0 + bits w 6 4 + 1 ≤ 16) then
      some (.bins c (bD w) (gA w) (BitVec.ofNat 4 w) (BitVec.ofNat 3 (bits w 6 4))) else none
  | 0x2C =>
    if bits w 20 6 ≠ 0 then none
    else if wFn w = 0 ∧ isBlk (wD w) = true then some (.rnd c (bD w))
    else if wFn w = 1 then some (.rndg c (gD w)) else none
  | _ => none
/-- OP 0x30 to 0x32: ciphers, MACs, hashes (R167 to R169). -/
def cipherInstr (c : CoreId) (w : Nat) : Option Instr :=
  let len := BitVec.ofNat 5 (wB w)
  let h : Fin 2 := ⟨bits w 15 15 % 2, Nat.mod_lt _ (by decide)⟩
  let n := BitVec.ofNat 5 (bits w 9 5)
  match wOp w with
  | 0x30 =>
    if isBlk (wD w) && isBlk (wA w) && wB w == 0 then
      (match wX w with
       | 0 => some (.aese c (bD w) (bA w) (kK w)) | 1 => some (.aesd c (bD w) (bA w) (kK w))
       | 2 => some (.tdese c (bD w) (bA w) (kK w)) | 3 => some (.tdesd c (bD w) (bA w) (kK w)) | _ => none)
    else none
  | 0x31 => if okMac w = false then none else match wX w with
    | 0 => some (.cmacu c (bD w) (bA w) (kK w) len) | 1 => some (.cmac1 c (bD w) (bA w) (kK w) len)
    | 2 => some (.cbcmac c (bD w) (bA w) (kK w)) | _ => some (.cbcmac3 c (bD w) (bA w) (kK w) len)
  | 0x32 => if okHash w = false then none else match bits w 14 12 with
    | 0 => some (.hashuStart c h (match bits w 11 10 with | 0 => .sha256 | 1 => .sha384 | _ => .sha512) (bA w) n)
    | 1 => some (.hashuAbsorb c h (bA w) n)
    | 2 => some (.hashuOut c (bD w) h ⟨bits w 6 5 % 4, Nat.mod_lt _ (by decide)⟩)
    | _ => some (.hashuDiscard c h)
  | _ => none
/-- OP 0x33 to 0x35: PIN fields and block wrap (R172 to R174). -/
def pinInstr (c : CoreId) (w : Nat) : Option Instr :=
  let fmt := BitVec.ofNat 3 (bits w 7 5)
  match wOp w with
  | 0x33 =>
    if isBlk (wD w) && isPinFmt (bits w 7 5) && bits w 4 0 == 0 then
      some (.pinfmt c (bD w) (gA w) (bField (bits w 15 12)) (bField (bits w 11 8)) fmt) else none
  | 0x34 =>
    if isBlk (wD w) && isBlk (wA w) && isBlk (wB w) && isPinFmt (bits w 7 5) && bits w 4 0 == 0 then
      some (.pine c (bD w) (bA w) (bB w) (kK w) fmt) else none
  | 0x35 =>
    if okWrap w = false then none
    else some (if bit w 0 then .bopen c (bD w) (gB w) (winField (bits w 7 6)) (gA w) (kK w) else .bwrap c (gA w) (bD w) (kK w))
  | _ => none
/-- OP 0x36 to 0x39: keys (R176 to R179). -/
def keyInstr (c : CoreId) (w : Nat) : Option Instr :=
  match wOp w with
  | 0x36 => if okKey w = false then none else match wFn w with
    | 0 => some (.kld c (kField (wD w)) (gA w)) | 1 => some (.kclr c (kField (wD w)))
    | 2 => some (.kmov c (kField (wD w)) (kField (wA w)))
    | 3 => some (.kattr c (gD w) (kField (wA w)) (BitVec.ofNat 5 (wC w)))
    | _ => some (.kgen c (kField (wD w)) (gA w))
  | 0x37 =>
    if isKey (wD w) && isBlk (wA w) && decide (1 ≤ wX w ∧ wX w ≤ 5) then
      some (.kdrv c (kField (wD w)) (kK w) (bA w) (gB w) (BitVec.ofNat 8 w)) else none
  | 0x38 =>
    if isKey (wD w) && isBlk (wA w) && isBlk (wB w) && wFn w == 0 then
      some (.kform c (kField (wD w)) (bA w) (bB w) (gField (wC w))) else none
  | 0x39 =>
    if bits w 5 1 ≠ 0 then none
    else if bit w 0 then
      (if isKey (wB w) then some (.kexp c (gD w) (kField (wB w)) (kK w) (winField (bits w 7 6)) (gA w)) else none)
    else if isKey (wD w) then some (.kunw c (kField (wD w)) (kK w) (winField (bits w 7 6)) (gA w) (gB w)) else none
  | _ => none
/-- OP 0x3A and 0x3B: jobs, stage and commit (R180, R185). -/
def jobInstr (c : CoreId) (w : Nat) : Option Instr :=
  match wOp w with
  | 0x3A =>
    if wB w ≠ 0 ∨ wC w ≠ 0 then none
    else match wFn w with
      | 0 => some (.lsub c (gD w) (gA w)) | 1 => some (.xsub c (gD w) (gA w)) | 2 => some (.jwait c (gD w) (gA w))
      | 3 => some (.jtest c (gD w) (gA w)) | _ => none
  | 0x3B => if okStage w = false then none else match wFn w with
    | 0 => some (.skput c (kField (wA w)) (gB w)) | 1 => some (.skinv c (gA w)) | 2 => some (.sctr c (gA w) (gB w))
    | 3 => some (.stab c (gA w) (gB w)) | 4 => some (.sitem c (gA w) (gB w)) | _ => some (.commit c (gD w) (gA w))
  | _ => none
/-- The command that an instruction word stands for on a core, where the word is an instruction. -/
def ghedoInstr (c : CoreId) (w : Nat) : Option Instr :=
  let op := wOp w
  if op = 0x01 then integerInstr c w
  else if op ≤ 0x13 then immediateInstr c w
  else if op ≤ 0x15 then controlInstr c w
  else if op ≤ 0x25 then memoryInstr c w
  else if op ≤ 0x2C then blockInstr c w
  else if op ≤ 0x32 then cipherInstr c w
  else if op ≤ 0x35 then pinInstr c w
  else if op ≤ 0x39 then keyInstr c w
  else if op ≤ 0x3B then jobInstr c w
  else if imm16 w = 0 then none
  else some (.ctcmp c ⟨bits w 27 24 % 16, Nat.mod_lt _ (by decide)⟩ (bField (bits w 23 20)) (bField (bits w 19 16)) (imm16 w))

/-- A word that is an instruction of world T: the system group and sitem are not (R113, R185, R186). -/
def codeWordOk (w : Nat) : Bool :=
  match ghedoInstr (.tx 0 0) w with
  | none => false
  | some i => match i with
    | .csrr _ _ _ => false | .csrw _ _ _ => false | .eret _ => false | .wfi _ => false | .fence _ => false
    | .sitem _ _ _ => false
    | _ => true

/-- The target of a branch, jump or call at a byte offset lies in code of a length; other words have none (R143, R160). -/
def targetOk (len pc w : Nat) : Bool :=
  let op := wOp w
  let go := fun (off width : Nat) =>
    let d : Int := if off < 2 ^ (width - 1) then (off : Int) else (off : Int) - 2 ^ width
    let t : Int := (pc : Int) + 4 * d
    decide (0 ≤ t ∧ t < (len : Int))
  if 0x0C ≤ op ∧ op ≤ 0x11 then go (bits w 15 0) 16
  else if op = 0x12 ∨ op = 0x13 then go (bits w 25 0) 26
  else true
/-- The last word cannot fall through: jmp, ret, end or fail (R143). -/
def lastWordOk (w : Nat) : Bool :=
  wOp w == 0x12 || (wOp w == 0x14 && (wFn w == 1 || wFn w == 2 || wFn w == 3))

/-- Every word of the code from a byte offset on passes; the last one may end the code. -/
def codeOk (len : Nat) : (pc : Nat) → List Bytes → Bool
  | _, [] => false
  | pc, [x] => let w := leNat x; codeWordOk w && targetOk len pc w && lastWordOk w
  | pc, x :: y :: l => let w := leNat x; codeWordOk w && targetOk len pc w && codeOk len (pc + 4) (y :: l)

/-! ### Images -/

/-- The key type that a SIG_ALG of a tenant image calls for (R142); 0 for one that a tenant image may not carry. -/
def sigKeyType (alg : Nat) : Nat := if alg = 1 then 0x84 else if alg = 2 then 0x8B else 0

/-- The header fields of a tenant image in range (R142). -/
def imageHeaderOk (p : Nat) (l : Bytes) : Bool :=
  let n := leAt l 16 4
  decide (130 ≤ l.length) && leAt l 0 4 == 0x4F444847 && leAt l 4 2 == 1 && leAt l 6 1 == 2 &&
  (leAt l 7 1 == 1 || leAt l 7 1 == 2) && decide (0x8000 ≤ leAt l 8 2) && leAt l 10 2 == p &&
  n % 4 == 0 && decide (4 ≤ n ∧ n ≤ 262144) && leAt l 20 4 % 4 == 0 && decide (leAt l 20 4 < n) &&
  decide (64 ≤ leAt l 24 4 ∧ leAt l 24 4 ≤ 16777216) && leAt l 28 4 == 0 && allZero (slice l 80 48) &&
  decide (130 + n ≤ l.length) && l.length == 130 + n + leAt l (128 + n) 2

/-- The image as it is held once loaded. -/
def parseImage (l : Bytes) : ProgImage :=
  { world := leAt l 6 1, code := leAt l 8 2, version := leAt l 12 4, entry := leAt l 20 4,
    declaredCycles := leAt l 24 4, signerId := slice l 32 16, text := slice l 128 (leAt l 16 4) }

/-- The checks of R143 on a tenant image; `signer` is the public key registered under its SIGNER_ID. -/
def imageOk (p : Nat) (l : Bytes) (signer : Option KeyMat) : Bool :=
  let text := slice l 128 (leAt l 16 4)
  imageHeaderOk p l && slice l 48 32 == sha256 text &&
  codeOk text.length 0 (pieces 4 text) &&
  (match signer with
   | some k => k.attrs.keyType == sigKeyType (leAt l 7 1) &&
       Config.verifySig k.attrs.keyType k.material (l.take 128) (l.drop (130 + leAt l 16 4))
   | none => false)

end Sys2Proof.Machine
end

