-- ==== Sys2Proof/Machine/Images.lean ====
section
/-! DEFINITION. Firmware images: their layout, the checks of R413, usable roots (14 R409 to R413, R422, R423). -/

namespace Sys2Proof.Machine

/-! ### OTP groups and roots (R410, R421) -/

/-- A group reads as set when at least 5 of its 8 bits read 1. -/
def groupSet (n : Nat) : Bool := decide (5 ≤ n)
def Otp.rootRevoked (o : Otp) (n : Nat) : Bool := if h : n < 4 then groupSet o.revoked[n] else true
/-- A root is usable when its digest is populated and it was not revoked at the start: a revocation takes effect at the next one
(R410, R421). -/
def Otp.rootUsable (o : Otp) (n : Nat) : Bool :=
  !allZero (fit 32 (Config.rootDigest n)) && (if h : n < 4 then !groupSet o.inForce[n] else false)
/-- The groups as a start reads them. -/
def Otp.atStart (o : Otp) : Otp := { o with inForce := o.revoked }
/-- The highest transition whose group reads as set, of 1 to 5. -/
def highestSet (v : Vector Nat 5) : Nat :=
  (List.range 5).foldl (fun a i => if h : i < 5 then (if groupSet v[i] then i + 1 else a) else a) 0
def lcOf : Nat → Lifecycle
  | 0 => .blank | 1 => .test | 2 => .provisioned | 3 => .deployed | 4 => .analysis | _ => .scrap
def lcCode : Lifecycle → Nat
  | .blank => 0 | .test => 1 | .provisioned => 2 | .deployed => 3 | .analysis => 4 | .scrap => 5

/-! ### Layout (R411) -/

/-- A section entry of a header, with the bytes it names. -/
def parseSection (all e : Bytes) : FwSection :=
  { type := leAt e 0 2, res0 := leAt e 2 2, offset := leAt e 4 4, len := leAt e 8 4, res1 := leAt e 12 4, digest := slice e 16 32,
    data := (all.drop (leAt e 4 4)).take (leAt e 8 4) }
/-- Where the signature's length stands: after the last section. -/
def sigAt (l : List FwSection) : Nat := (l.map fun s => s.offset + s.len).foldl max 512
/-- The image that a byte string spells, its header first. -/
def parseFwImage (all : Bytes) : FwImage :=
  let h := fit 512 all
  let n := min 8 (leAt h 12 2)
  let secs := (List.range n).map fun i => parseSection all (slice h (112 + 48 * i) 48)
  let at0 := sigAt secs
  let zero := leAt h 7 1 == 0 && leAt h 14 2 == 0 && allZero (slice h 36 12) && allZero (slice h 108 4) &&
    allZero (slice h (112 + 48 * n) (48 * (8 - n))) && allZero (slice h 496 16)
  { magic := leAt h 0 4, format := leAt h 4 2, rootIndex := leAt h 6 1, buildSeq := leAt h 8 4, sectionCount := leAt h 12 2,
    version := slice h 16 16, imageBytes := leAt h 32 4, rootPubkey := slice h 48 60, unusedZero := zero, sections := secs,
    headerBytes := h, sig := (all.drop (at0 + 4)).take (leAt all at0 4), imageData := all }

/-! ### The checks of R413 -/

/-- The size limit of a section type in its kind of image (R412). -/
def sectionLimit : Nat → Nat
  | 1 => 2097152 | 2 => 524288 | 3 => 67108864 | 4 => 1048576 | 5 => 258048 | _ => 0
/-- The section types of a slot image or recovery build. -/
def kindTypes (recovery : Bool) : List Nat := if recovery then [5] else [1, 2, 3, 4]
/-- ASCII, filled with zeros. -/
def asciiFilled (l : Bytes) : Bool := l.all (fun b => decide (b.toNat < 128)) && allZero (l.dropWhile (· != 0))
/-- Check 1 but for the section types: MAGIC, FORMAT, ranges, reserved fields. -/
def fwFieldsOk (i : FwImage) (recovery : Bool) : Bool :=
  i.magic == 0x57464D59 && i.format == 1 && decide (i.rootIndex < 4) && i.sectionCount == (kindTypes recovery).length &&
  decide (i.imageBytes ≤ if recovery then 258048 else 268435456) && i.unusedZero && asciiFilled i.version &&
  i.sections.all fun s => s.res0 == 0 && s.res1 == 0
/-- R412: one section of each type of the kind, each within its limit. -/
def fwKindOk (i : FwImage) (recovery : Bool) : Bool :=
  (kindTypes recovery).all (fun t => (i.sections.filter fun s => s.type == t).length == 1) &&
  i.sections.length == (kindTypes recovery).length && i.sections.all fun s => decide (s.len ≤ sectionLimit s.type)
/-- Checks 1 to 3, which need the header alone. -/
def fwRootFailure (i : FwImage) (o : Otp) (recovery : Bool) : Option Nat :=
  if fwFieldsOk i recovery = false ∨ fwKindOk i recovery = false then some 1
  else if o.rootUsable i.rootIndex = false then some 2
  else if sha256 i.rootPubkey ≠ fit 32 (Config.rootDigest i.rootIndex) then some 3
  else none
/-- Checks 1 to 4. -/
def fwHeaderFailure (i : FwImage) (o : Otp) (recovery : Bool) : Option Nat :=
  match fwRootFailure i o recovery with
  | some n => some n
  | none => if Config.verifySig 0x8D i.rootPubkey i.headerBytes i.sig then none else some 4
/-- Check 5. -/
def fwSectionsOk (i : FwImage) : Bool :=
  i.sections.all fun s => decide (512 ≤ s.offset ∧ s.offset + s.len ≤ i.imageBytes) && sha256 s.data == s.digest
/-- The first failing check of an image, if any. -/
def fwFailure (i : FwImage) (o : Otp) (recovery : Bool) : Option Nat :=
  match fwHeaderFailure i o recovery with
  | some n => some n
  | none => if fwSectionsOk i then none else some 5
/-- IMAGE_DIGEST. -/
def fwDigest (i : FwImage) : Bytes := sha256 i.imageData
def Sc.slot (c : Sc) (n : Nat) : FwSlot := if n = 0 then c.slotA else c.slotB
def Sc.setSlot (c : Sc) (n : Nat) (x : FwSlot) : Sc := if n = 0 then { c with slotA := x } else { c with slotB := x }
/-- What stands in a slot, read as an image. -/
def Sc.slotImage (c : Sc) (n : Nat) : Option FwImage :=
  match c.slot n with
  | .image i => some i
  | .failing d => some (parseFwImage d)
  | _ => none
/-- The header of a slot: why it fails; an empty slot fails check 1. -/
def Sc.slotHeader (c : Sc) (n : Nat) : Option Nat :=
  match c.slotImage n with
  | some i => fwHeaderFailure i c.otp false
  | none => some 1
/-- A slot holds an image that verifies. -/
def Sc.slotVerifies (c : Sc) (n : Nat) : Bool :=
  match c.slot n with
  | .image i => (fwFailure i c.otp false).isNone
  | _ => false

end Sys2Proof.Machine
end

