-- ==== Sys2Proof/Machine/Durables.lean ====
section
/-! DEFINITION. What a commit's items do to the durable state, and the checks they pass against its head state (11 R336
to R343; 07 R243 to R253; 04 R142 to R144; 13 R397, R406; 03 R90, R98). -/

namespace Sys2Proof.Machine

/-! ### Sizes (R244, R246, R340, R341) -/

/-- Key records that a key takes (R244). -/
def keyRecords (k : KeyMat) : Nat := 1 + cdiv (k.material.length - 432) 472
/-- Bytes of a key in a database copy (R246). -/
def keyFlash (k : KeyMat) : Nat := 128 + 64 * cdiv (k.material.length - 48) 64
/-- Body bytes of an item (R341, R406). -/
def itemLen : CItem → Nat
  | .keyPut _ k => 8 + 512 * keyRecords k
  | .keyInvalidate _ => 16
  | .ctrAdd _ _ => 16
  | .tabWrite _ _ => 4112
  | .programPut i => i.length
  | .configSet _ _ _ => 56
  | .wallClock _ _ => 56
  | .ivReserve _ _ => 16
  | .partitionCreate _ _ _ _ ks => 16 + 112 * ks.length
  | .branchCreate _ _ => 40
  | .branchLoad _ _ => 48
  | .credentialRegister _ _ pub => 8 + 16 * cdiv pub.length 16
  | .signerRegister _ _ pub => 8 + 16 * cdiv pub.length 16
  | .partitionRestore _ _ _ _ => 48
  | .malformed _ => 0
  | .programDelete _ => 8
  | .partitionDelete _ => 8
  | .branchRevoke _ => 8
  | .credentialRevoke _ => 8
  | .signerRevoke _ => 8
  | .partitionBackup => 8
  | .rngSourceEnable _ => 8
  | .bootPreferredSlot _ => 8
  | .csnReserve _ => 8
/-- An item with its header and padding (R341). -/
def itemSpace (n : Nat) : Nat := 8 + 16 * cdiv n 16
/-- Lines of a record that holds the items (R340, R341). -/
def recordLines (items : List CItem) : Nat := 1 + cdiv ((items.map fun i => itemSpace (itemLen i)).sum) 64

/-! ### Key records (R244) -/

/-- The record or records of a key under a wrapping key, with the random bytes of their IVs, 12 for each (R244, R260). -/
def keyRecordBytes (wrap : Bytes) (ref csn : Nat) (k : KeyMat) (ivs : Bytes) : List Bytes :=
  let n := keyRecords k - 1
  let iv := fun i => slice ivs (12 * i) 12
  let head := leBytes 8 ref ++ leBytes 8 csn ++ attrsBytes k.attrs
  let r := gcmEnc wrap (iv 0) head (fit 432 k.material) 16
  (head ++ iv 0 ++ leBytes 2 n ++ [0, 0] ++ r.1 ++ r.2) ::
  (List.range n).map fun i =>
    let aad := leBytes 8 ref ++ leBytes 2 (i + 1) ++ [0, 0]
    let x := gcmEnc wrap (iv (i + 1)) aad (slice k.material (432 + 472 * i) 472) 16
    aad ++ iv (i + 1) ++ x.1 ++ x.2
/-- The records of several keys, their IVs one after another. -/
def wrapKeys (wrap : Bytes) : List (Nat × KeyMat) → (ivs : Bytes) → List (Nat × List Bytes)
  | [], _ => []
  | (r, k) :: l, ivs => (r, keyRecordBytes wrap r k.putCsn k ivs) :: wrapKeys wrap l (ivs.drop (12 * keyRecords k))
/-- The lowest first number at which `n` record numbers in a row are free, from `at0` on; `used` are the taken ones as first
number and count (log 108). -/
def firstFree (used : List (Nat × Nat)) (n : Nat) : (fuel : Nat) → (at0 : Nat) → Nat
  | 0, a => a
  | f + 1, a => match used.find? fun e => decide (e.1 < a + n) && decide (a < e.1 + e.2) with
    | some e => firstFree used n f (e.1 + e.2)
    | none => a

/-! ### Items in the journal (R341, R406) -/

/-- KIND of an item; CLOCK_SET's stands as a CONFIG_SET of 0x0A03 (R497). -/
def itemKind : CItem → Nat
  | .keyPut _ _ => 1 | .keyInvalidate _ => 2 | .ctrAdd _ _ => 3 | .tabWrite _ _ => 4 | .programPut _ => 5 | .programDelete _ => 6
  | .configSet _ _ _ => 7 | .wallClock _ _ => 7 | .ivReserve _ _ => 8 | .partitionCreate _ _ _ _ _ => 9 | .partitionDelete _ => 10
  | .branchCreate _ _ => 0x10 | .branchLoad _ _ => 0x11 | .branchRevoke _ => 0x12 | .credentialRegister _ _ _ => 0x13
  | .credentialRevoke _ => 0x14 | .signerRegister _ _ _ => 0x15 | .signerRevoke _ => 0x16 | .partitionBackup => 0x17
  | .partitionRestore _ _ _ _ => 0x18 | .rngSourceEnable _ => 0x19 | .bootPreferredSlot _ => 0x20
  | .csnReserve _ => 0 | .malformed k => k
/-- The body of a CONFIG_SET. -/
def configBody (item scope : Nat) (v : Bytes) : Bytes :=
  leBytes 2 item ++ [0, 0] ++ leBytes 4 scope ++ leBytes 1 v.length ++ List.replicate 7 0 ++ fit 40 v
/-- The body of a registration. -/
def registerBody (n t : Nat) (pub : Bytes) : Bytes :=
  leBytes 1 n ++ leBytes 1 t ++ leBytes 2 pub.length ++ [0, 0, 0, 0] ++ fit (16 * cdiv pub.length 16) pub
/-- The body of an item as a record holds it: KEY_PUT with its wrapped records. -/
def itemBody (wrapped : List (Nat × List Bytes)) : CItem → Bytes
  | .keyPut r _ => leBytes 8 r ++ (getD r [] wrapped).flatten
  | .keyInvalidate r => leBytes 8 r ++ List.replicate 8 0
  | .ctrAdd n d => leBytes 4 n ++ [0, 0, 0, 0] ++ leBytes 8 (BitVec.ofInt 64 d).toNat
  | .tabWrite n b => leBytes 2 n ++ List.replicate 14 0 ++ b
  | .programPut i => i
  | .programDelete c => leBytes 2 c ++ List.replicate 6 0
  | .configSet i sc v => configBody i sc v
  | .wallClock w e => configBody 0x0A03 0 (leBytes 8 w ++ leBytes 4 e)
  | .ivReserve r n => leBytes 8 r ++ leBytes 8 n
  | .partitionCreate q ro m n ks => leBytes 2 q ++ List.replicate 6 0 ++ [if ro then 1 else 0] ++ leBytes 1 m ++ leBytes 1 n ++
      List.replicate 5 0 ++ ks.flatMap (fit 112)
  | .partitionDelete q => leBytes 2 q ++ List.replicate 6 0
  | .branchCreate n k => leBytes 1 n ++ List.replicate 7 0 ++ attrsBytes k.attrs
  | .branchLoad n k => leBytes 1 n ++ k.material.take 1 ++ List.replicate 6 0 ++ attrsBytes k.attrs ++ fit 3 (k.material.drop 1) ++
      List.replicate 5 0
  | .branchRevoke n => leBytes 1 n ++ List.replicate 7 0
  | .credentialRegister n t pub => registerBody n t pub
  | .credentialRevoke n => leBytes 1 n ++ List.replicate 7 0
  | .signerRegister n t pub => registerBody n t pub
  | .signerRevoke n => leBytes 1 n ++ List.replicate 7 0
  | .partitionBackup => List.replicate 8 0
  | .partitionRestore b d _ _ => leBytes 8 b ++ List.replicate 8 0 ++ fit 32 d
  | .rngSourceEnable n => leBytes 1 n ++ List.replicate 7 0
  | .bootPreferredSlot n => leBytes 1 n ++ List.replicate 7 0
  | .csnReserve e => leBytes 8 e
  | .malformed _ => []
/-- An item with its header and padding (R341). -/
def itemBytes (wrapped : List (Nat × List Bytes)) (i : CItem) : Bytes :=
  let b := itemBody wrapped i
  leBytes 2 (itemKind i) ++ [0, 0] ++ leBytes 4 b.length ++ fit (16 * cdiv b.length 16) b

/-- KIND of a journal record (R340): a stage body, a skip to the ring's start, else a commit. A CSN reservation on the RECORDS stream
takes a KIND of its own (log 125). -/
def Record.kind (r : Record) : Nat := if r.csn ≠ 0 then 1 else if r.stageId ≠ 0 then 2 else if r.items = [] then 3 else 4
/-- The items in a record: none in the header that a STAGE_APPLY writes, whose items stand in its stage's body records (R347). -/
def Record.held (r : Record) : List CItem := if r.csn ≠ 0 ∧ r.stageId ≠ 0 then [] else r.items
/-- A journal record's bytes: the header and the items as they stand in the ring (R340, R341). -/
def recordBytes (r : Record) : Bytes :=
  let body := fit (64 * (r.lines - 1)) ((Machine.Record.held r).flatMap (itemBytes r.wrapped))
  let h := leBytes 2 0x524A ++ [BitVec.ofNat 8 (Machine.Record.kind r), 0] ++ leBytes 4 r.lines ++ leBytes 8 r.csn ++ leBytes 8 r.ticket ++
    leBytes 8 r.durableBelow ++ leBytes 2 r.partition ++ leBytes 2 (Machine.Record.held r).length ++ leBytes 4 r.stageId ++ leBytes 8 r.mono ++
    leBytes 4 (crc32c body) ++ List.replicate 8 0
  h ++ leBytes 4 (crc32c h) ++ body
/-- A key record as it crosses the mirror link (R362): without its bough wrapping, IV and tag zero (log 111). -/
def keyRecordPlain (ref csn : Nat) (k : KeyMat) : List Bytes :=
  let n := keyRecords k - 1
  let z := fun n => List.replicate n (0 : Byte)
  (leBytes 8 ref ++ leBytes 8 csn ++ attrsBytes k.attrs ++ z 12 ++ leBytes 2 n ++ [0, 0] ++ fit 432 k.material ++ z 16) ::
  (List.range n).map fun i => leBytes 8 ref ++ leBytes 2 (i + 1) ++ [0, 0] ++ z 12 ++ fit 472 (slice k.material (432 + 472 * i) 472) ++ z 16
/-- A record's bytes on the RECORDS stream: its key records as the journal holds them, with the wrapping of the sender's bough removed
(R361, R362). -/
def mirrorBytes (bough : Bytes) (r : Record) : Bytes :=
  recordBytes { r with wrapped := r.wrapped.map fun e => match openRecords bough e.2.length e.2 with
    | some ((ref, k) :: _) => (ref, keyRecordPlain ref k.putCsn k)
    | _ => e }

/-! ### Objects (R336) -/

/-- The objects an item changes, each as a kind and a number: 1 key reference, 2 TAB page, 3 program code, 4
configuration item at a scope, 5 partition number. A branch index stands as its reference. -/
def itemObjects (p : Nat) : CItem → List (Nat × Nat)
  | .keyPut r _ => [(1, r)]
  | .keyInvalidate r => [(1, r)]
  | .tabWrite n _ => [(2, p * 256 + n)]
  | .programPut i => [(3, p * 65536 + leAt i 8 2)]
  | .programDelete c => [(3, p * 65536 + c)]
  | .configSet i sc _ => [(4, i * 2 ^ 32 + sc)]
  | .partitionCreate q _ _ _ _ => [(5, q)]
  | .partitionDelete q => [(5, q)]
  | .branchCreate n _ => [(1, mkRef p 1 n)]
  | .branchLoad n _ => [(1, mkRef p 1 n)]
  | .branchRevoke n => [(1, mkRef p 1 n)]
  | .credentialRegister n _ _ => [(1, mkRef p 2 n)]
  | .credentialRevoke n => [(1, mkRef p 2 n)]
  | .signerRegister n _ _ => [(1, mkRef p 3 n)]
  | .signerRevoke n => [(1, mkRef p 3 n)]
  | .partitionRestore _ _ _ ks => ks.map fun e => (1, mkRef p (refKind e.1) (refIndex e.1))
  | .ctrAdd _ _ => []
  | .ivReserve _ _ => []
  | .partitionBackup => []
  | .rngSourceEnable _ => []
  | .bootPreferredSlot _ => []
  | .csnReserve _ => []
  | .wallClock _ _ => [(4, 0x0A03 * 2 ^ 32)]
  | .malformed _ => []
def objectsOf (p : Nat) (items : List CItem) : List (Nat × Nat) := items.flatMap (itemObjects p)

/-! ### Application (R332, R339) -/

/-- A new version of a key. -/
def Durable.putKey (d : Durable) (ref csn : Nat) (k : Option KeyMat) : Durable :=
  { d with keys := setK ref ((csn, k) :: getD ref [] d.keys) d.keys }
/-- The GENERATION a reference holds, a tombstone's included (R249). -/
def Durable.generation (d : Durable) (ref : Nat) : Nat :=
  match d.keyNow ref with
  | some k => k.attrs.generation
  | none => 0
/-- PARENT_GEN at the commit: the parent's GENERATION, that of a bough constant (R239, log 12). -/
def Durable.parentGen (d : Durable) (p slot : Nat) : Nat := if slot = 0 then 0 else d.generation (mkRef p 1 slot)
/-- KEY_PUT, and the keys that ceremony items make. -/
def Durable.storeKey (d : Durable) (p ref csn : Nat) (k : KeyMat) : Durable :=
  let a := { k.attrs with generation := d.generation ref, parentGen := d.parentGen p k.attrs.parentSlot, nonce := 0 }
  d.putKey ref csn (some { k with attrs := a, putCsn := csn })
/-- Invalidation (R247): TOMBSTONE, GENERATION and REVOCATION_EPOCH. The tombstone holds no material: what the key held stays
in the retire table only (R251). -/
def Durable.invalidate (d : Durable) (p ref csn : Nat) : Durable :=
  match d.keyNow ref with
  | none => d
  | some k =>
    let a := { k.attrs with flags := k.attrs.flags ||| fTombstone, generation := k.attrs.generation + 1 }
    let d1 := d.putKey ref csn (some { k with attrs := a, material := List.replicate k.material.length 0 })
    match getK p d1.parts with
    | some x => { d1 with parts := setK p { x with revEpoch := (x.revEpoch + 1) % 2 ^ 64 } d1.parts }
    | none => d1
/-- CTR_ADD: saturates at 0 and 2^64 - 1 (R123). -/
def Durable.addCtr (d : Durable) (p n csn : Nat) (delta : Int) : Durable :=
  let vs := getD (p, n) [] d.ctrs
  let v : Int := ((newest vs).getD 0 : Nat)
  let w := max 0 (min (v + delta) (2 ^ 64 - 1))
  { d with ctrs := setK (p, n) ((csn, w.toNat) :: vs) d.ctrs }
/-- A new version of a program code (R144). -/
def Durable.putProg (d : Durable) (p code csn : Nat) (i : Option ProgImage) : Durable :=
  { d with progs := setK (p, code) ((csn, i) :: getD (p, code) [] d.progs) d.progs }
/-- The image current in the newest state. -/
def Durable.progNow (d : Durable) (p code : Nat) : Option ProgImage :=
  match getK (p, code) d.progs with
  | some vs => (newest vs).join
  | none => none
/-- The image current as of a CSN (R141, R144). -/
def Durable.progAt (d : Durable) (p code csn : Nat) : Option ProgImage :=
  match getK (p, code) d.progs with
  | some vs => (asOf csn vs).join
  | none => none
/-- The key references of a partition that have a newest version. -/
def Durable.refsOf (d : Durable) (p : Nat) : List Nat :=
  (d.keys.filter fun e => refPartition e.1 == p && (d.keyNow e.1).isSome).map (·.1)
/-- The codes that have a current image in a partition. -/
def Durable.codesOf (d : Durable) (p : Nat) : List Nat :=
  (d.progs.filter fun e => e.1.1 == p && (d.progNow p e.1.2).isSome).map (·.1.2)
/-- SIGNER_REVOKE: the images signed under the key stop being current at the same CSN (R253). -/
def Durable.dropSigned (d : Durable) (p csn : Nat) (signerId : Bytes) : Durable :=
  ((d.codesOf p).filter fun c => match d.progNow p c with | some i => i.signerId == signerId | none => false).foldl
    (fun d c => d.putProg p c csn none) d
/-- A configuration item at a scope of partition `p`. -/
def scopedTo (p : Nat) (e : Nat × Nat) : Bool :=
  match (itemScope e.1).bind fun k => scopePartition k e.2 with | some q => q == p | none => false
/-- What a partition number holds that goes with its deletion (R90, R229, log 21): keys, tables, counters, programs and
configuration. Older versions stay for running invocations. -/
def Durable.clearPartition (d : Durable) (p csn : Nat) : Durable :=
  let d1 := (d.refsOf p).foldl (fun d r => d.putKey r csn none) d
  let d2 := (d1.codesOf p).foldl (fun d c => d.putProg p c csn none) d1
  { d2 with
    tab := d2.tab.map fun e => if e.1.1 = p then (e.1, (csn, []) :: e.2) else e
    ctrs := d2.ctrs.map fun e => if e.1.1 = p then (e.1, (csn, 0) :: e.2) else e
    config := d2.config.filter fun e => !scopedTo p e.1 }

/-- The key that a registered public key becomes (R253); its masks are the model's (log 135). -/
def publicKeyMat (p keyType : Nat) (pub : Bytes) : KeyMat :=
  { attrs := { keyType := keyType, usage := uVerify, level := 2, owner := p, worldMask := 0x08, lcMask := 7 },
    material := pub }

/-- One item's change at a CSN. -/
def Durable.applyItem (d : Durable) (p csn : Nat) : CItem → Durable
  | .keyPut r k => d.storeKey p r csn k
  | .keyInvalidate r => d.invalidate p r csn
  | .ctrAdd n x => d.addCtr p n csn x
  | .tabWrite n b => { d with tab := setK (p, n) ((csn, fit 4096 b) :: getD (p, n) [] d.tab) d.tab }
  | .programPut i => d.putProg p (leAt i 8 2) csn (some (parseImage i))
  | .programDelete c => d.putProg p c csn none
  | .configSet i sc v => { d with config := setK (i, sc) v d.config }
  | .ivReserve r n =>
    match d.keyNow r with
    | some k => d.putKey r csn (some { k with attrs := { k.attrs with nonce := n } })
    | none => d
  | .partitionCreate q ro m n ks =>
    let r : Roster := { m := m, n := n, keys := ks }
    if ro then { d with parts := setK q { getD q {} d.parts with roster := r } d.parts }
    else { d with parts := setK q { roster := r } d.parts }
  | .partitionDelete q =>
    let d1 := d.clearPartition q csn
    { d1 with parts := delK q d1.parts, boughEpochs := setK q ((getD q 0 d1.boughEpochs + 1) % 2 ^ 32) d1.boughEpochs }
  | .branchCreate n k => d.storeKey p (mkRef p 1 n) csn k
  | .branchLoad n k => d.storeKey p (mkRef p 1 n) csn k
  | .branchRevoke n => d.invalidate p (mkRef p 1 n) csn
  | .credentialRegister n t pub => d.storeKey p (mkRef p 2 n) csn (publicKeyMat p t pub)
  | .credentialRevoke n => d.invalidate p (mkRef p 2 n) csn
  | .signerRegister n t pub => d.storeKey p (mkRef p 3 n) csn (publicKeyMat p t pub)
  | .signerRevoke n =>
    match d.keyNow (mkRef p 3 n) with
    | some k => (d.invalidate p (mkRef p 3 n) csn).dropSigned p csn (publicId p k.attrs.keyType k.material)
    | none => d
  | .partitionRestore _ _ _ ks =>
    ks.foldl (fun d e => d.putKey (mkRef p (refKind e.1) (refIndex e.1)) csn
      (some { e.2 with restored := true, putCsn := csn })) d
  | .wallClock w e => { d with config := setK (0x0A03, 0) (leBytes 8 w ++ leBytes 4 e) d.config }
  | .partitionBackup => d
  | .rngSourceEnable _ => d
  | .bootPreferredSlot _ => d
  | .csnReserve _ => d
  | .malformed _ => d

/-- The objects that an item changes besides those it names: what goes with a partition, the images of a revoked signer. -/
def Durable.clearedBy (d : Durable) (p : Nat) : CItem → List (Nat × Nat)
  | .partitionDelete q => (d.refsOf q).map (fun r => (1, r)) ++ (d.codesOf q).map (fun c => (3, q * 65536 + c)) ++
      ((d.tab.filter fun e => e.1.1 == q).map fun e => (2, q * 256 + e.1.2)) ++
      (d.config.filter fun e => scopedTo q e.1).map fun e => (4, e.1.1 * 2 ^ 32 + e.1.2)
  | .signerRevoke n => match d.keyNow (mkRef p 3 n) with
    | some k => ((d.codesOf p).filter fun c => match d.progNow p c with
        | some i => i.signerId == publicId p k.attrs.keyType k.material | none => false).map fun c => (3, p * 65536 + c)
    | none => []
  | _ => []
/-- The change of a record, and the tickets of the objects it changed (R338). -/
def Durable.applyRecord (d : Durable) (r : Record) : Durable :=
  let d1 := r.items.foldl (fun d i => d.applyItem r.partition r.csn i) d
  let objs := objectsOf r.partition r.items ++ r.items.flatMap (d.clearedBy r.partition)
  { d1 with lastTickets := objs.foldl (fun l o => setK o r.ticket l) d1.lastTickets }

/-! ### Checks against the head state (R341 to R343) -/

/-- Who stages an item: a program by its world, a stage, or the module itself. -/
inductive Stager where
  | program (world : Nat) | stage | module
deriving DecidableEq, Repr

/-- Whether a kind is open to its stager (R341, R113). -/
def itemPermitted (st : Stager) (p : Nat) (i : CItem) : Bool :=
  match st with
  | .module => true
  | .program w => (match i with
    | .keyPut _ _ => w != 4 | .keyInvalidate _ => w != 4 | .ctrAdd _ _ => w != 4 | .tabWrite _ _ => w != 4
    | .configSet _ _ _ => w == 4
    | .malformed _ => true
    | _ => false)
  | .stage => (match i with
    | .keyPut _ _ => false
    | .ivReserve _ _ => false
    | .programPut _ => p != 0
    | .programDelete _ => p != 0
    | .partitionCreate _ _ _ _ _ => p == 0
    | .partitionDelete _ => p == 0
    | .rngSourceEnable _ => p == 0
    | .bootPreferredSlot _ => p == 0
    | .csnReserve _ => false
    | .wallClock _ _ => false
    | _ => true)

/-- An item that needs a quorum (R398, R354, R434). The first roster of partition 0 needs none in TEST and PROVISIONED (R399). -/
def itemQuorum (lc : Lifecycle) (d : Durable) : CItem → Bool
  | .programPut _ => true
  | .programDelete _ => true
  | .partitionCreate q ro _ _ _ => !(ro && q == 0 && (getD 0 {} d.parts).roster.n == 0 && (lc == .test || lc == .provisioned))
  | .partitionDelete _ => true
  | .branchCreate _ _ => true
  | .branchLoad _ _ => true
  | .branchRevoke _ => true
  | .credentialRegister _ _ _ => true
  | .credentialRevoke _ => true
  | .signerRegister _ _ _ => true
  | .signerRevoke _ => true
  | .partitionBackup => true
  | .partitionRestore _ _ _ _ => true
  | .rngSourceEnable _ => true
  | .bootPreferredSlot _ => true
  | .configSet i _ _ => i / 256 == 7 || i == 0x0801 || i == 0x0802 || i == 0x0804
  | _ => false

/-- A reference that counts as free for KEY_PUT: no key, a tombstone, or an invalid ancestry (R249). -/
def Durable.refFree (d : Durable) (ref : Nat) : Bool :=
  match d.keyNow ref with
  | none => true
  | some k => isTombstone k.attrs || !d.ancestryOk (refPartition ref) (2 ^ 64) k.attrs
/-- A parent under which a key can be stored: the bough of a defined partition, or a branch that is no tombstone (R252). -/
def Durable.parentOk (d : Durable) (p slot : Nat) : Bool :=
  if slot = 0 then (getK p d.parts).isSome
  else match d.keyNow (mkRef p 1 slot) with
    | some b => !isTombstone b.attrs
    | none => false

/-- The records, flash bytes and pinned keys that a partition's (or every) key takes. -/
def Durable.used (d : Durable) (f : Nat → Bool) (m : KeyMat → Nat) : Nat :=
  (d.keys.map fun e => if f e.1 then (match d.keyNow e.1 with | some k => m k | none => 0) else 0).sum
def pinWeight (k : KeyMat) : Nat := if isPinned k.attrs && !isTombstone k.attrs then 1 else 0

/-- The keys an item stores, with their references. -/
def storedKeys (p : Nat) : CItem → List (Nat × KeyMat)
  | .keyPut r k => [(r, k)]
  | .branchCreate n k => [(mkRef p 1 n, k)]
  | .branchLoad n k => [(mkRef p 1 n, k)]
  | .credentialRegister n t pub => [(mkRef p 2 n, publicKeyMat p t pub)]
  | .signerRegister n t pub => [(mkRef p 3 n, publicKeyMat p t pub)]
  | .partitionRestore _ _ _ ks => ks.map fun e => (mkRef p (refKind e.1) (refIndex e.1), e.2)
  | _ => []
/-- The limits of R243, R245 and R246 hold for a commit's keys together: the keys stored so far, a partition, a weight
and the newest weights they replace. -/
def Durable.keysFit (d : Durable) (p : Nat) (ks : List (Nat × KeyMat)) : Bool :=
  let old := fun (m : KeyMat → Nat) => (ks.map fun e => match d.keyNow e.1 with | some k => m k | none => 0).sum
  let new := fun (m : KeyMat → Nat) => (ks.map fun e => m e.2).sum
  let own := fun r => refPartition r == p
  let all := fun (_ : Nat) => true
  decide (d.used own keyRecords + new keyRecords ≤ d.keyQuota p + old keyRecords) &&
  decide (d.used all keyRecords + new keyRecords ≤ 16777216 + old keyRecords) &&
  decide (d.used all keyFlash + new keyFlash ≤ 2 ^ 31 + old keyFlash) &&
  (new pinWeight == 0 ||
   (decide (d.used own pinWeight + new pinWeight ≤ d.pinMax p + old pinWeight) &&
    decide (d.used all pinWeight + new pinWeight ≤ 16384 + old pinWeight)))

/-- A roster within R397. -/
def rosterOk (m n : Nat) (keys : List Bytes) : Bool :=
  decide (2 ≤ n ∧ n ≤ 16) && decide (2 ≤ m ∧ m ≤ n) && keys.length == n && decide keys.Nodup

/-- The checks of a branch's template (R238, R224): it is made under the bough by a ceremony, in world C, whose templates may name every
world (log 136). -/
def branchError (a : Attrs) : Option Status :=
  if templateMalformed true a then some St.keyMalformed
  else if isSym a.keyType = false then some St.keyTypeMismatch
  else if usageNotPermitted a then some St.keyTypeMismatch
  else if usageConflict 1 a then some St.keyUsageConflict
  else if modeAgrees a.mode a.usage = false then some St.keyTemplateDenied
  else none

/-- A registered public key: type, length and place (R253, R294). -/
def Durable.publicError (d : Durable) (ref keyType : Nat) (pub : Bytes) : Option Status :=
  if refOk ref = false then some St.commitItemInvalid
  else if keyType ≠ 0x84 ∧ keyType ≠ 0x8B then some St.keyTypeMismatch
  else if pub.length ≠ (if keyType = 0x84 then 97 else 1952) then some St.commitItemInvalid
  else if d.refFree ref = false then some St.keyRefOccupied
  else none
/-- A branch, credential or signing key that a ceremony may revoke. -/
def Durable.revokeError (d : Durable) (ref : Nat) : Option Status :=
  if refOk ref = false then some St.commitItemInvalid
  else match d.keyNow ref with
    | none => some St.keyNotFound
    | some k => if isTombstone k.attrs then some St.keyInvalidated else none

/-- The registered signing key of an image's SIGNER_ID (R143, R254). -/
def Durable.signer (d : Durable) (p : Nat) (id : Bytes) : Option KeyMat :=
  ((d.refsOf p).filter fun r => refKind r == 3).findSome? fun r =>
    match d.keyNow r with
    | some k => if !isTombstone k.attrs && publicId p k.attrs.keyType k.material == id then some k else none
    | none => none
/-- Code bytes of the current images of a partition, without one code. -/
def Durable.codeBytes (d : Durable) (p without : Nat) : Nat :=
  ((d.codesOf p).map fun c => if c = without then 0 else match d.progNow p c with | some i => i.text.length | none => 0).sum
/-- PROGRAM_PUT: the image's checks (R143). -/
def Durable.programError (d : Durable) (p : Nat) (img : Bytes) : Option Status :=
  if imageOk p img (d.signer p (slice img 32 16)) = false then some St.programImageInvalid else none
/-- An image within the limits on tenant programs (R140). -/
def Durable.programFits (d : Durable) (p : Nat) (img : Bytes) : Bool :=
  let code := leAt img 8 2
  let n := leAt img 16 4
  decide (((d.codesOf p).filter (· != code)).length < 32) && decide (d.codeBytes p code + n ≤ 4 * 1048576) &&
  decide ((d.parts.map fun e => d.codeBytes e.1 (if e.1 = p then code else 0)).sum + n ≤ 960 * 1048576)

/-- PARTITION_CREATE and PARTITION_DELETE name a partition (R91, R397, R406). -/
def State.partitionItemError (s : State) (d : Durable) (i : CItem) : Option Status :=
  match i with
  | .partitionCreate q ro m n ks =>
    if s.partitionCount ≤ q then some St.partitionOutOfRange
    else if ro then
      (if (getK q d.parts).isNone then some St.partitionNotDefined
       else if rosterOk m n ks then none else some St.rosterInvalid)
    else if q = 0 then some St.partitionProtected
    else if (getK q d.parts).isSome then some St.commitItemInvalid
    else if rosterOk m n ks then none else some St.rosterInvalid
  | .partitionDelete q =>
    if s.partitionCount ≤ q then some St.partitionOutOfRange
    else if q = 0 then some St.partitionProtected
    else if (getK q d.parts).isNone then some St.partitionNotDefined else none
  | _ => none

/-- KEY_PUT against the head state (R231, R241, R249, R252). -/
def Durable.keyPutError (d : Durable) (p ref : Nat) (k : KeyMat) : Option Status :=
  if refOk ref = false then some St.keyMalformed
  else if refPartition ref ≠ p then some St.keyPartitionDenied
  else if refKind ref ≠ 0 then some St.keyNeedsCeremony
  else if isEphemeral k.attrs then some St.keyEphemeral
  else if d.refFree ref = false then some St.keyRefOccupied
  else if d.parentOk p k.attrs.parentSlot = false then some St.keyAncestorInvalid
  else none
/-- KEY_INVALIDATE against the head state (R204, R247). -/
def Durable.keyInvalidateError (d : Durable) (p ref : Nat) : Option Status :=
  if refOk ref = false then some St.keyMalformed
  else if refPartition ref ≠ p then some St.keyPartitionDenied
  else match d.keyNow ref with
    | none => some St.keyNotFound
    | some k => if isTombstone k.attrs then some St.keyInvalidated
        else if refKind ref ≠ 0 then some St.keyNeedsCeremony else none

/-- A branch item: index, template and place (R231, R238, R249). A formed branch is judged as the template it was made
from. -/
def Durable.branchItemError (d : Durable) (p n : Nat) (k : KeyMat) : Option Status :=
  let t := if k.material.length = 36 then { k.attrs with level := 0, owner := 0 } else k.attrs
  if refOk (mkRef p 1 n) = false then some St.commitItemInvalid
  else match branchError t with
    | some e => some e
    | none => if d.refFree (mkRef p 1 n) then none else some St.keyRefOccupied

/-- A listed kind that programs may not stage, whatever its body (R341). -/
def closedKind (st : Stager) (k : Nat) : Bool :=
  match st with
  | .program w => (w == 4 && decide (1 ≤ k ∧ k ≤ 4)) || [5, 6, 8, 9, 10, 0x10, 0x11, 0x12, 0x13, 0x14, 0x15, 0x16, 0x17, 0x18, 0x19, 0x20].contains k
  | _ => false

/-- The first rule an item breaks against a head state (R341, R343). A tombstone counts as a key for RESTORE_CONFLICT (log 137). -/
def State.itemError (s : State) (d : Durable) (st : Stager) (p : Nat) (i : CItem) : Option Status :=
  match i with
  | .malformed k => if closedKind st k then some St.itemNotPermitted else some St.commitItemInvalid
  | _ =>
  if itemPermitted st p i = false then some St.itemNotPermitted
  else match i with
  | .keyPut r k => d.keyPutError p r k
  | .keyInvalidate r => d.keyInvalidateError p r
  | .ctrAdd n _ => if n < 65536 then none else some St.commitItemInvalid
  | .tabWrite n b => if n < 256 ∧ b.length = 4096 then none else some St.commitItemInvalid
  | .programPut img => d.programError p img
  | .programDelete c => if 0x8000 ≤ c ∧ c < 65536 then none else some St.commitItemInvalid
  | .configSet it sc v => s.configError d p it sc v
  | .partitionCreate q ro m n ks => s.partitionItemError d (.partitionCreate q ro m n ks)
  | .partitionDelete q => s.partitionItemError d (.partitionDelete q)
  | .branchCreate n k => d.branchItemError p n k
  | .branchLoad n k =>
    -- COMPONENTS equals the roster's M (R406); the item holds it and KCV until the key is formed
    if k.material.length = 4 ∧ leAt k.material 0 1 ≠ (getD p {} d.parts).roster.m then some St.commitItemInvalid
    else d.branchItemError p n k
  | .branchRevoke n => d.revokeError (mkRef p 1 n)
  | .credentialRegister n t pub => d.publicError (mkRef p 2 n) t pub
  | .credentialRevoke n => d.revokeError (mkRef p 2 n)
  | .signerRegister n t pub => d.publicError (mkRef p 3 n) t pub
  | .signerRevoke n => d.revokeError (mkRef p 3 n)
  | .partitionRestore _ _ _ _ =>
    if s.lifecycle ≠ .deployed then some St.lcStateDenied
    else if d.refsOf p = [] then none else some St.restoreConflict
  | .rngSourceEnable n => if n < 8 then none else some St.commitItemInvalid
  | .bootPreferredSlot n =>
    if 2 ≤ n then some St.commitItemInvalid
    else if s.sc.slotVerifies n then none else some St.firmwareSlotInvalid
  | _ => none

/-- The index of the first of two items on one object (R343): the later one is named. -/
def duplicateAt (p : Nat) : List (Nat × Nat) → Nat → List CItem → Option Nat
  | _, _, [] => none
  | seen, n, i :: l =>
    let os := itemObjects p i
    if os.any seen.contains then some n else duplicateAt p (os ++ seen) (n + 1) l
/-- The index of the first item that fails a test, with what it gives. -/
def firstError {α β : Type} (f : α → Option β) : Nat → List α → Option (β × Nat)
  | _, [] => none
  | n, a :: l => match f a with
    | some e => some (e, n)
    | none => firstError f (n + 1) l
/-- The first item at which the keys stored so far no longer fit (R243, R245, R246). -/
def Durable.fitAt (d : Durable) (p : Nat) : List (Nat × KeyMat) → Nat → List CItem → Option Nat
  | _, _, [] => none
  | acc, n, i :: l =>
    let acc' := acc ++ storedKeys p i
    if storedKeys p i ≠ [] ∧ d.keysFit p acc' = false then some n else d.fitAt p acc' (n + 1) l
/-- The first image at which the programs put so far no longer fit (R140). -/
def Durable.programsAt (d : Durable) (p : Nat) : Nat → List CItem → Option Nat
  | _, [] => none
  | n, .programPut img :: l => if d.programFits p img = false then some n else (d.applyItem p 0 (.programPut img)).programsAt p (n + 1) l
  | n, .programDelete c :: l => (d.applyItem p 0 (.programDelete c)).programsAt p (n + 1) l
  | n, _ :: l => d.programsAt p (n + 1) l
/-- The partitions an item list leaves with their reservations: the sum of R98 after it. -/
def Durable.burstAfter (d : Durable) (items : List CItem) : Nat :=
  (items.foldl (fun d i => match i with
    | .configSet 0x0206 sc v => { d with config := setK (0x0206, sc) v d.config }
    | .partitionCreate q false _ _ _ => { d with parts := setK q {} d.parts }
    | .partitionDelete q => { d with parts := delK q d.parts }
    | _ => d) d).burstSum
/-- The first item that raises the reservations (R98). -/
def burstItem : Nat → List CItem → Nat
  | n, [] => n
  | n, i :: l => match i with
    | .configSet 0x0206 _ _ => n
    | .partitionCreate _ false _ _ _ => n
    | _ => burstItem (n + 1) l

/-- Every check of a commit or of STAGE_VALIDATE against a head state: the first failure and the item it names
(R338 apart; R343, R346, R90, R98). -/
def State.itemsError (s : State) (d : Durable) (st : Stager) (p : Nat) (items : List CItem) : Option (Status × Option Nat) :=
  if (getK p d.parts).isNone then some (St.partitionNotDefined, none)
  else match duplicateAt p [] 0 items with
  | some n => some (St.stageItemDuplicate, some n)
  | none =>
    match firstError (s.itemError d st p) 0 items with
    | some (e, n) => some (e, some n)
    | none =>
      match d.fitAt p [] 0 items with
      | some n => some (St.keyStoreFull, some n)
      | none =>
      match d.programsAt p 0 items with
      | some n => some (St.programSpaceExhausted, some n)
      | none =>
        if d.burstSum < d.burstAfter items ∧ 16 * 1048576 < d.burstAfter items then
          some (St.burstReservationExceeded, some (burstItem 0 items))
        else none

/-- R338: an item that would change an object last changed by a higher ticket, among those it names and those that go with them. -/
def Durable.orderError (d : Durable) (p ticket : Nat) (items : List CItem) : Option (Status × Option Nat) :=
  (firstError (fun i => if (itemObjects p i ++ d.clearedBy p i).any fun o => decide (ticket < getD o 0 d.lastTickets) then
    some St.commitOrderConflict else none) 0 items).map fun e => (e.1, some e.2)

/-! ### Holds (R252, R337) -/

/-- An invocation or an applying stage: what holds and is held (R337). -/
def CommitSrc.holds : CommitSrc → Bool
  | .core _ => true | .stage _ _ => true | _ => false
/-- The branches that a partition's items put keys under, and those that they revoke (R252). -/
def putParents (p : Nat) (l : List CItem) : List Nat :=
  l.filterMap fun i => match i with
    | .keyPut _ k => if k.attrs.parentSlot = 0 then none else some (mkRef p 1 k.attrs.parentSlot)
    | _ => none
def revokedBranches (p : Nat) (l : List CItem) : List Nat :=
  l.filterMap fun i => match i with | .branchRevoke n => some (mkRef p 1 n) | _ => none
/-- Two sets of items conflict: on a common object (R336), or a key put under a branch that the other revokes (R252). -/
def meets (p : Nat) (a : List CItem) (q : Nat) (b : List CItem) : Bool :=
  (objectsOf p a).any (objectsOf q b).contains || (putParents p a).any (revokedBranches q b).contains ||
  (revokedBranches p a).any (putParents q b).contains
/-- A commit is held while a running invocation or applying stage of lower ticket has an uncommitted item in conflict with one of
its own. -/
def State.held (s : State) (w : PendingCommit) : Bool :=
  w.src.holds &&
  (s.invocations.any (fun c => CommitSrc.core c.1 != w.src && !c.2.commitMade && decide (c.2.req.ticket < w.ticket) &&
     meets w.partition w.items c.2.partition c.2.stage) ||
   s.seq.waiting.any fun x => x.src != w.src && x.src.holds && decide (x.ticket < w.ticket) &&
     meets w.partition w.items x.partition x.items)
/-- A commit enters the first gate (R348). -/
def State.queueCommit (s : State) (w : PendingCommit) : State :=
  { s with seq := { s.seq with waiting := s.seq.waiting ++ [{ w with free := if s.held w then none else some s.mono }] } }

/-! ### Commands in wait, stages under APPLY (R345, R347, R548) -/

/-- The wait of a command ends with a status and a body. -/
def State.endWait (s : State) (q : Request) (st : Status) (body : Bytes := []) : State :=
  { s with sc := { s.sc with waiting := s.sc.waiting.map fun w =>
      if w.req = q then (match w.wait with | .decided _ _ => w | _ => { w with wait := .decided st body }) else w } }
/-- The body of a failing STAGE_VALIDATE or STAGE_APPLY (R344). -/
def stageFail (i : Option Nat) : Bytes := leBytes 4 (i.getD 0xFFFFFFFF) ++ [0, 0, 0, 0]
def State.stage? (s : State) (id : Nat) : Option Stage := s.seq.stages.find? (·.id == id)
def State.updStage (s : State) (id : Nat) (f : Stage → Stage) : State :=
  { s with seq := { s.seq with stages := s.seq.stages.map fun g => if g.id = id then f g else g } }
def State.dropWaiting (s : State) (w : PendingCommit) : State :=
  let l := s.seq.waiting.erase w
  { s with seq := { s.seq with waiting := l, throttled := s.seq.throttled && !l.isEmpty,
                               fullWait := s.seq.fullWait && !l.isEmpty, retireWait := s.seq.retireWait && l.any (·.drawn) } }
/-- The commit of a stage has been accepted: it applies, and the stage counts as consumed (R347, log 126). -/
def State.applyAccepted (s : State) (g : Nat) : Bool :=
  s.seq.accepted.any fun a => match a.src with | .stage _ n => n == g | _ => false
/-- A STAGE_APPLY of a stage is given up before its commit is accepted: the command ends with a status. -/
def State.withdrawApply (s : State) (g : Nat) (st : Status) : State :=
  let ws := s.seq.waiting.filter fun w => match w.src with | .stage _ n => n == g | _ => false
  let cs := s.sc.waiting.filter fun w => match w.wait with | .install n _ => n == g | _ => false
  let t := ws.foldl (fun t w => match w.src with
    | .stage q _ => ((t.dropWaiting w).endWait q st (stageFail none)).updStage g fun x => { x with applying := none }
    | _ => t) s
  cs.foldl (fun t w => t.endWait w.req st (stageFail none)) t

/-! ### Boughs (R228) -/

/-- One block of the derivation of R228. -/
def boughBlock (trunk : Bytes) (i : Nat) (context : Bytes) (len : Nat) : Bytes :=
  aesCmac trunk ([BitVec.ofNat 8 i] ++ ascii "YM8 bough" ++ [0] ++ context ++ beBytes 2 len)
/-- The bough of a partition at an epoch. -/
def boughKey (trunk : KeyMat) (p epoch : Nat) : Bytes :=
  let ctx := [0x01] ++ beBytes 2 p ++ beBytes 4 epoch ++ fit 16 Config.deviceSerial
  let k := trunk.material.take 32
  boughBlock k 1 ctx 256 ++ boughBlock k 2 ctx 256
/-- The memory encryption key of a cold start: two XTS keys. -/
def memoryKey (trunk : KeyMat) (coldCount : Nat) : Bytes :=
  let ctx := [0x02] ++ beBytes 8 coldCount ++ fit 16 Config.deviceSerial
  let k := trunk.material.take 32
  boughBlock k 1 ctx 512 ++ boughBlock k 2 ctx 512 ++ boughBlock k 3 ctx 512 ++ boughBlock k 4 ctx 512
/-- The trunk and the boughs as keys of the tree: AES-256 keys whose WORLD_MASK holds only the S bit (R224, R225). Their other
attributes the spec leaves open: the trunk and boughs stand in every life-cycle state, the trunk's owner is partition 0 (log 108). -/
def treeKey (level p : Nat) (bytes : Bytes) : KeyMat :=
  { attrs := { keyType := 5, level := level, owner := p, worldMask := 0x01, lcMask := 0x07 }, material := fit 32 bytes ++ [0, 0, 0, 0] }
/-- One 64-byte DRAM line under the two XTS keys of the memory encryption key: its 16-byte blocks with the tweak of the line
number. The size of a line and its tweak are the model's (R32, log 120). -/
def dramLine (memKey : Bytes) (line : Nat) (plain : Bytes) : Bytes :=
  let k1 := memKey.take 32
  let t0 := aesE (memKey.drop 32) (leBytes 16 line)
  let next := fun (t : Bytes) => let n := leNat t; leBytes 16 ((2 * n) % 2 ^ 128 ^^^ (if 2 ^ 127 ≤ n then 0x87 else 0))
  let t1 := next t0
  let t2 := next t1
  ((pieces 16 (fit 64 plain)).zip [t0, t1, t2, next t2]).flatMap fun e => xorBytes (aesE k1 (xorBytes e.1 e.2)) e.2
/-- TRUNK_ID (R227). -/
def trunkId (trunk : KeyMat) : Bytes := (aesCmac (trunk.material.take 32) (ascii "YM8 trunk id")).take 8

end Sys2Proof.Machine
end

