-- ==== Sys2Proof/Machine/Wire.lean ====
section
/-! DEFINITION. Frames as bytes: Ethernet, ARP, IP, ICMP, UDP and Caravan as the module sends them; the traffic keys of a
session; the network lanes of a port (02 R44, R45, R47 to R50, R69, R70, R87; 19 R530). -/

namespace Sys2Proof.Machine

/-! ### Network lanes (R530) -/

/-- How a network lane stands: in use, powered down with its transmitter at common mode, or fused off (R3, R529). -/
inductive NetLane where
  | inUse | down | fused
deriving DecidableEq, Repr

/-- NET_PORT_MODE: 0 disabled, 1 100G, 2 200G, 3 400G. -/
def State.portMode (s : State) (n : Nat) : Nat := s.cfg 0x0101 n 3
/-- How many lanes from 4p on a mode uses. -/
def modeLanes (mode : Nat) : Nat := if mode = 3 then 4 else if mode = 2 then 2 else if mode = 1 then 1 else 0
/-- Lane 0 to 31 of NET_TX and NET_RX; a disabled port leaves all of its lanes unused. -/
def State.netLane (s : State) (lane : Nat) : NetLane :=
  if s.portCount ≤ lane / 4 then .fused
  else if lane % 4 < modeLanes (s.portMode (lane / 4)) then .inUse else .down
/-- The lanes a port uses. -/
def State.portLanes (s : State) (port : Nat) : List Nat :=
  ((List.range 4).map fun k => 4 * port + k).filter fun l => s.netLane l == .inUse

/-! ### Addresses (R47) -/

/-- The first byte of a locally administered unicast address. -/
def localByte (b : Byte) : Byte := (b &&& 0xFC) ||| 0x02
/-- NET_PORT_MAC, or the address derived from serial and port. -/
def State.portMac (s : State) (n : Nat) : Bytes :=
  let v := s.cfgBytes 0x0102 n
  if v.length = 6 then v
  else match fit 6 (Config.portMac Config.deviceSerial n) with
    | b :: l => localByte b :: l
    | [] => []
/-- The port's first IPv4 or IPv6 address; none: zeros. -/
def State.portIp (s : State) (n : Nat) (v6 : Bool) : Bytes := if v6 then slice (s.cfgBytes 0x0105 n) 0 16 else slice (s.cfgBytes 0x0104 n) 0 4
/-- An IP address as bytes. -/
def ipBytes (v6 : Bool) (a : Nat) : Bytes := beBytes (if v6 then 16 else 4) a
def State.udpPort (s : State) : Nat := s.cfg 0x0106 0 7341

/-! ### Checksums -/

/-- Sum of the big-endian 16-bit words of a byte string, a last odd byte filled with zero. -/
def sum16 : Bytes → Nat
  | [] => 0
  | [a] => 256 * a.toNat
  | a :: b :: l => 256 * a.toNat + b.toNat + sum16 l
/-- The Internet checksum (RFC 1071): complement of the one's complement sum. -/
def inetSum (l : Bytes) : Nat :=
  let n := sum16 l
  0xFFFF - (if n = 0 then 0 else (n - 1) % 0xFFFF + 1)
/-- The FCS of IEEE 802.3, in the order its bytes are sent. -/
def fcsBit (c : Nat) : Nat := if c % 2 = 1 then (c / 2) ^^^ 0xEDB88320 else c / 2
def fcsByte (c : Nat) (b : Byte) : Nat := fcsBit (fcsBit (fcsBit (fcsBit (fcsBit (fcsBit (fcsBit (fcsBit (c ^^^ b.toNat))))))))
def fcs (l : Bytes) : Bytes := leBytes 4 (l.foldl fcsByte 0xFFFFFFFF ^^^ 0xFFFFFFFF)

/-! ### Ethernet, IP, UDP as sent (R44, R45) -/

/-- An Ethernet frame: addresses, the 802.1Q tag of a VLAN with its priority, padding to 64 octets, FCS. -/
def etherFrame (dst src : Bytes) (vlan prio etherType : Nat) (payload : Bytes) : Bytes :=
  let tag := if vlan = 0 then [] else beBytes 2 0x8100 ++ beBytes 2 (8192 * prio + vlan)
  let f := dst ++ src ++ tag ++ beBytes 2 etherType ++ payload
  let g := f ++ List.replicate (60 - f.length) 0
  g ++ fcs g
/-- An IPv4 header: DF set, identification 0, TTL 64, ECN Not-ECT. -/
def ip4Header (dscp proto len : Nat) (src dst : Bytes) : Bytes :=
  let h := fun (c : Nat) => [0x45] ++ beBytes 1 (4 * dscp) ++ beBytes 2 (20 + len) ++ [0, 0, 0x40, 0, 64] ++ beBytes 1 proto ++
    beBytes 2 c ++ src ++ dst
  h (inetSum (h 0))
/-- An IPv6 header: hop limit 64, ECN Not-ECT, flow label 0. -/
def ip6Header (dscp proto len : Nat) (src dst : Bytes) : Bytes :=
  beBytes 4 (6 * 2 ^ 28 + 4 * dscp * 2 ^ 20) ++ beBytes 2 len ++ beBytes 1 proto ++ [64] ++ src ++ dst
/-- An IP packet. -/
def ipPacket (v6 : Bool) (dscp proto : Nat) (src dst payload : Bytes) : Bytes :=
  (if v6 then ip6Header dscp proto payload.length src dst else ip4Header dscp proto payload.length src dst) ++ payload
/-- The pseudo-header that the checksums of UDP and ICMPv6 cover. -/
def pseudoHeader (v6 : Bool) (proto len : Nat) (src dst : Bytes) : Bytes :=
  if v6 then src ++ dst ++ beBytes 4 len ++ [0, 0, 0] ++ beBytes 1 proto else src ++ dst ++ [0] ++ beBytes 1 proto ++ beBytes 2 len
/-- A UDP datagram with its checksum, which is never sent as 0. -/
def udpDatagram (v6 : Bool) (src dst : Bytes) (sport dport : Nat) (data : Bytes) : Bytes :=
  let h := fun (c : Nat) => beBytes 2 sport ++ beBytes 2 dport ++ beBytes 2 (8 + data.length) ++ beBytes 2 c ++ data
  let c := inetSum (pseudoHeader v6 17 (8 + data.length) src dst ++ h 0)
  h (if c = 0 then 0xFFFF else c)
/-- An ICMP message: type, code 0, checksum (with the pseudo-header for ICMPv6), the rest. -/
def icmpMessage (v6 : Bool) (src dst : Bytes) (type : Nat) (rest : Bytes) : Bytes :=
  let h := fun (c : Nat) => beBytes 1 type ++ [0] ++ beBytes 2 c ++ rest
  h (inetSum ((if v6 then pseudoHeader true 58 (4 + rest.length) src dst else []) ++ h 0))
/-- A packet to the source of a frame, by a port, from the address that frame was sent to. -/
def State.packetTo (s : State) (port : Nat) (x : Source) (proto : Nat) (payload : Bytes) : Bytes :=
  etherFrame (beBytes 6 x.mac) (s.portMac port) x.vlan x.prio (if x.v6 then 0x86DD else 0x0800)
    (ipPacket x.v6 x.dscp proto (ipBytes x.v6 x.own) (ipBytes x.v6 x.ip) payload)
/-- A UDP datagram to the source of a frame. -/
def State.datagramTo (s : State) (port : Nat) (x : Source) (data : Bytes) : Bytes :=
  s.packetTo port x 17 (udpDatagram x.v6 (ipBytes x.v6 x.own) (ipBytes x.v6 x.ip) s.udpPort x.udp data)
/-- The ARP reply, or the Neighbour Advertisement (solicited, override, with the link-layer address). -/
def State.arpNdReply (s : State) (port : Nat) (x : Source) : Bytes :=
  if x.v6 then
    s.packetTo port x 58 (icmpMessage true (ipBytes true x.own) (ipBytes true x.ip) 136
      (beBytes 4 0x60000000 ++ ipBytes true x.own ++ [2, 1] ++ s.portMac port))
  else
    etherFrame (beBytes 6 x.mac) (s.portMac port) x.vlan x.prio 0x0806
      (beBytes 2 1 ++ beBytes 2 0x0800 ++ [6, 4] ++ beBytes 2 2 ++ s.portMac port ++ ipBytes false x.own ++ beBytes 6 x.mac ++
        ipBytes false x.ip)
/-- The echo reply: identifier, sequence number and data of the request. -/
def State.echoReply (s : State) (port : Nat) (x : Source) (data : Bytes) : Bytes :=
  s.packetTo port x (if x.v6 then 58 else 1)
    (icmpMessage x.v6 (ipBytes x.v6 x.own) (ipBytes x.v6 x.ip) (if x.v6 then 129 else 0) data)

/-! ### Caravan frames (R48, R50, R70) -/

/-- The 32 header bytes. -/
def hdrBytes (h : CaravanHdr) : Bytes :=
  beBytes 1 h.version ++ beBytes 1 h.type ++ beBytes 2 h.flags.toNat ++ beBytes 4 h.sessionId ++ beBytes 8 h.frameSeq ++
  beBytes 2 h.pairId ++ beBytes 2 h.bodyBytes ++ beBytes 8 h.claimOrAck ++ beBytes 4 h.reserved
/-- HKDF-Expand with SHA-256 for at most 32 bytes. -/
def hkdfExpand (prk info : Bytes) (n : Nat) : Bytes := (hmac 256 prk (info ++ [1])).take n
/-- A direction's traffic key and salt: "c2m" or "m2c" under the prk of an epoch. -/
def trafficKey (dir : String) (prk th : Bytes) : Bytes × Bytes :=
  (hkdfExpand prk (ascii "caravan v1 " ++ ascii dir ++ ascii " key" ++ th) 32,
   hkdfExpand prk (ascii "caravan v1 " ++ ascii dir ++ ascii " salt" ++ th) 4)
/-- The keys that the module sends under, and those of the client's frames in a KEY_PHASE, while the module holds them. -/
def Session.sendKey (x : Session) : Bytes × Bytes := trafficKey "m2c" x.prk x.th
def Session.recvKey (x : Session) (phase : Nat) : Option (Bytes × Bytes) :=
  if phase = x.epoch % 2 then some (trafficKey "c2m" x.prk x.th) else x.oldPrk.map fun p => trafficKey "c2m" p x.th
/-- Header, ciphertext and tag of a tagged frame. -/
def protectFrame (h : CaravanHdr) (k : Bytes × Bytes) (body : Bytes) : Bytes :=
  let r := gcmEnc k.1 (k.2 ++ beBytes 8 h.frameSeq) (hdrBytes h) body 16
  hdrBytes h ++ r.1 ++ r.2
/-- The plain body of a client's tagged frame, or nothing when its tag fails: what `tagOk` of its header and its `body` stand for
as operands (log 85). -/
def Session.opens (x : Session) (h : CaravanHdr) (cipher tag : Bytes) : Option Bytes :=
  match x.recvKey (h.flags.toNat % 2) with
  | some k => gcmDec k.1 (k.2 ++ beBytes 8 h.frameSeq) (hdrBytes h) cipher tag
  | none => none
/-- An operand frame is what the module reads from a header, ciphertext and tag. -/
def readFrom (f : FrameIn) (x : Session) (cipher tag : Bytes) : Prop :=
  match x.opens f.hdr cipher tag with
  | some b => f.hdr.tagOk = true ∧ f.body = b
  | none => f.hdr.tagOk = false

/-! ### The pair's group (R87) -/

/-- NET_PAIR_GROUP for a family: 4 bytes for IPv4, 16 for IPv6; nothing where none is set. -/
def State.pairGroup (s : State) (v6 : Bool) : Option Bytes :=
  let v := s.cfgBytes 0x0109 0
  if v.length = 20 then some (if v6 then slice v 4 16 else slice v 0 4) else none
/-- The multicast MAC address of a group (RFC 1112, RFC 2464). -/
def groupMac (v6 : Bool) (g : Bytes) : Bytes :=
  if v6 then [0x33, 0x33] ++ slice g 12 4 else [0x01, 0x00, 0x5E] ++ beBytes 3 (beNat (slice g 1 3) % 2 ^ 23)
/-- The pair's group as a destination: in the port's VLAN, from its own address of the family to NET_UDP_PORT. -/
def State.groupTarget (s : State) (port : Nat) (v6 : Bool) (g : Bytes) : Source :=
  { mac := beNat (groupMac v6 g), vlan := s.cfg 0x0103 port 0, v6 := v6, ip := beNat g, udp := s.udpPort,
    own := beNat (s.portIp port v6) }
/-- The groups that a port announces to: those of the families it has an address of (log 99). -/
def State.groupsOf (s : State) (port : Nat) : List Source :=
  [false, true].filterMap fun v6 =>
    if (s.cfgBytes (if v6 then 0x0105 else 0x0104) port).length = 0 then none else (s.pairGroup v6).map (s.groupTarget port v6)

end Sys2Proof.Machine
end

