-- ==== Sys2Proof/Machine/NetOps.lean ====
section
/-! DEFINITION. Ports, sessions and frames as every chapter uses them: counters, sending, messages in blocks, closing
(02 R44 to R66, R75, R76, R82, R83, R87, R88). -/

namespace Sys2Proof.Machine

/-! ### Ports (R46, R88) -/

def State.port (s : State) (n : Nat) : Port := if h : n < 8 then s.net.ports[n] else {}
def State.setPort (s : State) (n : Nat) (p : Port) : State :=
  if h : n < 8 then { s with net := { s.net with ports := s.net.ports.set n p } } else s
/-- The counters in the order of R88. -/
abbrev nRxFrames := 0
abbrev nRxOctets := 1
abbrev nTxFrames := 2
abbrev nTxOctets := 3
abbrev nFcsErrors := 4
abbrev nFecCorrected := 5
abbrev nFecUncorrected := 6
abbrev nOversize := 7
abbrev nPauseDrops := 8
abbrev nNonCaravan := 9
abbrev nStranger := 10
abbrev nReplay := 11
abbrev nHelloRate := 12
abbrev nBlockCrc := 13
abbrev nDupAbsorbed := 14
abbrev nOrphaned := 15
/-- The tap FIFO of a port's pair (R480). -/
def portTap (port : Nat) : Nat := 12 + port / 2
/-- A 64-bit counter that saturates. -/
def satAdd (a n : Nat) : Nat := min (2 ^ 64 - 1) (a + n)
/-- A port counter rises. -/
def State.count (s : State) (port ctr n : Nat) : State :=
  let p := s.port port
  if h : ctr < 16 then s.setPort port { p with ctrs := p.ctrs.set ctr (satAdd p.ctrs[ctr] n) } else s
/-- A port of the variant that is not disabled and has a link (R46, R47). -/
def State.portUp (s : State) (n : Nat) : Bool :=
  decide (n < s.portCount) && s.portMode n != 0 && (s.port n).up
/-- A port with an address (R47). -/
def State.portHasAddress (s : State) (n : Nat) : Bool :=
  (s.cfgBytes 0x0104 n).length != 0 || (s.cfgBytes 0x0105 n).length != 0
def State.mtu (s : State) (n : Nat) : Nat := s.cfg 0x0107 n 1500

/-! ### The unit in its pair (R356) -/

/-- A unit that serves clients. -/
def State.serves (s : State) : Bool :=
  match s.pair.state with
  | .unpaired => true | .active => true | .activeAlone => true | .isolated => true | _ => false
/-- A unit whose commits need the partner's acknowledgement (R334). -/
def State.needsAcks (s : State) : Bool :=
  match s.pair.state with
  | .active => true | .isolated => true | _ => false

/-! ### Frames (R48, R53, R87) -/

/-- Octets of an Ethernet frame that carries a Caravan frame. -/
def frameOctets (src : Source) (body : Nat) (tagged : Bool) : Nat :=
  max 64 (18 + (if src.vlan = 0 then 0 else 4) + (if src.v6 then 40 else 20) + 8 + 32 + body + (if tagged then 16 else 0))
def State.emit (s : State) (o : Output) : State := { s with outputs := o :: s.outputs }
/-- The header of a frame from the module: it carries the pair ID and the claim (R48, R87). -/
def State.txHdr (s : State) (type flags sid seq len : Nat) : CaravanHdr :=
  { type := type, flags := BitVec.ofNat 16 flags, sessionId := sid, frameSeq := seq, pairId := s.pairId, bodyBytes := len,
    claimOrAck := s.pair.claim }
/-- A frame leaves by a port, protected where keys are given; nothing leaves by a port that is down. -/
def State.sendFrame (s : State) (port : Nat) (dst : Source) (h : CaravanHdr) (keys : Option (Bytes × Bytes)) (body : Bytes) : State :=
  if s.portUp port then
    let data := match keys with | some k => protectFrame h k body | none => hdrBytes h ++ body
    ((s.emit (.frame port dst h body (s.datagramTo port dst data))).count port nTxFrames 1).count port nTxOctets
      (frameOctets dst body.length keys.isSome)
  else s

/-- An untagged body in up to 16 fragments, with FRAG_INDEX and FRAG_LAST. -/
def State.sendFragments (s : State) (port : Nat) (dst : Source) (type maxFrame : Nat) (body : Bytes) : State :=
  let l := pieces (min (s.mtu port) maxFrame - (if dst.v6 then 40 else 20) - 40) body
  ((List.range l.length).zip l).foldl (fun (t : State) e =>
    t.sendFrame port dst (t.txHdr type (e.1 * 4096 + (l.length - 1) * 256) 0 0 e.2.length) none e.2) s

/-! ### Sessions (R67) -/

def State.sess? (s : State) (sid : Nat) : Option Session := s.net.sessions.find? (·.id == sid)
def State.updSess (s : State) (sid : Nat) (f : Session → Session) : State :=
  { s with net := { s.net with sessions := s.net.sessions.map fun x => if x.id = sid then f x else x } }
/-- A session that a frame names is in the session cache of 65,536, most recently used first (R67; log 86). -/
def State.touchSession (s : State) (sid : Nat) : State :=
  { s with net := { s.net with cache := (sid :: s.net.cache.filter (· != sid)).take 65536 } }
/-- Space that a record and its cached response take of the retransmit store (R83); a response held for a down port takes its
header, body and payload in 64-byte lines beside them (log 87). -/
def lines64 (n : Nat) : Nat := 64 * cdiv n 64
def Dedup.space (d : Dedup) : Nat :=
  match d.state with
  | .cached r => 64 + lines64 (32 + r.body.length)
  | _ => 64
def Session.space (x : Session) : Nat :=
  (x.dedup.map Dedup.space).sum + (x.held.map fun r => lines64 (32 + r.body.length + r.payload.length)).sum
/-- Bytes taken of the Caravan retransmit store. -/
def State.storeUsed (s : State) : Nat := (s.net.sessions.map Session.space).sum
/-- Its size (R30). -/
def State.storeSize (s : State) : Nat := match s.variant with | .ym4096 => 2 * 2 ^ 30 | .ym1024 => 512 * 2 ^ 20
def Session.dedup? (x : Session) (id : Nat) : Option Dedup := x.dedup.find? (·.id == id)
def Session.setDedup (x : Session) (d : Dedup) : Session :=
  { x with dedup := (x.dedup.filter fun e => e.id != d.id) ++ [d] }
/-- Whether a request of a session has been dispatched and not yet answered (R76, R109). -/
def State.sessInFlight (s : State) (sid : Nat) : Bool :=
  let mine := fun (q : Request) => match q.origin with | .session i _ => i == sid | _ => false
  s.cores.any (fun c => mine c.2.req) || s.sc.queue.any mine || s.sc.waiting.any (fun c => mine c.req) ||
  (s.egress.any fun r => mine r.req) || s.disp.parts.any fun e => match e.2.reset with | some x => x.askers.any mine | none => false

/-- Stages are discarded, with a STAGE_APPLY that has not had its commit accepted (R345). -/
def State.dropStages (s : State) (f : Stage → Bool) : State :=
  let gone := s.seq.stages.filter fun g => f g && !s.applyAccepted g.id
  let t := gone.foldl (fun t g => t.withdrawApply g.id St.stageNotFound) s
  gone.foldl (fun t g => t.scEvent St.stageDiscarded [g.id])
    { t with seq := { t.seq with stages := t.seq.stages.filter fun x => gone.all fun g => g.id != x.id } }
/-- Handshakes under way (R80). -/
def State.halfOpen (s : State) : Nat := s.net.hellos.length + (s.net.sessions.filter fun x => !x.live).length
/-- Since when the half-open handshakes lie below half their limit is kept at every change of their number (R80). -/
def State.calmMark (s : State) : State :=
  { s with net := { s.net with cookieBelow :=
      if 2 * s.halfOpen < s.cfg 0x010B 0 16384 then some (s.net.cookieBelow.getD s.mono) else none } }
/-- The LNE jobs of the handshakes and sessions that satisfy a test leave the module. -/
def State.dropNetJobs (s : State) (f : Nat → Bool) : State :=
  let jobs := s.net.hellos.filterMap (fun h => if f h.sid then h.job else none) ++
    s.net.sessions.filterMap fun x => if f x.id then x.check.bind (·.job) else none
  (jobs.filterMap s.lneJob?).foldl State.dropLneJob s
/-- A session leaves the table with the job of its signature check, its slot joining the tail of the free queue. -/
def State.forgetSession (s : State) (sid : Nat) : State :=
  let t := s.dropNetJobs (· == sid)
  let u := { t with net := { t.net with sessions := t.net.sessions.filter fun x => x.id != sid,
                                        cache := t.net.cache.filter (· != sid),
                                        freed := t.net.freed ++ [sid % 1048576] } }
  (u.dropStages fun g => g.session == some sid).calmMark

/-- A tagged frame under the session's keys, with its KEY_PHASE and FRAME_SEQ, which stops short of 2^64 - 1 (R50, R51). -/
def State.sendTagged (s : State) (sid : Nat) (port : Nat) (dst : Source) (type : Nat) (body : Bytes) : State :=
  match s.sess? sid with
  | none => s
  | some x =>
    if s.portUp port = false ∨ 2 ^ 64 - 1 ≤ x.txSeq then s
    else (s.updSess sid fun y => { y with txSeq := y.txSeq + 1, txEpoch := y.txEpoch + 1 }).sendFrame port dst
      (s.txHdr type (x.epoch % 2) sid x.txSeq body.length) (some x.sendKey) body
/-- The body of a CLOSE (R49). -/
def closeBody (st reason : Nat) : Bytes := beBytes 2 st ++ beBytes 1 reason ++ [0]
/-- A response of a session that has closed is discarded (R76); a streamed one counts with its last part. -/
def State.orphanResponse (s : State) (r : Response) : State :=
  if r.streamPart = 1 ∨ r.streamPart = 4 then s
  else (s.count r.req.port nOrphaned 1).event (portTap r.req.port) St.responseOrphaned [r.req.ticket]
/-- A session is closed at a frame boundary with a CLOSE frame of its own; responses held for it are discarded (R75, R76). The
statuses that a CLOSE carries are no events (R89). -/
def State.closeSession (s : State) (sid st reason : Nat) : State :=
  match s.sess? sid with
  | none => s
  | some x =>
    (x.held.foldl State.orphanResponse (s.sendTagged sid x.port x.src 0x16 (closeBody st reason))).forgetSession sid
/-- Every session and every handshake in work ends without a CLOSE, and their slots join the free queue (R67, R75). -/
def State.endAllSessions (s : State) : State :=
  let u := (s.dropStages fun g => g.session.isSome).dropNetJobs fun _ => true
  let gone := (s.net.sessions.map (·.id) ++ s.net.hellos.map (·.sid)).map (· % 1048576)
  State.calmMark { u with net := { u.net with sessions := [], hellos := [], cache := [], freed := u.net.freed ++ gone } }
/-- A session that closes after its last responses closes once none is left (R90, R109). -/
def State.settleClosing (s : State) (sid : Nat) : State :=
  match s.sess? sid with
  | some x => match x.closing with
    | some r => if s.sessInFlight sid then s else s.closeSession sid St.sessionClosed r
    | none => s
  | none => s
/-- The sessions of a partition close with a reason, each after its last response; its messages in reassembly are
discarded, but for the payload of a request that runs, which runs to completion (R64, R90, R109). -/
def State.closePartitionSessions (s : State) (p reason : Nat) : State :=
  let mine := s.net.sessions.filter fun x => x.partition == p
  let runs := fun (i : Inbound) => match i.ticket with | some n => s.cores.any (fun c => c.2.req.ticket == n) | none => false
  mine.foldl (fun t x => (t.updSess x.id fun y =>
    { y with closing := some reason, inbound := y.inbound.filter runs }).settleClosing x.id) s

/-! ### Messages in blocks (R60, R61, R63) -/

/-- Body bytes that fit a frame of the session by a port (R53). -/
def State.frameRoom (s : State) (x : Session) (port : Nat) (dst : Source) : Nat :=
  min (s.mtu port) x.maxFrame - (if dst.v6 then 40 else 20) - 8 - 32 - 16
/-- A block with its CRC-32C. -/
def blockOf (data : Bytes) (i : Nat) : Bytes := let b := slice data (256 * i) 256; b ++ beBytes 4 (crc32c b)
/-- The body of a BLOCKS frame. -/
def blocksBody (id first : Nat) (data : Bytes) (n : Nat) : Bytes :=
  beBytes 8 id ++ beBytes 4 first ++ beBytes 2 n ++ [0, 0] ++ (List.range n).flatMap fun k => blockOf data (first + k)
/-- Blocks whose bytes are all there. -/
def Outbound.ready (o : Outbound) : Nat := if o.total ≤ cdiv o.data.length 256 then o.total else o.data.length / 256
/-- A session with an outgoing message replaced. -/
def Session.setOutbound (o : Outbound) (x : Session) : Session :=
  { x with outbound := x.outbound.map fun e => if e.id = o.id then o else e }
/-- Sends blocks of a message from `next` on, frame by frame, within the window of 1,024 (R63). -/
def State.pumpLoop (sid per : Nat) : (fuel : Nat) → State → Outbound → State × Outbound
  | 0, s, o => (s, o)
  | f + 1, s, o =>
    let lim := min o.ready (o.base + 1024)
    if lim ≤ o.next then (s, o)
    else
      let n := min per (lim - o.next)
      let t := s.sendTagged sid o.port o.src 0x12 (blocksBody o.id o.next o.data n)
      let o1 := { o with next := o.next + n, sent := o.sent ++ (List.range n).map (fun k => (o.next + k, 0, s.mono)) }
      State.pumpLoop sid per f t o1
def State.pump (s : State) (sid id : Nat) : State :=
  match s.sess? sid with
  | none => s
  | some x => match x.outbound.find? (·.id == id) with
    | none => s
    | some o =>
      let per := max 1 (min 35 ((s.frameRoom x o.port o.src - 16) / 260))
      let r := State.pumpLoop sid per 1024 s o
      r.1.updSess sid (Session.setOutbound r.2)

/-! ### Responses (R55, R56, R276) -/

/-- A later part of a streamed response: output of the lane, or its end. -/
def Response.laterPart (r : Response) : Bool := r.streamPart == 2 || r.streamPart == 4

def responseHeader (id : Nat) (r : Response) (cached blocked : Bool) : Bytes :=
  beBytes 8 id ++ beBytes 2 r.status ++ beBytes 1 ((if cached then 4 else 0) + (if r.bulk then 2 else 0) + (if blocked then 1 else 0)) ++
  [0] ++ beBytes 4 r.body.length ++ beBytes 8 (if r.bulk then r.payloadLen else 0) ++ beBytes 4 r.retryUs ++ [0, 0, 0, 0]

/-- The part is a trailer whose STATUS is not OK (R277). -/
def Response.failingTrailer (r : Response) : Bool := r.streamPart == 2 && leAt r.payload 0 2 != 0
/-- A streamed response whose failing trailer waits at egress sends no other block any more (R277; log 118). -/
def State.trailerFails (s : State) (r : Response) : Bool :=
  s.egress.any fun e => e.req.origin == r.req.origin && e.req.ticket == r.req.ticket && e.failingTrailer
/-- The bytes of a message whose first part has been sent grow by a later part of a streamed response: output of the lane, or
the trailer; where that fails, only the block or blocks of the trailer are sent of what has not been sent yet (R276, R277). -/
def State.growOutbound (s : State) (o : Outbound) (r : Response) : Outbound :=
  if r.failingTrailer then
    let fill := 32 + beNat (slice o.data 12 4) + r.payloadLen - (o.data.length + r.payload.length)
    let d := o.data ++ fit fill (Config.freeBytes s.freeCtr fill) ++ r.payload
    { o with data := d, next := max o.next ((d.length - 32) / 256) }
  else { o with data := o.data ++ r.payload }
/-- A response leaves on a session by a port: in one RESPONSE frame where it fits, else in blocks; the later parts of a
streamed response extend the message that its first part began. -/
def State.sendResponse (s : State) (sid id port : Nat) (dst : Source) (r : Response) (cached : Bool) : State :=
  match s.sess? sid with
  | none => s
  | some x =>
    if r.laterPart then
      match x.outbound.find? (·.id == id) with
      | none => s
      | some o =>
        let t := { s with freeCtr := s.freeCtr + 1 }.updSess sid (Session.setOutbound (s.growOutbound o r))
        if s.trailerFails r then t else t.pump sid id
    else
      let len := 32 + r.body.length + (if r.bulk then r.payloadLen else 0)
      if r.streamPart = 0 ∧ len ≤ s.frameRoom x port dst then
        s.sendTagged sid port dst 0x11 (responseHeader id r cached false ++ r.body ++ r.payload)
      else
        let o : Outbound := { id := id, port := port, src := dst, total := cdiv len 256,
                              data := responseHeader id r cached true ++ r.body ++ r.payload }
        let t := s.updSess sid fun y => { y with outbound := (y.outbound.filter fun (e : Outbound) => e.id != id) ++ [o] }
        if s.trailerFails r then t else t.pump sid id

/-- A refusal that leaves no record is answered at once on the session that carried the request (R82, R100). -/
def State.refuseNow (s : State) (sid id port : Nat) (src : Source) (st : Status) (retry : Nat := 0) : State :=
  s.sendResponse sid id port src { req := {}, status := st, retryUs := retry } false

/-- Records end once RESP_ACK has passed them or H has by 65,536; those of requests in flight stay (R83). -/
def Session.purge (x : Session) : Session :=
  { x with dedup := x.dedup.filter fun d => d.state == .inFlight || (decide (x.ack ≤ d.id) && decide (x.high < d.id + 65536)) }
/-- What a completed response leaves of its request's record (R82, R83). -/
def State.settleDedup (s : State) (sid id : Nat) (r : Response) : State :=
  match s.sess? sid with
  | none => s
  | some x => match x.dedup? id with
    | none => s
    | some d =>
      let room := s.storeUsed + lines64 (32 + r.body.length) ≤ s.storeSize
      let st := if r.bulk ∨ r.streamPart = 2 ∨ ¬ room then DedupState.noCopy else .cached r
      s.updSess sid fun y => (y.setDedup { d with state := st }).purge

/-- A part of the response to a request ID is held for a down port. -/
def Session.holds (x : Session) (id : Nat) : Bool :=
  x.held.any fun h => match h.req.origin with | .session _ i => i == id | _ => false
/-- The response is to a SESSION_CLOSE of its own session: the session closes just after it (R547). -/
def Response.closesOwn (r : Response) (x : Session) : Bool := r.req.verb == 0x0F03 && x.closing == some 4 && leAt r.req.body 0 4 == x.id
/-- A response of a session at egress (R36, R76, R83). A later part of a streamed response follows its first part: it is held
where that one is held, else it extends the message under way. -/
def State.deliver (s : State) (sid id : Nat) (r : Response) : State :=
  match s.sess? sid with
  | none => s.orphanResponse r
  | some x =>
    let (port, src) := match x.dedup? id with | some d => (d.port, d.src) | none => (r.req.port, x.src)
    let t := if r.streamPart = 1 ∨ r.streamPart = 4 then s
      else (s.settleDedup sid id r).updSess sid fun y => { y with quietAt := s.mono }
    let u := if (if r.laterPart then x.holds id else !s.portUp port) then t.updSess sid fun y => { y with held := y.held ++ [r] }
      else t.sendResponse sid id port src r false
    if r.closesOwn x then u.closeSession sid St.sessionClosed 4 else u.settleClosing sid

/-! ### Request items (R54, R57) -/

/-- A request item header. -/
structure ItemHdr where
  id : Nat
  verb : Nat
  queue : Nat
  bulk : Bool
  blocked : Bool
  bodyLen : Nat
  payloadLen : Nat
  reservedOk : Bool
deriving DecidableEq, Repr

/-- The big-endian number in `n` bytes at offset `o`. -/
def beAt (l : Bytes) (o n : Nat) : Nat := beNat (slice l o n)
def itemHeader (l : Bytes) : ItemHdr :=
  { id := beAt l 0 8, verb := beAt l 8 2, queue := beAt l 10 1 % 16, bulk := bit (beAt l 11 1) 1, blocked := bit (beAt l 11 1) 0,
    bodyLen := beAt l 12 4, payloadLen := beAt l 16 8, reservedOk := beAt l 10 1 / 16 == 0 && beAt l 11 1 / 4 == 0 }
/-- The status of an item that breaks R57, for the kind of frame that carried it; BULK with PAYLOAD_LEN 0, which R54 does not allow
and R57 gives no status, is malformed (log 98). -/
def ItemHdr.error (h : ItemHdr) (inBlocks : Bool) : Option Status :=
  if h.reservedOk = false ∨ (h.bulk ↔ h.payloadLen = 0) ∨ h.blocked ≠ inBlocks then some St.malformedRequest
  else if 65536 < h.bodyLen ∨ 2 ^ 36 - 32 < h.payloadLen then some St.messageTooLarge
  else none
/-- The charge of a request: item header and body in 64-byte lines. -/
def chargeOf (bodyLen : Nat) : Nat := 64 * cdiv (24 + bodyLen) 64

/-- The messages in reassembly of a partition. -/
def State.inboundOf (s : State) (p : Nat) : List Inbound :=
  (s.net.sessions.filter fun x => x.partition == p).flatMap fun x => x.inbound
def State.queuedIn (s : State) (p q : Nat) : List Request := s.disp.queued.filter fun r => r.partition == p && r.queue == q

/-! ### Flushes (R108) -/

/-- Messages still in reception whose admission to a queue came before the flush point. -/
def Inbound.queue? (i : Inbound) : Option Nat := (getK 0 i.blocks).map fun b => (itemHeader b).queue
def Inbound.flushed (q : Nat) (i : Inbound) : Inbound :=
  if i.queue? = some q ∧ i.ticket.isNone ∧ i.refused.isNone ∧ i.copy = false then { i with refused := some St.cancelled } else i
/-- The flush point: the queue's requests are cancelled, those still in reception marked; how many, and the state. -/
def State.emptyQueue (s : State) (p q : Nat) : Nat × Nat × State :=
  let n := (s.queuedIn p q).length
  let late := ((s.inboundOf p).filter fun i => i.flushed q != i).length
  let t := s.cancelQueued (fun r => r.partition == p && r.queue == q) St.cancelled
  let ss := t.net.sessions.map fun x => if x.partition = p then { x with inbound := x.inbound.map (Inbound.flushed q) } else x
  (n, late, { t with net := { t.net with sessions := ss } })
def State.flushQueue (s : State) (p q : Nat) : Nat × State :=
  let (n, late, t) := s.emptyQueue p q
  (n, t.scEvent St.queueFlushed [p, q, n + late])

/-! ### Tickets (R59, R95, R97) -/

/-- The next ticket; a block of 2^32 is reserved when none is left. -/
def State.takeTicket (s : State) : Nat × State :=
  let d := s.disp
  let d1 := if d.ticketEnd ≤ d.nextTicket then { d with ticketEnd := d.nextTicket + 2 ^ 32 } else d
  let t := { s with disp := { d1 with nextTicket := d.nextTicket + 1 }, porter := { s.porter with lastRequest := s.mono } }
  (d.nextTicket, if d.ticketEnd ≤ d.nextTicket then t.control 4 else t)
/-- A request ticketed during an entry to S2 cancels it: the module returns to S1 (R474). -/
def State.cancelSleep (s : State) : State :=
  match s.porter.entering with
  | some (2, _) => { s with porter := { s.porter with entering := none, power := .s1 } }
  | _ => s
/-- Where a source stands in the order of stamping of this cycle: the ports from (c mod P) on, the service port, the security
controller (R39, R96). -/
def State.sourceRank (s : State) (q : Request) : Nat :=
  match q.origin with
  | .session _ _ => (q.port + s.portCount - s.cycle % s.portCount) % s.portCount
  | .ring _ _ => s.portCount
  | .internal => s.portCount + 1
/-- The last run of requests whose ranks rise. -/
def lastRun (rank : Request → Nat) (l : List Request) : List Request :=
  l.foldl (fun run q => match run.getLast? with
    | some x => if rank x < rank q then run ++ [q] else [q]
    | none => [q]) []
/-- The undispatched requests stamped in the cycle under way: at one time of the model, at most one of each source (log 96). -/
def State.stampedNow (s : State) : List Request :=
  lastRun s.sourceRank (s.disp.queued.filter fun q => q.at0 == s.mono && q.cycle == s.cycle)
/-- A request put in before the first of a higher rank. -/
def insertRanked (rank : Request → Nat) (q : Request) : List Request → List Request
  | [] => [q]
  | x :: l => if rank q < rank x then q :: x :: l else x :: insertRanked rank q l
/-- The last requests of the queues change their tickets among themselves, and what is kept under their tickets follows. -/
def State.retitle (s : State) (l : List (Request × Nat)) : State :=
  let new := fun (n : Nat) => match l.find? fun e => e.1.ticket == n with | some e => e.2 | none => n
  let old := l.map fun e => e.1.ticket
  { s with disp := { s.disp with queued := (s.disp.queued.filter fun q => !old.contains q.ticket) ++
                                           l.map fun e => { e.1 with ticket := e.2 } }
           bulk := s.bulk.map fun e => (new e.1, e.2)
           net := { s.net with sessions := s.net.sessions.map fun x =>
             { x with inbound := x.inbound.map fun i => { i with ticket := i.ticket.map new } } } }
/-- Requests of one cycle have their tickets in the order of R96, whatever the order in which the commands brought them. -/
def State.orderStamps (s : State) (run : List Request) : State :=
  s.retitle ((run.foldl (fun l q => insertRanked s.sourceRank q l) []).zip (run.map (·.ticket)))
/-- A complete request gets its ticket and joins its queue, or is answered at once with the status that a flush, halt or
reset has given it (R107, R108). A second request of one source in a cycle belongs to the next. -/
def State.stampRequest (s : State) (r : Request) (refused : Option Status) : State :=
  let x := s.takeTicket
  let q := { r with ticket := x.1, at0 := s.mono, cycle := s.cycle }
  match refused with
  | some st => x.2.answer q st
  | none =>
    let run := s.stampedNow
    let t := { x.2 with disp := { x.2.disp with queued := x.2.disp.queued ++ [q] } }.cancelSleep
    if run.isEmpty ∨ run.any (fun e => s.sourceRank e == s.sourceRank q) then t else t.orderStamps (run ++ [q])
/-- A copy of a request stamped in this cycle, on a port that comes before its own: that copy is the request (R84). -/
def State.earlierCopy (s : State) (sid id port : Nat) : Option Request :=
  s.stampedNow.find? fun q => q.origin == .session sid id && decide (s.sourceRank { q with port := port } < s.sourceRank q)
/-- The copy on the earlier port becomes the request. -/
def State.takeCopy (s : State) (q : Request) (port : Nat) : State :=
  let put := fun (e : Request) => if e.ticket = q.ticket then { e with port := port } else e
  { s with disp := { s.disp with queued := s.disp.queued.map put } }.orderStamps (s.stampedNow.map put)

end Sys2Proof.Machine
end

