-- ==== Sys2Proof/Machine/CustodyOps.lean ====
section
/-! DEFINITION. The security controller's waiting commands, token slots, quorums, the ends of ceremonies, and backups
(03 R548; 13 R388 to R407; 07 R244, R259 to R261). -/

namespace Sys2Proof.Machine

/-! ### Token slots (R385 to R392) -/

def State.slot (s : State) (n : Nat) : Slot := if n = 0 then s.custody.slot0 else s.custody.slot1
def State.setSlot (s : State) (n : Nat) (x : Slot) : State :=
  if n = 0 then { s with custody := { s.custody with slot0 := x } }
  else if n = 1 then { s with custody := { s.custody with slot1 := x } } else s
/-- A class 0x0A status for a slot is kept as its detail byte (R407). -/
def State.slotStatus (s : State) (n : Nat) (st : Status) : State := s.setSlot n { s.slot n with lastStatus := st % 256 }
/-- An event of a slot is a status for it. -/
def State.slotEvent (s : State) (n : Nat) (st : Status) (more : List Nat := []) : State := (s.scEvent st (n :: more)).slotStatus n st
/-- Bits of a number, most significant first. -/
def lineBits (n v : Nat) : List Bool := (List.range n).map fun i => bit v (n - 1 - i)
/-- CRC-16/CCITT: polynomial 0x1021, initial value 0, no reflection, no final exclusive or. -/
def crc16 (l : List Bool) : Nat :=
  l.foldl (fun c b => (2 * c) % 65536 ^^^ (if decide (0x8000 ≤ c) != b then 0x1021 else 0)) 0
/-- The 64 bits of a command frame (R387). -/
def tokenFrame (index arg : Nat) : Nat :=
  let h := index % 64 * 2 ^ 40 + arg % 2 ^ 40
  (h * 2 ^ 16 + crc16 (lineBits 47 h)) * 2 + 1
/-- A data block on DAT0, or on DAT0 to DAT3 (R388). -/
def tokenLines (wide : Bool) (d : Bytes) : List (List Bool) :=
  let line := fun (l : List Bool) => false :: (l ++ lineBits 16 (crc16 l) ++ [true])
  if d = [] then []
  else if wide then (List.range 4).map fun j => line (d.flatMap fun b => [bit b.toNat (4 + j), bit b.toNat j])
  else [line (d.flatMap fun b => lineBits 8 b.toNat)]
/-! What a token sends (R387, R388). -/

def respIndex (r : TokenResp) : Nat := r.frame / 2 ^ 57
def respStatus (r : TokenResp) : Nat := r.frame / 2 ^ 49 % 256
def respValue (r : TokenResp) : Nat := r.frame / 2 ^ 17 % 2 ^ 32
/-- Start bit, CRC and end bit are right. -/
def respCrcOk (r : TokenResp) : Bool := r.frame == tokenFrame (respIndex r) (r.frame / 2 ^ 17 % 2 ^ 40)
/-- The bytes of a block on the data lines. -/
def linesBytes (wide : Bool) (len : Nat) (lines : List (List Bool)) : Bytes :=
  let at0 := fun (j i : Nat) => b2n ((lines.getD j []).getD (i + 1) false)
  (List.range len).map fun k => BitVec.ofNat 8 (if wide then ((List.range 4).map fun j => at0 j (2 * k) * 2 ^ (4 + j) + at0 j (2 * k + 1) * 2 ^ j).sum
    else ((List.range 8).map fun i => at0 0 (8 * k + i) * 2 ^ (7 - i)).sum)
/-- The block that a token has sent, where its start bits, CRCs and end bits are right. -/
def respBlock (r : TokenResp) (wide : Bool) (len : Nat) : Option Bytes :=
  let d := linesBytes wide len r.lines
  if tokenLines wide d = r.lines then some d else none
/-- Bytes of the block that a token sends for a command (R391). -/
def tokenBlockLen (index : Nat) : Nat := match index with | 3 => 16 | 16 => 256 | 21 => 96 | _ => 0

/-- A command as the slot's lines carry it. -/
def State.emitToken (s : State) (n index arg : Nat) (data : Bytes) : State :=
  s.emit (.token n index arg data (tokenFrame index arg) (tokenLines ((s.slot n).mode == 3) data))
/-- A command goes out to the token of a slot. -/
def State.tokenSend (s : State) (n : Nat) (why : TokenPurpose) (index : Nat) (arg : Nat := 0) (data : Bytes := []) : State :=
  (s.setSlot n { s.slot n with cmd := some { why := why, index := index, arg := arg, data := data } }).emitToken n index arg data
/-- The security controller raises a token step: a request of its own in queue 15 of partition 0, under a ticket of its own (R94, R95). -/
def State.raiseStep (s : State) (n : Nat) (why : TokenPurpose) (index : Nat) (arg : Nat := 0) (data : Bytes := []) : State :=
  let x := s.slot n
  let k : TokenCmd := { why := why, index := index, arg := arg, data := data }
  (s.setSlot n { x with step := some (x.steps, k), steps := x.steps + 1 }).stampRequest
    { partition := 0, queue := 15, body := leBytes 1 n ++ leBytes 8 x.steps, origin := .internal } none
/-- A raised step is dispatched: its first command goes out, unless its token has gone meanwhile. -/
def State.beginStep (s : State) (n no : Nat) : State :=
  match (s.slot n).step with
  | some (m, k) => if m = no then (s.setSlot n { s.slot n with step := none }).tokenSend n k.why k.index k.arg k.data else s
  | none => s
/-- GO_IDLE starts the token in 1-bit mode; the identity block is read next (R386). -/
def Slot.started (x : Slot) : Bool := x.mode == 2 || x.mode == 3
/-- A command of a ceremony's step, not of a token's start, erasure or new password. -/
def TokenPurpose.ofCeremony : TokenPurpose → Bool
  | .status _ _ => true | .unlock _ => true | .sign _ => true | .scan _ _ => true
  | .readBack _ _ => true | .writeShare _ _ _ _ => true | _ => false
/-- An unlocked token is locked again once the module needs it no longer (R400): at once, or after the command that is
outstanding. -/
def State.lockSlot (s : State) (n : Nat) : State :=
  let x := s.slot n
  match x.cmd, x.step with
  | some c, _ => if c.why.ofCeremony then s.setSlot n { x with cmd := some { c with why := .lock } } else s
  | none, some (_, c) =>
    if c.why.ofCeremony = false then s  -- its own end locks the token
    else if x.unlocked then (s.setSlot n { x with step := none }).tokenSend n .lock 9
    else s.setSlot n { x with step := none }
  | none, none => if x.unlocked then s.tokenSend n .lock 9 else s

/-! ### Quorums (R397 to R401) -/

/-- TOKEN_ID of a token key (R393). -/
def tokenIdOf (pub : Bytes) : Bytes := (sha256 pub).take 16
def State.roster (s : State) (p : Nat) : Roster := match getK p s.durable.parts with | some x => x.roster | none => {}
/-- The rosters whose quorum an item of a partition's stage needs (R398, R399). -/
def itemRosters (lc : Lifecycle) (d : Durable) (p : Nat) (i : CItem) : List Nat :=
  if itemQuorum lc d i = false then []
  else match i with
  | .partitionCreate q ro _ _ _ => if ro && q != 0 then [0, q] else [0]
  | .partitionDelete _ => [0]
  | .configSet _ _ _ => [0]
  | .rngSourceEnable _ => [0]
  | .bootPreferredSlot _ => [0]
  | _ => [p]
def stageRosters (lc : Lifecycle) (d : Durable) (g : Stage) : List Nat := g.items.flatMap (itemRosters lc d g.partition)
/-- The rosters a ceremony needs: those of its stage's items, else the security officers'. -/
def State.ceremonyRosters (s : State) (c : Ceremony) : List Nat :=
  if c.op = 1 then (match s.stage? c.stage with
    | some g => (stageRosters s.lifecycle s.durable g).eraseDups
    | none => [])
  else [0]
/-- A count that is still live: less than 300 s old. -/
def Ceremony.live (c : Ceremony) (now : Nat) (id : Bytes) : Bool :=
  c.counts.any fun e => e.1 == id && decide (now ≤ e.2 + 300 * 10 ^ 9)
/-- Live counts on a roster. -/
def State.countedOn (s : State) (c : Ceremony) (p : Nat) : Nat :=
  ((s.roster p).keys.filter fun k => c.live s.mono (tokenIdOf k)).length
/-- Every roster's quorum is met at this moment (R401). -/
def State.quorumNow (s : State) (c : Ceremony) : Bool :=
  (s.ceremonyRosters c).all fun p => decide (1 ≤ (s.roster p).m) && decide ((s.roster p).m ≤ s.countedOn c p)

/-! ### Ends of a ceremony (R403, R404) -/

def State.setCeremony (s : State) (c : Option Ceremony) : State := { s with custody := { s.custody with ceremony := c } }
/-- The commands that wait for the ceremony or for one of its token steps end with a status, a STAGE_APPLY whose commit has not been
accepted among them (R404); its tokens are locked. -/
def State.closeCeremony (s : State) (c : Ceremony) (st : Status) : State :=
  let hit := s.sc.waiting.filter fun w => match w.wait with
    | .ceremony g => g == c.stage && c.op == 1
    | .token _ => w.req.verb == 0x0A02
    | _ => false
  let s1 := hit.foldl (fun t w => match w.wait with
    | .ceremony _ => t.endWait w.req st (stageFail none)
    | _ => t.endWait w.req (if st = 0 then St.ceremonyMalformed else st)) s
  let s2 := if c.op = 1 ∧ st ≠ 0 then s1.withdrawApply c.stage st else s1
  ((s2.setCeremony none).lockSlot 0).lockSlot 1
/-- A ceremony ends without completing: every secret it gathered goes with it. -/
def State.abandonCeremony (s : State) (st : Status) : State :=
  match s.custody.ceremony with
  | none => s
  | some c =>
    let e := if c.everMet then st else St.quorumNotMet
    let s1 := if c.everMet then s else s.scEvent St.quorumNotMet [c.id]
    (s1.scEvent St.ceremonyAbandoned [c.op, c.id]).closeCeremony c e
/-- A ceremony completes (R404); a backup's blob stays for CEREMONY_RESULT (R405). -/
def State.completeCeremony (s : State) (csn : Nat) : State :=
  match s.custody.ceremony with
  | none => s
  | some c =>
    let kept := { c with counts := [], components := [], shares := [], shareRecords := [], upload := [], lost := [],
                         body := [] }
    let t := (s.scEvent St.ceremonyCompleted [c.op, csn]).closeCeremony c 0
    { t with custody := { t.custody with last := some kept } }
/-- The ceremony of a stage, if one is open. -/
def State.stageCeremony (s : State) (g : Nat) : Option Ceremony :=
  match s.custody.ceremony with
  | some c => if c.op = 1 ∧ c.stage = g then some c else none
  | none => none
/-- The ceremony of a stage ends when an item is added (R403). -/
def State.abandonFor (s : State) (g : Nat) : State :=
  if (s.stageCeremony g).isSome then s.abandonCeremony St.quorumNotMet else s

/-! ### Key records and backups (R244, R259 to R261) -/

/-- The keys of a partition as of a CSN, tombstones included, with the CSN of each. -/
def Durable.backupKeys (d : Durable) (p csn : Nat) : List (Nat × KeyMat) :=
  d.keys.filterMap fun e => if refPartition e.1 = p then (asOf csn e.2).join.map fun k => (e.1, k) else none
/-- The blob of R260, with the random bytes of its records' IVs. The tag that follows each 512-byte record is the record's GCM tag
again (log 24). -/
def backupBlob (keys : List (Nat × KeyMat)) (p csn : Nat) (r : Roster) (key ivs : Bytes) : Bytes :=
  let recs := (wrapKeys key keys ivs).flatMap (·.2)
  let head := leBytes 4 0x4B424859 ++ leBytes 2 1 ++ leBytes 2 p ++ leBytes 8 csn ++ fit 16 Config.deviceSerial ++
    leBytes 1 r.m ++ leBytes 1 r.n ++ [0, 0] ++ leBytes 4 recs.length ++ (aesCmac key (List.replicate 16 0)).take 8
  head ++ aesCmac key head ++ recs.flatMap fun x => x ++ slice x 496 16
/-- The keys of a blob that passes every check under its backup key (R261). -/
def openBlob (key blob : Bytes) : Option (List (Nat × KeyMat)) :=
  let all := pieces 528 (blob.drop 64)
  let recs := all.map (List.take 512)
  if leAt blob 0 4 ≠ 0x4B424859 ∨ leAt blob 4 2 ≠ 1 ∨ 4096 ≤ leAt blob 6 2 ∨ allZero (slice blob 34 2) = false ∨
      blob.length ≠ 64 + 528 * leAt blob 36 4 ∨ slice blob 40 8 ≠ (aesCmac key (List.replicate 16 0)).take 8 ∨
      slice blob 48 16 ≠ aesCmac key (blob.take 48) ∨ all.any (fun x => slice x 496 16 != x.drop 512) then none
  else openRecords key recs.length recs

/-! Shamir's split over GF(2^8) with the AES polynomial (R259). -/

/-- A product in the field. -/
def gf8Mul (a b : Nat) : Nat :=
  ((List.range 8).foldl (fun (e : Nat × Nat) i =>
    (if b.testBit i then e.1 ^^^ e.2 else e.1, (2 * e.2) % 256 ^^^ (if 128 ≤ e.2 then 0x1B else 0))) (0, a)).1
/-- The inverse of an element: its 254th power. -/
def gf8Inv (a : Nat) : Nat := (List.replicate 254 a).foldl gf8Mul 1
/-- The share of a 32-byte secret at x: byte i is the polynomial of byte i of the secret and of each string of coefficients. -/
def shamirShare (secret : Bytes) (coefs : List Bytes) (x : Nat) : Bytes :=
  (List.range 32).map fun i =>
    BitVec.ofNat 8 (((secret :: coefs).reverse.map fun (c : Bytes) => (c.getD i 0).toNat).foldl (fun acc c => gf8Mul acc x ^^^ c) 0)
/-- The secret from M shares with distinct x: the interpolation at 0. -/
def shamirCombine (shares : List (Nat × Bytes)) : Bytes :=
  let weight := fun (x : Nat) => ((shares.map (·.1)).filter (· != x)).foldl (fun w y => gf8Mul w (gf8Mul y (gf8Inv (y ^^^ x)))) 1
  (List.range 32).map fun i =>
    BitVec.ofNat 8 (shares.foldl (fun acc e => acc ^^^ gf8Mul (weight e.1) (e.2.getD i 0).toNat) 0)

/-- The backup key is drawn and split, one share for each roster token, and the blob is built, where the SC expander can
deliver (R259, R326). -/
def State.prepareBackup (s : State) : State :=
  match s.custody.ceremony with
  | none => s
  | some c =>
    let r := s.roster c.partition
    let n := 32 * (r.m - 1)
    if c.committed = false ∨ c.shares ≠ [] then s
    else
      let keys := s.durable.backupKeys c.partition c.backupCsn
      match s.tryReads 12 .backup [32, n, 12 * (keys.map fun e => keyRecords e.2).sum] with
      | (none, t) => t
      | (some l, t) =>
        let key := l.take 32
        let shares := (List.range r.n).map fun i => (i + 1, shamirShare key (pieces 32 (slice l 32 n)) (i + 1))
        t.setCeremony (some { c with shares := shares, result := backupBlob keys c.partition c.backupCsn r key (l.drop (32 + n)) })
/-- A share is written to a counted token that stays unlocked in its slot: after a read-back where an earlier write was
lost, else in its lowest free block (R259, R395, R396). -/
def State.startShare (s : State) (n : Nat) (st : Status) : State :=
  let x := s.slot n
  match s.custody.ceremony with
  | none => s
  | some c =>
    let mine := (s.roster c.partition).keys.any fun k => tokenIdOf k == x.tokenId
    if c.committed = false ∨ c.shares = [] ∨ x.unlocked = false ∨ x.cmd.isSome ∨ x.step.isSome ∨ mine = false ∨ c.written.contains x.tokenId ∨
        (c.counts.any fun e => e.1 == x.tokenId) = false then s
    else match c.lost.find? fun e => e.tokenId == x.tokenId with
      | some l => s.raiseStep n (.readBack l.block st) 16 l.block
      | none => s.raiseStep n (.scan 16 st) 16 16
/-- A ceremony's stage has been applied at a CSN: token work for a backup follows, else the ceremony completes
(R403, R405). -/
def State.ceremonyCommitted (s : State) (g : Nat) (items : List CItem) (csn : Nat) : State :=
  match s.stageCeremony g with
  | none => s
  | some c =>
    if items.any (fun i => i == .partitionBackup) then
      (((s.setCeremony (some { c with committed := true, backupCsn := csn, drawAt := s.mono })).prepareBackup).startShare 0 0).startShare 1 0
    else s.completeCeremony csn

end Sys2Proof.Machine
end

