-- ==== Sys2Proof/Machine/PlatformOps.lean ====
section
/-! DEFINITION. The platform root of trust: manifests, the start sequence and recovery, the flash filter, the device identity
and waybills (15 R432 to R457). -/

namespace Sys2Proof.Machine

/-! ### Events, outputs -/

def State.setPlat (s : State) (f : Platform → Platform) : State := { s with plat := f s.plat }
/-- An event of the platform block, whose detail byte is kept (R457). -/
def State.platEvent (s : State) (code : Status) (args : List Nat := []) : State :=
  (s.setPlat fun p => { p with lastStatus := code % 256 }).event 17 code args
/-- The outputs in their reset state but for PLT_PWR_EN, the channels in BOOT (R433). -/
def Platform.quiet (p : Platform) : Platform :=
  { p with rst := 0, outEn := 0, phase := if p.cfg.enable then .boot else .disabled, measuring := false, alone := false }
/-- Configuration group 0x08 as it stands. -/
def State.platConfig (s : State) : PlatConfig :=
  { enable := s.prfEnabled, mode0 := s.cfg 0x0802 0 0, mode1 := s.cfg 0x0802 1 0, addr := s.cfg 0x0803 0 0,
    owner := s.cfgBytes 0x0804 0, serveNs := s.cfg 0x0805 0 10 * 10 ^ 9, waitNs := s.cfg 0x0806 0 500 * 10 ^ 6 }
/-- A platform start: PLT_PWR_EN rises (R434, R438). -/
def State.platStart (s : State) : State :=
  s.setPlat fun p => { p with cfg := s.platConfig, pwrEn := true, attempt := 0, failures := 0, held := false, heldReason := 0,
                              recovering := false, risen := false, restartOff := false, results := [], manifest := none,
                              outAt := s.mono }.quiet
/-- The platform is held (R448). -/
def State.platHold (s : State) (reason : Nat) : State :=
  (s.setPlat fun p => { p.quiet with pwrEn := false, held := true, heldReason := reason, recovering := false, outAt := s.mono }).platEvent
    St.platformHeld [reason]

/-! ### Manifests (R435 to R437) -/

def parseRegion (b : Bytes) : Region :=
  { channel := leAt b 0 1, flags := BitVec.ofNat 8 (leAt b 1 1), serveRights := BitVec.ofNat 8 (leAt b 2 1),
    runRights := BitVec.ofNat 8 (leAt b 3 1), start := leAt b 4 4, units := leAt b 8 4, res := leAt b 12 4, digest := slice b 16 32 }
/-- A manifest from the bytes at its address. -/
def parseManifest (b : Bytes) : Manifest :=
  let n := leAt b 6 1
  let sigLen := leAt b 3280 4
  { magic := leAt b 0 4, format := leAt b 4 2, regionCount := n, channelMask := BitVec.ofNat 8 (leAt b 7 1), seq := leAt b 8 4,
    resetEarly := BitVec.ofNat 8 (leAt b 12 1), resetUsed := BitVec.ofNat 8 (leAt b 13 1), outEnUsed := BitVec.ofNat 8 (leAt b 14 1),
    restZero := leAt b 15 1 == 0 && leAt b 204 4 == 0 && allZero (slice b (208 + 48 * min n 64) (48 * (64 - min n 64))) &&
      decide (3284 + sigLen ≤ b.length) && decide (3284 + sigLen ≤ 65536),
    allow := (List.range 4).map fun i => slice b (16 + 32 * i) 32, ownerPubkey := slice b 144 60,
    regions := (List.range (min n 64)).map fun i => parseRegion (slice b (208 + 48 * i) 48),
    signed := slice b 0 3280, sigL := beNat (slice b 144 4), sig := slice b 3284 sigLen, digest := sha256 (b.take (3284 + sigLen)) }
def measured (r : Region) : Bool := r.flags.getLsbD 0
def bootRegion (r : Region) : Bool := r.flags.getLsbD 1
def regionOk (r : Region) : Bool :=
  decide (r.channel ≤ 1) && r.flags &&& 0xFC == 0 && r.serveRights &&& 0xF0 == 0 && r.runRights &&& 0xF0 == 0 &&
  decide (1 ≤ r.units) && r.res == 0 && (measured r || allZero r.digest)
/-- Hidden with another right. -/
def hiddenMixed (x : BitVec 8) : Bool := x.getLsbD 3 && x &&& 0x07 != 0
def apart (a b : Region) : Bool := a.channel != b.channel || decide (a.start + a.units ≤ b.start) || decide (b.start + b.units ≤ a.start)
def allApart : List Region → Bool
  | [] => true
  | r :: l => l.all (apart r) && allApart l
/-- The first condition of R437 that a manifest fails, counted from 1. -/
def manifestError (c : PlatConfig) (flash : List (Nat × FlashObs)) (m : Manifest) : Option Nat :=
  let chans := (if c.mode0 = 0 then 0 else 1) + (if c.mode1 = 0 then 0 else 2)
  if m.magic ≠ 0x4D505259 ∨ m.format ≠ 1 ∨ m.regionCount = 0 ∨ 64 < m.regionCount ∨ m.channelMask &&& 0xFC ≠ 0 ∨
      m.resetEarly.getLsbD 0 = false ∨ m.resetUsed.getLsbD 0 = false ∨ m.resetEarly &&& ~~~m.resetUsed ≠ 0 ∨
      m.outEnUsed &&& 0xF0 ≠ 0 ∨ m.restZero = false ∨ m.regions.all regionOk = false ∨
      32 < (m.regions.filter fun r => r.channel == 0).length ∨ 32 < (m.regions.filter fun r => r.channel == 1).length then some 1
  else if c.owner = [] ∨ sha256 m.ownerPubkey ≠ c.owner then some 2
  else if (m.sigL ≠ 1 ∧ m.sigL ≠ 2) ∨ (hssCheck m.ownerPubkey m.sig).unsupported = true ∨ Config.verifySig 0x8D m.ownerPubkey m.signed m.sig = false then some 3
  else if m.channelMask.toNat ≠ chans then some 4
  else if allApart m.regions = false ∨ (m.regions.all fun r => match getK r.channel flash with
      | some f => decide ((r.start + r.units) * 4096 ≤ f.density) | none => true) = false then some 5
  else if m.regions.any (fun r => hiddenMixed r.serveRights || hiddenMixed r.runRights) then some 6
  else if m.regions.any (fun r => bootRegion r && !measured r) ∨
      (List.range 2).any (fun ch => decide (256 < ((m.regions.filter fun r => bootRegion r && r.channel == ch).map (·.units)).sum)) then some 7
  else none

/-! ### Recovery (R446 to R448) -/

/-- A recovery attempt begins; without a valid set the platform is held. Where PLT_PWR_EN was low it rises, and the wait for
PLT_PWR_GOOD begins; a PLATFORM_RESTART under way ends. -/
def State.recoveryStart (s : State) (n : Nat) : State :=
  let u := s.setPlat fun p => if p.pwrEn then p.quiet else { p.quiet with pwrEn := true, restartOff := false, risen := false, outAt := s.mono }
  let t := (u.setPlat fun p => { p with attempt := n }).platEvent St.platformRecoveryStarted [n]
  if t.plat.set.state = 1 then t.setPlat fun p => { p with recovering := true }
  else (t.platEvent St.platformNoRecovery).platHold 2
/-- A failed attempt: the third holds the platform, else the next begins when it can. -/
def State.attemptFailed (s : State) (next : Bool) : State :=
  let n := s.plat.failures + 1
  let t := s.setPlat fun p => { p.quiet with failures := n, recovering := false, attempt := 0 }
  if 3 ≤ n then ((t.setPlat fun p => { p with attempt := s.plat.attempt }).platEvent St.platformRecoveryFailed).platHold 3
  else if next then t.recoveryStart (n + 1) else t
/-- A measurement has failed (R441): everything that was released is withdrawn, and recovery starts. In the sequence that a recovery
attempt runs the attempt has failed with it; in any other, the attempt after those that have failed begins (R448). -/
def State.platFail (s : State) : State :=
  let t := s.setPlat Platform.quiet
  if s.plat.attempt = 0 then t.recoveryStart (s.plat.failures + 1) else t.attemptFailed true

/-! ### The sequence (R434, R438 to R441) -/

/-- What the regions of a manifest read as after BOOT. -/
def bootResults (m : Manifest) : List (Nat × Nat) :=
  (List.range m.regions.length).map fun i => match m.regions[i]? with
    | some r => (i, if measured r = false then 3 else if bootRegion r then 1 else 0)
    | none => (i, 3)
/-- The flashes of the enabled channels can be read (R438, R441). -/
def flashesOk (c : PlatConfig) (flash : List (Nat × FlashObs)) : Bool :=
  (List.range 2).all fun ch => (if ch = 0 then c.mode0 else c.mode1) == 0 ||
    (match getK ch flash with | some f => f.sfdpOk | none => false)
/-- The sequence takes its readings of SFDP. -/
def State.platFlash (s : State) (flash : List (Nat × FlashObs)) : State :=
  s.setPlat fun p => { p with flash := flash, four := flash.map fun e => (e.1, e.2.fourByte) }
/-- The next `n` regions of a kind, in entry order, that have not been hashed match. -/
def hashNext (m : Manifest) (pick : Region → Bool) : (n : Nat) → List (Nat × Nat) → List (Nat × Nat)
  | 0, l => l
  | _, [] => []
  | n + 1, e :: l => if e.2 = 0 ∧ (m.regions[e.1]?).any pick then (e.1, 1) :: hashNext m pick n l else e :: hashNext m pick (n + 1) l
/-- What has been hashed by now of the MEASURED regions of a kind: each channel takes them in entry order, and how many each has hashed
is free (R438, R454; log 70). -/
def State.hashesDone (s : State) (m : Manifest) (pick : Region → Bool) : State :=
  let n := s.free
  let on := fun (ch : Nat) (r : Region) => measured r && pick r && r.channel == ch
  n.2.setPlat fun p => { p with results := hashNext m (on 1) (n.1 / 65 % 65) (hashNext m (on 0) (n.1 % 65) p.results) }
/-- The results as a waybill of SCOPE 1 reports them while the module still hashes (R454, R456). -/
def State.measureSoFar (s : State) : State :=
  match s.plat.manifest with
  | some m => if s.plat.measuring then s.hashesDone m (fun _ => true) else s
  | none => s
/-- Every MEASURED region matches: RUN. -/
def State.platRun (s : State) (m : Manifest) : State :=
  ((s.sample 17 28 ((s.mono - s.plat.goodAt) / 1000)).setPlat fun p =>
    { p with rst := m.resetUsed, outEn := m.outEnUsed.setWidth 4, phase := .run, measuring := false, alone := false, attempt := 0,
             failures := 0, results := p.results.map fun e => if e.2 = 0 then (e.1, 1) else e }).platEvent St.platformVerified

/-! ### The filter (R442 to R444) -/

/-- Classes of opcodes: 0 read, 1 program, 2 erase, 3 chip erase, 4 no address, 5 SFDP read; 6 outside the table. -/
def opcodeClass (o : Nat) : Nat :=
  if [0x03, 0x0B, 0x3B, 0x6B, 0xBB, 0xEB, 0x13, 0x0C, 0x3C, 0x6C, 0xBC, 0xEC].contains o then 0
  else if [0x02, 0x32, 0x12, 0x34].contains o then 1
  else if [0x20, 0x52, 0xD8, 0x21, 0xDC].contains o then 2
  else if [0x60, 0xC7].contains o then 3
  else if [0x01, 0x04, 0x05, 0x06, 0x35, 0x9F, 0xB7, 0xE9, 0x66, 0x99, 0xAB, 0xB9].contains o then 4
  else if o = 0x5A then 5 else 6
/-- Opcodes that carry a 4-byte address in every mode. -/
def fourByteOpcode (o : Nat) : Bool := [0x13, 0x0C, 0x3C, 0x6C, 0xBC, 0xEC, 0x12, 0x34, 0x21, 0xDC].contains o
/-- The rights of a 4 KiB unit in a phase; none outside every region. -/
def unitRights (m : Manifest) (run : Bool) (ch unit : Nat) : BitVec 8 :=
  match m.regions.find? fun r => r.channel == ch && decide (r.start ≤ unit ∧ unit < r.start + r.units) with
  | some r => if run then r.runRights else r.serveRights
  | none => 0
/-- The 4 KiB units that `len` bytes from an address touch. -/
def touched (from0 len : Nat) : List Nat := (List.range (cdiv (from0 % 4096 + len) 4096)).map fun i => from0 / 4096 + i
/-- The address of a command in its address mode. -/
def flashAddr (four : Bool) (c : FlashCmd) : Nat := if fourByteOpcode c.opcode ∨ four then c.addr % 2 ^ 32 else c.addr % 2 ^ 24
/-- The phase's allow-list of a channel has the opcode. -/
def opcodeAllowed (m : Manifest) (run : Bool) (ch op : Nat) : Bool :=
  bit (leAt (m.allow.getD (2 * ch + b2n run) []) (op / 8) 1) (op % 8)
/-- The units of a read, of the flash or of SFDP, whose bytes answer 0xFF: all of a read whose opcode is not allowed, else those without the read
right (R443, R444). -/
def onesUnits (m : Manifest) (run : Bool) (four : Bool) (ch : Nat) (c : FlashCmd) : List Nat :=
  if opcodeClass c.opcode = 5 then
    (if opcodeAllowed m run ch c.opcode then [] else touched (c.addr % 2 ^ 24) (max 1 c.len))
  else if opcodeClass c.opcode = 0 then
    (touched (flashAddr four c) (max 1 c.len)).filter fun u =>
      !opcodeAllowed m run ch c.opcode || !(unitRights m run ch u).getLsbD 0
  else []
/-- Whether a command passes, and whether its blocking is recorded. -/
def filterPass (m : Manifest) (run : Bool) (flash : List (Nat × FlashObs)) (four : Bool) (ch : Nat) (c : FlashCmd) : Bool × Bool :=
  let a := flashAddr four c
  let units := touched
  let all := fun (right : Nat) (l : List Nat) => l.all fun u => (unitRights m run ch u).getLsbD right
  if opcodeAllowed m run ch c.opcode = false then (false, true)
  else match opcodeClass c.opcode with
    | 0 =>
      (match (units a (max 1 c.len)).find? fun u => !(unitRights m run ch u).getLsbD 0 with
      | some u => (false, !(unitRights m run ch u).getLsbD 3)
      | none => (true, true))
    | 1 => (all 1 (units a (max 1 c.len)), true)
    | 2 => (match (getK ch flash).bind fun f => getK c.opcode f.eraseSizes with
      | some n => (n != 0 && all 2 (units (a / n * n) n), true)
      | none => (false, true))
    | 3 => (match getK ch flash with
      | some f => (all 2 (units 0 f.density), true)
      | none => (false, true))
    | 4 => (true, true)
    | 5 => (true, true)
    | _ => (false, true)

/-! ### The device identity (R449 to R452) -/

/-- The first index kept for session identities. -/
abbrev keptTree : Nat := 2 ^ 40 - 2 ^ 20
/-- A signature can be issued now: caches valid, and the bottom tree of its index built. -/
def Platform.canSign (p : Platform) : Bool :=
  p.cacheOk && decide (p.index < 2 ^ 40) && (p.index % 2 ^ 20 != 0 || p.index == 0 || p.treeNext)
/-- The next index is issued, from a block whose reservation is durable; the next block of 256 is reserved when the current one is half
used. The subtree of the index's leaf is then the one that is built (R450, R451). -/
def Platform.issue (p : Platform) : Nat × Platform :=
  let k := p.index
  let e := if p.indexEnd ≤ k then k + 256 else p.indexEnd
  (k, { p with index := k + 1, indexEnd := if (k + 1) % 256 = 128 ∧ e = k + 129 then e + 256 else e,
               treeNext := if k % 2 ^ 20 = 0 ∧ k ≠ 0 then false else p.treeNext, subtree := some (k / 1024) })
/-- An index is issued; a reservation is a control record of kind 1 (R352). -/
def State.issueIndex (s : State) : Nat × State :=
  let r := s.plat.issue
  let t := { s with plat := r.2 }
  (r.1, if r.2.indexEnd = s.plat.indexEnd then t else t.control 1)

/-- Seed and identifier of bottom tree j. -/
def bottomSeed (j : Nat) : Bytes := sha256 (fit 32 Config.identitySeed ++ ascii "YM8 identity bottom" ++ beBytes 4 j)
def bottomId (j : Nat) : Bytes := (sha256 (fit 32 Config.identitySeed ++ ascii "YM8 identity id" ++ beBytes 4 j)).take 16
/-- The signature of global index k = j × 2^20 + q by leaf q of bottom tree j. -/
def identitySign (k : Nat) (msg : Bytes) : Bytes :=
  let j := k / 2 ^ 20
  fit 5716 (Config.hssSign (fit 32 Config.identitySeed) (fit 16 Config.identityId) (bottomSeed j) (bottomId j) j (k % 2 ^ 20) msg)
/-- The device certificate (R449). -/
def State.deviceCertificate (s : State) : Bytes :=
  leBytes 4 0x45435759 ++ leBytes 2 Config.certFormat ++ ([0, 0] : Bytes) ++ fit 16 Config.deviceSerial ++
  leBytes 1 (match s.variant with | .ym4096 => 1 | .ym1024 => 2) ++ List.replicate 7 (0 : Byte) ++ fit 60 Config.identityPubkey ++
  leBytes 8 Config.certIssued ++ leBytes 4 Config.certSignature.length ++ Config.certSignature

/-! ### Waybills (R453, R454) -/

def tlv (type : Nat) (v : Bytes) : Bytes := leBytes 2 type ++ leBytes 2 v.length ++ fit (4 * cdiv v.length 4) v
def variantCode (v : Variant) : Nat := match v with | .ym4096 => 1 | .ym1024 => 2
/-- ROOTS_REVOKED and REVOKED: a bit for each revoked root. -/
def Otp.revokedBits (o : Otp) : Nat := ((List.range 4).map fun n => if o.rootRevoked n then 2 ^ n else 0).sum
def phaseCode : Phase → Nat
  | .boot => 0 | .serve => 1 | .run => 2 | .disabled => 3
/-- The STATE code of R359; 0 unpaired. -/
def State.pairCode (s : State) : Nat :=
  match s.pair.state with
  | .unpaired => 0 | .active => 1 | .activeAlone => 2 | .isolated => 3 | .standby => 4 | .resyncing => 5 | .fenced => 6 | .waiting => 7
/-- MANIFEST_SEQ and MANIFEST_DIGEST of the manifest in force; zero without one. -/
def Platform.manifestSeq (p : Platform) : Nat := match p.manifest with | some m => m.seq | none => 0
def Platform.manifestHash (p : Platform) : Bytes := match p.manifest with | some m => m.digest | none => List.replicate 32 0
/-- The TLVs, in ascending TYPE; `kind` 1 with a nonce, 2 with the session identity's public keys. -/
def State.waybillTlvs (s : State) (kind scope : Nat) (nonce keys : Bytes) (k : Nat) : Bytes :=
  let img := s.sc.runImage
  let p := s.plat
  tlv 1 (fit 16 Config.deviceSerial ++ leBytes 1 (variantCode s.variant) ++ leBytes 1 (lcCode s.lifecycle) ++
    leBytes 1 s.sc.otp.revokedBits ++ [0] ++ leBytes 4 s.porter.tamperCount) ++
  (if kind = 1 then tlv 2 nonce else []) ++
  tlv 3 (leBytes 8 s.sc.bootCount ++ leBytes 8 s.sc.coldCount ++ leBytes 8 s.mono) ++
  tlv 4 (leBytes 1 s.sc.running ++ [0, 0, 0] ++ (match img with
    | some i => leBytes 4 i.buildSeq ++ fit 16 i.version ++ fwDigest i | none => List.replicate 52 0)) ++
  tlv 5 (match img with | some i => i.sections.flatMap fun x => leBytes 2 x.type ++ [0, 0] ++ fit 32 x.digest | none => []) ++
  tlv 6 (leBytes 8 s.seq.applied ++ leBytes 2 (s.cfg 0x0701 0 0) ++ leBytes 1 s.pairCode ++ List.replicate 5 0 ++ leBytes 8 s.pair.claim) ++
  (if scope = 1 then tlv 7 (leBytes 1 (b2n p.cfg.enable) ++ leBytes 1 (phaseCode p.phase) ++ leBytes 1 p.attempt ++ [0] ++
    leBytes 4 p.manifestSeq ++ p.manifestHash ++ fit 32 p.cfg.owner ++
    p.results.flatMap fun e => leBytes 1 e.1 ++ leBytes 1 e.2 ++ [0, 0]) else []) ++
  (if kind = 2 then tlv 8 keys else []) ++
  tlv 9 (leBytes 8 (keptTree - (k + 1)))
/-- A waybill signed with index `k`. -/
def State.waybill (s : State) (kind scope : Nat) (nonce keys : Bytes) (k : Nat) : Bytes :=
  let t := s.waybillTlvs kind scope nonce keys k
  let b := leBytes 4 0x4C425759 ++ leBytes 2 1 ++ leBytes 1 kind ++ leBytes 1 scope ++ leBytes 4 t.length ++ [0, 0, 0, 0] ++ t
  b ++ leBytes 4 5716 ++ identitySign k b

end Sys2Proof.Machine
end

