-- ==== Sys2Proof/Machine/Signals.lean ====
section
/-! DEFINITION. What the service port's interrupt register and the SMBus alert register see of a step (18 R511, R517, R518;
19 R542, R543). -/

namespace Sys2Proof.Machine

/-! ### Fields of SVC_STATUS (R517) -/

/-- READY: rings and registers are available. -/
def State.ready (s : State) : Bool :=
  match s.sc.mode with | .running => true | .fatalHalt => true | .recovery => true | _ => false
/-- WAYSIDE: the wayside loader or the ROM in BLANK runs. -/
def State.waysideOn (s : State) : Bool := match s.sc.mode with | .wayside => true | .romBlank => true | _ => false
def State.fatalHalted (s : State) : Bool := s.sc.mode == .fatalHalt
/-- The fields whose change STATUS_CHANGE reports. -/
def State.statusFields (s : State) : Bool × Bool × Bool × Bool × Bool :=
  (s.ready, s.waysideOn, s.porter.unacked, s.fatalHalted, s.guest.fatal.state == 1)

/-! ### Interrupts (R518) -/

/-- Bits of SVC_INT_STATUS are set; vector 0 is signalled, once until the host has cleared what was set and enabled. -/
def State.raiseInt (s : State) (bits : BitVec 6) : State :=
  let st := s.svc.intStatus ||| bits
  let t := { s with svc := { s.svc with intStatus := st } }
  if bits &&& s.svc.intEnable ≠ 0 ∧ s.svc.armed = true then { t with svc := { t.svc with armed := false } }.emit (.msix 0) else t
/-- The slot fields whose change TOKEN reports. -/
def Slot.irqFields (x : Slot) : Bool × Bool × Bool := (x.present, x.overcurrent, x.writeIncomplete)
/-- The bits that a step from `s` to `t` sets. -/
def intBits (s t : State) : BitVec 6 :=
  (if s.statusFields ≠ t.statusFields then 0x01 else 0) |||
  (if s.custody.slot0.irqFields ≠ t.custody.slot0.irqFields ∨ s.custody.slot1.irqFields ≠ t.custody.slot1.irqFields then 0x04 else 0) |||
  (if (s.plat.phase, s.plat.held, s.plat.attempt) ≠ (t.plat.phase, t.plat.held, t.plat.attempt) then 0x08 else 0) |||
  (if s.pairCode ≠ t.pairCode then 0x10 else 0) |||
  (if s.guest.full = false ∧ t.guest.full = true then 0x20 else 0)
/-- The alert bits that a step sets: POWER, TAMPER (R542). -/
def alertBits (s t : State) : BitVec 3 :=
  (if s.porter.power ≠ t.porter.power then 1 else 0) ||| (if s.porter.latch = false ∧ t.porter.latch = true then 2 else 0)
/-- A step's result with what the two registers saw of it. -/
def State.signal (s t : State) : State :=
  let u := { t with smb := { t.smb with alert := t.smb.alert ||| alertBits s t } }
  let b := intBits s u
  if b ≠ 0 ∧ u.svc.linkUp then u.raiseInt b else u

end Sys2Proof.Machine
end

