-- ==== Sys2Proof/Machine/PairOps.lean ====
section
/-! DEFINITION. The mirror link and the lantern lines as every chapter uses them: sending, the RECORDS stream, DURABLE_BELOW
(12 R356 to R369, R382). -/

namespace Sys2Proof.Machine

/-- STATE of mirror and lantern frames (R359). -/
def PairState.code : PairState → Nat
  | .unpaired => 2 | .active => 1 | .activeAlone => 2 | .isolated => 3 | .standby => 4 | .resyncing => 5 | .fenced => 6
  | .waiting => 7

/-! The counters of R382, in its order. -/
abbrev mTx := 0
abbrev mRx := 1
abbrev mResends := 2
abbrev mCrcErrors := 3
abbrev mTagDrops := 4
abbrev mLanternDrops := 5
abbrev mHeldDiscards := 6
def State.setPair (s : State) (f : Pair → Pair) : State := { s with pair := f s.pair }
def Pair.count (p : Pair) (i n : Nat) : Pair :=
  if h : i < 7 then { p with ctrs := p.ctrs.set i (satAdd p.ctrs[i] n) } else p

/-! ### Keys of the link and the lantern lines (R358) -/

/-- Serials as numbers, higher first by their first byte (log 29). -/
def ownSerial : Nat := beNat (fit 16 Config.deviceSerial)
def State.partnerNumber (s : State) : Nat := beNat s.partnerSerial
/-- Key and salt of a direction, named by the order of the serials. -/
def linkKey (dir : String) (prk th : Bytes) : Bytes × Bytes :=
  (fit 32 (hkdfExpand prk (ascii "mirror v1 " ++ ascii dir ++ ascii " key" ++ th) 32),
   fit 4 (hkdfExpand prk (ascii "mirror v1 " ++ ascii dir ++ ascii " salt" ++ th) 4))
/-- The unit of the lower serial takes the client's part of the agreement (log 62). -/
def State.lower (s : State) : Bool := decide (ownSerial < s.partnerNumber)
/-- The private parts of a unit's agreement and signatures, as they are drawn (log 62): X25519 key, ML-KEM seed or encapsulation's random,
the signatures' random. -/
def linkDraws : List Nat := [32, 64, 80]
/-- The first message of the agreement: random, X25519 share and, of the lower unit, its ML-KEM-768 key. -/
def State.linkHello (s : State) (random secret : Bytes) : Bytes :=
  random ++ fit 32 (Config.publicKey 0x90 (slice secret 0 32)) ++ (if s.lower then fit 1184 (Config.publicKey 0xA1 (slice secret 32 64)) else [])
/-- What the higher unit makes of the lower one's key: ciphertext and secret. -/
def State.linkKem (s : State) (peer : PeerInfo) : Bytes × Bytes :=
  Config.kemEncapsulate (slice peer.hello 64 1184) (slice s.pair.secret 32 32)
/-- Both messages of the agreement, the lower unit's first. -/
def State.linkMessages (s : State) (peer : PeerInfo) : Bytes × Bytes :=
  if s.lower then (s.pair.hello, peer.hello) else (peer.hello, s.pair.hello ++ fit 1088 (s.linkKem peer).1)
/-- The transcript hash that both units sign. -/
def State.linkTh (s : State) (peer : PeerInfo) : Bytes := sha256 ((s.linkMessages peer).1 ++ (s.linkMessages peer).2)
/-- The key extracted from both secrets under both randoms (R70). -/
def State.linkPrk (s : State) (peer : PeerInfo) : Bytes :=
  let kem := if s.lower then Config.kemDecapsulate (slice s.pair.secret 32 64) (slice peer.hello 64 1088) else (s.linkKem peer).2
  hmac 256 (slice (s.linkMessages peer).1 0 32 ++ slice (s.linkMessages peer).2 0 32)
    (fit 32 (Config.dhShared (slice s.pair.secret 0 32) (slice peer.hello 32 32)) ++ fit 32 kem)
/-- The rest of this unit's part: the higher unit's ciphertext, then both signatures and the waybill. -/
def State.linkProof (s : State) (peer : PeerInfo) : Bytes :=
  let msg := ascii "mirror v1 module" ++ s.linkTh peer
  match s.sc.identity with
  | none => []
  | some (seed, waybill) =>
    (if s.lower then [] else fit 1088 (s.linkKem peer).1) ++
    fit 96 (Config.sign 0x84 (Config.makePrivate 0x84 0 seed) msg (slice s.pair.secret 96 48)) ++
    fit 3309 (Config.sign 0x8B (Config.makePrivate 0x8B 0 seed) msg (slice s.pair.secret 144 32)) ++ waybill
/-- The keys that a handshake gives, as R70 derives them. -/
def State.linkKeys (s : State) (peer : PeerInfo) (p : Pair) : Pair :=
  let prk := s.linkPrk peer
  let th := s.linkTh peer
  let up := linkKey "lo2hi" prk th
  let down := linkKey "hi2lo" prk th
  { p with txKey := if s.lower then up else down, rxKey := if s.lower then down else up,
           lanternKey := fit 32 (hkdfExpand prk (ascii "mirror v1 lantern" ++ th) 32) }

/-! ### Frames (R359, R360, R363, R364) -/

/-- DURABLE_MARK and CONFIRMED of a sent frame (R359). -/
def State.sentMark (s : State) : Nat :=
  match s.pair.state with
  | .standby => s.pair.acked | .resyncing => s.pair.acked | _ => s.seq.durableBelow
def State.sentConfirmed (s : State) : Nat :=
  match s.pair.state with | .standby => s.pair.mark | .resyncing => s.pair.mark | _ => 0
/-- The 48 header bytes of the next mirror frame. -/
def State.mirHeader (s : State) (type len : Nat) : Bytes :=
  leBytes 2 0x4D52 ++ leBytes 1 type ++ leBytes 1 s.pair.state.code ++ leBytes 4 s.pair.linkEpoch ++ leBytes 8 s.pair.txSeq ++
  leBytes 8 s.pair.seen ++ leBytes 8 s.sentMark ++ leBytes 8 s.sentConfirmed ++ leBytes 4 len ++ [0, 0, 0, 0]
/-- Header, ciphertext and tag; the IV ends in FRAME_SEQ as the header holds it (log 111). -/
def State.mirWire (s : State) (type : Nat) (body : Bytes) : Bytes :=
  let h := s.mirHeader type body.length
  let r := gcmEnc s.pair.txKey.1 (s.pair.txKey.2 ++ leBytes 8 s.pair.txSeq) h body 16
  h ++ r.1 ++ r.2
/-- A mirror frame goes out on an open link; where it would need FRAME_SEQ 2^64 − 1 the link closes in its place (R51). -/
def State.mirSend (s : State) (type : Nat) (body : Bytes := []) (recs : List Record := []) : State :=
  if s.pair.linkOpen ∧ s.pair.txSeq = 2 ^ 64 - 1 then s.setPair fun p => { p with linkOpen := false }
  else if s.pair.linkOpen then
    (s.emit (.mirror type s.pair.state.code s.pair.linkEpoch s.pair.txSeq s.pair.seen s.sentMark s.sentConfirmed body recs
      (s.mirWire type body))).setPair fun p => { p with txSeq := p.txSeq + 1 }.count mTx 1
  else s
/-- The 32 bytes of a lantern frame with a SEQ: the MAC under the lantern key over its first 24. -/
def State.lanternBytes (s : State) (type seq : Nat) : Bytes :=
  let b := leBytes 1 type ++ leBytes 1 s.pair.state.code ++ [0, 0] ++ leBytes 4 s.pair.linkEpoch ++ leBytes 8 seq ++ leBytes 8 s.pair.seen
  b ++ (aesCmac s.pair.lanternKey b).take 8
/-- The TAMPER frame is built anew, its SEQ one above that of the last frame started. -/
def State.prepareTamper (s : State) : State :=
  s.setPair fun p => { p with tamperFrame := s.lanternBytes 3 (s.pair.lanternTx + 1) }
/-- A lantern frame goes out under the lantern key of the current epoch; there is none before the first handshake, and none of a
unit that behaves as unpaired (R355, R356). -/
def State.lanternSend (s : State) (type : Nat) : State :=
  if s.pair.lanternKey = [] ∨ s.pair.state = .unpaired then s
  else
    let n := s.pair.lanternTx + 1
    ((s.emit (.lantern type s.pair.state.code s.pair.linkEpoch n s.pair.seen (s.lanternBytes type n))).setPair
      fun p => { p with lanternTx := n }).prepareTamper
/-- The prepared TAMPER frame leaves at a trip (R364). -/
def State.lanternTrip (s : State) : State :=
  if s.pair.tamperFrame = [] ∨ s.pair.state = .unpaired then s
  else
    let f := s.pair.tamperFrame
    (s.emit (.lantern 3 (leAt f 1 1) (leAt f 4 4) (leAt f 8 8) (leAt f 16 8) f)).setPair fun p => { p with lanternTx := leAt f 8 8, tamperFrame := [] }

/-! ### The RECORDS stream (R361, R365) -/

/-- A unit whose records go to a partner: ACTIVE or ISOLATED, or alone while a partner resynchronises from it. -/
def State.streams (s : State) : Bool :=
  match s.pair.state with
  | .active => true | .isolated => true | .activeAlone => s.pair.serving | _ => false
/-- A byte string as blocks of a stream, from a fresh one on, the last filled with zeros (log 25). -/
def streamBlocks (l : Bytes) : List Bytes := (pieces 256 l).map (fit 256)
/-- Blocks that a record takes of the stream. -/
def recordBlocks (r : Record) : Nat := cdiv (64 * r.lines) 256
/-- The body of a RECORDS or SNAPSHOT frame. -/
def streamBody (first : Nat) (blocks : List Bytes) : Bytes :=
  leBytes 8 (256 * first) ++ leBytes 2 blocks.length ++ [0, 0, 0, 0, 0, 0] ++ blocks.flatMap fun b => b ++ leBytes 4 (crc32c b)
/-- TYPE of a stream's frames. -/
def streamType (stream : Nat) : Nat := if stream = 0 then 0x11 else 0x14
/-- One frame of a stream: its blocks are sent and await their acknowledgement; the record that ends in the last of them stands
with it. -/
def State.sendFrameBlocks (s : State) (stream : Nat) (blocks : List Bytes) (recs : List Record) : State :=
  let first := if stream = 0 then s.pair.nextBlk else s.pair.snapNextBlk
  let n := blocks.length
  let t := s.mirSend (streamType stream) (streamBody first blocks) recs
  let sent := ((List.range n).zip blocks).map fun (e : Nat × Bytes) =>
    ({ stream := stream, blk := first + e.1, data := e.2, recs := if e.1 + 1 = n then recs else [], at0 := s.mono } : MirSent)
  t.setPair fun p => { p with nextBlk := if stream = 0 then first + n else p.nextBlk
                              snapNextBlk := if stream = 0 then p.snapNextBlk else first + n, sent := p.sent ++ sent }
/-- Blocks in frames of up to 32. -/
def State.sendBlocks (stream : Nat) (recs : List Record) : (frames : Nat) → List Bytes → State → State
  | 0, _, s => s
  | f + 1, l, s => State.sendBlocks stream recs f (l.drop 32) (s.sendFrameBlocks stream (l.take 32) (if l.length ≤ 32 then recs else []))
def State.sendRecord (s : State) (r : Record) : State :=
  if s.streams && s.pair.linkOpen then
    State.sendBlocks 0 [{ r with wrapped := [] }] (cdiv (recordBlocks r) 32)
      (streamBlocks (fit (256 * recordBlocks r) (mirrorBytes (s.boughOf r.partition) r))) s
  else s

/-- A record with this CSN is held: it lies at or below the trim point, or stands in the journal and is not void (R349, R380). -/
def State.holdsCsn (s : State) (c : Nat) : Bool :=
  decide (c ≤ s.seq.trim) || s.seq.journal.any fun r => r.csn == c && !r.items.isEmpty

/-- The CSN reservation in force, as it goes to the partner (R369; its form: log 125). -/
def State.sendReserve (s : State) : State :=
  s.sendRecord { csn := 0, ticket := 0, durableBelow := s.seq.durableBelow, partition := 0, items := [.csnReserve s.seq.blockEnd],
                 mono := s.mono, lines := 2 }

/-! ### Durability (R334, R340, R368) -/

/-- The CSN of the last of the accepted records that are durable with every lower one. -/
def durableFrom (acked : Option Nat) (blocked : Option Nat) : Nat → List Accepted → Nat
  | d, [] => d
  | d, a :: l =>
    let c := a.record.csn
    if c = 0 then durableFrom acked blocked d l
    else if a.journaled && (match acked with | some x => decide (c ≤ x) | none => true) &&
       (match blocked with | some b => decide (c < b) | none => true) then durableFrom acked blocked c l else d
/-- DURABLE_BELOW rises as far as it may; the active sends a frame at each rise (R360). -/
def State.raiseDurable (s : State) : State :=
  let d := durableFrom (if s.needsAcks then some s.pair.acked else none) s.seq.blocked s.seq.durableBelow s.seq.accepted
  if s.seq.durableBelow < d then
    let t := { s with seq := { s.seq with durableBelow := d } }
    if t.streams then t.mirSend 0x10 else t
  else s

end Sys2Proof.Machine
end

