-- ==== Sys2Proof/Machine/SeqOps.lean ====
section
/-! DEFINITION. The commit sequencer: holds, buckets, admission, refusal, acceptance, application, checkpoints and
trimming (11 R331 to R352; 04 R138; 07 R243 to R251). -/

namespace Sys2Proof.Machine

/-- The security controller runs its firmware. -/
def State.scOn (s : State) : Bool := s.sc.mode == .running
/-- Firmware that serves the network ports runs: recovery firmware too (R423). -/
def State.portsOn (s : State) : Bool := s.sc.mode == .running || s.sc.mode == .recovery

/-! ### Head state (R343) -/

/-- The state after every accepted CSN. -/
def State.head (s : State) : Durable :=
  (s.seq.accepted.filter fun a => a.record.csn != 0).foldl (fun d a => d.applyRecord a.record) s.durable
/-! ### Buckets (R348) and the ring (R349) -/

/-- The level of a bucket by now, in 10^-9 tokens, at a rate per second. -/
def Bucket.now (b : Bucket) (t rate cap : Nat) : Nat := min (cap * 10 ^ 9) (b.level + (t - b.at0) * rate)
def State.commitLevel (s : State) : Nat := s.seq.commits.now s.mono 150000 42500
def State.lineLevel (s : State) : Nat := s.seq.lines.now s.mono 600000 170000
/-- Commit tokens that a commit draws: none for a stage body record. -/
def PendingCommit.cost (w : PendingCommit) : Nat := match w.src with | .body _ _ => 0 | _ => 1
def State.hasTokens (s : State) (w : PendingCommit) : Bool :=
  decide (w.cost * 10 ^ 9 ≤ s.commitLevel) && decide (w.lines * 10 ^ 9 ≤ s.lineLevel)
def State.drawTokens (s : State) (w : PendingCommit) : State :=
  { s with seq := { s.seq with commits := { level := s.commitLevel - w.cost * 10 ^ 9, at0 := s.mono },
                               lines := { level := s.lineLevel - w.lines * 10 ^ 9, at0 := s.mono } } }
/-- A commit refused at its checks gives back what it drew. -/
def State.giveTokens (s : State) (w : PendingCommit) : State :=
  { s with seq := { s.seq with
      commits := { level := min (42500 * 10 ^ 9) (s.commitLevel + w.cost * 10 ^ 9), at0 := s.mono }
      lines := { level := min (170000 * 10 ^ 9) (s.lineLevel + w.lines * 10 ^ 9), at0 := s.mono } } }
/-- Lines of the journal ring, and of the untrimmed journal. -/
abbrev ringLines : Nat := 1703936
def State.journalLines (s : State) : Nat := (s.seq.journal.map (·.lines)).sum
/-- A record is written at the write position; one that does not fit before the ring's end starts at line 0, after a record that
skips the rest (R340). -/
def Sequencer.write (q : Sequencer) (r : Record) : Sequencer :=
  let left := ringLines - q.ringAt
  if left < r.lines then
    let skip : Record := { csn := 0, ticket := 0, durableBelow := r.durableBelow, partition := 0, items := [], mono := r.mono, lines := left }
    { q with journal := q.journal ++ [skip, r], ringAt := r.lines % ringLines }
  else { q with journal := q.journal ++ [r], ringAt := (q.ringAt + r.lines) % ringLines }
/-- The last records of the ring are given up: the write position goes back behind those that stay. -/
def Sequencer.cutBack (q : Sequencer) (kept : List Record) : Sequencer :=
  let gone := (q.journal.map (·.lines)).sum - (kept.map (·.lines)).sum
  { q with journal := kept, ringAt := (q.ringAt + (ringLines - gone % ringLines)) % ringLines }

/-- The partition configuration area is written: the durable state outside keys as it stands, through APPLIED_CSN (log 124). -/
def State.writeArea (s : State) : State :=
  { s with seq := { s.seq with area := { s.durable with keys := [] }, areaCsn := s.seq.applied } }

/-- The start of the next unreserved block, above every CSN that the unit has applied (R331). -/
def Sequencer.nextBlock (q : Sequencer) : Nat := if q.applied < q.blockEnd then q.blockEnd else 1 + 2 ^ 24 * cdiv q.applied (2 ^ 24)

/-! ### Retire table (R251) -/

def invalidates : CItem → Bool
  | .keyInvalidate _ => true | .branchRevoke _ => true | .credentialRevoke _ => true | .signerRevoke _ => true | _ => false
def invalidations (l : List CItem) : Nat := (l.filter invalidates).length
/-- No room for a commit's invalidations while an invocation other than the committing one runs. -/
def State.retireFull (s : State) (w : PendingCommit) : Bool :=
  decide (0 < invalidations w.items) && s.invocations.any (fun c => CommitSrc.core c.1 != w.src) &&
  decide (4096 < s.store.retire.length +
    (s.seq.accepted.map fun a => if a.record.csn = 0 then 0 else invalidations a.record.items).sum + invalidations w.items)

/-! ### The outcome at the commit's maker (R138, R189, R347) -/

/-- The last accepted CSN. -/
def State.headCsn (s : State) : Nat :=
  match (s.seq.accepted.filter fun a => a.record.csn != 0).getLast? with | some a => a.record.csn | none => s.seq.applied
/-- The end of a commit for the core that waits for it: gD takes the status, gA the CSN; a verb ends. -/
def State.coreCommitted (s : State) (c : CoreId) (st : Status) (csn : Nat) : State :=
  match s.core? c with
  | none => s
  | some k => match k.wait with
    | .commit d a =>
      let k1 := { k with commitCsn := csn, stage := [] }
      s.setCore c (((k1.setG d (BitVec.ofNat 64 st)).setG a (BitVec.ofNat 64 csn)).adv)
    | .verbCommit front back =>
      s.endWith c { k with wait := .none, commitCsn := csn, stage := [] } st (if st = 0 then front ++ leBytes 8 csn ++ back else [])
    | _ => s
/-- A commit is refused: none of its items applies. -/
def State.refuseCommit (s : State) (src : CommitSrc) (st : Status) (item : Option Nat) : State :=
  match src with
  | .core c => s.coreCommitted c st 0
  | .stage q g => (s.updStage g fun x => { x with validated := false, applying := none }).endWait q st (stageFail item)
  | .clock q => s.endWait q st
  | .iv r => s.failIv r st
  | .body q _ => s.endWait q st
/-- An applied stage is consumed, without a STAGE_DISCARDED (R347). -/
def State.dropApplied (s : State) (g : Nat) : State :=
  { s with seq := { s.seq with stages := s.seq.stages.filter fun x => x.id != g } }
/-- A commit has been applied at its CSN; a stage body record is durable, with that many items in its stage. -/
def State.commitDone (s : State) (src : CommitSrc) (r : Record) (total : Nat := 0) : State :=
  match src with
  | .core c => s.coreCommitted c 0 r.csn
  | .stage q g =>
    let t := (s.scEvent St.stageApplied [r.csn, r.items.length]).endWait q 0 (leBytes 8 r.csn)
    (t.ceremonyCommitted g r.items r.csn).dropApplied g
  | .clock q => s.endWait q 0 (leBytes 4 s.guest.wallEpoch ++ [0, 0, 0, 0] ++ leBytes 8 r.csn)
  | .iv ref => s.wakeIv ref
  | .body q _ => s.endWait q 0 (leBytes 4 total ++ [0, 0, 0, 0])

/-! ### Admission and acceptance (R331, R340, R345, R348) -/

/-- The tap FIFO of a commit's maker. -/
def CommitSrc.tap : CommitSrc → Nat
  | .core c => tapOf c
  | _ => 16
/-- Who stages a commit's items (R341). -/
def State.stager (s : State) (src : CommitSrc) : Stager :=
  match src with
  | .core c => .program (match s.core? c with | some k => k.world | none => 1)
  | .stage _ _ => .stage
  | _ => .module
/-- The checks of a commit against the head state, in their order (log 26); a stage to which items were added since its install step is
not validated any more (R346, R347). -/
def State.commitError (s : State) (w : PendingCommit) : Option (Status × Option Nat) :=
  let d := s.head
  let current := match w.src with
    | .stage _ g => (match s.stage? g with | some x => x.validated | none => false)
    | _ => true
  if current = false then some (St.stageNotValidated, none)
  else if (getK w.partition d.parts).isNone then some (St.partitionNotDefined, none)
  else match d.orderError w.partition w.ticket w.items with
    | some e => some e
    | none => s.itemsError d (s.stager w.src) w.partition w.items
/-- Key records whose IVs a commit draws (R326). -/
def ivRecords : List CItem → Nat
  | [] => 0
  | .keyPut _ k :: l => keyRecords k + ivRecords l
  | .partitionRestore _ _ _ ks :: l => (ks.map fun e => keyRecords e.2).sum + ivRecords l
  | _ :: l => ivRecords l
/-- The keys that a record's KEY_PUT and PARTITION_RESTORE items store, in the form they have once it is applied. -/
def Durable.recordKeys (d : Durable) (r : Record) : List (Nat × KeyMat) :=
  let refs := r.items.flatMap fun i => match i with
    | .keyPut ref _ => [ref]
    | .partitionRestore _ _ _ ks => ks.map fun e => mkRef r.partition (refKind e.1) (refIndex e.1)
    | _ => []
  if refs.isEmpty then [] else
  let d1 := d.applyRecord r
  refs.filterMap fun ref => (d1.keyNow ref).map fun k => (ref, k)
/-- A CSN block is reserved when the last one is used up; the reservation goes to the partner (R331, R369). -/
def State.reserveCsns (s : State) : State :=
  if s.seq.blockEnd ≤ s.seq.next then
    let e := s.seq.next + 2 ^ 24
    ({ s with seq := { s.seq with blockEnd := e } }.control 7).sendReserve
  else s
/-- The commit takes its CSN; its record is written and sent to the partner. -/
def State.acceptCommit (s0 : State) (w : PendingCommit) : State :=
  let s := s0.reserveCsns
  let r0 : Record := { csn := s.seq.next, ticket := w.ticket, durableBelow := s.seq.durableBelow, partition := w.partition,
                       items := w.items, stageId := w.stageId, mono := s.mono, lines := w.lines }
  let r := { r0 with wrapped := wrapKeys (s.boughOf w.partition) (s.head.recordKeys r0) w.ivs }
  let q := (s.dropWaiting w).seq
  let a : Accepted := { record := r, src := w.src, at0 := s.mono }
  ({ s with seq := { q.write r with next := q.next + 1, accepted := q.accepted ++ [a] } }.writeArea.sendRecord r).sample w.src.tap 9 (s.mono - w.arrived)
/-- A stage body record is journaled, mirrored and added to its stage; STAGE_ADD is answered once it is durable (R345). -/
def State.acceptBody (s : State) (w : PendingCommit) (q : Request) (g : Nat) : State :=
  let t := s.dropWaiting w
  match (if t.applyAccepted g then none else t.stage? g) with
  | none => t.endWait q St.stageNotFound
  | some x =>
    let r : Record := { csn := 0, ticket := w.ticket, durableBelow := t.seq.durableBelow, partition := w.partition,
                        items := w.items, stageId := g, mono := t.mono, lines := w.lines }
    let t1 := t.updStage g fun y =>
      { y with items := y.items ++ w.items, sizes := y.sizes ++ w.items.map itemLen, image := y.image ++ q.body.drop 8,
               validated := false, lines := y.lines + w.lines,
               firstCsn := if y.items.isEmpty then t.seq.next else y.firstCsn }
    let t2 := ({ t1 with seq := t1.seq.write r }.writeArea.sendRecord r).abandonFor g
    let a : Accepted := { record := r, src := w.src, at0 := t.mono, blk := t2.pair.nextBlk, unsent := !t.pair.linkOpen, total := x.items.length + w.items.length }
    { t2 with seq := { t2.seq with accepted := t2.seq.accepted ++ [a] } }
/-- A commit that holds its tokens is checked, then waits for retire entries, or is accepted or refused. -/
def State.checkCommit (s : State) (w : PendingCommit) : State :=
  match w.src with
  | .body q g => s.acceptBody w q g
  | _ =>
    match s.commitError w with
    | some (st, i) => ((s.giveTokens w).dropWaiting w).refuseCommit w.src st i
    | none =>
      if s.retireFull w then
        let l := s.seq.waiting.map fun x => if x = w then { x with drawn := true } else x
        let t := { s with seq := { s.seq with waiting := l, retireWait := true } }
        if s.seq.retireWait then t else t.scEvent St.retireTableFull [w.ticket]
      else s.acceptCommit w
/-- Commits that no hold keeps any more wait for admission from now on. -/
def State.releaseHolds (s : State) : State :=
  { s with seq := { s.seq with waiting := s.seq.waiting.map fun w =>
      if w.free.isNone && !s.held w then { w with free := some s.mono } else w } }
/-- The first waiting commit that is not held and not blocked on the retire table passes the next gates (R348). -/
def State.commitAdmit (s : State) : State :=
  if s.serves = false then (match s.seq.waiting with
    | w :: _ => (s.dropWaiting w).refuseCommit w.src St.pairFenced none  -- a unit that may not commit (R356)
    | [] => s)
  else match s.seq.waiting.find? fun w => !s.held w && !(w.drawn && s.retireFull w) with
  | none => s
  | some w =>
    if w.drawn then s.checkCommit w
    else if ringLines * 9 < s.journalLines * 10 then
      (if s.seq.fullWait then s else
        { s with seq := { s.seq with fullWait := true } }.scEvent St.journalFullWait [s.journalLines])
    else if s.hasTokens w = false then
      (if s.seq.throttled then s else
        { s with seq := { s.seq with throttled := true } }.scEvent St.commitThrottled [w.ticket])
    else
      let n := ivRecords w.items
      if n = 0 then (s.drawTokens w).checkCommit w
      else match s.recordIvs (.commit w.ticket) n with
      | (some l, t) =>
        let w1 := { w with ivs := l }
        let ws := t.seq.waiting.map fun x => if x = w then w1 else x
        ({ t with seq := { t.seq with waiting := ws } }.drawTokens w1).checkCommit w1
      | (none, t) => t
def execCommitAdmit (s : State) : Out := .next (if s.scOn then s.releaseHolds.commitAdmit else s)
/-- A commit not admitted within 5 ms, holds apart, is refused (R348). -/
def State.commitBacklog (s : State) (ticket : Nat) : State :=
  match s.seq.waiting.find? fun w => w.ticket == ticket && !w.drawn && !s.held w with
  | none => s
  | some w => ({ s with mono := max s.mono (w.free.getD s.mono + 5 * 10 ^ 6) }.dropWaiting w).refuseCommit w.src St.commitBacklog none
def execCommitBacklog (ticket : Nat) (s : State) : Out := .next (if s.scOn then s.commitBacklog ticket else s)

/-! ### commit (R138) -/

def execCommit (c : CoreId) (d a : GReg) (s : State) : Out :=
  .next (s.ghedo c fun k =>
    if k.commitMade then .fault St.stageAfterCommit
    else if k.stage.isEmpty then .done s { ((k.setG d 0).setG a 0).adv with commitMade := true }
    else
      let w : PendingCommit := { src := .core c, ticket := k.req.ticket, partition := k.partition, items := k.stage,
                                 lines := recordLines k.stage, arrived := s.mono }
      .done (s.queueCommit w) { k with commitMade := true, wait := .commit d a })

/-! ### Journal (R334) -/

/-- The earliest record not yet read back has been written and read back. -/
def markJournaled : List Accepted → List Accepted
  | [] => []
  | a :: l => if a.journaled then a :: markJournaled l else { a with journaled := true } :: l
def execCommitJournaled (s : State) : Out :=
  .next (if s.scOn then
    { s with seq := { s.seq with accepted := markJournaled s.seq.accepted } }.raiseDurable else s)
/-- A paired commit without its acknowledgement after 1 ms is refused; its record is void on both units (R368, log 27). -/
def State.ackTimeout (s : State) (csn : Nat) : State :=
  match s.seq.accepted.find? fun a => a.record.csn == csn with
  | none => s
  | some a =>
    if s.needsAcks = false ∨ csn = 0 ∨ csn ≤ s.pair.acked then s
    else
      let void := fun (l : List Record) => l.map fun (r : Record) => if r.csn = csn then { r with items := [] } else r
      let t := { s with mono := max s.mono (a.at0 + 10 ^ 6)
                        seq := { s.seq with accepted := s.seq.accepted.filter fun x => x.record.csn != csn
                                            journal := void s.seq.journal
                                            blocked := some (match s.seq.blocked with | some b => min b csn | none => csn) } }
      t.refuseCommit a.src St.mirrorUnavailable none
def execMirrorAckTimeout (csn : Nat) (s : State) : Out := .next (if s.scOn then s.ackTimeout csn else s)

/-! ### Checkpoints and trimming (R246, R349) -/

/-- Records that no copy, area or open stage needs are dropped from the ring's start; bodies that the replay of a commit record
would read stay with it. -/
def State.trimJournal (s : State) : State :=
  let bodies := (s.seq.stages.filter fun g => !g.items.isEmpty).map fun g => g.firstCsn - 1
  let t := bodies.foldl min (min (max s.seq.copy0.csn s.seq.copy1.csn) s.seq.areaCsn)
  let named := fun (n : Nat) => n != 0 && s.seq.journal.any fun r => r.csn != 0 && r.stageId == n && decide (t < r.csn)
  let gone := fun (r : Record) =>
    if r.csn = 0 then s.seq.stages.all (fun g => g.id != r.stageId) && !named r.stageId else decide (r.csn ≤ t)
  let u := { s with seq := { s.seq with trim := max s.seq.trim t, journal := s.seq.journal.dropWhile gone } }
  if s.seq.trim < t then u.control 6 else u
/-- A checkpoint is due by commits or by the ring; otherwise it is due 30 s after the last. -/
def State.checkpointDue (s : State) : Bool := decide (2 ^ 20 ≤ s.seq.keyCommits) || decide (ringLines < 2 * s.journalLines)
def execKeyCheckpointStart (s : State) : Out :=
  .next (if s.scOn ∧ s.seq.checkpoint.isNone then
    let t := if s.checkpointDue then s.mono else max s.mono (s.seq.lastCheckpoint + 30 * 10 ^ 9)
    { s.writeArea with mono := t, seq := { s.writeArea.seq with checkpoint := some s.seq.applied, lastCheckpoint := t, keyCommits := 0 } }
  else s)
/-- The newest keys as of a CSN, as a database copy holds them: none that a deletion has since erased (R229). -/
def Durable.copyKeys (d : Durable) (csn : Nat) : List (Nat × KeyMat) :=
  d.keys.filterMap fun e =>
    if e.2.any fun v => v.2.isNone && decide (csn < v.1) then none else (d.keyAt e.1 csn).map fun k => (e.1, k)
/-- The CRC-32C of a copy's trailer, over its CSN, its TRUNK_ID and its keys in compact form (R246, log 108). -/
def DbCopy.sum (c : DbCopy) : Nat :=
  crc32c (leBytes 8 c.csn ++ c.trunkId ++ c.keys.flatMap fun e => Config.compactKey e.1 (attrsBytes e.2.attrs) e.2.material)
def DbCopy.sealed (c : DbCopy) : DbCopy := { c with crc := c.sum }
/-- The older copy is brought up to date; the checkpoint waits while the SC expander cannot deliver (R326). -/
def State.checkpointWritten (s : State) : State :=
  match s.seq.checkpoint, s.porter.trunk with
  | some csn, some trunk =>
    let old := if s.seq.copy0.csn ≤ s.seq.copy1.csn then s.seq.copy0 else s.seq.copy1
    let keys := s.durable.copyKeys csn
    let n := ((keys.filter fun e => !old.keys.contains e).map fun e => keyRecords e.2).sum
    match s.recordIvs .checkpoint n with
    | (none, t) => t
    | (some _, t) =>
      let c := DbCopy.sealed { csn := csn, trunkId := trunkId trunk, keys := keys }
      let q := if s.seq.copy0.csn ≤ s.seq.copy1.csn then { t.seq with copy0 := c } else { t.seq with copy1 := c }
      ({ t with seq := { q with checkpoint := none } }.trimJournal).scEvent St.keyCheckpointWritten [csn]
  | _, _ => s
def execKeyCheckpointWritten (s : State) : Out := .next (if s.scOn then s.checkpointWritten else s)

/-! ### Application (R332, R333, R339) -/

/-! Key records in DRAM (R232, R243, R244). -/

/-- A key's records are written to the record area, under the numbers it has there or the lowest free ones. -/
def State.writeRecords (s : State) (ref : Nat) (recs : List Bytes) : State :=
  let others := delK ref s.store.area
  let used := others.map fun e => (e.2.first, e.2.records.length)
  let first := match getK ref s.store.area with
    | some a => if recs.length ≤ a.records.length then a.first else firstFree used recs.length (used.length + 1) 0
    | none => firstFree used recs.length (used.length + 1) 0
  { s with store := { s.store with area := setK ref { first := first, records := recs } s.store.area } }
/-- A reference's records become those given, none where it holds no key any more; a key in key slot RAM follows. -/
def State.syncRef (recs : List (Nat × List Bytes)) (s : State) (ref : Nat) : State :=
  match s.durable.keyNow ref with
  | none => { s with store := { s.store with area := delK ref s.store.area } }
  | some k =>
    let t := s.writeRecords ref (getD ref [] recs)
    match getK ref t.store.slots with
    | some x => { t with store := { t.store with slots := setK ref (t.keySlot ref k x.v) t.store.slots } }
    | none => t
/-- The keys of a durable state at references, newest state of each. -/
def Durable.keysAt (d : Durable) (refs : List Nat) : List (Nat × KeyMat) :=
  refs.filterMap fun r => (d.keyNow r).map fun k => (r, k)
/-- The records that a number of keys take. -/
def recordCount (l : List (Nat × KeyMat)) : Nat := (l.map fun e => keyRecords e.2).sum
/-- The records of keys under their boughs, with their IVs. -/
def State.wrapAll (s : State) : List (Nat × KeyMat) → (ivs : Bytes) → List (Nat × List Bytes)
  | [], _ => []
  | (r, k) :: l, ivs => (r, keyRecordBytes (s.boughOf (refPartition r)) r k.putCsn k ivs) :: s.wrapAll l (ivs.drop (12 * keyRecords k))
/-- The references that a record changes in a durable state. -/
def Durable.refsOfCsn (d : Durable) (csn : Nat) : List Nat :=
  (d.keys.filter fun e => match e.2 with | v :: _ => v.1 == csn | [] => false).map (·.1)
/-- The keys that the change of a record has re-wrapped under fresh IVs: those that its own key records do not hold. -/
def Durable.rewraps (d : Durable) (r : Record) : List (Nat × KeyMat) :=
  let after := d.applyRecord r
  after.keysAt ((after.refsOfCsn r.csn).filter fun x => (getK x r.wrapped).isNone)
/-- The record area follows the change of a record: every reference with a version of its CSN, wrapped as its commit record holds it,
else under the IVs given. -/
def State.syncArea (s : State) (r : Record) (ivs : Bytes) : State :=
  let refs := s.durable.refsOfCsn r.csn
  let fresh := s.durable.keysAt (refs.filter fun x => (getK x r.wrapped).isNone)
  refs.foldl (State.syncRef (r.wrapped ++ s.wrapAll fresh ivs)) s
/-- Every key is written to the record area anew under the IVs given, from the database copies and the journal or from a snapshot
(R350, R380). -/
def State.fillArea (s : State) (ivs : Bytes) : State :=
  let refs := s.durable.keys.map (·.1)
  refs.foldl (State.syncRef (s.wrapAll (s.durable.keysAt refs) ivs)) { s with store := { s.store with area := [] } }
/-- The IVs that filling the record area takes. -/
def State.areaIvs (s : State) : Option Bytes × State :=
  s.recordIvs .area (recordCount (s.durable.keysAt (s.durable.keys.map (·.1))))

/-- A key stored by KEY_PUT takes a slot, with its live counter at 0 (R243, R281). -/
def State.placeSlot (s : State) (ref : Nat) : State :=
  let pinned := fun r => match s.durable.keyNow r with | some x => isPinned x.attrs | none => false
  let l := delK ref s.store.slots
  let kept := if s.leafSlots ≤ l.length then evictLast pinned l else l
  match s.durable.keyNow ref with
  | some k => { s with store := { s.store with slots := (ref, s.keySlot ref k 0) :: kept } }
  | none => s
/-- What is kept of a key invalidated at a CSN (R251). -/
def State.retireKey (s : State) (ref csn : Nat) : State :=
  { s with store := { s.store with retire := s.store.retire ++ [(ref, csn)] } }
/-- The sessions opened with a revoked credential close at once (R253, R75). -/
def State.closeCredential (s : State) (p n : Nat) : State :=
  (s.net.sessions.filter fun x => x.partition == p && x.credential == n).foldl
    (fun t x => t.closeSession x.id St.sessionClosed 3) s
/-- A partition exists from this CSN on: its bough is derived (R228, R230). -/
def State.addBough (s : State) (p : Nat) : State :=
  match s.porter.trunk with
  | some t =>
    let l := setK p (treeKey 1 p (boughKey t p (getD p 0 s.durable.boughEpochs))) s.store.boughs
    { s with store := { s.store with boughs := l } }
  | none => s
/-- A partition is gone from this CSN on (R90, R229). -/
def State.removePartition (s : State) (p : Nat) : State :=
  let drop := fun (c : DbCopy) => if c.trunkId = [] then c else
    DbCopy.sealed { c with keys := c.keys.filter fun e => refPartition e.1 != p }
  let t := { s with store := { s.store with boughs := delK p s.store.boughs
                                            slots := s.store.slots.filter fun (e : Nat × KeySlot) => refPartition e.1 != p
                                            area := s.store.area.filter fun (e : Nat × AreaKey) => refPartition e.1 != p }
                    lnes := s.lnes.map fun (e : Nat × Lne) => (e.1, e.2.wipeBanks p)
                    seq := { s.seq with copy0 := drop s.seq.copy0, copy1 := drop s.seq.copy1 } }
  let t1 := (t.cancelQueued (fun q => q.partition == p) St.partitionNotDefined).closePartitionSessions p 5
  if (t1.part p).reset.isSome then t1 else { t1 with disp := { t1.disp with parts := delK p t1.disp.parts } }
/-- A queue made undefined while it holds requests loses them as in a flush (R93). -/
def State.undefineQueue (s : State) (scope : Nat) : State :=
  let (n, late, t) := s.emptyQueue (scope / 16) (scope % 16)
  if n + late = 0 then t else t.scEvent St.queueFlushed [scope / 16, scope % 16, n + late]
/-- A mode change restarts the port's link (R47). -/
def State.restartPort (s : State) (n : Nat) : State :=
  if (s.port n).up then (s.setPort n { s.port n with up := false }).event (portTap n) St.linkDown [n] else s
/-- Group 0x07: a unit given a pair ID is alone in its pair; without one it is unpaired (R354, R356). -/
def State.pairChanged (s : State) : State :=
  if s.paired then s.setPair fun p => if p.state = .unpaired then { p with state := .activeAlone } else p
  else s.setPair fun p => { p with state := .unpaired, linkOpen := false, handshaking := false, serving := false }
/-- The effects of an item besides its change of the durable state, whose configuration stood at `old` before. -/
def State.itemEffect (old : Durable) (s : State) (p csn : Nat) : CItem → State
  | .keyPut r _ => s.placeSlot r
  | .keyInvalidate r => s.retireKey r csn
  | .branchRevoke n => s.retireKey (mkRef p 1 n) csn
  | .credentialRevoke n => (s.retireKey (mkRef p 2 n) csn).closeCredential p n
  | .signerRevoke n => s.retireKey (mkRef p 3 n) csn
  | .partitionCreate q ro _ _ _ => if ro then s else s.addBough q
  | .partitionDelete q => s.removePartition q
  | .configSet 0x0201 sc v => if leNat v = 0 then s.undefineQueue sc else s
  | .configSet 0x0101 sc v => if leNat v = old.cfg 0x0101 sc 3 then s else s.restartPort sc
  | .configSet 0x0701 _ _ => s.pairChanged
  | .rngSourceEnable n =>
    if h : n < 8 then
      let x := s.rng.sources[n]
      let off := fun (h : SourceHealth) => h == .latched || h == .off
      let set := fun (y : RngSource) => { s with rng := { s.rng with sources := s.rng.sources.set n y } }.scEvent St.rngSourceEnabled [n]
      if off x.health then set { health := .startTest 0 }
      else if x.health = .tapped ∧ off x.before = true then set { x with before := .startTest 0, fails := 0 }
      else s
    else s
  | .bootPreferredSlot n => { s with sc := { s.sc with preferred := n } }
  | .wallClock w e =>
    let g := { s.guest with wallKnown := true, wallOffset := (w : Int) - s.mono, wallEpoch := e }
    if e = s.guest.wallEpoch then { s with guest := g }
    else { s with guest := { g with window := { g.window with epochChanged := true } } }.scEvent St.wallEpochStarted [e]
  | .partitionRestore _ _ o _ =>
    (if s.seq.outOfService then { s with seq := { s.seq with restored := p :: s.seq.restored } } else s).scEvent St.keyRestored [leAt o 0 8, leAt o 8 8, leAt o 16 8]
  | _ => s
/-- Items that change keys (R246). -/
def changesKeys (i : CItem) : Bool :=
  match i with
  | .configSet _ _ _ => false | .ctrAdd _ _ => false | .tabWrite _ _ => false | .programPut _ => false
  | .programDelete _ => false | .wallClock _ _ => false | .csnReserve _ => false | .partitionBackup => false
  | .rngSourceEnable _ => false | .bootPreferredSlot _ => false | .malformed _ => false | .partitionCreate _ _ _ _ _ => false
  | _ => true
/-- Behind the fence every awake cluster takes the current epochs (R250, R333). -/
def State.currentEpochs (s : State) : List (Nat × Nat) := s.durable.parts.map fun e => (e.1, e.2.revEpoch)
def State.fenceClusters (s : State) : State :=
  { s with clusters := s.clusters.map fun e => if e.2.power.awake then (e.1, { e.2 with epochs := s.currentEpochs }) else e }
/-- A record becomes visible: the durable state, APPLIED_CSN, the clusters, then the effects of its items. -/
def State.applyChange (s : State) (r : Record) (ivs : Bytes) : State :=
  let t := { s with durable := s.durable.applyRecord r
                    seq := { s.seq with applied := r.csn
                                        keyCommits := s.seq.keyCommits + b2n (r.items.any changesKeys) } }
  let u := r.items.foldl (fun (u : State) i => State.itemEffect s.durable u r.partition r.csn i) (t.fenceClusters.syncArea r ivs)
  u.freeRetired.trimJournal
/-- The blocks of a body record have been acknowledged by the partner that is to hold it too (R345). -/
def State.bodyMirrored (s : State) (a : Accepted) : Bool :=
  !s.needsAcks || (!a.unsent && s.pair.sent.all fun b => b.stream != 0 || decide (a.blk ≤ b.blk))
/-- The next durable commit is applied, in CSN order, once the IVs of the records that its change re-wraps can be drawn (R325), and its
maker has its outcome; a stage body record that is durable is taken
before it. -/
def State.commitApply (s : State) : State :=
  match s.seq.accepted with
  | [] => s
  | a :: l =>
    if a.record.csn = 0 then
      (if a.journaled && s.bodyMirrored a then { s with seq := { s.seq with accepted := l } }.commitDone a.src a.record a.total else s)
    else if a.record.csn ≤ s.seq.durableBelow then
      match s.recordIvs (.change a.record.csn) (recordCount (s.durable.rewraps a.record)) with
      | (some ivs, t) => (({ t with seq := { t.seq with accepted := l } }.applyChange a.record ivs).commitDone a.src a.record).sample
          a.src.tap 8 (s.mono - a.at0)
      | (none, t) => t
    else s
def execCommitApply (s : State) : Out := .next (s.signal (if s.scOn then s.commitApply else s))

/-! ### Settling (R371) -/

/-- The durable commits are applied. -/
def State.settleLoop : (fuel : Nat) → State → State
  | 0, s => s
  | n + 1, s => State.settleLoop n s.commitApply
/-- Accepted commits that can still become durable are written and applied; those that the partner has not acknowledged are refused
(R368, R371). -/
def State.settleCommits (s : State) : State :=
  let t := { s with seq := { s.seq with accepted := s.seq.accepted.map fun (a : Accepted) => { a with journaled := true } } }.raiseDurable
  let u := State.settleLoop t.seq.accepted.length t
  if u.needsAcks then u.seq.accepted.foldl (fun v a => v.ackTimeout a.record.csn) u else u

end Sys2Proof.Machine
end

