-- ==== Sys2Proof/Machine/GuestOps.lean ====
section
/-! DEFINITION. Tap FIFOs, the Guestbook's windows and records, the wall clock, fatal-class events and dump streams
(17 R480 to R509). -/

namespace Sys2Proof.Machine

/-! ### Tap FIFOs (R480 to R487) -/

/-- The FIFOs of the variant. -/
def State.fifoExists (s : State) (n : Nat) : Bool :=
  match s.variant with
  | .ym4096 => decide (n < 18)
  | .ym1024 => decide (n < 3) || n == 12 || n == 16 || n == 17
def State.fifo (s : State) (n : Nat) : TapFifo := getD n {} s.guest.fifos
def State.setFifo (s : State) (n : Nat) (f : TapFifo) : State :=
  { s with guest := { s.guest with fifos := setK n f s.guest.fifos } }
def TapFifo.occupancy (f : TapFifo) : Nat := (f.items.map (·.words)).sum
/-- SC_TAP_STATUSn (R487). -/
def TapFifo.status (f : TapFifo) : Nat :=
  b2n f.uncorrectable * 2 ^ 23 + b2n f.truncSeen * 2 ^ 22 + b2n f.underrun * 2 ^ 21 + b2n f.flush * 2 ^ 20 + f.occupancy
/-- The words of an item (R481). -/
def TapItem.wordList (it : TapItem) : List Nat :=
  let head := b2n it.truncated * 2 ^ 31 + (it.words - 1) * 2 ^ 28 + b2n it.sample * 2 ^ 26 + it.code
  let tail := if it.sample then [it.value % 2 ^ 32, it.value / 2 ^ 32] else it.args
  ([head, it.mono % 2 ^ 32, it.mono / 2 ^ 32] ++ tail).take it.words
/-- The longest run of whole items at the read end that fits in some words. -/
def itemRun : (room : Nat) → List TapItem → List TapItem
  | _, [] => []
  | n, it :: l => if it.words ≤ n then it :: itemRun (n - it.words) l else []
/-- What a read of 256 bits returns with its VALID_BYTES, and the items it takes (R483). -/
def TapFifo.readOut (f : TapFifo) : Bytes × Nat × List TapItem :=
  let run := itemRun 8 f.items
  let w := run.flatMap TapItem.wordList
  (fit 32 (w.flatMap (leBytes 4)), 4 * w.length, run)
/-- A read takes its items (R483). -/
def TapFifo.taken (f : TapFifo) : TapFifo :=
  let r := f.readOut
  { f with items := f.items.drop r.2.2.length, lastBits := r.1, lastValid := r.2.1 }
/-- A read of a FIFO by a debug reader: one that finds no item returns the previous read's bits and tag, which still stand, and sets
UNDERRUN (R483). -/
def TapFifo.debugRead (f : TapFifo) : TapFifo :=
  match f.items with
  | [] => { f with underrun := true }
  | _ :: _ => f.taken
/-- Lost items, in the 64-bit count and in the window's. -/
def TapFifo.lose (f : TapFifo) (n : Nat) : TapFifo := { f with lost := satAdd f.lost n, windowLost := f.windowLost + n }
/-- An item's words arrive: the oldest whole items make room (R484). -/
def TapFifo.push (it : TapItem) : (fuel : Nat) → TapFifo → TapFifo
  | 0, f => f
  | n + 1, f =>
    if f.occupancy + it.words ≤ 256 then { f with items := f.items ++ [it] }
    else match f.items with
      | [] => f
      | _ :: l => TapFifo.push it n ({ f with items := l }.lose 1)
/-- The details of an event that are 64-bit values, by position: tickets, CSNs, claims, sequence numbers, times, key references (log 133);
of a fault the fifth, its ticket (R146). -/
def wideDetails (code : Nat) : List Nat :=
  if [St.aborted, St.lneFaultDetected, St.retryLimit, St.commitThrottled, St.laneJobAborted, St.responseOrphaned, St.retireTableFull,
      St.dumpWritten, St.guestbookCleared, St.keyCheckpointWritten, St.keyDatabaseDiscarded, St.pairFenced, St.pairTakeover,
      St.pairResyncStarted, St.pairResyncComplete, St.pairResyncRestarted, St.stageApplied, St.ivReservationWait].contains code then [0]
  else if [St.faultAfterCommit, St.ivReservationUnavailable, St.ceremonyCompleted, St.tamperDetected].contains code then [1]
  else if code = St.keyRestored then [0, 1, 2]
  else if code = St.partitionFault then [5] else if code / 256 = 3 then [4] else []
/-- The detail words of an event: a 64-bit value takes two, low word first; the first five stand in the item (R481). -/
def Event.detailWords (e : Event) : List Nat :=
  (((List.range e.args.length).zip e.args).flatMap fun d =>
    if (wideDetails e.code).contains d.1 then [d.2 % 2 ^ 32, d.2 / 2 ^ 32 % 2 ^ 32] else [d.2 % 2 ^ 32]).take 5
/-- The item of a formed event: three words and up to five detail words (R481). -/
def Event.item (e : Event) : TapItem :=
  { code := e.code, mono := e.mono, args := e.detailWords, words := 3 + e.detailWords.length }
/-- The next formed item of a FIFO's producers, and the others. -/
def takeFormed {α : Type} (n : Nat) : List (Nat × α) → Option (α × List (Nat × α))
  | [] => none
  | (m, e) :: l => if m = n then some (e, l) else (takeFormed n l).map fun r => (r.1, (m, e) :: r.2)
/-- An item's last word is written; an item whose writing a flush met is discarded (R486). -/
def State.tapWrite (s : State) (n : Nat) (it : TapItem) : State :=
  let f := { s.fifo n with staging := none }
  if f.flush then s.setFifo n { f with flush := false } else s.setFifo n (TapFifo.push it (f.items.length + 1) f)
/-- An item arrives at the staging register: it is lost while that holds unwritten words, else its words are written, all of them by the
end of this step or not yet (R482). -/
def State.tapArrive (s : State) (n : Nat) (it : TapItem) (whole : Bool) : State :=
  let f := s.fifo n
  if f.staging.isSome then s.setFifo n (f.lose 1)
  else if whole then s.tapWrite n it else s.setFifo n { f with staging := some it }
/-- TAP_FLUSH: what is there goes, and so does an item being written, once it is complete. -/
def State.tapFlush (s : State) (n : Nat) : State :=
  s.setFifo n { s.fifo n with items := [], flush := (s.fifo n).staging.isSome }

/-! ### Counting (R488 to R492) -/

/-- The event index of a status code. -/
def eventIndex (code : Nat) : Nat := (code / 256 - 1) * 64 + code % 256
def State.setWindow (s : State) (w : Window) : State := { s with guest := { s.guest with window := w } }
/-- The first saturation of a window is recorded. -/
def State.saturate (s : State) : State :=
  if s.guest.window.saturated then s
  else (s.setWindow { s.guest.window with saturated := true }).scEvent St.countSaturated
/-- COUNT of an index rises, and stops at 2^32 - 1. -/
def State.countEvent (s : State) (i : Nat) : State :=
  let w := s.guest.window
  let c := getD i 0 w.counts
  if c < 2 ^ 32 - 1 then s.setWindow { w with counts := setK i (c + 1) w.counts }
  else if w.satCount.contains i then s else (s.setWindow { w with satCount := i :: w.satCount }).saturate
def State.countSuppressed (s : State) (i : Nat) : State :=
  let w := s.guest.window
  let c := getD i 0 w.suppressed
  if c < 2 ^ 32 - 1 then s.setWindow { w with suppressed := setK i (c + 1) w.suppressed }
  else if w.satSuppressed.contains i then s else (s.setWindow { w with satSuppressed := i :: w.satSuppressed }).saturate
/-- The histogram bucket of a value (R491). -/
def sampleBucket (v : Nat) : Nat := if v ≤ 1 then 0 else min 31 (Nat.log2 v)
def State.countSample (s : State) (m v mono : Nat) : State :=
  let w := s.guest.window
  let x := getD m {} w.metrics
  let b := sampleBucket v
  let c := getD b 0 x.buckets
  let y := if v < x.min ∨ (x.buckets.isEmpty = true) then { x with min := v, minMono := mono } else x
  let z := if x.max < v ∨ (x.buckets.isEmpty = true) then { y with max := v, maxMono := mono } else y
  if c < 2 ^ 32 - 1 then s.setWindow { w with metrics := setK m { z with buckets := setK b (c + 1) x.buckets } w.metrics }
  else
    let t := s.setWindow { w with metrics := setK m z w.metrics }
    if w.satHist.contains (32 * m + b) then t
    else (t.setWindow { t.guest.window with satHist := (32 * m + b) :: w.satHist }).saturate
/-- GB_RATE_LIMIT of an index. -/
def State.rateLimit (s : State) (i : Nat) : Nat := s.cfg 0x0A02 i 1000
/-- The Guestbook works through an item (R490). -/
def State.takeItem (s : State) (it : TapItem) : State :=
  if it.sample then (if it.truncated ∨ 29 ≤ it.code then s else s.countSample it.code it.value it.mono)
  else
    let i := eventIndex it.code
    let lvl := min (s.rateLimit i) (getD i (s.rateLimit i) s.guest.buckets)
    if 0 < lvl then { s with guest := { s.guest with buckets := setK i (lvl - 1) s.guest.buckets } }.countEvent i
    else s.countSuppressed i
/-- A fatal-class event enters the Guestbook by its own path, without rate limit (R499). -/
def State.fatalEvent (s : State) (code : Status) : State := s.countEvent (eventIndex code)
/-- A fatal item goes into the latch of its source; behind an item not yet read it is only counted, up to 65,535 (R499). -/
def State.latchFatal (s : State) (src code : Nat) (args : List Nat) : State :=
  let x : FatalLatch := match getK src s.guest.latches with
    | some y => { y with again := min 65535 (y.again + 1) }
    | none => { code := code, mono := s.mono, args := args }
  { s with guest := { s.guest with latches := setK src x s.guest.latches } }

/-! ### Windows (R493 to R496) -/

/-- The boundary that ends the open window (R493). -/
def Guest.windowEnd (g : Guest) : Nat :=
  let w := g.windowS * 10 ^ 9
  g.windowBase + ((g.window.start - g.windowBase) / w + 1) * w
/-- The Guestbook works through one item that it has read; one with an uncorrectable error is lost (R485, R490). -/
def State.workItem (s : State) (n : Nat) (it : TapItem) (ecc : Ecc) : State :=
  let f := s.fifo n
  match ecc with
  | .clean => s.takeItem it
  | .corrected k => (s.setFifo n { f with ecc := min (2 ^ 32 - 1) (f.ecc + k) }).takeItem it
  | .uncorrectable => (s.setFifo n ({ f with uncorrectable := true }.lose 1)).scEvent St.tapEccUncorrectable [n]
/-- The Guestbook takes its next item: of those of its last read, else of a FIFO that it reads, whose words held it counts first as a
sample of metric 27. An item of the next window waits (R483, R490, R493; log 133). -/
def State.guestRead (s : State) (n : Nat) (ecc : Ecc) : State :=
  match s.guest.reading with
  | (m, it) :: l => if s.guest.windowEnd ≤ it.mono then s else { s with guest := { s.guest with reading := l } }.workItem m it ecc
  | [] =>
    let f := s.fifo n
    match f.items with
    | [] => s
    | it :: _ =>
      if s.guest.windowEnd ≤ it.mono then s
      else
        let t := (s.setFifo n f.taken).countSample 27 f.occupancy s.mono
        { t with guest := { t.guest with rotate := n + 1, reading := (f.readOut.2.2.drop 1).map fun x => (n, x) } }.workItem n it ecc
/-- Wall time at a MONO_NS, 0 while it is unknown (R497, R498). -/
def Guest.wallAt (g : Guest) (mono : Nat) : Nat := if g.wallKnown then ((mono : Int) + g.wallOffset).toNat else 0
/-- Whether a record still held stands in a slot. -/
def Guest.slotTaken (g : Guest) (n : Nat) : Bool := g.records.any fun r => r.slot == n && decide (g.cleared ≤ r.seq)
/-- The open window is closed and written where a slot is free; the next begins. A new GB_WINDOW_S takes effect at a
boundary, not at a PARTIAL close. -/
def State.closeWindow (s : State) (end0 : Nat) (partial0 : Bool) : State :=
  let g := s.guest
  let lost := g.fifos.filterMap fun e => if e.2.windowLost = 0 then none else some (e.1, e.2.windowLost)
  let rec0 : WindowRecord :=
    { seq := g.nextSeq, slot := g.writeSlot, partial0 := partial0, wallUnknown := !g.wallKnown, wallEpoch := g.wallEpoch,
      wallNs := g.wallAt end0, endMono := end0, dropped := g.dropped, tapLost := lost, window := g.window }
  let g1 := if g.slotTaken g.writeSlot then { g with dropped := g.dropped + 1, full := true }
    else { g with records := (g.records.filter fun r => r.slot != g.writeSlot) ++ [rec0], writeSlot := (g.writeSlot + 1) % 819,
                  dropped := 0, full := false }
  let fresh := g.fifos.map fun e => (e.1, { e.2 with windowLost := 0 })
  let len := if partial0 then g.windowS else s.cfg 0x0A01 0 60
  let t := { s with guest := { g1 with nextSeq := g.nextSeq + 1, window := { start := end0 }, fifos := fresh,
                                       windowS := len, windowBase := if len = g.windowS then g.windowBase else end0 } }
  let t1 := if g1.full && !g.full then t.scEvent St.guestbookFull else t
  lost.foldl (fun u e => u.scEvent St.tapItemsLost [e.1, e.2]) t1
def execGuestbookWindowClose (s : State) : Out :=
  .next (s.signal <| let b := s.guest.windowEnd
    if s.sc.mode = .running ∧ s.guest.fifos.all (fun e => match e.2.items with | [] => true | it :: _ => decide (b ≤ it.mono)) ∧
        s.guest.reading.all (fun e => decide (b ≤ e.2.mono)) then
      { s with mono := max s.mono (b + 1000) }.closeWindow b false
    else s)
/-- The open window as a PARTIAL record before the module leaves service, where a slot is free (R496). -/
def State.partialWindow (s : State) : State :=
  if s.guest.slotTaken s.guest.writeSlot then s else s.closeWindow s.mono true
/-- Every bucket is full again: a millisecond has passed (R490). -/
def execGbRateRefill (s : State) : Out := .next { s with guest := { s.guest with buckets := [] } }

/-- 4 bytes for each of `n` indices. -/
def table4 (n : Nat) (l : List (Nat × Nat)) : Bytes := (List.range n).flatMap fun i => leBytes 4 (getD i 0 l)
/-- A bit map of `n` bytes. -/
def bitmap (n : Nat) (l : List Nat) : Bytes :=
  (List.range n).map fun i => BitVec.ofNat 8 ((List.range 8).map fun k => if l.contains (8 * i + k) then 2 ^ k else 0).sum
/-- A window record's bytes (R494). -/
def windowBytes (r : WindowRecord) : Bytes :=
  let w := r.window
  let sat := w.satCount ≠ [] ∨ w.satSuppressed ≠ [] ∨ w.satHist ≠ []
  let flags := b2n r.partial0 + 2 * b2n w.epochChanged + 4 * b2n r.wallUnknown + (if sat then 8 else 0)
  let head := leBytes 2 0x4247 ++ leBytes 2 1 ++ leBytes 2 flags ++ [0, 0] ++ leBytes 8 r.seq ++ leBytes 8 w.start ++
    leBytes 8 r.endMono ++ leBytes 4 r.wallEpoch ++ [0, 0, 0, 0] ++ leBytes 8 r.wallNs ++ leBytes 4 r.dropped ++
    List.replicate 12 0
  let hist := (List.range 64).flatMap fun m => table4 32 (getD m {} w.metrics).buckets
  let ext := (List.range 64).flatMap fun m => let x := getD m {} w.metrics
    leBytes 8 x.min ++ leBytes 8 x.minMono ++ leBytes 8 x.max ++ leBytes 8 x.maxMono
  let lost := (List.range 18).flatMap fun n => leBytes 4 (min (2 ^ 32 - 1) (getD n 0 r.tapLost))
  let body := fit 20476 (head ++ table4 1024 w.counts ++ table4 1024 w.suppressed ++ hist ++ ext ++ bitmap 128 w.satCount ++
    bitmap 128 w.satSuppressed ++ bitmap 256 w.satHist ++ lost)
  body ++ leBytes 4 (crc32c body)

/-! ### Dumps (R502 to R505) -/

/-- A TLV section. -/
def section0 (type : Nat) (v : Bytes) : Bytes := leBytes 2 type ++ [0, 0] ++ leBytes 4 v.length ++ fit (4 * cdiv v.length 4) v
/-- The 64-byte header of a dump stream. -/
def dumpHeader (s : State) (cause len state flags n omitted : Nat) : Bytes :=
  leBytes 4 0x504D4459 ++ leBytes 2 1 ++ leBytes 2 cause ++ leBytes 8 s.guest.dumpSeq ++ leBytes 8 s.mono ++
  leBytes 8 s.sc.bootCount ++ leBytes 4 (match s.sc.runImage with | some i => i.buildSeq | none => 0) ++ leBytes 4 len ++
  leBytes 1 state ++ leBytes 1 flags ++ leBytes 2 n ++ leBytes 4 omitted ++ List.replicate 16 0
/-- State codes of a core for a dump: running or in wait. -/
def Core.dumpState (k : Core) : Nat := if k.wait = .none then 1 else 2
def coreNumbers : CoreId → List Nat
  | .sc => [0xFFFF, 0]
  | .tx n m => [n, m]
def healthCode : SourceHealth → Nat
  | .off => 0 | .startTest _ => 1 | .healthy => 2 | .excluded => 3 | .latched => 4 | .tapped => 5
/-- The third fatal error within 600 s of the first of three. -/
def Guest.thirdFatal (g : Guest) : Bool :=
  match g.fatalTimes with | [c, _, a] => decide (c ≤ a + 600 * 10 ^ 9) | _ => false
/-- The figures that R503 lists for a section of a fatal dump: no general or block register, window, operand or key is among them
(R502). The controller's program counters and trap status, and memory syndromes, are free values (log 28). The third fatal error within 600 s has
FATAL_LOOP_HALTED there too, with the summary (R506). -/
def State.dumpFigures (s : State) (cause type : Nat) : List Nat :=
  match type with
  | 1 => (if s.guest.thirdFatal then [St.fatalLoopHalted] else []) ++
      [cause, Config.freeNat s.freeCtr, Config.freeNat (s.freeCtr + 1), Config.freeNat (s.freeCtr + 2)] ++
      s.guest.latches.flatMap fun e => [e.1, e.2.code, e.2.mono, e.2.again] ++ e.2.args
  | 2 => [s.seq.applied, s.seq.next, s.seq.durableBelow, s.seq.waiting.length + s.seq.accepted.length, s.seq.ringAt, s.seq.trim]
  | 3 => [s.pairCode, s.pair.claim, s.pair.acked, s.pair.confirmed, s.pair.linkEpoch]
  | 4 => s.cores.flatMap fun e => coreNumbers e.1 ++
      [e.2.dumpState, e.2.world, e.2.req.partition, e.2.req.verb, e.2.progVersion, e.2.pc.toNat, e.2.retired, e.2.req.ticket]
  | 5 => ((s.disp.queued.map fun q => (q.partition, q.queue)).eraseDups).flatMap fun e =>
      let l := s.disp.queued.filter fun q => q.partition == e.1 && q.queue == e.2
      [e.1, e.2, l.length] ++ (l.take 1).map (·.ticket)
  | 6 => (s.lneJobs.flatMap fun j => match j.place with
        | .loaded n b => [n, b, j.operation, j.partition, j.ticket, j.ran]
        | _ => []) ++
      s.laneJobs.flatMap fun j => [j.mode, j.partition, j.ticket, j.position]
  | 7 => (s.rng.sources.toList.map fun x => healthCode x.health) ++ s.expanders.flatMap fun e => [e.1, e.2.served]
  | 9 => s.guest.fifos.flatMap fun e => [e.1, e.2.status, e.2.lost, e.2.ecc] ++ e.2.items.flatMap TapItem.wordList
  | _ => [Config.freeNat (s.freeCtr + 3)]
/-- Section `type` of a fatal dump. -/
def State.dumpSection (s : State) (cause type : Nat) : Bytes :=
  section0 type ((Config.dumpContent type (s.dumpFigures cause type)).take (2 ^ 32 - 1))
/-- A stream as blocks of 4,092 bytes with their CRC-32C. -/
def dumpBlocks (l : Bytes) : Bytes := (pieces 4092 l).flatMap fun b => fit 4092 b ++ leBytes 4 (crc32c (fit 4092 b))
/-- The stream of a fatal dump, sections 1 to 9, cut at the end of the slot's 12,288 blocks. -/
def State.fatalStream (s : State) (cause : Nat) : Bytes :=
  let all := (List.range 9).flatMap fun i => s.dumpSection cause (i + 1)
  let secs := all.take (12288 * 4092 - 64)
  dumpHeader s cause (64 + secs.length) 1 (2 * b2n (decide (secs.length < all.length))) 9 0 ++ secs
/-- The fatal summary is the first block of the dump (R504). -/
def dumpSummary (stream : Bytes) : Bytes := (dumpBlocks (fit 4092 stream)).take 4096
/-- The stream with NESTED set and the header's number and time anew: an error within the handler ends the dump (R504). -/
def State.nestedStream (s : State) (cause : Nat) (old : Bytes) : Bytes :=
  dumpHeader s cause (leAt old 36 4) 1 (leAt old 41 1 ||| 1) 9 0 ++ old.drop 64
/-- The oldest records that fit the diverged slot, and how many are left out. -/
def fitRecords : (room : Nat) → List Record → List Record
  | _, [] => []
  | n, r :: l => if 64 * r.lines ≤ n then r :: fitRecords (n - 64 * r.lines) l else []
/-- PAIR_DIVERGED: the records the partner lacks go to the diverged slot (R378, R503). -/
def State.diverge (s : State) (recs : List Record) : State :=
  let t := { s with guest := { s.guest with dumpSeq := s.guest.dumpSeq + 1 } }.fatalEvent St.pairDiverged
  let kept := fitRecords (16 * 2 ^ 20 - 4096) recs
  let sec := section0 10 (kept.flatMap fun r => recordBytes r)
  let str := dumpHeader t 0x090E (64 + sec.length) 1 0 1 (recs.length - kept.length) ++ sec
  { t with guest := { t.guest with diverged := { state := 1, seq := t.guest.dumpSeq, stream := str } } }

end Sys2Proof.Machine
end

