-- ==== Sys2Proof/Machine/PairRoles.lean ====
section
/-! DEFINITION. How a unit changes its role in the pair: alone, isolated, takeover, solo, fenced (12 R356, R366, R370 to
R377). -/

namespace Sys2Proof.Machine

/-- A claim beats another by value, then by serial (R374). -/
def beats (c serial c' serial' : Nat) : Bool := decide (c' < c) || (c == c' && decide (serial' < serial))

/-- The body of a CLAIM_ANNOUNCE, signed by the session identity (R375). -/
def State.claimBody (s : State) (seed waybill random : Bytes) : Bytes :=
  let head := beBytes 8 s.pair.claim ++ fit 16 Config.deviceSerial ++ beBytes 8 s.mono
  let msg := ascii "caravan v1 claim" ++ beBytes 2 s.pairId ++ head
  head ++ fit 96 (Config.sign 0x84 (Config.makePrivate 0x84 0 seed) msg (slice random 0 48)) ++
    fit 3309 (Config.sign 0x8B (Config.makePrivate 0x8B 0 seed) msg (slice random 48 32)) ++ [0, 0, 0] ++
    beBytes 4 waybill.length ++ waybill
/-- CLAIM_ANNOUNCE to the pair's groups on every up port, where any is set (R87, R375); none goes out while expander 16 cannot
serve its two signatures (log 109). -/
def State.announce (s : State) : State :=
  match s.sc.identity with
  | none => s
  | some (seed, waybill) =>
    if s.canDraw 16 2 = false then s else
    let r := s.random 16 80
    let body := r.2.claimBody seed waybill r.1
    (((List.range s.portCount).filter s.portUp).flatMap fun n => (s.groupsOf n).map fun g => (n, g)).foldl
      (fun t e => t.sendFragments e.1 e.2 0x20 9198 body) r.2
/-- A new claim, one above the highest seen, is taken and announced (R374, R375). -/
def State.takeClaim (s : State) : State :=
  let c := s.pair.seen + 1
  ((((s.control 3).setPair fun p => { p with claim := c, known := false, seen := c, seenSerial := ownSerial, claimAt := some s.mono,
                                             claimLast := s.mono }).mirSend 0x13).lanternSend 2).announce
/-- The unit serves alone: no acknowledgement is needed and nothing is held (R356, R366). -/
def State.becomeAlone (s : State) : State :=
  { s with pair := { s.pair with state := .activeAlone, wasAlone := true, aloneCsn := some s.seq.applied, serving := false }
           seq := { s.seq with blocked := none } }.raiseDurable

/-! ### Application on a standby (R365) -/

/-- What a standby takes over of a record: its ticket is 0, and the pair's own items stay each unit's (log 30). -/
def foreign (r : Record) : Record :=
  { r with ticket := 0, items := r.items.filter fun i => match i with | .configSet it _ _ => it / 256 != 7 | _ => true }
/-- The received records up to a mark are applied, in CSN order, as far as the IVs of the records that they re-wrap can be drawn. -/
def State.applyUpTo (mark : Nat) : (fuel : Nat) → State → State
  | 0, s => s
  | f + 1, s => match s.pair.received with
    | r :: l =>
      if r.csn ≤ mark then
        match s.recordIvs (.change r.csn) (recordCount (s.durable.rewraps (foreign r))) with
        | (none, u) => u
        | (some ivs, u) =>
        let t := (u.setPair fun p => { p with received := l }).applyChange (foreign r) ivs
        State.applyUpTo mark f { t with seq := { t.seq with next := max t.seq.next (r.csn + 1), durableBelow := max t.seq.durableBelow r.csn } }
      else s
    | [] => s
/-- DURABLE_MARK_RECEIVED: records up to the highest mark are applied and CONFIRMED goes out. -/
def State.applyReceived (s : State) : State :=
  if s.pair.received.any (fun r => decide (r.csn ≤ s.pair.mark)) then
    (State.applyUpTo s.pair.mark s.pair.received.length s).mirSend 0x10
  else s

/-! ### Takeover, solo (R373, R377) -/

/-- Keys that draw deterministic IVs are as filled from their records (R282, R373). -/
def State.refillSlots (s : State) : State :=
  { s with store := { s.store with slots := s.store.slots.map fun e =>
      (e.1, match s.durable.keyNow e.1 with | some k => { e.2 with v := k.attrs.nonce + 65536 } | none => e.2) } }
/-- The next CSN is the start of the block above the highest reserved one (R331). -/
def State.newBlock (s : State) : State :=
  let n := s.seq.nextBlock
  { s with seq := { s.seq with next := n, blockEnd := n + 2 ^ 24 } }.control 7
/-- The takeover of R373; it waits while a record up to the mark cannot be applied. -/
def State.takeover (s : State) : State :=
  let s1 := State.applyUpTo s.pair.mark s.pair.received.length s
  if s1.pair.received.any (fun r => decide (r.csn ≤ s1.pair.mark)) then s1 else
  let s2 := { s1 with seq := { s1.seq.cutBack (s1.seq.journal.filter fun r => decide (r.csn ≤ s1.pair.mark)) with
                                           accepted := [], blocked := none, durableBelow := s1.seq.applied }
                      pair := { s1.pair with received := [], partialRec := [], recBlocks := [] } }
  let s3 := (s2.newBlock.refillSlots).takeClaim.becomeAlone
  s3.scEvent St.pairTakeover [s3.pair.claim]
/-- SOLO_ENTRY: an ISOLATED or WAITING unit goes on alone under a new claim. -/
def State.soloEntry (s : State) : State :=
  match s.pair.state with
  | .isolated => s.takeClaim.becomeAlone.scEvent St.pairSoloEntered
  | .waiting => s.takeClaim.becomeAlone.scEvent St.pairSoloEntered
  | _ => s

/-- The partner is declared failed, by silence or by its own word (R370, R372). -/
def State.partnerFailed (s : State) (silence : Bool) : State :=
  if s.pair.failed then s
  else
    let t := (s.setPair fun p => { p with failed := true }).scEvent St.partnerFailed
    match t.pair.state with
    | .standby => t.takeover
    | .active =>
      if silence then (t.setPair fun p => { p with state := .isolated }).scEvent St.pairIsolated else t.becomeAlone
    | .activeAlone => t.setPair fun p => { p with serving := false }
    | .resyncing => t.setPair fun p => { p with state := .waiting, snapS := none, snapBlocks := [], received := [], partialRec := [] }
    | _ => t

/-- What a standby or a receiver could not apply goes on once expander 12 has a seed. -/
def State.resumeApply (s : State) : State :=
  match s.pair.state with
  | .standby => if s.pair.failed then s.takeover else s.applyReceived
  | .resyncing => if s.pair.snapS.isSome then s else s.applyReceived
  | _ => s

/-! ### Fence (R376) -/

/-- The unit stops serving for good: waiting and unapplied commits are refused, queued requests go without answer,
sessions and the ceremony end, held responses are discarded and counted. -/
def State.fencePair (s : State) : State :=
  let waiting := s.seq.waiting
  let undone := s.seq.accepted.filter fun a => a.record.csn == 0 || decide (s.seq.durableBelow < a.record.csn)
  let s1 := { s with seq := { s.seq with waiting := [], accepted := s.seq.accepted.filter fun a =>
                                a.record.csn != 0 && decide (a.record.csn ≤ s.seq.durableBelow) }
                     disp := { s.disp with queued := [] } }
  let s2 := waiting.foldl (fun t w => t.refuseCommit w.src St.pairFenced none) s1
  let s3 := undone.foldl (fun t a => t.refuseCommit a.src St.pairFenced none) s2
  let held := fun (r : Response) => decide (s.pair.confirmed < max r.csn r.snapshot)
  let heldNow := match s.pair.state with | .active => s3.egress.filter held | .isolated => s3.egress.filter held | _ => []
  let ofRing := heldNow.filterMap fun r => match r.req.origin with
    | .ring _ _ => some { req := r.req, status := St.pairFenced, streamPart := 3 } | _ => none
  let s4 := { s3 with egress := (s3.egress.filter fun r => !heldNow.contains r) ++ ofRing
                      pair := { s3.pair with state := .fenced, serving := false }.count mHeldDiscards heldNow.length }
  ((s4.endAllSessions).abandonCeremony St.pairFenced).scEvent St.pairFenced [s4.pair.seen]
/-- A claim is learned, with the serial that announced it where the frame names one: one that beats the unit's own while
it serves fences it (R374, R376). -/
def State.learnClaim (s : State) (c : Nat) (serial : Option Nat) : State :=
  let by0 := serial.getD s.partnerNumber
  let t := if s.pair.seen < c ∨ (serial.isSome ∧ beats c by0 s.pair.seen s.pair.seenSerial) then
    s.setPair fun p => { p with seen := c, seenSerial := by0 } else s
  let lost := match serial with | some n => beats c n s.pair.claim ownSerial | none => decide (s.pair.claim < c)
  if lost then (match s.pair.state with
    | .active => t.fencePair | .activeAlone => t.fencePair | .isolated => t.fencePair | _ => t)
  else t

/-! ### Leaving service (R371) -/

/-- An active unit settles its outstanding commits and sends STAND_DOWN on both paths. -/
def State.standDown (s : State) : State := if s.paired then (s.raiseDurable.mirSend 0x15).lanternSend 4 else s

end Sys2Proof.Machine
end

