-- ==== Sys2Proof/Machine/RngEvents.lean ====
section
/-! DEFINITION. The random bit generator: start-up, windows, seeds, captures (10 R312 to R329; 07 R226). -/

namespace Sys2Proof.Machine

/-! ### Windows and health tests (R312 to R315) -/

/-- The raw bits of a window, the first one in bit 0 of byte 0 (log 31). -/
def windowBits (w : Bytes) : List Bool := w.flatMap fun b => (List.range 8).map fun i => b.toNat / 2 ^ i % 2 == 1
/-- The repetition count test over further bits: last bit, its run, whether a run has reached the cutoff. -/
def repetition (cut : Nat) : List Bool → Option Bool → Nat → Bool → Option Bool × Nat × Bool
  | [], last, run, bad => (last, run, bad)
  | b :: l, last, run, bad =>
    let r := if last = some b then run + 1 else 1
    repetition cut l (some b) r (bad || decide (cut ≤ r))
/-- How often the first bit of a window occurs in it. -/
def proportion (l : List Bool) : Nat :=
  match l with | [] => 0 | b :: _ => (l.filter (· == b)).length
/-- The tests a window of a source fails under the cutoffs of that window: 1 repetition count, 2 adaptive proportion; and the source
after it (R313, R328). -/
def State.testWindow (s : State) (x : RngSource) (w : Bytes) : List Nat × RngSource :=
  let l := windowBits w
  let r := repetition s.rng.rct l x.lastBit x.run false
  let fails := (if r.2.2 then [1] else []) ++ (if s.rng.apt ≤ proportion l then [2] else [])
  (fails, { x with lastBit := r.1, run := r.2.1 })
/-- Sources whose blocks may make seeds. -/
def Rng.healthy (g : Rng) : Nat := (g.sources.toList.filter fun x => x.health == .healthy).length
def State.setSource (s : State) (i : Nat) (x : RngSource) : State :=
  if h : i < 8 then { s with rng := { s.rng with sources := s.rng.sources.set i x } } else s
def State.source (s : State) (i : Nat) : RngSource := if h : i < 8 then s.rng.sources[i] else {}

/-- The cutoffs in force are taken for the window that begins (R328). -/
def State.takeCutoffs (s : State) : State := { s with rng := { s.rng with rct := s.cfg 0x0601 0 41, apt := s.cfg 0x0602 0 795 } }
/-- A capture's bytes with the bits past those asked for zero (R329). -/
def captureBits (want : Nat) (l : Bytes) : Bytes :=
  let n := want / 8
  l.take n ++ ((l.drop n).take (cdiv want 8 - n)).map fun b => BitVec.ofNat 8 (b.toNat % 2 ^ (want % 8))

/-- A source with its count of consecutive failing windows after one more (R315). -/
def RngSource.counted (x : RngSource) (pass : Bool) : RngSource := { x with fails := if pass then 0 else x.fails + 1 }
/-- A source's start-up test (R322): it passes, or fails for the last of four times, or once more. -/
def RngSource.startTested (x : RngSource) (failed : Nat) (pass : Bool) : RngSource :=
  if pass then { x with health := .healthy, passes := 0 }
  else if 3 ≤ failed then { x with health := .off } else { x with health := .startTest (failed + 1) }
/-- A tested source after its window, short of the latch: a failing window excludes a healthy source, four passing ones in a row make
it healthy again. -/
def RngSource.tested (x : RngSource) (pass : Bool) : RngSource :=
  match x.health with
  | .startTest n => x.startTested n pass
  | .healthy => if pass then x else { x with health := .excluded, passes := 0 }
  | .excluded =>
    if pass = false then { x with passes := 0 }
    else if 3 ≤ x.passes then { x with health := .healthy, passes := 0 } else { x with passes := x.passes + 1 }
  | _ => x
/-- The 16th failing window in a row latches a source off; one being captured is latched at its end (R315, R329). -/
def RngSource.latches (x : RngSource) : Bool :=
  decide (16 ≤ x.fails) && (match x.health with | .tapped => x.before != .latched | _ => true)
def RngSource.latch (x : RngSource) : RngSource :=
  match x.health with
  | .tapped => { x with before := .latched }
  | _ => { x with health := .latched, passes := 0, fails := 0 }
/-- The bits of a source's window go to the capture that is under way of it (R329). -/
def State.captureWindow (s : State) (i : Nat) (w : Bytes) : State :=
  match s.rng.tap with
  | some (n, want) => if n = i then { s with rng := { s.rng with capture := captureBits want (s.rng.capture ++ w) } } else s
  | none => s
/-- One source's window: the state after it, and the conditioned block where the source may use it (R314, R315). -/
def State.sourceWindow (s : State) (i : Nat) (w : Bytes) : State × List Bytes :=
  let x0 := s.source i
  match x0.health with
  | .off => (s, [])
  | .latched => (s, [])
  | h =>
    let r := s.testWindow x0 w
    let pass := r.1.isEmpty
    let x1 := r.2.counted pass
    let x2 := x1.tested pass
    let t := (r.1.foldl (fun u f => u.scEvent St.rngHealthFailure [i, f]) s).captureWindow i w
    if x1.latches then ((t.setSource i x1.latch).scEvent St.rngSourceLatched [i], [])
    else
      let u := t.setSource i x2
      (if h = .excluded ∧ x2.health = .healthy then u.scEvent St.rngSourceRejoined [i] else u, if h = .healthy ∧ pass then [sha256 w] else [])
/-- The windows of all sources end together. -/
def State.sourceWindows : State → Nat → List Bytes → State × List Bytes
  | s, _, [] => (s, [])
  | s, i, w :: l =>
    let r := s.sourceWindow i w
    let u := State.sourceWindows r.1 (i + 1) l
    (u.1, r.2 ++ u.2)
/-- Seeding stops below two healthy sources and resumes with two (R317). -/
def State.seedingMark (s : State) : State :=
  if s.rng.healthy < 2 then
    (if s.rng.stopped then s else { s with rng := { s.rng with stopped := true } }.scEvent St.rngSeedingStopped)
  else if s.rng.stopped then { s with rng := { s.rng with stopped := false } }.scEvent St.rngSeedingResumed else s

/-! ### Seeds (R226, R316, R320, R321) -/

/-- A new trunk from one seed. -/
def State.newTrunk (s : State) (seed : Bytes) : State :=
  { s with porter := { s.porter with trunk := some (treeKey 0 0 (sha256 seed)) }
           rng := { s.rng with trunkWanted := false } }.scEvent St.trunkGenerated
/-- The order in which ties between expanders are settled: SC, lane groups, clusters, LNEs. -/
def seedOrder : List Nat := [12, 13, 14, 15, 0, 1, 2, 3, 4, 5, 6, 7, 8, 9, 10, 11, 16]
/-- An expander that waits for a seed. -/
def Expander.waits (x : Expander) : Bool := !x.ready || x.asked
/-- Its precedence: blocked or never seeded first, then by requests served. -/
def Expander.urgency (x : Expander) : Nat := if x.ready = false ∨ 1048576 ≤ x.served then 2 ^ 64 else x.served
/-- The waiting expander that the next seed goes to. -/
def State.nextExpander (s : State) : Option Nat :=
  (seedOrder.filter fun e => match getK e s.expanders with | some x => x.waits | none => false).foldl
    (fun (b : Option Nat) e => match b with
      | none => some e
      | some f => if (getD f {} s.expanders).urgency < (getD e {} s.expanders).urgency then some e else b) none
/-- An expander's personalisation string: the device serial and its number (R318). -/
def personalisation (e : Nat) : Bytes := fit 16 Config.deviceSerial ++ [BitVec.ofNat 8 e]
/-- An expander takes a seed: it is instantiated or reseeded, and its count returns to 0; the LNE jobs that wait for the LNE
expander draw, and a unit that follows applies what waited for the SC's (R318, R320, R327). -/
def State.seedExpander (s : State) (e : Nat) (seed : Bytes) : State :=
  let x := getD e {} s.expanders
  let st := if x.ready then Config.drbgReseed x.state seed else Config.drbgInstantiate seed (personalisation e)
  let s := if x.ready then s.sample 16 18 x.served else s
  let t := { s with expanders := setK e { ready := true, state := st, parts := x.parts } s.expanders }
  if e = 16 then t.drawLoaded else if e = 12 then t.resumeApply else t
/-- Seeds are made for whoever waits, the trunk first; blocks nobody needs are zeroed. -/
def State.shareSeeds : (fuel : Nat) → List Bytes → State → State
  | 0, _, s => s
  | f + 1, a :: b :: l, s =>
    if s.rng.trunkWanted then State.shareSeeds f l (s.newTrunk (a ++ b))
    else match s.nextExpander with
      | some e => State.shareSeeds f l (s.seedExpander e (a ++ b))
      | none => s
  | _ + 1, _, s => s
/-- A window of every source: tests and conditioning, then seeds from the sources healthy throughout; the next window takes the
cutoffs in force (R313 to R321, R328). -/
def State.window (s : State) (ws : List Bytes) : State :=
  let r := s.sourceWindows 0 ws
  (State.shareSeeds 4 r.2 r.1).takeCutoffs
/-- RNG_WINDOW_END, in a generator that has started. -/
def State.windowEnd (s : State) (ws : List Bytes) : State :=
  if s.rng.started = false then s else (s.window ws).seedingMark
def execRngWindowEnd (windows : List Bytes) (s : State) : Out := .next (s.windowEnd windows)

/-! ### Start-up (R322 to R324) -/

/-- The expanders of the variant. -/
def State.expanderNumbers (s : State) : List Nat :=
  List.range s.clusterCount ++ [12] ++ (List.range (cdiv s.laneCount 4)).map (13 + ·) ++ [16]
/-- The security controller has released the generator and it has not started. -/
def State.rngMayStart (s : State) : Bool :=
  (s.sc.mode == .starting || s.sc.mode == .running || s.sc.mode == .recovery) && !s.rng.started && !s.porter.held
/-- The generator at its release: every source before its start-up test, no expander instantiated. -/
def State.rngReleased (s : State) : State :=
  ({ s with expanders := s.expanderNumbers.map fun e => (e, {})
            rng := { s.rng with sources := Vector.replicate 8 { health := .startTest 0 }, stopped := true, failedAt := none,
                                tap := none, capture := [] } } : State).takeCutoffs
/-- Sources that have passed a start-up test since the release. -/
def Rng.passed (g : Rng) : Nat :=
  (g.sources.toList.filter fun x => match x.health with | .healthy => true | .excluded => true | .latched => true | _ => false).length
/-- The windows of the sequence, one after another: once two sources are healthy seeding has begun, and stops and resumes from then on
(R317). -/
def State.startWindows : List (List Bytes) → (begun : Bool) → State → State
  | [], _, s => s
  | w :: l, begun, s =>
    let t := s.window w
    let now := begun || decide (2 ≤ t.rng.healthy)
    State.startWindows l now
      (if begun then t.seedingMark else if now then { t with rng := { t.rng with stopped := false } } else t)
/-- The sequence from the release on the given windows, in their order: a source's first windows are its start-up tests, up to four;
those after serve the trunk, where one is wanted, and the expanders. Two sources that passed make it succeed, and what is not yet
seeded then takes seeds from the windows that follow; a failed known-answer test, or four windows without two such sources, make it
fail (R324, log 31). -/
def State.rngStart (s : State) (ws : List (List Bytes)) (kat : Bool) : State :=
  let t := State.startWindows ws false s.rngReleased
  let tests := State.startWindows (ws.take 4) false s.rngReleased
  if kat = false ∨ (tests.rng.passed < 2 ∧ 4 ≤ ws.length) then
    let failures := (tests.raised.drop s.raised.length).filter fun e => e.2.code == St.rngHealthFailure
    { s.rngReleased with raised := s.raised ++ failures
                         rng := { s.rngReleased.rng with sources := tests.rng.sources, failedAt := some s.mono } }.fatalEvent
      St.rngStartupFailed
  else if tests.rng.passed < 2 then s
  else { t with rng := { t.rng with started := true } }
def execRngStartup (windows : List (List Bytes)) (katOk : Bool) (s : State) : Out :=
  .next (if s.rngMayStart ∧ s.rng.failedAt.isNone then s.rngStart windows katOk else s)
def execRngStartupRetry (windows : List (List Bytes)) (katOk : Bool) (s : State) : Out :=
  .next (match s.rng.failedAt with
    | some t => if s.rngMayStart then { s with mono := max s.mono (t + 10 ^ 9) }.rngStart windows katOk else s
    | none => s)

/-! ### Captures (R329) -/

/-- A capture may start: bits 1 to 8,388,608 of a source, with two other healthy sources; in a generator that has started, one at a time
(log 140). -/
def State.tapAllowed (s : State) (src bits : Nat) : Bool :=
  decide (src < 8) && decide (1 ≤ bits ∧ bits ≤ 8388608) && s.rng.tap.isNone && s.rng.started &&
  decide (2 ≤ ((List.range 8).filter fun i => i != src && (s.source i).health == .healthy).length)
/-- The source is excluded from seeding from here on. -/
def State.startTap (s : State) (src bits : Nat) : State :=
  let x := s.source src
  let t := s.setSource src { x with health := .tapped, before := x.health }
  { t with rng := { t.rng with tap := some (src, bits), capture := [] } }
/-- What a source is after a capture: it runs a fresh start-up test, but one that was latched off, or that had failed its start-up
tests, stays off (R315, R329, log 107). -/
def RngSource.afterTap (x : RngSource) : SourceHealth :=
  match x.before with | .latched => .latched | .off => .off | _ => .startTest 0
/-- A full capture ends. -/
def execRngTapEnd (s : State) : Out :=
  .next (match s.rng.tap with
    | some (n, want) =>
      if cdiv want 8 ≤ s.rng.capture.length then
        let x := s.source n
        let t := s.setSource n { x with health := x.afterTap, passes := 0 }
        { t with rng := { t.rng with tap := none } }
      else s
    | none => s)

end Sys2Proof.Machine
end

