-- ==== Sys2Proof/Machine/Admission.lean ====
section
/-! DEFINITION. Request items, admission to the queues, tickets, flushes, resets (02 R54 to R59; 03 R90 to R110, R547). -/

namespace Sys2Proof.Machine

/-! ### Admission (R98 to R101) -/

/-- Bytes that a partition holds of its reservation, and of the shared burst area. -/
def State.reservedUse (s : State) (p : Nat) : Nat :=
  ((s.disp.queued.filter fun q => q.partition == p).map (·.reserved)).sum + ((s.inboundOf p).map (·.reserved)).sum
def State.sharedUse (s : State) (p : Nat) : Nat :=
  ((s.disp.queued.filter fun q => q.partition == p && !q.spilled).map fun q => q.charge - q.reserved).sum +
  (((s.inboundOf p).filter fun i => !i.spilled).map fun i => i.charge - i.reserved).sum
def State.allShared (s : State) : Nat :=
  ((s.disp.queued.filter fun q => !q.spilled).map fun q => q.charge - q.reserved).sum +
  ((s.net.sessions.flatMap fun x => x.inbound.filter fun i => !i.spilled).map fun i => i.charge - i.reserved).sum
/-- The shared burst area: what the reservations leave of the 24 MiB. -/
def State.sharedArea (s : State) : Nat := 24 * 1048576 - s.durable.burstSum
/-- Bytes of spill that the requests and messages hold which satisfy a test on their partition. -/
def State.spillWhere (s : State) (f : Nat → Bool) : Nat :=
  ((s.disp.queued.filter fun q => f q.partition && q.spilled).map (·.charge)).sum +
  (((s.net.sessions.filter fun x => f x.partition).flatMap fun x => x.inbound.filter (·.spilled)).map (·.charge)).sum
def State.spillOf (s : State) (p : Nat) : Nat := s.spillWhere (· == p)
def State.spillTotal (s : State) : Nat := s.spillWhere fun _ => true
/-- The spilled requests of a queue that the dispatcher has prefetched into burst SRAM: the 64 of lowest ticket (R100). Their
charge stays in the spill (log 63). -/
def State.prefetched (s : State) (p q : Nat) : List Request := ((s.queuedIn p q).filter (·.spilled)).take 64
/-- RETRY_AFTER_US (R101). -/
def State.retryHint (s : State) (p cls need : Nat) : Nat :=
  let got := ((s.disp.recent.filter fun e => e.2.1 == p && e.2.2.1 == cls && decide (s.mono ≤ e.1 + 10 ^ 6)).map (·.2.2.2)).sum
  if got = 0 then 100000 else min 100000 (max 10 (cdiv (need * 1000) got))
/-- What admission decides: a refusal with its hint, or where the charge lies (reservation bytes, spilled). -/
inductive Admit where
  | refused (st : Status) (retry : Nat)
  | taken (reserved : Nat) (spilled : Bool)
/-- The first matching rule of R99 (a halted partition whose reset is under way still counts as halted: log 97); during an entry to S3 admission has stopped (R475). -/
def State.admitCharge (s : State) (p q charge : Nat) : Admit :=
  let full := Admit.refused St.queueFull (s.retryHint p (s.queueClass p q) (charge + s.spillQuota p / 8))
  let r := s.part p
  if s.partDefined p = false then .refused St.partitionNotDefined 0
  else if r.halted then .refused St.partitionHalted 0
  else if r.reset.isSome then .refused St.cancelled 0
  else if s.queueDefined p q = false then .refused St.queueUndefined 0
  else if (match s.porter.entering with | some (3, _) => true | _ => false) then full
  else if s.queueDepth p q ≠ 0 ∧ s.queueDepth p q ≤ (s.queuedIn p q).length then
    .refused St.queueFull (s.retryHint p (s.queueClass p q) (match s.queuedIn p q with | h :: _ => h.charge | [] => charge))
  else if charge + s.reservedUse p ≤ s.durable.burstReserve p then .taken charge false
  else if charge + s.allShared ≤ s.sharedArea ∧ (charge + s.sharedUse p) * 100 ≤ s.sharedArea * s.burstShare p then .taken 0 false
  else if charge + s.spillOf p ≤ s.spillQuota p ∧ charge + s.spillTotal ≤ s.spillPool then .taken 0 true
  else full
/-- An admission to spill that leaves less than 1 % of the pool is recorded. -/
def State.spillCheck (s : State) (p : Nat) (spilled : Bool) : State :=
  if spilled ∧ (s.spillPool - s.spillTotal) * 100 < s.spillPool then s.scEvent St.spillPoolExhausted [p] else s

/-! ### Partition commands at their dispatch decision (R547) -/

/-- The status that a partition number gives a command. -/
def State.partitionArg (s : State) (p : Nat) : Option Status :=
  if s.partitionCount ≤ p then some St.partitionOutOfRange
  else if s.partDefined p = false then some St.partitionNotDefined
  else if p = 0 then some St.partitionProtected else none
/-- PARTITION_RESET: the reset point. -/
def State.resetPoint (s : State) (b : Bytes) : State × Status × Bytes :=
  let p := leAt b 0 2
  if b.length ≠ 8 ∨ allZero (b.drop 2) = false then (s, St.queueConfigInvalid, [])
  else match s.partitionArg p with
    | some st => (s, st, [])
    | none =>
      let r := s.part p
      if r.reset.isSome then (s, 0, [])
      else (s.setPart p { r with reset := some { at0 := s.mono } }, 0, [])
/-- PARTITION_QUEUE_FLUSH: the flush point. -/
def State.flushPoint (s : State) (b : Bytes) : State × Status × Bytes :=
  let p := leAt b 0 2
  let q := leAt b 2 1
  if b.length ≠ 8 ∨ allZero (b.drop 3) = false ∨ 15 < q then (s, St.queueConfigInvalid, [])
  else match s.partitionArg p with
    | some st => (s, st, [])
    | none =>
      if s.queueDefined p q = false then (s, St.queueUndefined, [])
      else let r := s.flushQueue p q; (r.2, 0, leBytes 8 r.1)
/-- SESSION_CLOSE: the close point; the session that carries the command closes after its response. -/
def State.closePoint (s : State) (q : Request) : State × Status × Bytes :=
  let b := q.body
  let sid := leAt b 0 4
  let own := match q.origin with | .session i _ => i == sid | _ => false
  if b.length ≠ 8 ∨ allZero (b.drop 4) = false then (s, St.queueConfigInvalid, [])
  else match s.sess? sid with
    | some x =>
      if x.live = false then (s, St.sessionNotFound, [])
      else if own then (s.updSess sid fun y => { y with closing := some 4 }, 0, [])
      else (s.closeSession sid St.sessionClosed 4, 0, [])
    | none => (s, St.sessionNotFound, [])
/-- What a command handed to the security controller does at the decision itself. -/
def State.commandPoint (s : State) (q : Request) : State :=
  let keep := fun (r : State × Status × Bytes) =>
    { r.1 with sc := { r.1.sc with points := setK q.ticket (r.2.1, r.2.2) r.1.sc.points } }
  if q.verb = 0x0F01 then keep (s.resetPoint q.body)
  else if q.verb = 0x0F02 then keep (s.flushPoint q.body)
  else if q.verb = 0x0F03 then keep (s.closePoint q)
  else s

/-! ### Partition reset (R109) -/

/-- A request of the partition has been dispatched and not yet answered. -/
def State.partInFlight (s : State) (p : Nat) : Bool :=
  s.cores.any (fun c => c.2.req.partition == p) || s.sc.queue.any (·.partition == p) || s.sc.waiting.any (·.req.partition == p) ||
  s.egress.any (·.req.partition == p)
/-- The queued requests of a partition in reset are answered, within 1 ms. -/
def State.resetCancel (s : State) (p : Nat) : State :=
  let r := s.part p
  match r.reset with
  | some x =>
    if x.cancelledAt.isSome then s
    else
      let now := max s.mono (x.at0 + 10 ^ 6)
      ({ s with mono := now }.setPart p { r with reset := some { x with cancelledAt := some now } }).cancelQueued
        (fun q => q.partition == p) St.cancelled
  | none => s
def execPartitionResetCancel (p : Nat) (s : State) : Out := .next (s.resetCancel p)
/-- The wipe of a partition's volatile state; pinned keys and the bough stay resident. -/
def State.wipePartition (s : State) (p : Nat) : State :=
  let own := fun (r : Nat) => refPartition r == p
  let pinned := fun (r : Nat) => match s.durable.keyNow r with | some k => isPinned k.attrs | none => false
  { s with store := { s.store with slots := s.store.slots.filter fun e => !own e.1 || pinned e.1 }
           clusters := s.clusters.map fun e => (e.1, { e.2 with slice := e.2.slice.filter fun x => !own x.1 })
           lnes := s.lnes.map fun e => (e.1, e.2.wipeBanks p) }
/-- A request ticketed since the cancellation is answered too; sessions close after their last responses, the wipe follows, and the partition is in service again. -/
def State.resetWipe (s : State) (p : Nat) : State :=
  let r := s.part p
  match r.reset with
  | some x => match x.cancelledAt with
    | some t =>
      if s.partInFlight p then s
      else
        let now := max s.mono (t + 50000)
        let t0 := { s with mono := now }.cancelQueued (fun q => q.partition == p) St.cancelled
        let u := ((t0.closePartitionSessions p 2).wipePartition p).setPart p {}
        x.askers.foldl (fun v q => v.answer q 0) (u.scEvent St.partitionReset [p])
    | none => s
  | none => s
def execPartitionResetWipe (p : Nat) (s : State) : Out := .next (s.resetWipe p)

end Sys2Proof.Machine
end

