-- ==== Sys2Proof/Machine/VerbOps.lean ====
section
/-! DEFINITION. What the verbs of the library share: the frame, key loads, engine jobs, the key-out layout, PAN fields
(06 R187 to R202). -/

namespace Sys2Proof.Machine

/-! ### The frame (R187 to R195) -/

/-- How a step of a verb comes out: the verb ends with a status and a response body; the core waits in a state; or the core goes on
in a changed state, for its commit or its job. -/
inductive VerbAct where
  | ends (s : State) (status : Status) (body : Bytes)
  | waits (s : State) (w : Wait)
  | holds (s : State) (k : Core)

/-- A wait in which a verb's step goes on: none, random bits, a short-block unit, an engine job (log 8). -/
def Wait.verbReady (w : Wait) : Bool :=
  match w with | .none => true | .random _ => true | .unit _ _ => true | .job _ => true | _ => false
/-- A core takes its verb's step while no instruction of its own waits on it. -/
def Core.verbTakes (k : Core) : Bool := k.wait.verbReady && k.insn.isNone
/-- The frame of a verb: it has an effect on a core of a cluster that runs an invocation of its code in world V; a
response with another status than OK carries no body (R18). -/
def State.verb (s : State) (c : CoreId) (code : Nat) (f : Core → VerbAct) : State :=
  match c with
  | .sc => s
  | .tx n i =>
    match s.core? (.tx n i) with
    | none => s
    | some k =>
      if k.world ≠ 1 ∨ k.req.verb ≠ code ∨ k.verbTakes = false then s
      else match f k with
        | .ends t st body => t.endWith (.tx n i) { k with wait := .none } st (if st = 0 then body else [])
        | .waits t w => t.setCore (.tx n i) { k with wait := w }
        | .holds t k' => t.setCore (.tx n i) k'
/-- MALFORMED_REQUEST (R189). -/
def badBody (s : State) : VerbAct := .ends s St.malformedRequest []
/-- The verb ends with OK. -/
def good (s : State) (body : Bytes) : VerbAct := .ends s 0 body
/-- The RESULT word of R191. -/
def resultWord (r detail : Nat) : Bytes := leBytes 1 r ++ [0] ++ leBytes 2 detail
/-- `n` zero bytes. -/
def zeros (n : Nat) : Bytes := List.replicate n 0
/-- A length (4 bytes), 12 reserved bytes, the data. -/
def dataOut (l : Bytes) : Bytes := leBytes 4 l.length ++ zeros 12 ++ l
/-- Up to a multiple of 8 or 16 (R188). -/
def pad8 (n : Nat) : Nat := 8 * cdiv n 8
def pad16 (n : Nat) : Nat := 16 * cdiv n 16
/-- A reserved field or padding of `n` bytes is zero. -/
def res (b : Bytes) (o n : Nat) : Bool := allZero (slice b o n)

/-! ### Keys (R190) -/

/-- A key is loaded. -/
def loadRef (s : State) (c : CoreId) (k : Core) (ref : Nat) (f : State → Handle → VerbAct) : VerbAct :=
  match s.kld c k ref with
  | .error e => .ends s e []
  | .ok (h, t) => f t h
/-- The type and all of the usage bits a verb demands of a key (R156). -/
def demandError (h : Handle) (typeOk : Nat → Bool) (all : BitVec 16) : Option Status :=
  if typeOk h.key.attrs.keyType = false then some St.keyTypeMismatch
  else if h.key.attrs.usage &&& all = all then none else some St.keyUsageDenied
def demand (s : State) (h : Handle) (typeOk : Nat → Bool) (all : BitVec 16) (f : VerbAct) : VerbAct :=
  match demandError h typeOk all with
  | some e => .ends s e []
  | none => f
/-- A key is loaded and checked. -/
def useRef (s : State) (c : CoreId) (k : Core) (ref : Nat) (typeOk : Nat → Bool) (all : BitVec 16)
    (f : State → Handle → VerbAct) : VerbAct :=
  loadRef s c k ref fun t h => demand t h typeOk all (f t h)

/-! ### Units (R136, R153, R279) -/

/-- The verb's blocks on the cluster's short-block units. -/
def onSbu (s : State) (c : CoreId) (k : Core) (blocks : Nat) (f : State → VerbAct) : VerbAct :=
  match s.sbu c k blocks with
  | .stands t w => .waits t w
  | .ok t => f t
/-- Fresh random bytes from the cluster's expander. -/
def onRandom (s : State) (c : CoreId) (k : Core) (len : Nat) (f : State → Bytes → VerbAct) : VerbAct :=
  match s.tryReads (expanderOf c) (.invocation k.req.ticket) [len] with
  | (some l, t) => f t l
  | (none, t) => .waits t (k.randomWait s.mono)

/-! ### Engine jobs (R198) -/

/-- A verb with an LNE job: it starts, waits for its job, and goes on with the job's outcome. -/
def State.onLne (s : State) (c : CoreId) (start : VerbAct) (fin : State → LneJob → Status → VerbAct) : VerbAct :=
  match s.lneJobs.find? (·.core == c) with
  | none => start
  | some j => match j.place with
    | .done st => fin (s.dropLneJob j) j st
    | _ => .waits s (.job j.handle)
/-- A verb's LNE job is submitted; it waits for staging units where they are short (R290). -/
def State.submitLne (s : State) (c : CoreId) (k : Core) (op p bits : Nat) (key : Option Handle) (ops : List Bytes)
    (tmpl : Bytes) : VerbAct :=
  let b := opBitsOf bits key
  let n := fun i => ((ops.getD i []).length)
  let j := s.wholeJob (k.submitter c) op p bits key ops tmpl
  if operandsOk op p b key.isSome (n 0) (n 1) (n 2) (n 3) = false ∨ opBitsOk op p bits key = false then badBody s
  else if 2048 < s.lneUnits + j.units then .waits s (.job 0)
  else .holds (s.addLne j) { k with wait := .job s.nextHandle, jobs := (s.nextHandle, false) :: k.jobs }
/-- A verb with a lane job. -/
def State.onLane (s : State) (c : CoreId) (start : VerbAct) (fin : LaneJob → Status → VerbAct) : VerbAct :=
  match s.laneJobs.find? (·.core == c) with
  | none => start
  | some j => match j.place with
    | .done st => fin j st
    | _ => .waits s (.job j.handle)
/-- A verb's lane job is submitted. -/
def State.startLane (s : State) (c : CoreId) (k : Core) (mode tagB : Nat) (stream ivKey : Bool) (h : Handle)
    (iv tag aad data : Bytes) (n : Nat) : VerbAct :=
  let j : LaneJob :=
    { handle := s.nextHandle, core := c, ticket := k.req.ticket, partition := k.req.partition, rank := classRank k.cls,
      submitted := s.mono, assignedAt := s.mono, mode := mode, stream := stream, ivFromKey := ivKey, key := h,
      tagBytes := tagB, iv := iv, expected := if mode = 5 ∨ mode = 7 then tag.take tagB else [], aad := aad, source := data,
      dataLen := n, destOffset := 0, tagOffset := 0, ivOffset := 0, place := .unassigned }
  .holds (s.submitLane j)
    { k with wait := .job s.nextHandle, jobs := (s.nextHandle, true) :: k.jobs, outFrozen := k.outFrozen || stream,
             streamJob := if stream then some s.nextHandle else k.streamJob }

/-! ### Commits and keys out (R192, R193) -/

/-- The verb's one commit; on success the response is `front`, the CSN, `back`. -/
def State.verbCommit (s : State) (c : CoreId) (k : Core) (item : CItem) (front back : Bytes) : VerbAct :=
  let w : PendingCommit := { src := .core c, ticket := k.req.ticket, partition := k.partition, items := [item],
                             lines := recordLines [item], arrived := s.mono }
  .holds (s.queueCommit w)
    { k with stage := [item], commitMade := true, jobs := [], wait := .verbCommit front back }
/-- The check value of R176; of an asymmetric key it is unstated, a free value (log 16). -/
def State.checkOf (s : State) (key : KeyMat) : Bytes × State :=
  if isSym key.attrs.keyType then (checkValue key, s)
  else (fit 3 (Config.freeBytes s.freeCtr 3), { s with freeCtr := s.freeCtr + 1 })
/-- A key as a key block under a wrapping key. -/
def exportAs (s : State) (c : CoreId) (k : Core) (kek : Handle) (key : KeyMat) (f : State → Bytes → VerbAct) : VerbAct :=
  match sealBlock kek.key key (Config.freeBytes s.freeCtr 32) with
  | .error e => .ends s e []
  | .ok l => onSbu s c k (cdiv l.length 16) fun t => f { t with freeCtr := t.freeCtr + 1 } l
/-- BLOCK_LEN, reserved, KEY_BLOCK. -/
def blockField (l : Bytes) : Bytes := leBytes 4 l.length ++ zeros 4 ++ l
/-- A key is delivered: stored at DEST_REF by one commit, or returned under KEK_REF; the key-out layout, after `front`. -/
def keyOut (s : State) (c : CoreId) (k : Core) (front : Bytes) (dest : Nat) (kek : Option Handle) (key : KeyMat) : VerbAct :=
  onSbu s c k 1 fun s1 =>
    let v := s1.checkOf key
    match kek with
    | none => v.2.verbCommit c k (.keyPut dest key) (front ++ v.1 ++ zeros 5) (blockField [])
    | some h => exportAs v.2 c k h key fun t l => good t (front ++ v.1 ++ zeros 5 ++ zeros 8 ++ blockField l)
/-- Exactly one of DEST_REF and KEK_REF. -/
def oneOf (dest kek : Nat) : Bool := (dest == 0) != (kek == 0)
/-- With KEK_REF the wrapping key is loaded, which demands WRAP. -/
def withKek (s : State) (c : CoreId) (k : Core) (kek : Nat) (f : State → Option Handle → VerbAct) : VerbAct :=
  if kek = 0 then f s none else useRef s c k kek isSym uWrap fun t h => f t (some h)
/-- With KEK_REF the template must give EXPORT. -/
def templateExports (kek : Nat) (t : Attrs) : Bool := kek == 0 || hasAny t.usage uExport

/-! ### PAN fields and PIN blocks (R201, R205 to R207) -/

def panDigits (f : Bytes) : List Nat := (nibbles (slice f 1 10)).take (leAt f 0 1)
/-- A PAN field in form; PAN_LEN 0 only where no PAN is needed. -/
def panOk (f : Bytes) (needed : Bool) : Bool :=
  let n := leAt f 0 1
  let ns := nibbles (slice f 1 10)
  (if n = 0 then !needed else decide (12 ≤ n ∧ n ≤ 19)) && (ns.take n).all (fun x => decide (x ≤ 9)) &&
  (ns.drop n).all (· == 15) && res f 11 5
/-- The last `n` of a list, filled with zeros in front. -/
def lastOf (n : Nat) (l : List Nat) : List Nat := List.replicate (n - l.length) 0 ++ l.drop (l.length - n)
/-- The PAN field of a format, as 16 bytes. -/
def panField (fmt : Nat) (digits : List Nat) : Bytes :=
  match fmt with
  | 4 => packNibbles (fitNibbles 32 0 ((digits.length - 12) :: digits))
  | 1 => zeros 16
  | _ => fit 16 (packNibbles ([0, 0, 0, 0] ++ lastOf 12 digits.dropLast))
/-- The key type a format is used with. -/
def pinKeyType (fmt t : Nat) : Bool := if fmt = 4 then isAes t else isTdes t
/-- A format's PIN block field: bytes 8 to 15 zero but for format 4. -/
def pinBlockOk (fmt : Nat) (l : Bytes) : Bool := pinFormatOk fmt && (fmt == 4 || res l 8 8)
def pinBlocks (fmt : Nat) : Nat := if fmt = 4 then 2 else 1
/-- The plain field of an enciphered block, still with its PAN field in formats 0 and 3. -/
def decipherPin (fmt : Nat) (key block pan : Bytes) : Bytes :=
  if fmt = 4 then aesD key (xorBytes (aesD key block) pan) else fit 16 (tdesD key (block.take 8))
/-- The canonical field of an enciphered block that is well-formed. -/
def readPin (fmt : Nat) (key block pan : Bytes) : Option Bytes :=
  let field := pinField fmt (decipherPin fmt key block pan) pan
  if pinFieldOk fmt field then some (canonicalOf field) else none
/-- A fresh block of a format from a canonical field. -/
def writePin (s : State) (c : CoreId) (k : Core) (fmt : Nat) (key canon pan : Bytes) (f : State → Bytes → VerbAct) : VerbAct :=
  onSbu s c k (pinBlocks fmt) fun t =>
    if fmt = 0 then f t (fit 16 (encipherPin fmt key canon pan []))
    else onRandom t c k 8 fun u rnd => f u (fit 16 (encipherPin fmt key canon pan rnd))
/-- The response of the PIN translations. -/
def pinAnswer (r : Nat) (block : Bytes) : Bytes := resultWord r 0 ++ zeros 12 ++ fit 16 block

end Sys2Proof.Machine
end

