-- ==== Sys2Proof/Machine/AsymVerbs.lean ====
section
/-! DEFINITION. The asymmetric verbs: each runs one LNE job (06 R217 to R220; 09 R291 to R301). -/

namespace Sys2Proof.Machine

/-! ### SIGN and VERIFY -/

/-- FLAGS: only PREHASHED, which ALG 0x08 to 0x0D refuse. -/
def signFlagsOk (alg flags : Nat) : Bool := decide (flags ≤ 1) && (flags == 0 || decide (alg ≤ 7))
/-- The digest of a prehashed request has the length of its hash. -/
def msgLenOk (alg flags n : Nat) : Bool := flags == 0 || n == algDigest alg
/-- A job's failing status ends the verb (R219). -/
def lneEnd (s : State) (st : Status) (f : VerbAct) : VerbAct := if st = 0 then f else .ends s st []

def execSign (c : CoreId) (s : State) : Out :=
  .next (s.verb c 0x0701 fun k =>
    let b := k.req.body
    let alg := leAt b 8 1
    let flags := leAt b 9 1
    let n := leAt b 12 4
    if b.length ≠ 16 + n ∨ leAt b 0 8 = 0 ∨ paramOk 1 alg = false ∨ signFlagsOk alg flags = false ∨ res b 10 2 = false ∨
        61440 < n ∨ msgLenOk alg flags n = false then badBody s
    else s.onLne c
      (useRef s c k (leAt b 0 8) (· == algPrivate alg) uSign fun s1 h =>
        s1.submitLne c k (if flags = 1 then 0x0B else 1) alg 0 (some h) [b.drop 16, [], [], []] [])
      fun t j st => lneEnd t st (good t (blockField j.result)))

/-- The modulus bits of an RSA public key of a length (R294); 0 for the other algorithms. -/
def pubBits (alg len : Nat) : Nat := if algIsRsa alg then 8 * (len - 8) else 0
/-- The public key and signature of a VERIFY have their algorithm's lengths; HSS signatures vary. -/
def verifyLenOk (alg pubLen sigN : Nat) (hasKey : Bool) : Bool :=
  (if hasKey then pubLen == 0 else pubLen == publicLen (algPublic alg) ((pubLen - 8) * b2n (algIsRsa alg))) &&
  (algIsRsa alg || alg == 0xD || sigN == sigLen alg 0) &&
  (hasKey || !algIsRsa alg || (pubBits alg pubLen % 64 == 0 && decide (1024 ≤ pubBits alg pubLen ∧ pubBits alg pubLen ≤ 16384)))

def execVerify (c : CoreId) (s : State) : Out :=
  .next (s.verb c 0x0702 fun k =>
    let b := k.req.body
    let ref := leAt b 0 8
    let alg := leAt b 8 1
    let flags := leAt b 9 1
    let n := leAt b 12 4
    let sigN := leAt b 16 4
    let pubN := leAt b 20 4
    let oSig := 32 + pad8 pubN
    let oMsg := oSig + pad8 sigN
    let op := if flags = 1 then 0x0C else 2
    let ops := [b.drop oMsg, slice b oSig sigN, slice b 32 pubN, []]
    if b.length ≠ oMsg + n ∨ paramOk 2 alg = false ∨ signFlagsOk alg flags = false ∨ res b 10 2 = false ∨ res b 24 8 = false ∨
        res b (32 + pubN) (pad8 pubN - pubN) = false ∨ res b (oSig + sigN) (pad8 sigN - sigN) = false ∨
        msgLenOk alg flags n = false ∨ verifyLenOk alg pubN sigN (ref != 0) = false then badBody s
    else s.onLne c
      (if ref = 0 then s.submitLne c k op alg (pubBits alg pubN) none ops []
       else useRef s c k ref (· == algPublic alg) uVerify fun s1 h => s1.submitLne c k op alg 0 (some h) ops [])
      fun t _ st =>
        if st = St.invalidSignature ∨ st = St.operandRange then good t (resultWord 1 st)
        else lneEnd t st (good t (resultWord 0 0)))

/-! ### Keys out of a shared secret (R182, R192, R218) -/

/-- The delivered key: SP 800-108 (kdrv 0x05) from the result key with CONTEXT, then key-out. -/
def deliverSecret (s : State) (c : CoreId) (k : Core) (front : Bytes) (dest kek : Nat) (tmpl context : Bytes) (sec : Option Handle)
    (ownParent : Bool) : VerbAct :=
  let t := parseAttrs tmpl
  match sec with
  | none => .ends s St.lneFaultDetected []
  | some p =>
    match (if ownParent then templateError k.world k.partition false t else none) with
    | some e => .ends s e []
    | none =>
      match derive k.world k.partition p context (if ownParent then { t with parentSlot := 0 } else t) 5 s.freeCtr with
      | .error e => .ends s e []
      | .ok h => onSbu s c k (cdiv (symLen t.keyType) 8) fun s1 => withKek s1 c k kek fun s2 w =>
          keyOut s2 c k front dest w h.key
/-- The keys of the request are loaded before the job starts. -/
def startSecret (s : State) (c : CoreId) (k : Core) (kek : Nat) (f : State → VerbAct) : VerbAct := withKek s c k kek fun t _ => f t

def execKeyAgree (c : CoreId) (s : State) : Out :=
  .next (s.verb c 0x0703 fun k =>
    let b := k.req.body
    let dest := leAt b 8 8
    let kek := leAt b 16 8
    let alg := leAt b 24 1
    let n := leAt b 28 4
    let tmpl := slice b 32 32
    if b.length ≠ 80 + n ∨ leAt b 0 8 = 0 ∨ oneOf dest kek = false ∨ paramOk 3 alg = false ∨ res b 25 3 = false ∨
        n ≠ valueLen (algPrivate alg) 0 ∨ templateExports kek (parseAttrs tmpl) = false then badBody s
    else s.onLne c
      (useRef s c k (leAt b 0 8) (· == algPrivate alg) uDerive fun s1 h => startSecret s1 c k kek fun s2 =>
        s2.submitLne c k 3 alg 0 (some h) [b.drop 80, [], [], []] [])
      fun t j st => lneEnd t st (deliverSecret t c k [] dest kek tmpl (slice b 64 16) j.resultKey false))

def execKemEncapsulate (c : CoreId) (s : State) : Out :=
  .next (s.verb c 0x0704 fun k =>
    let b := k.req.body
    let dest := leAt b 0 8
    let kek := leAt b 8 8
    let alg := leAt b 16 1
    let n := leAt b 20 4
    let tmpl := slice b 32 32
    if b.length ≠ 80 + n ∨ oneOf dest kek = false ∨ paramOk 4 alg = false ∨ res b 17 3 = false ∨ res b 24 8 = false ∨
        n ≠ valueLen (algPrivate alg) 0 ∨ templateExports kek (parseAttrs tmpl) = false then badBody s
    else s.onLne c
      (startSecret s c k kek fun s1 => s1.submitLne c k 4 alg 0 none [b.drop 80, [], [], []] tmpl)
      fun t j st => lneEnd t st (deliverSecret t c k (blockField j.result) dest kek tmpl (slice b 64 16) j.resultKey true))

def execKemDecapsulate (c : CoreId) (s : State) : Out :=
  .next (s.verb c 0x0705 fun k =>
    let b := k.req.body
    let dest := leAt b 8 8
    let kek := leAt b 16 8
    let alg := leAt b 24 1
    let n := leAt b 28 4
    let tmpl := slice b 32 32
    if b.length ≠ 80 + n ∨ leAt b 0 8 = 0 ∨ oneOf dest kek = false ∨ paramOk 5 alg = false ∨ res b 25 3 = false ∨
        n ≠ kemCtLen alg ∨ templateExports kek (parseAttrs tmpl) = false then badBody s
    else s.onLne c
      (useRef s c k (leAt b 0 8) (· == algPrivate alg) uDerive fun s1 h => startSecret s1 c k kek fun s2 =>
        s2.submitLne c k 5 alg 0 (some h) [b.drop 80, [], [], []] [])
      fun t j st => lneEnd t st (deliverSecret t c k [] dest kek tmpl (slice b 64 16) j.resultKey false))

/-! ### KEYPAIR_GENERATE and RSA_DECRYPT -/

/-- ALG 0x01 stands for RSA, with BITS; every other algorithm of KEYGEN has BITS 0. -/
def keypairOk (alg n : Nat) : Bool :=
  paramOk 6 alg && alg != 2 && (if alg = 1 then decide (2048 ≤ n ∧ n ≤ 16384) && n % 64 == 0 else n == 0)

def execKeypairGenerate (c : CoreId) (s : State) : Out :=
  .next (s.verb c 0x0706 fun k =>
    let b := k.req.body
    let dest := leAt b 0 8
    let alg := leAt b 8 1
    let n := leAt b 10 2
    let tmpl := slice b 16 32
    let t := parseAttrs tmpl
    if b.length ≠ 48 ∨ dest = 0 ∨ res b 9 1 = false ∨ res b 12 4 = false ∨ keypairOk alg n = false then badBody s
    else s.onLne c
      (match templateError k.world k.partition false t with
       | some e => .ends s e []
       | none => if t.keyType = algPrivate alg then s.submitLne c k 6 alg n none [[], [], [], []] tmpl
           else .ends s St.keyTypeMismatch [])
      fun u j st => lneEnd u st (match j.resultKey with
        | some h => u.verbCommit c k (.keyPut dest h.key) [] (blockField j.result)
        | none => .ends u St.lneFaultDetected []))

def execRsaDecrypt (c : CoreId) (s : State) : Out :=
  .next (s.verb c 0x0707 fun k =>
    let b := k.req.body
    let h := leAt b 8 1
    let lab := leAt b 10 2
    let n := leAt b 12 4
    let o := 16 + pad8 lab
    if b.length ≠ o + n ∨ leAt b 0 8 = 0 ∨ oaepHash h = 0 ∨ res b 9 1 = false ∨ 256 < lab ∨
        res b (16 + lab) (pad8 lab - lab) = false then badBody s
    else s.onLne c
      (useRef s c k (leAt b 0 8) isRsaPriv uDecClear fun s1 w =>
        s1.submitLne c k 7 h 0 (some w) [b.drop o, slice b 16 lab, [], []] [])
      fun t j st => lneEnd t st (good t (blockField j.result)))

end Sys2Proof.Machine
end

