-- ==== Sys2Proof/Machine/PowerUnits.lean ====
section
/-! DEFINITION. Power of clusters, lanes and engines: gating, resuming, the wake logic, S1 (01 R40; 09 R305; 16 R472,
R476). -/

namespace Sys2Proof.Machine

/-- Cores of a cluster without an invocation. -/
def State.freeCores (s : State) (n : Nat) : List Nat :=
  (List.range 16).filter fun i => (s.core? (.tx n i)).isNone
def State.clusterPower (s : State) (n : Nat) : UnitPower := match getK n s.clusters with | some x => x.power | none => .gated
def State.setClusterPower (s : State) (n : Nat) (p : UnitPower) : State :=
  match getK n s.clusters with
  | some x => { s with clusters := setK n { x with power := p } s.clusters }
  | none => s
/-- A partition whose requests may be dispatched. -/
def State.inService (s : State) (p : Nat) : Bool :=
  s.partDefined p && !(s.part p).halted && (s.part p).reset.isNone && s.brought p
/-- The first power-gated cluster in automatic mode. -/
def State.firstGated (s : State) : Option Nat :=
  (List.range s.clusterCount).find? fun n => (getK n s.clusters).isSome && s.clusterPower n == .gated && s.cfg 0x0902 n 0 == 0
/-- The wake conditions of R476, looked at once. -/
def State.wakeClusters (s : State) : State :=
  let gated := (List.range s.clusterCount).filter fun n => (getK n s.clusters).isSome && s.clusterPower n == .gated
  let waiting := s.disp.queued.length
  let byItem := gated.filter fun n => decide (n < s.minAwake) || (s.cfg 0x0902 n 0 != 0 && decide (s.cfg 0x0902 n 0 < waiting))
  let t := byItem.foldl (fun (u : State) n => u.setClusterPower n .resuming) s
  let free := ((t.clusters.map fun e => match e.2.power with
    | .gated => 0 | .resuming => 16 | _ => (t.freeCores e.1).length)).sum
  let resuming := t.clusters.any fun e => e.2.power == .resuming
  let late := t.disp.queued.any fun q => t.inService q.partition && t.queueClass q.partition q.queue == 0 && decide (q.at0 + 1000 ≤ t.mono)
  if 2 * free < waiting ∨ (late = true ∧ resuming = false) then
    (match t.firstGated with | some n => t.setClusterPower n .resuming | none => t)
  else t

/-- An idle unit is power-gated 10 µs after it fell idle; an engine's banks are wiped first; the lowest PWR_MIN_AWAKE
clusters stay clock-gated. -/
def State.gateUnit (s : State) : PUnit → State
  | .cluster n => match s.clusterPower n with
    | .idle t => if n < s.minAwake then s else { s with mono := max s.mono (t + 10000) }.setClusterPower n .gated
    | _ => s
  | .lane n => match getK n s.lanes with
    | some l => match l.power with
      | .idle t => if s.laneHasJob n then s else { s with mono := max s.mono (t + 10000), lanes := setK n { l with power := .gated } s.lanes }
      | _ => s
    | none => s
  | .lne n => match getK n s.lnes with
    | some e => match e.power with
      | .idle t => { s with mono := max s.mono (t + 10000), lnes := setK n { e with power := .gated, bank0 := {}, bank1 := {} } s.lnes }
      | _ => s
    | none => s
def execUnitPowerGate (u : PUnit) (s : State) : Out := .next (s.signal ((s.gateUnit u).wakeClusters.enterS1))
/-- A unit has resumed: a cluster takes the current versions (R333), lanes take waiting jobs. -/
def State.resumeUnit (s : State) : PUnit → State
  | .cluster n => match getK n s.clusters with
    | some x => if x.power = .resuming then
        { s with clusters := setK n { x with power := .idle s.mono, epochs := s.currentEpochs } s.clusters } else s
    | none => s
  | .lane n => match getK n s.lanes with
    | some l => if l.power = .resuming then
        let t := { s with lanes := setK n { l with power := if s.laneHasJob n then .active else .idle s.mono } s.lanes }
        t.assignWaiting t.laneJobs.length
      else s
    | none => s
  | .lne n => match getK n s.lnes with
    | some e => if e.power = .resuming then { s with lnes := setK n { e with power := .idle s.mono } s.lnes } else s
    | none => s
def execUnitResumeDone (u : PUnit) (s : State) : Out := .next (s.resumeUnit u)

end Sys2Proof.Machine
end

