-- ==== Sys2Proof/Machine/Tick.lean ====
section
/-! DEFINITION. The passage of time while no command waits (log 2). -/

namespace Sys2Proof.Machine

/-- The fabric clock runs in S0 and S1, outside a main reset (R96, R472, R463). -/
def State.fabricRuns (s : State) : Bool := !s.porter.held && (s.porter.power == .s0 || s.porter.power == .s1)

/-- A tick of 2 ns: MONO_NS goes on in every power state (R20), the fabric cycle count by 3 while its clock runs (R96). -/
def State.tick (s : State) : State :=
  { s with mono := s.mono + 2, cycle := if s.fabricRuns then s.cycle + 3 else s.cycle }

end Sys2Proof.Machine
end

