-- ==== Sys2Proof/Machine/DispatchEvents.lean ====
section
/-! DEFINITION. The dispatcher: classes, deficit round robin, cores, what runs for a code (03 R102 to R106, R550; 04 R115,
R141, R145; 06 R187, R197, R221, R222). -/

namespace Sys2Proof.Machine

/-! ### Codes and costs (R141, R187, R197) -/

/-- The codes of the verb library. -/
def isVerb (v : Nat) : Bool :=
  decide (0x0101 ≤ v ∧ v ≤ 0x0106) || decide (0x0201 ≤ v ∧ v ≤ 0x0204) || decide (0x0301 ≤ v ∧ v ≤ 0x0303) ||
  decide (0x0401 ≤ v ∧ v ≤ 0x0407) || decide (0x0501 ≤ v ∧ v ≤ 0x0502) || decide (0x0601 ≤ v ∧ v ≤ 0x0608) ||
  decide (0x0701 ≤ v ∧ v ≤ 0x0707) || decide (0x0801 ≤ v ∧ v ≤ 0x0804)
/-- Commands that any session may send: stage and ceremony commands, DEVICE_CERTIFICATE (R341, R401, R445). -/
def isOpenCommand (v : Nat) : Bool := decide (0x0901 ≤ v ∧ v ≤ 0x0906) || decide (0x0A01 ≤ v ∧ v ≤ 0x0A08) || v == 0x0C07
/-- The diagnostic commands of R507. -/
def isDiagnostic (v : Nat) : Bool := decide (0x0E01 ≤ v ∧ v ≤ 0x0E08)
/-- Commands of partition 0 sessions and the rings; 0x0E09 stands for RNG_TAP (log 32). -/
def isOperatorCommand (v : Nat) : Bool :=
  decide (0x0B01 ≤ v ∧ v ≤ 0x0B05) || decide (0x0C01 ≤ v ∧ v ≤ 0x0C07) || decide (0x0D01 ≤ v ∧ v ≤ 0x0D02) ||
  isDiagnostic v || v == 0x0E09 || decide (0x0F01 ≤ v ∧ v ≤ 0x0F03)
/-- The longest path's core cycles of a verb for a body length (R197). -/
def verbCycles (v n : Nat) : Nat :=
  let export0 := 380 + 30 * 256
  match v with
  | 0x0101 => 300 + export0
  | 0x0102 => 420 + 30 * cdiv (n - 32) 16
  | 0x0103 => export0
  | 0x0104 => 560 + 60 * cdiv (n - 32) 16
  | 0x0105 => 220
  | 0x0106 => 160
  | 0x0201 => 318
  | 0x0202 => 296
  | 0x0203 => 334
  | 0x0204 => 352
  | 0x0301 => max (560 + 20 * cdiv (n - 64 + 1) 8) (600 + 28 * cdiv (n - 64) 16) + 90
  | 0x0302 => 420 + 90
  | 0x0303 => 520 + 20 * cdiv (n - 48 + 1) 8
  | 0x0401 => 540 + 64 * 16
  | 0x0402 => 500 + 64 * 16 + 26 * cdiv (n - 48) 16
  | 0x0403 => 480 + 64 * 16 + 28 * cdiv (n - 48) 16
  | 0x0404 => 420 + 220 * 10
  | 0x0405 => 460 + 220 * 10 + 54 * cdiv (n - 48) 8
  | 0x0406 => 440 + 220 * 10 + 20 * cdiv (n - 48) 8
  | 0x0407 => 480 + 30 * 256
  | 0x0501 => max (150 + 28 * cdiv (n - 16) 16) (150 + 56 * cdiv (n - 16) 8)
  | 0x0502 => max (170 + 28 * cdiv (n - 32) 16) (170 + 56 * cdiv (n - 32) 8)
  | 0x0601 => max (180 + 54 * cdiv (n - 64) 8) (320 + cdiv (n - 64) 8)
  | 0x0602 => max (180 + 54 * cdiv (n - 64) 8) (320 + cdiv (n - 64) 8)
  | 0x0603 => 420 + cdiv (n - 48) 64
  | 0x0604 => 420 + cdiv (n - 48) 64
  | 0x0605 => 900 + 110 * 56
  | 0x0606 => 900 + 110 * 56
  | 0x0607 => 200 + 180 * cdiv (n - 16) 8
  | 0x0608 => 200 + 180 * cdiv (n - 16) 8
  | 0x0701 => 380 + 2 * cdiv (n - 16) 64
  | 0x0702 => 420 + 2 * cdiv (n - 32) 64
  | 0x0703 => 520 + export0
  | 0x0704 => 560 + export0
  | 0x0705 => 540 + export0
  | 0x0706 => 480
  | 0x0707 => 420
  | 0x0801 => 240
  | 0x0802 => 60 + 4 * 512
  | 0x0803 => 120
  | _ => 240
/-- What runs for a request at a snapshot. -/
inductive Runs where
  | verb | tenant (i : ProgImage) (version : Nat) | command | nothing
/-- The image of a code as of a CSN, with the CSN of its version. -/
def Durable.progVersionAt (d : Durable) (p code csn : Nat) : Option (Nat × ProgImage) :=
  match ((getD (p, code) [] d.progs).filter fun v => decide (v.1 ≤ csn)).head? with
  | some (c, some i) => some (c, i)
  | _ => none
def State.programFor (s : State) (q : Request) (csn : Nat) : Runs :=
  if s.sc.mode = .fatalHalt then (if isDiagnostic q.verb ∧ q.partition = 0 then .command else .nothing)
  else if s.sc.mode = .recovery then (if 0x0B01 ≤ q.verb ∧ q.verb ≤ 0x0B04 ∧ q.partition = 0 then .command else .nothing)
  else if isVerb q.verb then .verb
  else if isOpenCommand q.verb then .command
  else if isOperatorCommand q.verb then (if q.partition = 0 then .command else .nothing)
  else if 0x8000 ≤ q.verb then (match s.durable.progVersionAt q.partition q.verb csn with
    | some (c, i) => .tenant i c
    | none => .nothing)
  else .nothing
/-- Nominal cost in units of 64 cycles (R103, R550). -/
def nominalCost (q : Request) : Runs → Nat
  | .verb => max 1 (cdiv (verbCycles q.verb q.body.length) 64)
  | .tenant i _ => max 1 (cdiv i.declaredCycles 64)
  | _ => 1

/-! ### The pick (R102) -/

/-- A ticketed request waits in a class of a partition in service. -/
def State.workOf (s : State) (cls : Nat) : List Request :=
  s.disp.queued.filter fun q => s.inService q.partition && s.queueClass q.partition q.queue == cls
def State.hasWork (s : State) (cls : Nat) : Bool := !(s.workOf cls).isEmpty
def State.pickClass (s : State) : Option Nat :=
  if s.hasWork 2 ∧ 19 ≤ s.disp.since2 then some 2
  else if s.hasWork 3 ∧ 49 ≤ s.disp.since3 then some 3
  else [0, 3, 1, 2].find? s.hasWork
/-- Visits a member needs until its deficit is positive: each brings its weight times 64. -/
def visitsNeeded (weight : Nat) (d : Int) : Nat := if 0 < d then 0 else ((-d) / (64 * weight : Nat)).toNat + 1
/-- Members in circular order after the current one. -/
def circular (members : List Nat) (cur : Option Nat) : List Nat :=
  match cur with
  | some c => members.filter (fun m => decide (c < m)) ++ members.filter fun m => decide (m ≤ c)
  | none => members
/-- Deficit round robin: the member picked, and the deficits after the visits. `members` are in rising order. The current
member goes on while its deficit is positive; else members are visited, whole rounds at once, until one's is. -/
def drrPick (members : List Nat) (weight : Nat → Nat) (d : Nat → Int) (cur : Option Nat) : Option (Nat × List (Nat × Int)) :=
  match members with
  | [] => none
  | m0 :: _ =>
    match cur.bind fun c => if members.contains c ∧ 0 < d c then some c else none with
    | some c => some (c, [])
    | none =>
      let order := circular members cur
      let need := fun m => visitsNeeded (weight m) (d m)
      let least := (order.map fun m => max 1 (need m)).foldl min (max 1 (need m0))
      let pick := (order.find? fun m => decide (need m ≤ least)).getD m0
      let before := order.takeWhile (· != pick)
      some (pick, order.map fun m =>
        let k := if m = pick ∨ before.contains m then least else least - 1
        (m, d m + (64 * weight m * k : Nat)))
/-- Rising order without repeats. -/
def rising (l : List Nat) : List Nat := (sortByKey (l.eraseDups.map fun n => (n, ()))).map (·.1)
def setAll {α β : Type} [DecidableEq α] (ks : List (α × β)) (l : List (α × β)) : List (α × β) :=
  ks.foldl (fun a e => setK e.1 e.2 a) l
/-- The partition and queue of a slot for a class, with deficits and pointers after it; empty members hold deficit 0. -/
def State.pickQueue (s : State) (cls : Nat) : Option (Nat × Nat × Dispatcher) :=
  let ps := rising ((s.workOf cls).map (·.partition))
  let pd := s.disp.partDeficit.filter fun e => e.1.1 != cls || ps.contains e.1.2
  match drrPick ps (fun p => s.partWeight p cls) (fun p => getD (cls, p) 0 pd) (getK cls s.disp.partPtr) with
  | none => none
  | some (p, dp) =>
    let qs := rising (((s.workOf cls).filter fun r => r.partition == p).map (·.queue))
    let qd := s.disp.queueDeficit.filter fun e => e.1.1 != p || s.queueClass p e.1.2 != cls || qs.contains e.1.2
    match drrPick qs (fun q => s.queueWeight p q) (fun q => getD (p, q) 0 qd) (getK (p, cls) s.disp.queuePtr) with
    | none => none
    | some (q, dq) =>
      some (p, q, { s.disp with partDeficit := setAll (dp.map fun e => ((cls, e.1), e.2)) pd
                                queueDeficit := setAll (dq.map fun e => ((p, e.1), e.2)) qd
                                partPtr := setK cls p s.disp.partPtr, queuePtr := setK (p, cls) q s.disp.queuePtr })

/-! ### The core (R105), the program cache (R145) -/

/-- Awake clusters with a free core. -/
def State.openClusters (s : State) : List Nat :=
  (List.range s.clusterCount).filter fun n => (getK n s.clusters).isSome && (s.clusterPower n).awake && !(s.freeCores n).isEmpty
/-- The home cluster, else the awake cluster with the most free cores. -/
def State.pickCluster (s : State) (p : Nat) : Option Nat :=
  let l := s.openClusters
  let home := p % s.clusterCount
  if l.contains home then some home
  else l.foldl (fun (b : Option Nat) n => match b with
    | none => some n
    | some m => if (s.freeCores m).length < (s.freeCores n).length then some n else some m) none
def State.imageSize (s : State) (e : Nat × Nat × Nat) : Nat :=
  match s.durable.progVersionAt e.1 e.2.1 e.2.2 with | some (_, i) => i.text.length | none => 0
/-- The images that fit 512 KiB, most recently dispatched first. -/
def State.keepImages (s : State) : (room : Nat) → List (Nat × Nat × Nat) → List (Nat × Nat × Nat)
  | _, [] => []
  | n, e :: l => if s.imageSize e ≤ n then e :: s.keepImages (n - s.imageSize e) l else []
def State.cacheImage (s : State) (n : Nat) (e : Nat × Nat × Nat) : State :=
  match getK n s.clusters with
  | some x => { s with clusters := setK n { x with images := s.keepImages 524288 (e :: x.images.filter (· != e)) } s.clusters }
  | none => s
/-- The registers at the first instruction (R115). -/
def startRegs (q : Request) (snapshot now : Nat) : Vector Word 32 :=
  let w := fun n => BitVec.ofNat 64 n
  (((((((Vector.replicate 32 (0 : Word)).set 1 (w q.body.length)).set 2 (w q.payloadLen)).set 3 (w snapshot)).set 4
    (w q.partition)).set 5 (w q.verb)).set 6 (w now))

/-! ### What the decision itself settles of two verbs (R221, R222) -/

/-- QUEUE_FLUSH at its flush point. -/
def State.flushVerb (s : State) (q : Request) : State × Status × Bytes :=
  let n := leAt q.body 0 1
  if q.body.length ≠ 8 ∨ allZero (q.body.drop 1) = false then (s, St.malformedRequest, [])
  else if q.partition = 0 then (s, St.partitionProtected, [])
  else if 15 < n ∨ s.queueDefined q.partition n = false then (s, St.queueUndefined, [])
  else let r := s.flushQueue q.partition n; (r.2, 0, leBytes 8 r.1)
/-- PARTITION_STATUS as of the decision. -/
def State.statusVerb (s : State) (q : Request) : Status × Bytes :=
  if q.body ≠ [] then (St.malformedRequest, [])
  else
    let p := q.partition
    let faults := ((s.part p).faults.filter fun t => decide (s.mono < t + 10 ^ 9)).length
    (0, [1, 0, 0, 0] ++ leBytes 4 faults ++ leBytes 8 s.seq.applied ++ leBytes 8 (s.spillOf p) ++
      (List.range 16).flatMap fun n => leBytes 4 (s.queuedIn p n).length)
def State.atDecision (s : State) (q : Request) : State × Option (Status × Bytes) :=
  if q.verb = 0x0803 then let r := s.flushVerb q; (r.1, some r.2)
  else if q.verb = 0x0804 then (s, some (s.statusVerb q))
  else (s, none)

/-! ### The slot (R102, R550) -/

/-- An invocation starts on a free core of the chosen cluster; one of the verb library, whose images' ENTRY and VERSION the
spec does not give, with program counter 0 and program version 0 (DESIGN CHOICE, log 115). -/
def State.startOn (s0 : State) (q : Request) (cls nominal : Nat) (image : Option (ProgImage × Nat)) : State :=
  match s0.pickCluster q.partition with
  | none => s0
  | some n =>
    match s0.freeCores n with
    | [] => s0
    | i :: _ =>
      let r := s0.atDecision q
      let s := r.1
      let k : Core :=
        { world := if image.isSome then 2 else 1, req := q, nominal := nominal, snapshot := s.seq.applied, dispatched := s.mono,
          cls := cls, g := startRegs q s.seq.applied s.mono, decided := r.2,
          progVersion := match image with | some (x, _) => x.version | none => 0,
          pc := match image with | some (x, _) => BitVec.ofNat 64 x.entry | none => 0 }
      let t := ((s.sample n cls (s.mono - q.at0)).setCore (.tx n i) k).setClusterPower n .active
      match image with
      | some (_, c) => t.cacheImage n (q.partition, q.verb, c)
      | none => t
/-- The session that sent a request is gone. -/
def State.orphan (s : State) (q : Request) : Bool :=
  match q.origin with | .session sid _ => (s.sess? sid).isNone | _ => false
/-- The request of a slot is handed over: to a core, to the security controller, or, the work of a handshake, to the long-number
engines (R72). -/
def State.handOver (s : State) (q0 : Request) (cls : Nat) : State :=
  if s.orphan q0 then s
  else
    let q := { q0 with snapshot := s.seq.applied }
    let run := if q.origin = .internal then .command else s.programFor q s.seq.applied
    let cost := nominalCost q run
    let d := s.disp
    let pd := getD (cls, q.partition) 0 d.partDeficit - (cost : Int)
    let qd := getD (q.partition, q.queue) 0 d.queueDeficit - (cost : Int)
    let recent := (d.recent.filter fun e => decide (s.mono ≤ e.1 + 10 ^ 6)) ++ [(s.mono, q.partition, cls, q.charge)]
    let t := { s with disp := { d with partDeficit := setK (cls, q.partition) pd d.partDeficit
                                       queueDeficit := setK (q.partition, q.queue) qd d.queueDeficit, recent := recent } }
    match run with
    | .verb => t.startOn q cls cost none
    | .tenant i c => t.startOn q cls cost (some (i, c))
    | .command => if q.origin = .internal then
          (if q.body.length = 9 then t.beginStep (leAt q.body 0 1) (leAt q.body 1 8) else t.beginHello (leAt q.body 0 4) q.ticket) else
        { t with sc := { t.sc with queue := t.sc.queue ++ [q], irq := true } }.commandPoint q
    | .nothing => t.answer q St.programNotLoaded
/-- A core is free, or no cluster runs and only commands do (R423, R506). -/
def State.slotOpen (s : State) : Bool :=
  match s.sc.mode with
  | .running => s.fabricRuns && !s.openClusters.isEmpty && (match s.porter.entering with | some (3, _) => false | _ => true)
  | .fatalHalt => true
  | .recovery => true
  | _ => false
/-- One dispatch decision. -/
def State.dispatchSlot (s : State) : State :=
  if s.slotOpen = false then s
  else match s.pickClass with
  | none => s
  | some cls => match s.pickQueue cls with
    | none => s
    | some (p, q, d) => match s.queuedIn p q with
      | [] => s
      | r :: _ =>
        let t := { s with disp := { d with queued := d.queued.filter fun x => x.ticket != r.ticket }
                          porter := if s.porter.power = Power.s1 then { s.porter with power := .s0 } else s.porter }
        let u := t.handOver r cls
        let since := fun (c n : Nat) => if c = cls ∨ t.hasWork c = false then 0 else n + 1
        { u with disp := { u.disp with since2 := since 2 s.disp.since2, since3 := since 3 s.disp.since3 } }
def execDispatchSlot (s : State) : Out :=
  .next (s.signal (if s.sc.mode = .running then s.wakeClusters.dispatchSlot.enterS1 else s.dispatchSlot))

/-! ### Egress (R35, R36, R366, R376, R524) -/

/-- CONFIRMED covers a response, or the unit holds nothing. -/
def State.mayLeave (s : State) (r : Response) : Bool :=
  match s.pair.state with
  | .active => decide (max r.csn r.snapshot ≤ s.pair.confirmed)
  | .isolated => decide (max r.csn r.snapshot ≤ s.pair.confirmed)
  | _ => true
/-- The first response that may leave. -/
def takeFirst (f : Response → Bool) : List Response → Option (Response × List Response)
  | [] => none
  | r :: l => if f r then some (r, l) else (takeFirst f l).map fun x => (x.1, r :: x.2)
def State.ring (s : State) (n : Nat) : Ring := if h : n < 8 then s.svc.rings[n] else {}
def State.setRing (s : State) (n : Nat) (r : Ring) : State :=
  if h : n < 8 then { s with svc := { s.svc with rings := s.svc.rings.set n r } } else s
/-- A response waits for its completion to be written; of an entry whose ring session has ended nothing is written (R524). -/
def State.ringReady (s : State) (n slot : Nat) (r : Response) : State :=
  let x := s.ring n
  if x.slots.any (·.key == slot) then s.setRing n { x with ready := x.ready ++ [(slot, r)] } else s
/-- How long a response was held for the partner (R366), where the unit is paired and serves with it. -/
def State.holdSample (s : State) (r : Response) : State :=
  match s.pair.state with
  | .active => s.sample 16 11 (s.mono - r.at0)
  | .isolated => s.sample 16 11 (s.mono - r.at0)
  | _ => s
def State.egressOne (s : State) : State :=
  match takeFirst s.mayLeave s.egress with
  | none => s
  | some (r, l) =>
    let t := ({ s with egress := l } : State).holdSample r
    match r.req.origin with
    | .internal => t
    | .ring n slot =>
      -- what a core still answers on a fenced unit is discarded: a completion with PAIR_FENCED alone (R376, R524)
      if s.pair.state = .fenced ∧ (isVerb r.req.verb ∨ 0x8000 ≤ r.req.verb) then
        t.ringReady n slot { req := r.req, status := St.pairFenced, streamPart := 3 }
      else t.ringReady n slot r
    | .session sid id => if s.pair.state = .fenced then t else t.deliver sid id r
def execResponseEgress (s : State) : Out := .next s.egressOne

end Sys2Proof.Machine
end

