-- ==== Sys2Proof/Machine/ScCommands.lean ====
section
/-! DEFINITION. The security controller's commands: which are open when, the frame they are handled in, partition commands
(03 R547, R548; 14 R424, R427; 16 R468). -/

namespace Sys2Proof.Machine

/-! ### What is open when -/

/-- Codes that an unacknowledged module accepts (R468): reads and diagnostics, TAMPER_STATUS, BOOT_STATUS, the ceremony
commands through which TAMPER_ACK runs, WAYBILL. -/
def tamperOpen (v : Nat) : Bool :=
  [0x0D01, 0x0D02, 0x0B04, 0x0801, 0x0106, 0x0804, 0x0C01, 0x0C07, 0x0A01, 0x0A02, 0x0A03, 0x0A06].contains v || isDiagnostic v
/-- Codes that ANALYSIS permits (R424): diagnostics, status reads, and what its own transition and debug grants need. -/
def analysisOpen (v : Nat) : Bool :=
  [0x0B04, 0x0B05, 0x0C01, 0x0C07, 0x0D01, 0x0D02, 0x0801, 0x0A01, 0x0A02, 0x0A03, 0x0A06].contains v || isDiagnostic v
/-- Verbs that only read: KEY_INFO, WAYBILL, PARTITION_STATUS (log 128). -/
def isReadVerb (v : Nat) : Bool := [0x0106, 0x0801, 0x0804].contains v
/-- What refuses a request of a code at its arrival, whatever its queue. -/
def State.arrivalRefusal (s : State) (v : Nat) : Option Status :=
  if s.porter.unacked ∧ tamperOpen v = false then some St.tamperUnacknowledged
  else if s.lifecycle = .analysis ∧ analysisOpen v = false then some St.lcStateDenied
  else if s.serves = false ∧ ((isVerb v ∧ isReadVerb v = false) ∨ 0x8000 ≤ v) then some St.pairStandby
  else none

/-! ### The frame (R548) -/

/-- The security controller handles a code: its firmware runs; in the fatal halt it runs the commands of R507 (R506);
recovery firmware runs those of uploads (R423). -/
def State.scHandles (s : State) (v : Nat) : Bool :=
  match s.sc.mode with
  | .running => true
  | .fatalHalt => isDiagnostic v
  | .recovery => decide (0x0B01 ≤ v ∧ v ≤ 0x0B04)
  | _ => false
/-- The command at the head of the queue is taken and handled, if it is of this code (log 32). -/
def State.command (s : State) (v : Nat) (f : State → Request → State) : State :=
  match s.sc.queue with
  | [] => s
  | q :: l => if q.verb = v ∧ s.scHandles v then f { s with sc := { s.sc with queue := l } } q else s
/-- A command that may draw random bits: where `draws` holds it waits at the head until `free` holds too, and then stalls in its
draw from now on while expander 12 cannot deliver (R326, log 1). -/
def State.commandDraw (s : State) (v : Nat) (draws free : Request → Bool) (f : State → Request → State) : State :=
  match s.sc.queue with
  | [] => s
  | q :: _ =>
    if q.verb ≠ v ∨ s.scHandles v = false ∨ (draws q = true ∧ free q = false) then s
    else if draws q ∧ s.canDraw 12 = false then { s with sc := { s.sc with stall := some (s.sc.stall.getD s.mono) } }
    else { s with sc := { s.sc with stall := none } }.command v f
/-- The command gives up the security controller and waits. -/
def State.await (s : State) (q : Request) (w : ScWait) : State :=
  { s with sc := { s.sc with waiting := s.sc.waiting ++ [{ req := q, wait := w }] } }

/-! ### Partition commands (R109, R547) -/

/-- What the dispatch decision settled for a command. -/
def State.point (s : State) (q : Request) : Status × Bytes := getD q.ticket (0, []) s.sc.points
def State.dropPoint (s : State) (q : Request) : State := { s with sc := { s.sc with points := delK q.ticket s.sc.points } }
/-- PARTITION_RESET waits for the end of the reset, the first one's where it was under way already. -/
def execPartitionReset (s : State) : Out :=
  .next (s.command 0x0F01 fun t q =>
    let u := t.dropPoint q
    let p := leAt q.body 0 2
    if (t.point q).1 ≠ 0 then u.answer q (t.point q).1
    else
      let r := u.part p
      match r.reset with
      | some x => u.setPart p { r with reset := some { x with askers := x.askers ++ [q] } }
      | none => u.answer q 0)
def execPartitionQueueFlush (s : State) : Out :=
  .next (s.command 0x0F02 fun t q => (t.dropPoint q).answer q (t.point q).1 (t.point q).2)
def execSessionClose (s : State) : Out :=
  .next (s.command 0x0F03 fun t q => (t.dropPoint q).answer q (t.point q).1)

end Sys2Proof.Machine
end

