-- ==== Sys2Proof/Machine/StageCommands.lean ====
section
/-! DEFINITION. Stage commands, the install step of STAGE_APPLY, and the return of waiting commands (11 R341, R344 to R348;
13 R403, R405, R406; 07 R253, R261; 03 R548). -/

namespace Sys2Proof.Machine

/-! ### Items of STAGE_ADD (R341, R406) -/

/-- The roster keys of a PARTITION_CREATE body, each with 15 reserved bytes behind it. -/
def rosterKeys (l : Bytes) : List Bytes := (pieces 112 l).map (List.take 97)
def rosterRest (l : Bytes) : Bool := (pieces 112 l).all fun e => allZero (e.drop 97)
/-- A registered public key's fields: index, type, key, if the body is well-formed. -/
def registerFields (b : Bytes) : Option (Nat × Nat × Bytes) :=
  let n := leAt b 2 2
  if b.length = 8 + 16 * cdiv n 16 ∧ allZero (slice b 4 4) = true ∧ allZero (b.drop (8 + n)) = true ∧ 8 ≤ b.length then
    some (leAt b 0 1, leAt b 1 1, slice b 8 n) else none
/-- An index with 7 reserved bytes. -/
def indexField (b : Bytes) : Option Nat := if b.length = 8 ∧ allZero (b.drop 1) = true then some (leAt b 0 1) else none
/-- An item of a stage by its kind. A branch to be loaded holds COMPONENTS and KCV in place of its key until the install
step. -/
def decodeStageItem (kind : Nat) (b : Bytes) : CItem :=
  match kind with
  | 0x09 =>
    if 16 ≤ b.length ∧ b.length = 16 + 112 * leAt b 10 1 ∧ allZero (slice b 2 6) = true ∧ leAt b 8 1 ≤ 1 ∧
        allZero (slice b 11 5) = true ∧ rosterRest (b.drop 16) = true then
      .partitionCreate (leAt b 0 2) (leAt b 8 1 == 1) (leAt b 9 1) (leAt b 10 1) (rosterKeys (b.drop 16))
    else .malformed 0x09
  | 0x0A => if b.length = 8 ∧ allZero (b.drop 2) = true then .partitionDelete (leAt b 0 2) else .malformed 0x0A
  | 0x10 => if b.length = 40 ∧ allZero (slice b 1 7) = true then
      .branchCreate (leAt b 0 1) { attrs := parseAttrs (b.drop 8), material := [] } else .malformed 0x10
  | 0x11 => if b.length = 48 ∧ allZero (slice b 2 6) = true ∧ allZero (b.drop 43) = true then
      .branchLoad (leAt b 0 1) { attrs := parseAttrs (slice b 8 32), material := slice b 1 1 ++ slice b 40 3 } else .malformed 0x11
  | 0x12 => match indexField b with | some n => .branchRevoke n | none => .malformed 0x12
  | 0x13 => match registerFields b with | some (n, t, k) => .credentialRegister n t k | none => .malformed 0x13
  | 0x14 => match indexField b with | some n => .credentialRevoke n | none => .malformed 0x14
  | 0x15 => match registerFields b with | some (n, t, k) => .signerRegister n t k | none => .malformed 0x15
  | 0x16 => match indexField b with | some n => .signerRevoke n | none => .malformed 0x16
  | 0x17 => if b.length = 8 ∧ allZero b = true then .partitionBackup else .malformed 0x17
  | 0x18 => if b.length = 48 ∧ allZero (slice b 8 8) = true then .partitionRestore (leAt b 0 8) (slice b 16 32) [] []
      else .malformed 0x18
  | n => decodeItem n b
/-- The listed kinds, and those that a stage of a partition may hold. -/
def itemKinds : List Nat := [1, 2, 3, 4, 5, 6, 7, 8, 9, 0x0A, 0x10, 0x11, 0x12, 0x13, 0x14, 0x15, 0x16, 0x17, 0x18, 0x19, 0x20]
def stageKindOpen (p k : Nat) : Bool :=
  if k = 1 ∨ k = 8 then false
  else if k = 5 ∨ k = 6 then p != 0
  else if k = 9 ∨ k = 0x0A ∨ k = 0x19 ∨ k = 0x20 then p == 0
  else true
/-- An item as it stands in a body: kind, flags, body, whether its padding is zero. -/
structure RawItem where
  kind : Nat
  flags : Nat
  body : Bytes
  padOk : Bool
deriving DecidableEq, Repr
/-- `n` items off a byte string, and what follows them. -/
def rawItems : (n : Nat) → Bytes → Option (List RawItem × Bytes)
  | 0, l => some ([], l)
  | n + 1, l =>
    let len := leAt l 4 4
    let all := itemSpace len
    if l.length < 8 ∨ l.length < all then none
    else
      let i : RawItem := { kind := leAt l 0 2, flags := leAt l 2 2, body := slice l 8 len, padOk := allZero (slice l (8 + len) (all - 8 - len)) }
      (rawItems n (l.drop all)).map fun r => (i :: r.1, r.2)
/-- What refuses an item at STAGE_ADD (log 26). -/
def addError (p : Nat) (i : RawItem) : Option Status :=
  if itemKinds.contains i.kind = false then some St.commitItemInvalid
  else if stageKindOpen p i.kind = false then some St.itemNotPermitted
  else if i.flags ≠ 0 ∨ i.padOk = false then some St.commitItemInvalid
  else match decodeStageItem i.kind i.body with
    | .malformed _ => some St.commitItemInvalid
    | .configSet it sc _ => configAddError p it sc
    | _ => none

/-! ### The stage a command names (R345) -/

/-- The session of a request; none on the rings. -/
def Request.session (q : Request) : Option Nat := match q.origin with | .session sid _ => some sid | _ => none
def State.stageOf (s : State) (q : Request) (id : Nat) : Option Stage :=
  match s.stage? id with
  | some g => if g.session = q.session ∧ g.partition = q.partition then some g else none
  | none => none
/-- The body of a refusal: VALIDATE and APPLY name no item (R344). -/
def refusalBody (v : Nat) : Bytes := if v = 0x0903 ∨ v = 0x0904 then stageFail none else []
/-- A stage command on a unit that serves; another refuses it (R356). -/
def State.stageCommand (s : State) (v : Nat) (f : State → Request → State) : State :=
  s.command v fun t q => if t.serves then f t q else t.answer q St.pairStandby (refusalBody v)
/-- The form STAGE_ID(4), res(4), and the stage it names. -/
def State.namedStage (s : State) (v : Nat) (f : State → Request → Stage → State) : State :=
  s.stageCommand v fun t q =>
    if q.body.length ≠ 8 ∨ allZero (q.body.drop 4) = false then t.answer q St.commitItemInvalid (refusalBody v)
    else match t.stageOf q (leAt q.body 0 4) with
      | some g => f t q g
      | none => t.answer q St.stageNotFound (refusalBody v)

/-! ### STAGE_OPEN, STAGE_ADD (R344, R345) -/

/-- ASCII, zero-filled. -/
def nameOk (b : Bytes) : Bool := b.length == 16 && (trimZeros b).all fun c => decide (1 ≤ c.toNat ∧ c.toNat < 128)
def execStageOpen (s : State) : Out :=
  .next (s.stageCommand 0x0901 fun t q =>
    if nameOk q.body = false then t.answer q St.commitItemInvalid
    else if 4 ≤ (t.seq.stages.filter fun g => g.session == q.session).length ∨ 64 ≤ t.seq.stages.length then
      t.answer q St.stageTooLarge
    else
      let g : Stage := { id := t.seq.nextStage, session := q.session, partition := q.partition, name := q.body }
      { t with seq := { t.seq with stages := t.seq.stages ++ [g], nextStage := t.seq.nextStage + 1 } }.answer q 0
        (leBytes 4 g.id ++ [0, 0, 0, 0]))
/-- Items and body bytes on their way to a stage. -/
def State.addsWaiting (s : State) (f : Nat → Bool) : Nat × Nat :=
  let l := s.seq.waiting.filter fun w => match w.src with | .body _ g => f g | _ => false
  ((l.map fun w => w.items.length).sum, (l.map fun w => (w.items.map itemLen).sum).sum)
/-- The limits of R345 with further items. -/
def State.addFits (s : State) (g : Stage) (n bytes : Nat) : Bool :=
  let own := s.addsWaiting (· == g.id)
  let all := s.addsWaiting fun _ => true
  decide (g.items.length + own.1 + n ≤ 4096) && decide (g.sizes.sum + own.2 + bytes ≤ 8 * 1048576) &&
  decide ((s.seq.stages.map fun x => x.sizes.sum).sum + all.2 + bytes ≤ 16 * 1048576)
/-- STAGE_ADD waits for its stage body record. -/
def execStageAdd (s : State) : Out :=
  .next (s.stageCommand 0x0902 fun t q =>
    let b := q.body
    if b.length < 8 ∨ leAt b 6 2 ≠ 0 then t.answer q St.commitItemInvalid
    else match rawItems (leAt b 4 2) (b.drop 8) with
    | none => t.answer q St.commitItemInvalid
    | some (l, rest) =>
      match t.stageOf q (leAt b 0 4) with
      | none => t.answer q St.stageNotFound
      | some g =>
        if t.addFits g l.length ((l.map fun i => i.body.length).sum) = false then t.answer q St.stageTooLarge
        else if rest ≠ [] then t.answer q St.commitItemInvalid
        else match firstError (addError q.partition) 0 l with
          | some (st, _) => t.answer q st
          | none =>
            let w : PendingCommit :=
              { src := .body q g.id, ticket := q.ticket, partition := q.partition, items := l.map fun i => decodeStageItem i.kind i.body,
                stageId := g.id, lines := 1 + cdiv (b.length - 8) 64, arrived := t.mono }
            ((t.queueCommit w).abandonFor g.id).await q .commit)

/-! ### STAGE_VALIDATE, STAGE_DISCARD, STAGE_STATUS -/

def execStageValidate (s : State) : Out :=
  .next (s.namedStage 0x0903 fun t q g =>
    match t.itemsError t.head .stage g.partition g.items with
    | some (st, i) => (t.updStage g.id fun x => { x with validated := false }).answer q st (stageFail i)
    | none => (t.updStage g.id fun x => { x with validated := true }).answer q 0 (leBytes 8 t.headCsn))
def execStageDiscard (s : State) : Out :=
  .next (s.namedStage 0x0905 fun t q g =>
    if t.applyAccepted g.id then t.answer q St.stageNotFound else (t.dropStages fun x => x.id == g.id).answer q 0)
def execStageStatus (s : State) : Out :=
  .next (s.namedStage 0x0906 fun t q g =>
    t.answer q 0 (leBytes 4 g.items.length ++ leBytes 4 g.sizes.sum ++ leBytes 1 (b2n g.validated) ++ List.replicate 7 0))

/-! ### The install step (R347; R253, R261, R405) -/

/-- A branch from its template and key bytes (R232, R238). -/
def branchKey (p : Nat) (a : Attrs) (l : Bytes) : KeyMat :=
  let k := keyFromTemplate p 0 a l
  { k with attrs := { k.attrs with level := 2 } }
/-- The component of a number for a key type, in the records read from counted tokens: KIND 0x02, X, M (R396, R405). -/
def Ceremony.component (c : Ceremony) (keyType m x : Nat) : Option Bytes :=
  (c.components.find? fun e => leAt e.2 3 1 == x && leAt e.2 4 1 == m && leAt e.2 40 1 == keyType).map fun e => slice e.2 48 32
/-- BRANCH_LOAD: the exclusive or of the components 1 to M, with the item's check value. -/
def loadBranch (p : Nat) (c : Option Ceremony) (k : KeyMat) : Option KeyMat :=
  let m := leAt k.material 0 1
  match c with
  | none => none
  | some c =>
    let parts := (List.range m).map fun x => c.component k.attrs.keyType m (x + 1)
    if parts.any (·.isNone) then none
    else
      let l := (parts.map fun x => x.getD []).foldl xorBytes (List.replicate 32 0)
      let b := branchKey p k.attrs l
      if checkValue b = k.material.drop 1 then some b else none
/-- A share record of the backup whose blob was uploaded (R261, R405). -/
def ofBlob (blob rec0 : Bytes) : Bool :=
  leAt rec0 6 2 == leAt blob 6 2 && slice rec0 8 8 == slice blob 8 8 && slice rec0 16 16 == slice blob 16 16
/-- PARTITION_RESTORE: BACKUP_CSN and SOURCE_SERIAL of the uploaded blob and its keys, under the key that M shares give. -/
def restoreKeys (c : Option Ceremony) (bytes : Nat) (digest : Bytes) : Option (Bytes × List (Nat × KeyMat)) :=
  match c with
  | none => none
  | some c =>
    let b := c.upload
    let m := leAt b 32 1
    let fit0 := c.shareRecords.filter fun e => ofBlob b e.2.2
    let xs := (fit0.map fun e => e.2.1).eraseDups.take m
    let shares := xs.filterMap fun x => (fit0.find? fun e => e.2.1 == x).map fun e => (x, slice e.2.2 48 32)
    if b.length ≠ bytes ∨ sha256 b ≠ digest ∨ shares.length < m then none
    else (openBlob (shamirCombine shares) b).map fun ks => (slice b 8 24, ks)
/-- An item as an invisible version: keys are drawn, formed or restored. -/
def installItem (p : Nat) (c : Option Ceremony) (key : Bytes) (i : CItem) : Except Status CItem :=
  match i with
  | .branchCreate n k => .ok (.branchCreate n (branchKey p k.attrs key))
  | .branchLoad n k => match loadBranch p c k with
    | some b => .ok (.branchLoad n b)
    | none => .error St.componentCheckFailed
  | .partitionRestore b d _ _ => match restoreKeys c b d with
    | some ks => .ok (.partitionRestore b d ks.1 ks.2)
    | none => .error St.backupInvalid
  | _ => .ok i
/-- The item draws a key at the install step (R253, R326). -/
def drawsKey (i : CItem) : Bool := match i with | .branchCreate _ _ => true | _ => false
/-- All items in order with the 32 bytes drawn for each BRANCH_CREATE, or the status and index of the first that fails. -/
def installItems (p : Nat) (c : Option Ceremony) : (keys : Bytes) → Nat → List CItem → Except (Status × Nat) (List CItem)
  | _, _, [] => .ok []
  | keys, n, i :: l => match installItem p c (keys.take 32) i with
    | .error st => .error (st, n)
    | .ok j => (installItems p c (if drawsKey i then keys.drop 32 else keys) (n + 1) l).map (j :: ·)
/-- The install step draws keys (R326). -/
def drawsKeys (l : List CItem) : Bool := l.any drawsKey
/-- Their draws, 32 bytes each; none where there are none. -/
def State.installDraws (s : State) (ticket : Nat) (l : List CItem) : Option Bytes × State :=
  if drawsKeys l then s.tryReads 12 (.install ticket) ((l.filter drawsKey).map fun _ => 32) else (some [], s)
/-- The wait of a command becomes another. -/
def State.setWait (s : State) (q : Request) (w : ScWait) : State :=
  { s with sc := { s.sc with waiting := s.sc.waiting.map fun x => if x.req = q then { x with wait := w } else x } }
/-- A step of a waiting STAGE_APPLY: it waits on while another APPLY of its stage is under way or its keys cannot be
drawn; otherwise the stage is installed and its commit made. -/
def State.install (s : State) (q : Request) (g : Nat) : State :=
  match s.stage? g with
  | none => s.endWait q St.stageNotFound (stageFail none)
  | some x =>
    if x.applying.isSome then s
    else if x.validated = false then s.endWait q St.stageNotValidated (stageFail none)
    else match s.installDraws q.ticket x.items with
    | (none, t) => t
    | (some keys, t) => match installItems x.partition (t.stageCeremony g) keys 0 x.items with
      | .error (st, n) =>
        let t := if st = St.backupInvalid then t.scEvent st [g] else t  -- carried as an event too (R262)
        (t.updStage g fun y => { y with validated := false }).endWait q st (stageFail (some n))
      | .ok items =>
        let w : PendingCommit := { src := .stage q g, ticket := q.ticket, partition := x.partition, items := items, stageId := g,
                                   lines := 1, arrived := t.mono }
        ((t.queueCommit w).updStage g fun y =>
          { y with applying := some q.ticket }).setWait q .commit

/-! ### The return of waiting commands (R548) -/

/-- A command whose wait has ended is answered; STAGE_APPLY and CLOCK_SET with their CSN (R366). -/
def State.answerWaited (s : State) (q : Request) (st : Status) (body : Bytes) : State :=
  let csn := if st ≠ 0 then 0 else if q.verb = 0x0904 then leAt body 0 8 else if q.verb = 0x0E04 then leAt body 8 8 else 0
  { s with sc := { s.sc with waiting := s.sc.waiting.filter fun w => w.req != q } }.respond
    { req := q, status := st, body := body, csn := csn, snapshot := q.snapshot }
/-- A waiting command that can be handled again: one that has its outcome, or a STAGE_APPLY whose stage no other applies and whose keys
can be drawn (R326, R347). -/
def State.resumable (s : State) (w : ScCommand) : Bool :=
  match w.wait with
  | .decided _ _ => true
  | .install g _ => (match s.stage? g with
    | some x => x.applying.isNone && (!x.validated || (s.installDraws w.req.ticket x.items).1.isSome)
    | none => true)
  | _ => false
/-- The first of them is handled. -/
def State.resumeCommand (s : State) : State :=
  match s.sc.waiting.find? s.resumable with
  | some w => (match w.wait with
    | .decided st body => s.answerWaited w.req st body
    | .install g _ => s.install w.req g
    | _ => s)
  | none => s
/-- A backup whose key could not be drawn at its commit is prepared as soon as it can be (R326). -/
def State.resumeBackup (s : State) : State :=
  match s.custody.ceremony with
  | some c => if c.committed ∧ c.shares = [] then ((s.prepareBackup).startShare 0 0).startShare 1 0 else s
  | none => s
def execScCommandResume (s : State) : Out := .next (if s.scOn then s.resumeBackup.resumeCommand else s)

/-! ### STAGE_APPLY (R346, R347) -/

/-- The stage's quorum is met in its ceremony. -/
def State.quorumMet (s : State) (g : Nat) : Bool := match s.stageCeremony g with | some c => c.everMet | none => false
def execStageApply (s : State) : Out :=
  .next (s.namedStage 0x0904 fun t q g =>
    if g.validated = false then t.answer q St.stageNotValidated (stageFail none)
    else if g.items.any (itemQuorum t.lifecycle t.durable) ∧ t.quorumMet g.id = false then t.await q (.ceremony g.id)
    else (t.await q (.install g.id t.mono)).install q g.id)

end Sys2Proof.Machine
end

