-- ==== Sys2Proof/Machine/BootOps.lean ====
section
/-! DEFINITION. Leaving service, resets, wipes of life-cycle transitions and tampers, the start up to running firmware,
replay (14 R409 to R427; 16 R462 to R467; 11 R350, R351; 07 R226 to R230; 12 R371, R379; 17 R495, R496, R505). -/

namespace Sys2Proof.Machine

/-! ### Leaving service (R371, R496) -/

/-- The Guestbook works through what its producers have formed. -/
def State.drainTaps (s : State) : State :=
  let items := (s.guest.fifos.flatMap fun e => e.2.items) ++ s.raised.map fun e => e.2.item
  let t := { s with raised := [], guest := { s.guest with fifos := s.guest.fifos.map fun (e : Nat × TapFifo) => (e.1, { e.2 with items := [] }) } }
  items.foldl State.takeItem t
/-- An orderly stop: commits settle, STAND_DOWN goes out, the open window is written as PARTIAL. -/
def State.leaveService (s : State) : State := ((s.settleCommits.standDown).drainTaps).partialWindow

/-! ### The reset of the main domain -/

/-- Journal records that were not yet written are lost (R350). -/
def State.loseUnwritten (s : State) : State :=
  let lost := fun (r : Record) => s.seq.accepted.any fun a => a.record.csn == r.csn && !a.journaled
  let gone := s.seq.journal.filter fun r => r.csn != 0 && lost r
  { s with seq := { s.seq.cutBack (s.seq.journal.filter fun r => r.csn == 0 || !lost r) with torn := s.seq.torn + gone.length } }
/-- What the sequencer keeps: its durable counters, journal, copies and area. CSNs go on at the start of the next unreserved block. -/
def Sequencer.afterReset (q : Sequencer) (now : Nat) : Sequencer :=
  { next := q.nextBlock, blockEnd := q.nextBlock, outOfService := q.outOfService, restored := q.restored, area := q.area, applied := q.applied, durableBelow := q.durableBelow, journal := q.journal, ringAt := q.ringAt,
    apart := q.apart, trim := q.trim, areaCsn := q.areaCsn, lastCheckpoint := now, keyCommits := q.keyCommits,
    copy0 := q.copy0, copy1 := q.copy1, torn := q.torn,
    commits := { level := 42500 * 10 ^ 9, at0 := now }, lines := { level := 170000 * 10 ^ 9, at0 := now } }
/-- What the controller keeps: OTP, slots, control records; an open upload leaves its slot failing (R419). -/
def Sc.afterReset (c : Sc) : Sc :=
  let held := match c.upload with | some u => u.header ++ u.data | none => []
  let f := fun (x : FwSlot) => match x with | .upload => FwSlot.failing held | y => y
  { preferred := c.preferred, slotA := f c.slotA, slotB := f c.slotB, bootCount := c.bootCount, coldCount := c.coldCount,
    otp := c.otp, retained := c.retained, memKey := c.memKey, ctrl := c.ctrl }
/-- What the pair side keeps in PJM: claims; and whether it was alone (R374, R379). -/
def Pair.afterReset (p : Pair) : Pair :=
  { claim := p.claim, seen := p.seen, seenSerial := p.seenSerial, linkEpoch := p.linkEpoch, met := p.met, known := p.known,
    wantFull := p.wantFull,
    wasAlone := p.state == .activeAlone || (p.state == .unpaired && p.wasAlone),
    aloneCsn := p.aloneCsn, acked := p.acked, ctrs := p.ctrs }
/-- What the platform side keeps: the recovery images, the index reservations and node caches (R445, R450, R451); an open
recovery upload ends without a set. -/
def Platform.afterReset (p : Platform) : Platform :=
  { set := if p.set.state = 2 then { p.set with state := 0 } else p.set, index := p.indexEnd, indexEnd := p.indexEnd,
    treeNext := p.treeNext, cacheOk := p.cacheOk }
/-- What the Guestbook keeps in PJM and DRAM: records, sequence numbers, wall clock, dumps; and the counts of its FIFOs, which
only a cold start clears (R487). -/
def Guest.afterReset (g : Guest) (now : Nat) : Guest :=
  { g with fifos := g.fifos.map fun (e : Nat × TapFifo) => (e.1, { lost := e.2.lost, ecc := e.2.ecc })
           reading := [], rotate := 0, window := { start := now }, windowBase := 0, buckets := [], latches := [], inFatal := none }
/-- What a restart ends, recorded at the next start: stages, the ceremony, a block write to a token, a debug grant, an item in a staging register (R345, R395, R404,
R430, R486). -/
def State.resetEvents (s : State) : List (Status × List Nat) :=
  (s.seq.stages.map fun g => (St.stageDiscarded, [g.id])) ++
  (match s.custody.ceremony with
   | some c => (if c.everMet then [] else [(St.quorumNotMet, [c.id])]) ++ [(St.ceremonyAbandoned, [c.op, c.id])]
   | none => []) ++
  ([0, 1].filterMap fun n => match (s.slot n).cmd with
    | some k => if k.index = 17 then some (St.tokenWriteIncomplete, [n, k.arg % 65536, k.arg / 65536]) else none
    | none => none) ++
  (match s.sc.grant with | some (r, _) => [(St.debugEnded, [r])] | none => []) ++
  (s.guest.fifos.filterMap fun e => e.2.staging.map fun _ => (St.tapItemTruncated, [e.1]))
/-- Every volatile store of the main domain is at its reset value; stages are gone, each recorded at the next start
(R345). -/
def State.mainReset (s0 : State) : State :=
  let s := s0.loseUnwritten
  { s with
    raised := s.resetEvents.map fun e => (16, { code := e.1, mono := s.mono, args := e.2 })
    samples := [], cores := [], clusters := [], expanders := [], microcode := [], lneJobs := [], lnes := [], laneJobs := [], lanes := []
    bulk := [], sysRegs := [], store := {}, egress := [], cycle := 0, rng := {}, custody := {}
    net := { ports := s.net.ports.map fun (p : Port) => { ctrs := p.ctrs } }
    disp := { nextTicket := s.disp.ticketEnd, ticketEnd := s.disp.ticketEnd }
    seq := s.seq.afterReset s.mono, sc := s.sc.afterReset, pair := s.pair.afterReset, plat := s.plat.afterReset
    guest := s.guest.afterReset s.mono, svc := {} }

/-! ### Wipes (R425, R466, R467) -/

/-- The state without keys and without tenant partitions: partition 0 with its roster, its tables, counters and
configuration stay. -/
def Durable.onlyZero (d : Durable) : Durable :=
  { parts := [(0, { roster := (getD 0 {} d.parts).roster })]
    boughEpochs := d.boughEpochs
    config := d.config.filter fun e => match (itemScope e.1.1).bind fun k => scopePartition k e.1.2 with
      | some q => q == 0 | none => true
    tab := d.tab.filter (·.1.1 == 0), ctrs := d.ctrs.filter (·.1.1 == 0), lastTickets := d.lastTickets }
/-- The journal ring and the key database copies are erased. -/
def Sequencer.erased (q : Sequencer) : Sequencer := { q with journal := [], ringAt := 0, apart := [], copy0 := {}, copy1 := {}, torn := 0 }
def Guest.noRecords (g : Guest) : Guest := { g with records := [], writeSlot := 0, cleared := 0, headerSeq := 0, dropped := 0, full := false }
/-- The Guestbook after PJM and DRAM are wiped: the counts of the FIFOs, which only a cold start clears, stay (R487). -/
def Guest.formatted (g : Guest) : Guest := { fifos := g.fifos.map fun (e : Nat × TapFifo) => (e.1, { lost := e.2.lost, ecc := e.2.ecc }) }
/-- The wipe of the transition to a state; TAMPER_COUNT goes with the control records (R464). -/
def State.lcWipe (s : State) (n : Nat) : State :=
  let noTrunk := fun (t : State) => { t with porter := { t.porter with trunk := none, s3 := none } }
  let kept := { s with durable := s.durable.onlyZero, store := {}, seq := s.seq.erased }.writeArea
  match n with
  | 1 => { s with durable := {}, store := {}, seq := {}, disp := {}, sc := { otp := s.sc.otp }, guest := s.guest.formatted, pair := {}
                  plat := { cacheOk := false }, porter := { s.porter with tamperCount := 0 } }
  | 2 => { kept with guest := kept.guest.noRecords, rng := { kept.rng with capture := [] } }
  | 3 => noTrunk kept
  | 4 => noTrunk { kept with durable := { kept.durable with progs := [] } }.writeArea
  | 5 => noTrunk { s with durable := {}, store := {}, seq := {}, disp := {}, sc := { otp := s.sc.otp }, guest := s.guest.formatted, pair := {}
                          plat := { cacheOk := false }, porter := { s.porter with tamperCount := 0 } }
  | _ => s
/-- The groups of a transition. -/
def Otp.setIntent (o : Otp) (n : Nat) : Otp := if h : n - 1 < 5 then { o with intent := o.intent.set (n - 1) 8 } else o
def Otp.setDone (o : Otp) (n : Nat) : Otp := if h : n - 1 < 5 then { o with done := o.done.set (n - 1) 8 } else o
/-- Steps 3 and 4 of R426: the wipe, then LC_DONE. -/
def State.finishTransition (s : State) (n : Nat) : State :=
  let t := s.lcWipe n
  { t with sc := { t.sc with otp := t.sc.otp.setDone n }, lifecycle := lcOf n }.scEvent St.lcTransitionCompleted [n]

/-! ### TAMPERED handling (R467, R464, R465) -/

/-- The highest MONO_NS found in the journal, the Guestbook area and the control records. -/
def State.lastMono (s : State) : Nat :=
  max s.sc.ctrl.lastMono (max ((s.seq.journal.map (·.mono)).foldl max 0) ((s.guest.records.map (·.endMono)).foldl max 0))
/-- Step 1 and 2, by the ROM. -/
def State.tamperFound (s : State) : State :=
  let p := s.porter
  let lost := bit p.cause 13
  let t := if lost ∧ p.monoLost then
      { s with mono := s.lastMono + 10 ^ 9, guest := { s.guest with wallKnown := false } } else s
  let n := if p.counted then p.tamperCount else min (2 ^ 32 - 1) (p.tamperCount + 1)
  let u := t.control 5
  { u with porter := { p with trunk := none, s3 := none, tamperCount := n, counted := true, monoLost := false }
           sc := { u.sc with memKey := none }
           guest := { t.guest with fatal := {}, diverged := {} } }.scEvent St.tamperDetected [p.cause, p.tripMono]
/-- A key database copy under another trunk than the one in force, or whose CRC fails, is discarded (R227, R246). -/
def State.staleCopy (s : State) (c : DbCopy) : Bool :=
  c.trunkId != [] && (c.crc != c.sum || (match s.porter.trunk with | some t => c.trunkId != trunkId t | none => true))
def State.dropStale (s : State) : State :=
  let t := if s.staleCopy s.seq.copy0 then { s with seq := { s.seq with copy0 := {} } }.scEvent St.keyDatabaseDiscarded [s.seq.copy0.csn] else s
  if t.staleCopy t.seq.copy1 then { t with seq := { t.seq with copy1 := {} } }.scEvent St.keyDatabaseDiscarded [t.seq.copy1.csn] else t
/-- What replay takes of a record after a tamper: CONFIG_SET and BOOT_PREFERRED_SLOT items of partition 0, the wall clock's CONFIG_SET
among them (R467, R497, R498). -/
def zeroItems (r : Record) : List CItem :=
  if r.partition ≠ 0 then [] else r.items.filter fun i => match i with | .configSet _ _ _ => true | .bootPreferredSlot _ => true | .wallClock _ _ => true | _ => false
/-- The lasting effects of an item that are no change of the durable lists (R350). -/
def State.replayEffect (s : State) (mono : Nat) (i : CItem) : State :=
  match i with
  | .bootPreferredSlot n => { s with sc := { s.sc with preferred := n } }
  | .wallClock w e => { s with guest := { s.guest with wallKnown := true, wallOffset := (w : Int) - mono, wallEpoch := e } }
  | _ => s
/-- The porter clears the latch and the cause bits; the episode is over (R464, R470). A link that is open closes: the units meet again at the
next handshake, from which this one resynchronises (R469, R471, log 127). -/
def State.ackTamper (s : State) : State :=
  { s with pair := { s.pair with linkOpen := false }, porter := { s.porter with latch := false, cause := 0, unacked := false, counted := false } }.scEvent St.tamperAcknowledged
    [s.porter.tamperCount]

/-! ### Slot selection (R416) -/

/-- The slot tried first, if any, with what is recorded. -/
def State.slotOrder (s : State) : List Nat × State :=
  let p := s.sc.preferred
  let o := 1 - p
  let same := match s.sc.slotImage 0, s.sc.slotImage 1 with
    | some a, some b => a.buildSeq == b.buildSeq && fwDigest a != fwDigest b
    | _, _ => false
  match s.sc.slotHeader p, s.sc.slotHeader o with
  | none, none => if same then ([0, 1], s.scEvent St.bootSlotAmbiguous) else ([p, o], s)
  | none, some _ => ([p], s)
  | some r, none => ([o], s.scEvent St.bootSlotFailed [p, r])
  | some r, some r' => ([], (s.scEvent St.bootSlotFailed [p, r]).scEvent St.bootSlotFailed [o, r'])
/-- The first of the slots whose sections pass; those of an upload that failed or stayed open do not (R419). -/
def State.trySlots : List Nat → State → State
  | [], s => { s with sc := { s.sc with mode := .wayside, running := 3, runImage := none } }.scEvent St.waysideEntered
  | n :: l, s => match s.sc.slot n with
    | .image i => if fwSectionsOk i then { s with sc := { s.sc with mode := .starting, running := n, runImage := some i } }
        else State.trySlots l (s.scEvent St.bootSlotFailed [n, 5])
    | _ => State.trySlots l (s.scEvent St.bootSlotFailed [n, 5])

/-! ### Replay (R350, R351) -/

/-- The highest DURABLE_BELOW in the journal. -/
def highMark (l : List Record) : Nat := (l.map (·.durableBelow)).foldl max 0
/-- The CSN of a record follows another: it is the next one, or the first of a later block of 2^24 (R331, R350). -/
def csnFollows (prev c : Nat) : Bool := c == prev + 1 || (decide (prev < c) && c % 2 ^ 24 == 1)
/-- The newer key database copy. -/
def Sequencer.newerCopy (q : Sequencer) : DbCopy := if q.copy0.csn < q.copy1.csn then q.copy1 else q.copy0
/-- Durable state as the newer copy and the partition configuration area hold it (R350 step 2). -/
def State.loadDurable (s : State) : State :=
  let c := s.seq.newerCopy
  { s with durable := { s.seq.area with keys := c.keys.map fun e => (e.1, [(c.csn, some e.2)]) }
           seq := { s.seq with applied := min c.csn s.seq.areaCsn } }
/-- The journal from a record on is given up. -/
def State.cutFrom (s : State) (tail : List Record) : State :=
  { s with seq := s.seq.cutBack (s.seq.journal.take (s.seq.journal.length - tail.length)) }
/-- A commit record is applied as far as its items are not yet covered: its keys above the copy, the rest above the area. -/
def State.replayRecord (s : State) (areaCsn : Nat) (r : Record) : State :=
  let d := s.durable.applyRecord r
  if r.csn ≤ areaCsn then { s with durable := { s.durable with keys := d.keys }, seq := { s.seq with applied := r.csn } }
  else r.items.foldl (fun (u : State) i => u.replayEffect r.mono i) { s with durable := d, seq := { s.seq with applied := r.csn } }
/-- Replay in the order of the ring. It stops at a record that cannot be read, whose CRC fails or whose CSN does not follow; a paired
unit keeps the records above the limit apart. Counts: records applied, records discarded. -/
def State.replayFrom (limit : Option Nat) (copyCsn areaCsn : Nat) : List Record → (prev : Nat) → State → (applied : Nat) → State × Nat × Nat
  | [], _, s, n => (s, n, 0)
  | r :: l, prev, s, n =>
    if r.readable = false then
      let t := s.cutFrom (r :: l)
      ({ t with seq := { t.seq with outOfService := true, restored := [] } }.fatalEvent St.journalUnreadable, n, 0)
    else if r.intact = false ∨ (r.csn ≠ 0 ∧ csnFollows prev r.csn = false) then (s.cutFrom (r :: l), n, (r :: l).length)
    else if r.csn = 0 then State.replayFrom limit copyCsn areaCsn l prev s n
    else if (match limit with | some c => decide (c < r.csn) | none => false) then
      let t := s.cutFrom (r :: l)
      ({ t with seq := { t.seq with apart := r :: l } }, n, 0)
    else if r.csn ≤ copyCsn then State.replayFrom limit copyCsn areaCsn l r.csn s n
    else State.replayFrom limit copyCsn areaCsn l r.csn (s.replayRecord areaCsn r) (n + 1)
/-- The restore of durable state from its copies and the journal, with its events; `f` is what replay takes of a record. -/
def State.replayOf (s : State) (f : Record → Record) : State :=
  let s0 := s.loadDurable
  let r := State.replayFrom (if s0.paired then some (highMark s.seq.journal) else none) s.seq.newerCopy.csn s.seq.areaCsn
    (s.seq.journal.map f) s.seq.trim s0 0
  let lost := r.2.2 + s.seq.torn
  let top := max r.1.seq.applied s.seq.areaCsn
  let t := { r.1 with seq := { r.1.seq with torn := 0, applied := top, durableBelow := top } }
  let u := if lost = 0 then t else t.scEvent St.journalTailDiscarded [lost]
  u.scEvent St.journalReplayed [r.2.1]
def State.replay (s : State) : State := (s.replayOf id).writeArea

/-- Steps 3 and 4, by the firmware: the copies are discarded, of the journal only what `zeroItems` keeps is replayed, and the ring and the
tenant parts of the area are erased. -/
def State.tamperWiped (s : State) : State :=
  let u := { s with seq := { s.seq with copy0 := {}, copy1 := {} } }
  let gone := [s.seq.copy0, s.seq.copy1].filter fun c => c.trunkId != []
  let v := (gone.foldl (fun t c => t.scEvent St.keyDatabaseDiscarded [c.csn]) u).replayOf fun r => { r with items := zeroItems r }
  { v with durable := v.durable.onlyZero, seq := v.seq.erased, store := {}, pair := { v.pair with wantFull := true } }.writeArea

/-! ### The start (R414, R226, R410) -/

/-- A set group with bits missing is completed. -/
def repairGroup (n : Nat) : Nat := if groupSet n then 8 else n
def State.repairOtp (s : State) : State :=
  let o := s.sc.otp
  let bad := fun (n : Nat) => groupSet n && n != 8
  let k := (o.intent.toList.filter bad).length + (o.done.toList.filter bad).length + (o.revoked.toList.filter bad).length
  let t := { s with sc := { s.sc with otp :=
    { intent := o.intent.map repairGroup, done := o.done.map repairGroup, revoked := o.revoked.map repairGroup } } }
  (List.range k).foldl (fun u _ => u.scEvent St.otpGroupRepaired) t
/-- Firmware runs: counts rise, the generator is released, a trunk is wanted where the state calls for one, a fatal error
before the reset is recorded, the node caches are checked (R451; whether they pass is free, log 132), the platform starts. -/
def State.firmwareRuns (s : State) (cold : Bool) : State :=
  let lc := s.lifecycle
  let want := s.porter.trunk.isNone && (lc == .test || lc == .provisioned || lc == .deployed)
  let g := if cold then { s.guest with fatal := {}, diverged := {} } else s.guest
  let t := { s with sc := { s.sc with bootCount := s.sc.bootCount + 1, coldCount := s.sc.coldCount + b2n cold }
                    rng := { trunkWanted := want }, svc := { linkUp := true }, guest := { g with window := { start := s.mono } } }.control 5
  let ok := t.free
  let t := { ok.2 with plat := { ok.2.plat with cacheOk := t.plat.cacheOk && ok.1 % 2 == 0 } }
  let u := match t.guest.fatalCause with
    | some _ =>
      let v := t.fatalEvent St.fatalError
      let w := if v.guest.dumpSkipped then v.scEvent St.dumpSkipped else v.scEvent St.dumpWritten [v.guest.dumpSeq]
      { w with guest := { w.guest with fatalCause := none, dumpSkipped := false } }
    | none => t
  u.platStart
/-- The ROM's part and the start of firmware; the latch leads to the TAMPERED handling. -/
def State.start (s0 : State) (cold : Bool) : State :=
  let r := s0.repairOtp
  let s1 := { r with sc := { r.sc with otp := r.sc.otp.atStart } }
  let n := highestSet s1.sc.otp.intent
  let s2 := { s1 with lifecycle := lcOf (highestSet s1.sc.otp.done) }
  let s3 := if highestSet s1.sc.otp.done < n then
      let t := (s2.scEvent St.lcTransitionResumed [n]).finishTransition n
      { t with sc := { t.sc with resumed := true } }
    else s2
  let s := if s3.porter.latch then s3.tamperFound else s3
  match s.lifecycle with
  | .scrap => { s with sc := { s.sc with mode := .scrap } }
  | .blank =>
    let t := if s.porter.latch then s.ackTamper else s
    { t with sc := { t.sc with mode := .romBlank }, svc := { linkUp := true } }
  | _ =>
    let o := s.slotOrder
    let t := State.trySlots o.1 o.2
    match t.sc.mode with
    | .starting =>
      let u := if t.porter.latch then t.tamperWiped else t.dropStale.replay
      (if u.porter.latch ∧ u.lifecycle = .test then u.ackTamper else u).firmwareRuns cold
    | _ => { t with svc := { linkUp := true } }
/-- A warm reset of a module in service, with its start (log 33). -/
def State.restart (s : State) : State := s.mainReset.start false

end Sys2Proof.Machine
end

