-- ==== Sys2Proof/Machine/CeremonyOps.lean ====
section
/-! DEFINITION. The operations that ceremonies authorise, and what happens when a quorum is reached (13 R398 to R404; 14
R421, R426 to R430; 12 R377; 16 R470; 10 R329). -/

namespace Sys2Proof.Machine

/-! ### Debug grants (R428 to R430) -/

/-- The rights of the live grant, as bits. -/
def State.rights (s : State) : Nat :=
  match s.sc.grant with
  | some (r, e) => if s.mono < e then r else 0
  | none => 0
/-- The rights open at this moment: all in BLANK and TEST, else those of the grant (R424, R429). -/
def State.debugRights (s : State) : Nat := match s.lifecycle with | .blank => 0x3F | .test => 0x3F | _ => s.rights
/-- The JTAG gate on J1: SC halt, cluster debug, LNE microcode debug or scan (R430, log 113); it is closed while the main domain is held in reset (R462). -/
def State.jtagOpen (s : State) : Bool := !s.porter.held && s.debugRights &&& 0x33 != 0
/-- Stores as a debug read sees them (R429). -/
inductive DebugStore where
  | keySlots | keyCache | lneBanks | staging | keyRegisters | aonSram | sessionCache | drbg | other
deriving DecidableEq, Repr
/-- What a non-key memory read gives: zero for every store of key material. -/
def debugRead (x : DebugStore) (b : Byte) : Byte := match x with | .other => b | _ => 0
/-- A grant ends. -/
def State.endGrant (s : State) : State :=
  match s.sc.grant with
  | some (r, _) => { s with sc := { s.sc with grant := none } }.scEvent St.debugEnded [r]
  | none => s
/-- The LC_MASK bit of a certificate for the current state. -/
def certBit (l : Lifecycle) : Nat := match l with | .test => 0 | .provisioned => 1 | .deployed => 2 | .analysis => 3 | _ => 4
/-- The rights that the current state honours (R429). -/
def honoured (l : Lifecycle) (rights : Nat) : Nat :=
  match l with | .deployed => rights &&& 0x0C | .blank => 0 | .scrap => 0 | _ => rights &&& 0x3F
/-- What refuses a certificate (R428, R429). -/
def State.certError (s : State) (b : Bytes) : Option Status :=
  let n := leAt b 128 4
  if b.length < 132 ∨ b.length ≠ 132 + n ∨ leAt b 0 4 ≠ 0x44424759 ∨ leAt b 4 2 ≠ 1 ∨ 4 ≤ leAt b 6 1 ∨ leAt b 7 1 ≠ 0 ∨
      16 ≤ leAt b 56 1 ∨ leAt b 57 1 ≠ 0 ∨ 64 ≤ leAt b 58 2 ∨ leAt b 60 4 = 0 ∨ 86400 < leAt b 60 4 ∨ leAt b 124 4 ≠ 0 then
    some St.bootMalformed
  else
    let fresh := match s.sc.challenge with
      | some (c, t, _) => c == slice b 24 32 && decide (s.mono < t + 600 * 10 ^ 9)
      | none => false
    let used := match s.sc.challenge with | some (_, _, u) => u | none => false
    let root := leAt b 6 1
    if fresh = false then some St.debugChallengeExpired
    else if used = true ∨ slice b 8 16 ≠ fit 16 Config.deviceSerial ∨ bit (leAt b 56 1) (certBit s.lifecycle) = false ∨
        s.sc.otp.rootUsable root = false ∨ sha256 (slice b 64 60) ≠ fit 32 (Config.rootDigest root) ∨
        Config.verifySig 0x8D (slice b 64 60) (b.take 128) (slice b 132 n) = false ∨
        honoured s.lifecycle (leAt b 58 2) = 0 then some St.debugCertInvalid
    else none
/-- A certificate takes its challenge. -/
def State.useChallenge (s : State) : State :=
  { s with sc := { s.sc with challenge := s.sc.challenge.map fun c => (c.1, c.2.1, true) } }
/-- The grant of a certificate. -/
def State.grantDebug (s : State) (b : Bytes) : State :=
  let r := honoured s.lifecycle (leAt b 58 2)
  { s with sc := { s.sc with grant := some (r, s.mono + leAt b 60 4 * 10 ^ 9) } }.scEvent St.debugGranted [r]

/-! ### Life-cycle transitions and revocation (R421, R425 to R427) -/

/-- A root is revoked. -/
def Otp.revoke (o : Otp) (n : Nat) : Otp := if h : n < 4 then { o with revoked := o.revoked.set n 8 } else o
def State.revokeRoot (s : State) (n : Nat) : State :=
  { s with sc := { s.sc with otp := s.sc.otp.revoke n } }.scEvent St.rootKeyRevoked [n]
/-- A slot holds an image that verifies under a root other than one. -/
def Sc.otherRootBoots (c : Sc) (n : Nat) : Bool :=
  (List.range 2).any fun k => match c.slot k with
    | .image i => (fwFailure i c.otp.atStart false).isNone && i.rootIndex != n
    | _ => false
/-- The first two checks of a revocation, which count what is programmed already. -/
def Otp.revokeError (o : Otp) (n : Nat) (token : Bytes) : Option Status :=
  if sha256 token ≠ fit 32 (Config.revokeTokenDigest n) then some St.lcTokenInvalid
  else if o.atStart.rootUsable n = false ∨ ((List.range 4).any fun k => k != n && o.atStart.rootUsable k) = false then some St.revokeLastKey
  else none
/-- What refuses the body of an LC_TRANSITION ceremony. -/
def State.lcError (s : State) (b : Bytes) : Option Status :=
  let kind := leAt b 0 1
  let n := leAt b 1 1
  let token := slice b 8 16
  if b.length ≠ 24 ∨ allZero (slice b 2 6) = false ∨ (kind ≠ 1 ∧ kind ≠ 2) ∨ (kind = 2 ∧ 4 ≤ n) then some St.bootMalformed
  else if kind = 1 then
    (if n ≠ lcCode s.lifecycle + 1 then some St.lcTransitionInvalid
     else if sha256 token ≠ fit 32 (Config.lcTokenDigest n) then some St.lcTokenInvalid
     else if n = 3 ∧ (s.roster 0).n = 0 then some St.lcRosterMissing
     else none)
  else match s.sc.otp.revokeError n token with
    | some e => some e
    | none => if s.sc.otherRootBoots n then none else some St.revokeWouldStrand
/-- LC_TRANSITION: steps 1 and 2 of R426, then the ROM's wipe and the start in the new state (log 33). -/
def State.transition (s : State) (n : Nat) : State :=
  let t := (s.scEvent St.lcTransitionStarted [n]).leaveService
  let u := { t with sc := { t.sc with otp := t.sc.otp.setIntent n } }.mainReset
  (u.finishTransition n).start false

/-! ### Completion (R404) -/

/-- The operation of a ceremony other than STAGE is done. -/
def State.completeOp (s : State) : State :=
  match s.custody.ceremony with
  | none => s
  | some c =>
    let done := s.completeCeremony 0
    match c.op with
    | 2 => done.soloEntry
    | 3 => done.grantDebug c.body
    | 4 => if leAt c.body 0 1 = 2 then done.revokeRoot (leAt c.body 1 1) else done.transition (leAt c.body 1 1)
    | 5 => if done.porter.unacked then done.ackTamper else done
    | 6 => done.startTap (leAt c.body 0 1) (leAt c.body 4 4)
    | _ => s
/-- The quorum of an RNG_TAP ceremony that is met while the tap is no longer allowed: the certificate's grant or the sources have
gone since (R329). -/
def State.tapLapsed (s : State) : Bool :=
  match s.custody.ceremony with
  | some c => c.op == 6 && !c.everMet && s.quorumNow c &&
      !(bit s.rights 3 && s.tapAllowed (leAt c.body 0 1) (leAt c.body 4 4))
  | none => false
/-- Quorum reached for the first time: a waiting STAGE_APPLY goes on, another operation is done (R401, R403). -/
def State.quorumCheck (s : State) : State :=
  match s.custody.ceremony with
  | none => s
  | some c =>
    if c.everMet = true ∨ s.quorumNow c = false then s
    else
      let t := s.setCeremony (some { c with everMet := true })
      if c.op = 1 then
        { t with sc := { t.sc with waiting := t.sc.waiting.map fun (w : ScCommand) =>
            if w.wait = ScWait.ceremony c.stage then { w with wait := .install c.stage t.mono } else w } }
      else t.completeOp

end Sys2Proof.Machine
end

