-- ==== Sys2Proof/Machine/IdentityTrees.lean ====
section
/-! DEFINITION. The building of the device identity's next bottom tree on the long-number engines (15 R451; 09 R302; log 132). -/

namespace Sys2Proof.Machine

/-- The tree to build: the current one where it has begun without having been built, else, from its half on, the next one; no tree
follows the last. -/
def Platform.treeDue (p : Platform) : Option Nat :=
  if p.treeNext then none
  else if p.index % 2 ^ 20 = 0 then (if p.index = 0 ∨ 2 ^ 40 ≤ p.index then none else some (p.index / 2 ^ 20))
  else if 2 ^ 19 ≤ p.index % 2 ^ 20 ∧ p.index / 2 ^ 20 + 1 < 2 ^ 20 then some (p.index / 2 ^ 20 + 1) else none
/-- A job for one subtree of 1,024 leaves, partition 0's, of rank class 3: its time is free within the 15 s that two engines take for
all. -/
def State.treeJob (s : State) (ticket : Nat) : LneJob :=
  s.lneJobOf { core := .sc, ticket := ticket, partition := 0, rank := classRank 3 } 0 0 false none [] [] 0
    (Config.freeNat s.freeCtr % 70312500)
/-- Jobs that are done leave. -/
def State.treeCollect (s : State) : State :=
  match s.plat.build with
  | none => s
  | some b =>
    let ended := b.jobs.filter fun h => match s.lneJob? h with
      | some j => (match j.place with | .done _ => true | _ => false)
      | none => true
    let t := ended.foldl (fun u h => match u.lneJob? h with | some j => u.dropLneJob j | none => u) s
    { t with plat := { t.plat with build := some { b with jobs := b.jobs.filter fun h => !ended.contains h } } }
/-- The next subtree's job is submitted, where fewer than two are under way and the wait list has room. -/
def State.treeSubmit (s : State) : State :=
  match s.plat.build with
  | none => s
  | some b =>
    if b.left = 0 ∨ 2 ≤ b.jobs.length ∨ s.scJobFits (s.treeJob 0) = false then s
    else
      let x := s.takeTicket
      let j := x.2.treeJob x.1
      let t := x.2.addLne j
      { t with plat := { t.plat with build := some { b with left := b.left - 1, jobs := b.jobs ++ [j.handle] } } }
/-- The building goes on as far as it can; it begins when a tree is due. -/
def State.treeWork (s : State) : State :=
  let t := match s.plat.build, s.plat.treeDue with
    | none, some j => { s with plat := { s.plat with build := some { tree := j } } }
    | _, _ => s
  t.treeCollect.treeSubmit.treeSubmit
/-- A tree whose subtrees are all built is there, with its nodes and its top signature. -/
def State.treeEnd (s : State) : State :=
  match s.plat.build with
  | some b => if b.left = 0 ∧ b.jobs = [] then { s with plat := { s.plat with build := none, treeNext := true } } else s
  | none => s

end Sys2Proof.Machine
end

