-- ==== Sys2Proof/Machine/PlatformCommands.lean ====
section
/-! DEFINITION. Platform commands, the events of the platform's sequence, and host flash commands (15 R433 to R448, R451). -/

namespace Sys2Proof.Machine

/-! ### Events of the sequence (R433, R438 to R441) -/

/-- The controller runs and drives the platform. -/
def State.platOn (s : State) : Bool := match s.sc.mode with | .running => true | .starting => true | .fatalHalt => true | _ => false
/-- PLT_PWR_GOOD rises: t0 of the sequence; with the filter off everything is released. A rise before PLT_PWR_EN is
ignored. -/
def State.powerGood (s : State) : State :=
  let t := s.setPlat fun p => { p with pwrGood := true }
  if s.platOn = false ∨ s.plat.pwrEn = false then t
  else
    let u := t.setPlat fun p => { p with risen := true, goodAt := s.mono }
    if u.plat.cfg.enable then (if u.plat.recovering then u else u.setPlat fun p => { p with measuring := true, phase := .boot, results := [], manifest := none })
    else u.setPlat fun p => { p with phase := .disabled, rst := 0xFF, outEn := 0xF }
def execPltPwrGoodRise (s : State) : Out := .next (s.signal <| if s.plat.pwrGood then s else s.powerGood)
/-- PLT_PWR_GOOD falls; during recovery's writing the attempt fails. -/
def State.powerFell (s : State) : State :=
  let t := s.setPlat fun p => { p with pwrGood := false }
  if s.platOn = false ∨ s.plat.pwrEn = false then t
  else
    let u := (t.setPlat Platform.quiet).platEvent St.platformPowerLost
    if s.plat.recovering then u.attemptFailed false else u
def execPltPwrGoodFall (s : State) : Out := .next (s.signal <| if s.plat.pwrGood then s.powerFell else s)
/-- PLT_PWR_GOOD has not risen in PRF_POWER_GOOD_WAIT. -/
def execPlatformPowerGoodWait (s : State) : Out :=
  .next (s.signal <| if s.platOn ∧ s.plat.cfg.enable ∧ s.plat.pwrEn ∧ s.plat.risen = false then
    { s with mono := max s.mono (s.plat.outAt + s.plat.cfg.waitNs) }.platHold 1 else s)
/-- A manifest that does not verify, or flashes that cannot be read, fail the measurement. -/
def State.badStart (s : State) (b : Bytes) (flash : List (Nat × FlashObs)) : Option State :=
  if flashesOk s.plat.cfg flash = false then some ((s.platFlash flash).platEvent St.flashUnsupported).platFail
  else match manifestError s.plat.cfg flash (parseManifest b) with
    | some n => some (((s.platFlash flash).platEvent St.manifestInvalid [n]).platFail)
    | none => none
/-- The BOOT regions match: early release, SERVE. -/
def execPlatformReleasedEarly (manifest : Bytes) (flash : List (Nat × FlashObs)) (s : State) : Out :=
  .next (s.signal <| if s.platOn ∧ s.plat.measuring ∧ s.plat.phase = .boot ∧ s.plat.alone = false ∧ s.plat.pwrGood then
    (match s.badStart manifest flash with
    | some t => t
    | none =>
      let m := parseManifest manifest
      ((s.platFlash flash).setPlat fun p =>
        { p with phase := .serve, rst := m.resetEarly, manifest := some m, results := bootResults m }).platEvent St.platformReleasedEarly)
  else s)
/-- The last MEASURED region matches. -/
def execPlatformVerified (s : State) : Out :=
  .next (s.signal <| match s.plat.manifest with
    | some m => if s.platOn ∧ s.plat.measuring ∧ s.plat.pwrGood ∧ (s.plat.phase = .serve ∨ s.plat.alone = true) then s.platRun m else s
    | none => s)
/-- PRF_SERVE_TIMEOUT: the rest is hashed alone. -/
def execServeTimeout (s : State) : Out :=
  .next (s.signal <| if s.platOn ∧ s.plat.phase = .serve then
    ({ s with mono := max s.mono (s.plat.goodAt + s.plat.cfg.serveNs) }.measureSoFar.platEvent St.serveTimeout).setPlat fun p =>
      { p.quiet with measuring := true, alone := true }
  else s)
/-- A region's hash differs: its channel's regions before it, of those hashed in the same step of R438, match; of the other channel's
some do. In BOOT, before early release, the step hashes the BOOT regions. -/
def State.regionFails (s : State) (m : Manifest) (i : Nat) : State :=
  match m.regions[i]? with
  | some r =>
    let first := s.plat.manifest.isNone
    let pick := fun (x : Region) => !first || bootRegion x
    let before := if first then (bootResults m).map (fun (e : Nat × Nat) => if e.2 = 1 then (e.1, 0) else e) else s.plat.results
    if measured r ∧ pick r ∧ getK i before = some 0 then
      let own := before.map fun (e : Nat × Nat) =>
        if e.1 < i ∧ e.2 = 0 ∧ (m.regions[e.1]?).any (fun x => measured x && pick x && x.channel == r.channel) then (e.1, 1) else e
      let t := (s.setPlat fun p => { p with manifest := some m, results := own }).hashesDone m fun x => pick x && x.channel != r.channel
      ((t.setPlat fun p => { p with results := p.results.map fun (e : Nat × Nat) => if e.1 = i then (e.1, 2) else e }).platEvent
        St.regionMismatch [i]).platFail
    else s
  | none => s
def execRegionMismatch (why : MeasureFail) (s : State) : Out :=
  .next (s.signal <| if s.platOn ∧ s.plat.measuring ∧ s.plat.pwrGood then
    (match why with
    | .flashUnsupported => (s.platEvent St.flashUnsupported).platFail
    | .manifest b => (match manifestError s.plat.cfg s.plat.flash (parseManifest b) with
      | some n => (s.platEvent St.manifestInvalid [n]).platFail
      | none => s)
    | .region b i => match s.plat.manifest with
      | some m => s.regionFails m i
      | none => (match manifestError s.plat.cfg s.plat.flash (parseManifest b) with
        | some n => (s.platEvent St.manifestInvalid [n]).platFail
        | none => s.regionFails (parseManifest b) i))
  else s)
/-- The manifest that image 0 of the recovery set holds, under the configuration of the last platform start (R434). -/
def State.setManifest (s : State) : Bytes := (getD 0 [] s.plat.set.images).drop s.plat.cfg.addr
/-- What steps 2 and 3 of R447 erase and program, given what the flashes hold: the units of the set's manifest where the manifest on
channel 0 differs, and every MEASURED region of it whose hash, taken now or earlier in this start, differs. Each is a channel, a
first unit and the bytes of the image. -/
def State.recoveryWrites (s : State) (flash : List (Nat × Bytes)) : List (Nat × Nat × Bytes) :=
  let b := s.setManifest
  let m := parseManifest b
  let n := 3284 + leAt b 3280 4
  let a := s.plat.cfg.addr
  let image := fun (ch : Nat) => getD ch [] s.plat.set.images
  let f0 := getD 0 [] flash
  let moved := slice f0 a n != b.take n
  let now := fun (ch : Nat) => if ch = 0 ∧ moved then f0.take a ++ slice (image 0) a (4096 * cdiv n 4096) ++ f0.drop (a + 4096 * cdiv n 4096)
    else getD ch [] flash
  let known := fun (i : Nat) => match s.plat.manifest with
    | some x => if x.digest = m.digest then getD i 0 s.plat.results else 0
    | none => 0
  (if moved then [(0, a / 4096, slice (image 0) a (4096 * cdiv n 4096))] else []) ++
  ((List.range m.regions.length).zip m.regions).filterMap fun e =>
    let r := e.2
    if measured r && (known e.1 == 2 || (known e.1 == 0 && sha256 (slice (now r.channel) (r.start * 4096) (r.units * 4096)) != r.digest)) then
      some (r.channel, r.start, slice (image r.channel) (r.start * 4096) (r.units * 4096))
    else none
/-- What the two flashes hold as recovery reads them (log 70). -/
def State.flashesHeld (s : State) : List (Nat × Bytes) := (List.range 2).map fun ch => (ch, Config.flashHeld s.freeCtr ch)
/-- Recovery has written what differed. The sequence runs again from the SFDP step (R447). -/
def execPlatformRecoveryWritten (s : State) : Out :=
  .next (s.signal <| if s.platOn ∧ s.plat.recovering ∧ s.plat.pwrGood then
    ((s.recoveryWrites s.flashesHeld).foldl (fun (t : State) e => t.emit (.flashWrite e.1 e.2.1 e.2.2)) { s with freeCtr := s.freeCtr + 1 }).setPlat fun p =>
      { p with recovering := false, measuring := true, phase := .boot, manifest := none, results := [], goodAt := s.mono }
  else s)
/-- 100 ms after PLATFORM_RESTART lowered it, PLT_PWR_EN rises (R446). -/
def execPlatformRestartPowerOffEnd (s : State) : Out :=
  .next (s.signal <| if s.platOn ∧ s.plat.restartOff then { s with mono := max s.mono (s.plat.outAt + 10 ^ 8) }.platStart else s)

/-! ### The filter (R442 to R444) -/

/-- The filter tracks the address mode by the commands it passes. -/
def State.trackMode (s : State) (ch op : Nat) : State :=
  if op = 0xB7 ∨ op = 0xE9 then s.setPlat fun p => { p with four := setK ch (op == 0xB7) p.four } else s
def State.flashCommand (s : State) (ch : Nat) (c : FlashCmd) : State :=
  match s.plat.phase, s.plat.manifest with
  | .disabled, _ => s.emit (.flash ch s.plat.pwrEn [])
  | .boot, _ => s.emit (.flash ch false [])
  | ph, some m =>
    if m.channelMask.getLsbD ch = false then s.emit (.flash ch false [])
    else
      let four := getD ch false s.plat.four
      let r := filterPass m (ph == .run) s.plat.flash four ch c
      let ones := onesUnits m (ph == .run) four ch c
      if r.1 then (s.trackMode ch c.opcode).emit (.flash ch true [])
      else if r.2 then (s.platEvent St.flashCommandBlocked [ch, c.opcode, c.addr]).emit (.flash ch false ones)
      else s.emit (.flash ch false ones)
  | _, none => s.emit (.flash ch false [])
def execHostFlashCommand (ch : Nat) (cmd : FlashCmd) (s : State) : Out :=
  .next (if ch < 2 ∧ s.platOn then s.flashCommand ch cmd else s)

/-! ### Commands (R445, R446) -/

/-- PRF_STATUS (R457). -/
def Platform.status (p : Platform) : Nat :=
  p.lastStatus * 2 ^ 24 + p.outEn.toNat * 2 ^ 16 + p.rst.toNat * 2 ^ 8 + b2n p.pwrEn * 2 ^ 7 + b2n p.pwrGood * 2 ^ 6 +
  p.attempt * 2 ^ 4 + b2n p.held * 8 + b2n p.recovering * 4 + phaseCode p.phase
/-- A platform command with an empty body. -/
def State.platCommand (s : State) (v : Nat) (f : State → Request → State) : State :=
  s.command v fun t q => if q.body ≠ [] then t.answer q St.platformMalformed else f t q
def execPlatformStatus (s : State) : Out :=
  .next (s.platCommand 0x0C01 fun t q =>
    let p := t.plat
    t.answer q 0 (leBytes 4 p.status ++ leBytes 4 p.manifestSeq ++ p.manifestHash ++ leBytes 1 p.set.state ++ List.replicate 7 0))
/-- Recovery writes, or an upload is open (R446). -/
def Platform.busy (p : Platform) : Bool := p.recovering || p.set.state == 2
def execRecoveryBegin (s : State) : Out :=
  .next (s.command 0x0C02 fun t q =>
    let b := q.body
    let ch := leAt b 0 1
    let n := leAt b 4 4
    if b.length ≠ 8 ∨ 1 < ch ∨ allZero (slice b 1 3) = false ∨ n % 4096 ≠ 0 ∨ 67108864 < n then t.answer q St.platformMalformed
    else if t.plat.busy then t.answer q St.platformBusy
    else (t.setPlat fun p => { p with set := { state := 2, channel := ch, lens := setK ch n p.set.lens, images := setK ch [] p.set.images } }).answer q 0)
def execRecoveryData (s : State) : Out :=
  .next (s.command 0x0C03 fun t q =>
    let b := q.body
    let ch := leAt b 0 1
    let n := leAt b 4 4
    let x := t.plat.set
    let held := getD ch [] x.images
    if b.length < 16 ∨ allZero (slice b 1 3) = false ∨ n = 0 ∨ 65520 < n ∨ b.length ≠ 16 + n ∨ x.state ≠ 2 ∨ x.channel ≠ ch ∨
        leAt b 8 8 ≠ held.length ∨ getD ch 0 x.lens < held.length + n then t.answer q St.platformMalformed
    else (t.setPlat fun p => { p with set := { x with images := setK ch (held ++ b.drop 16) x.images } }).answer q 0
      (leBytes 8 (held.length + n)))
/-- The three checks of RECOVERY_END. -/
def State.setOk (s : State) : Bool :=
  let x := s.plat.set
  let m := parseManifest s.setManifest
  ((List.range 2).all fun ch => !m.channelMask.getLsbD ch ||
    (match getK ch x.images with | some i => decide (i.length = getD ch 0 x.lens) | none => false)) &&
  (manifestError s.plat.cfg s.plat.flash m).isNone &&
  m.regions.all fun r => !measured r ||
    (decide ((r.start + r.units) * 4096 ≤ (getD r.channel [] x.images).length) &&
     sha256 (slice (getD r.channel [] x.images) (r.start * 4096) (r.units * 4096)) == r.digest)
def execRecoveryEnd (s : State) : Out :=
  .next (s.platCommand 0x0C04 fun t q =>
    if t.plat.set.state ≠ 2 then t.answer q St.platformMalformed
    else if t.setOk then (t.setPlat fun p => { p with set := { p.set with state := 1 } }).answer q 0 (parseManifest t.setManifest).digest
    else (t.setPlat fun p => { p with set := { p.set with state := 0 } }).answer q St.recoverySetInvalid)
def execPlatformRecover (s : State) : Out :=
  .next (s.signal <| s.platCommand 0x0C05 fun t q =>
    if t.plat.busy then t.answer q St.platformBusy
    else ((t.setPlat fun p => { p with failures := 0, held := false, heldReason := 0 }).recoveryStart 1).answer q 0)
def execPlatformRestart (s : State) : Out :=
  .next (s.signal <| s.platCommand 0x0C06 fun t q =>
    if t.plat.busy then t.answer q St.platformBusy
    else (t.setPlat fun p => { p.quiet with pwrEn := false, restartOff := true, held := false, heldReason := 0, attempt := 0,
                                            failures := 0, outAt := t.mono }).answer q 0)
def execDeviceCertificate (s : State) : Out :=
  .next (s.platCommand 0x0C07 fun t q => t.answer q 0 t.deviceCertificate)

/-! ### Identity trees (R451) -/

/-- The caches are rebuilt, or the last subtree of the next bottom tree is done and the top tree signs it. -/
def execIdentityTreeBuilt (s : State) : Out :=
  .next (if s.platOn = false then s
    else if s.plat.cacheOk = false then (s.setPlat fun p => { p with cacheOk := true }).platEvent St.identityCacheRebuilt
    else s.treeCollect.treeEnd)

end Sys2Proof.Machine
end

