-- ==== Sys2Proof/Machine/BootCommands.lean ====
section
/-! DEFINITION. Firmware uploads, boot status, debug challenges, cold start, warm reset, the end of the start sequence, the
wayside operations (14 R413 to R430; 18 R526; 07 R226 to R230; 09 R307; 12 R379; 15 R455). -/

namespace Sys2Proof.Machine

/-! ### Uploads (R418, R419) -/

/-- The slot that is not running; where neither runs, the one other than P. -/
def Sc.targetSlot (c : Sc) : Nat := if c.running = 0 then 1 else if c.running = 1 then 0 else 1 - c.preferred
/-- FIRMWARE_BEGIN: the signature stands after the sections and is checked at the end (log 34). -/
def execFirmwareBegin (s : State) : Out :=
  .next (s.command 0x0B01 fun t q =>
    if q.body.length ≠ 512 then t.answer q St.bootMalformed
    else if t.sc.upload.isSome then t.answer q St.firmwareUploadBusy
    else match fwRootFailure (parseFwImage q.body) t.sc.otp false with
      | some 1 => t.answer q St.bootMalformed
      | some _ => t.answer q St.imageInvalid
      | none =>
        let n := t.sc.targetSlot
        { t with sc := { t.sc.setSlot n .upload with upload := some { slot := n, header := q.body } } }.answer q 0
          (leBytes 1 n ++ List.replicate 7 0))
def execFirmwareData (s : State) : Out :=
  .next (s.command 0x0B02 fun t q =>
    let b := q.body
    let n := leAt b 8 4
    match t.sc.upload with
    | none => t.answer q St.bootMalformed
    | some u =>
      if b.length < 16 ∨ leAt b 12 4 ≠ 0 ∨ n = 0 ∨ 65520 < n ∨ b.length ≠ 16 + n ∨ leAt b 0 8 ≠ u.data.length then
        t.answer q St.bootMalformed
      else { t with sc := { t.sc with upload := some { u with data := u.data ++ b.drop 16 } } }.answer q 0 (leBytes 8 (u.data.length + n)))
/-- The upload closes with what its slot then holds. -/
def State.closeUpload (s : State) (n : Nat) (x : FwSlot) : State := { s with sc := { s.sc.setSlot n x with upload := none } }
/-- The running image has the same BUILD_SEQ and another digest. -/
def State.ambiguous (s : State) (i : FwImage) : Bool :=
  match s.sc.runImage with | some r => r.buildSeq == i.buildSeq && fwDigest r != fwDigest i | none => false
/-- Recovery firmware restarts after an upload that succeeds (R423, log 33). -/
def execFirmwareEnd (s : State) : Out :=
  .next (s.signal <| s.command 0x0B03 fun t q =>
    match (if q.body = [] then t.sc.upload else none) with
    | none => t.answer q St.bootMalformed
    | some u =>
      let i := parseFwImage (u.header ++ u.data)
      if u.data.length + 512 ≠ i.imageBytes ∨ fwFailure i t.sc.otp false ≠ none then (t.closeUpload u.slot (.failing (u.header ++ u.data))).answer q St.imageInvalid
      else if t.ambiguous i then (t.closeUpload u.slot .empty).answer q St.firmwareAmbiguous
      else
        let v := (t.closeUpload u.slot (.image i)).answer q 0 (fwDigest i)
        if t.sc.mode = .recovery then v.restart else v)
/-- SLOT_A and SLOT_B: 0 empty, 1 verifies, 2 fails, 3 upload open. -/
def Sc.slotCode (c : Sc) (n : Nat) : Nat :=
  match c.slot n with
  | .empty => 0 | .upload => 3 | .failing _ => 2
  | .image _ => if c.slotVerifies n then 1 else 2
def Sc.slotSeq (c : Sc) (n : Nat) : Nat := match c.slotImage n with | some i => i.buildSeq | none => 0
def Sc.slotDigest (c : Sc) (n : Nat) : Bytes := match c.slotImage n with | some i => fwDigest i | none => List.replicate 32 0
def execBootStatus (s : State) : Out :=
  .next (s.command 0x0B04 fun t q =>
    let c := t.sc
    if q.body ≠ [] then t.answer q St.bootMalformed
    else t.answer q 0 (leBytes 1 (lcCode t.lifecycle) ++ leBytes 1 c.running ++ leBytes 1 c.preferred ++ leBytes 1 c.otp.revokedBits ++
      leBytes 1 (c.slotCode 0) ++ leBytes 1 (c.slotCode 1) ++ [0, 0] ++ leBytes 4 (c.slotSeq 0) ++ leBytes 4 (c.slotSeq 1) ++
      leBytes 8 c.bootCount ++ c.slotDigest 0 ++ c.slotDigest 1))

/-! ### Debug (R428, R430) -/

/-- The challenge is drawn; while the SC expander cannot deliver the command waits at the head (R326). -/
def execDebugChallenge (s : State) : Out :=
  .next (s.commandDraw 0x0B05 (fun q => q.body.isEmpty) (fun _ => true) fun t q =>
    if q.body ≠ [] then t.answer q St.bootMalformed
    else
      let r := t.random 12 32
      { r.2 with sc := { r.2.sc with challenge := some (r.1, t.mono, false) } }.answer q 0 r.1)
/-- DURATION_S after the grant. -/
def execDebugGrantExpiry (s : State) : Out :=
  .next (match s.sc.grant with
    | some (_, e) => { s with mono := max s.mono e }.endGrant
    | none => s)

/-! ### Starts (R414, R538) -/

/-- COLD_START: internal power-good on a module without main power; a tripped sensor holds it in reset until its release (R463). The standby rail
and VBAT are taken as present until an event says otherwise (log 35). -/
def execColdStart (s : State) : Out :=
  .next (s.signal <|
    if s.porter.power ≠ .s4 then s
    else
      let t := { s with porter := { s.porter with p12v := true, standby := true, vbat := true, vbatRecorded := false, power := .s0,
                                                  wakeSource := 0, held := s.porter.sensorActive, coldDue := s.porter.sensorActive,
                                                  alarm := none, entering := none, wake := [], wakeDrops := 0 }
                        guest := { s.guest with fifos := [] }, net := {}
                        pair := { s.pair with ctrs := Vector.replicate 7 0 } }
      if s.porter.sensorActive then t else t.start true)
/-- The release of a warm reset, or of a cold start that a sensor held. -/
def execWarmReset (s : State) : Out :=
  .next (s.signal <|
    if s.sc.mode = .off ∧ s.guest.inFatal = none ∧ s.porter.p12v ∧ s.porter.held = false ∧ s.porter.power = .s0 then
      { s with porter := { s.porter with coldDue := false } }.start s.porter.coldDue else s)

/-! ### The end of the start sequence (R226 to R230, R307, R379, R414, R455) -/

/-- A program of a microcode bundle that is loaded: its number in the range of R307 (log 104), its code passes. -/
def microLoads (e : MicroProgram × Bool) : Bool := e.2 && decide (1 ≤ e.1.number ∧ e.1.number ≤ 0xFFF)
/-- The microcode programs of the running image that are loaded; a refused one is recorded. -/
def State.loadMicrocode (s : State) : State :=
  let l : List (MicroProgram × Bool) := match s.sc.runImage with
    | some i => (match i.sections.find? fun (x : FwSection) => x.type == 4 with | some x => Config.microBundle x.data | none => [])
    | none => []
  (l.filter fun e => !microLoads e).foldl (fun u e => u.scEvent St.microcodeImageInvalid [e.1.number])
    { s with microcode := (l.filter microLoads).map (·.1) }
/-- Boughs of every defined partition, and the memory encryption key. -/
def State.deriveKeys (s : State) : State :=
  match s.porter.trunk with
  | some t => { s with store := { s.store with boughs := s.durable.parts.map fun e => (e.1, treeKey 1 e.1 (boughKey t e.1 (getD e.1 0 s.durable.boughEpochs))) }
                       sc := { s.sc with memKey := some (memoryKey t s.sc.coldCount) } }
  | none => s
/-- Clusters, lanes and engines leave reset idle. -/
def State.releaseUnits (s : State) : State :=
  { s with clusters := (List.range s.clusterCount).map fun n => (n, { power := .idle s.mono, epochs := s.currentEpochs, sbus := List.replicate 4 { limit := s.maskLimit } })
           lanes := (List.range s.laneCount).map fun n => (n, { power := .idle s.mono, mask := { limit := s.maskLimit } })
           lnes := (List.range s.lneCount).map fun n => (n, { power := .idle s.mono }) }
/-- The public keys of the session identity: ECDSA P-384 and ML-DSA-65 (R454). -/
def identityKeys (seed : Bytes) : Bytes :=
  fit 97 (Config.publicKey 0x84 (Config.makePrivate 0x84 0 seed)) ++ [0, 0, 0] ++ fit 1952 (Config.publicKey 0x8B (Config.makePrivate 0x8B 0 seed))
/-- The per-boot session identity with its waybill; its index comes from the reserved block or, beyond the limit, from the
kept tree (R450, R452, R455). With the kept tree used up there is none, and no handshake is accepted. -/
def State.makeIdentity (s : State) : State :=
  if 2 ^ 40 ≤ s.plat.index then s else
  let r := s.random 12 64
  let k := r.2.issueIndex
  let w := r.2.waybill 2 0 [] (identityKeys r.1) k.1
  { k.2 with sc := { k.2.sc with identity := some (r.1, w) } }.treeWork
/-- A paired unit waits for its partner (R379). -/
def State.enterWaiting (s : State) : State :=
  s.setPair fun p => if s.paired then { p with state := .waiting, waitSince := some s.mono } else { p with state := .unpaired }
/-- The words of a digest in an event. -/
def digestWords (d : Bytes) : List Nat := (pieces 4 d).map fun x => leAt x 0 4
/-- MODULE_STARTED: the first transaction can be accepted. It waits for the generator, a wanted trunk, the identity
caches, and the draws of the key record area, the session identity and the cookie key. -/
def State.moduleStarted (s : State) : State :=
  if s.sc.mode = .starting ∧ s.rng.started ∧ s.rng.trunkWanted = false ∧ (s.plat.canSign ∨ 2 ^ 40 ≤ s.plat.index) then
    let s1 := s.dropStale.deriveKeys
    match s1.areaIvs with
    | (none, u) => { s with expanders := u.expanders, raised := u.raised }
    | (some ivs, s2) =>
    if s2.canDraw 12 2 = false then let u := s2.keepPart 12 .area ivs; { s with expanders := u.expanders, raised := u.raised } else
    let t := (((s2.fillArea ivs).loadMicrocode).releaseUnits.enterWaiting).makeIdentity
    let r := t.random 12 32
    let u := { r.2 with net := { r.2.net with cookieKey := some r.1, cookieAt := s.mono }
                        sc := { r.2.sc with mode := .running }, seq := { r.2.seq with lastCheckpoint := s.mono } }
    u.scEvent St.moduleStarted ([u.sc.running] ++ (match u.sc.runImage with | some i => i.buildSeq :: digestWords (fwDigest i) | none => []))
  else s
/-- Recovery firmware brings up partition 0: durable state, boughs, engines, identity and cookie key, once the generator has started
(R423, log 130). -/
def State.recoveryUp (s : State) : State :=
  if s.sc.mode = .recovery ∧ s.rng.started ∧ s.sc.identity.isNone ∧ s.plat.canSign ∧ s.canDraw 12 2 then
    let t := ((if s.porter.latch then s.tamperWiped else s.dropStale.replay).deriveKeys).makeIdentity
    let r := t.random 12 32
    { r.2 with net := { r.2.net with cookieKey := some r.1, cookieAt := s.mono }
               lnes := (List.range s.lneCount).map fun n => (n, { power := .idle s.mono }) }
  else s
def execModuleStarted (s : State) : Out := .next (s.signal s.moduleStarted.recoveryUp)

/-! ### The wayside loader (R422, R423, R425, R526) -/

/-- An operation ends: done, or failed with the detail byte of a status. -/
def State.wayFail (s : State) (st : Status) : State := { s with svc := { s.svc with wayState := 3, wayResult := st % 256 } }
def State.wayToken (s : State) : Bytes := s.svc.wayToken.toList.flatMap (leBytes 4)
/-- A GO with its OP, ARG and SLOT, while the wayside registers work and no operation runs. -/
def State.wayGo (s : State) (ctrl : BitVec 32) (op : Nat) (f : State → (arg slot : Nat) → State) : State :=
  let v := ctrl.toNat
  if s.waysideOn ∧ bit v 31 ∧ v % 16 = op ∧ s.svc.wayState ≠ 1 then
    f { s with svc := { s.svc with wayOp := op, wayArg := bits v 11 8, waySlot := bits v 7 6, wayResult := 0 } } (bits v 11 8) (bits v 7 6)
  else s
def execWaysideLoadImage (ctrl : BitVec 32) (dma : DmaImage) (s : State) : Out :=
  .next (s.signal <| s.wayGo ctrl 1 fun t _ slot =>
    let n := if slot = 0 then 1 - t.sc.preferred else slot - 1
    if t.sc.mode = .romBlank then t.wayFail St.lcStateDenied
    else if 2 < slot ∨ t.svc.wayAddr % 4096 ≠ 0 ∨ 268435456 < t.svc.wayLen then t.wayFail St.bootMalformed
    else match dma with
      | .readError => { t with sc := t.sc.setSlot n (.failing []) }.wayFail St.imageInvalid
      | .image i =>
        if i.imageData.length ≠ t.svc.wayLen ∨ fwFailure i t.sc.otp false ≠ none then { t with sc := t.sc.setSlot n (.failing i.imageData) }.wayFail St.imageInvalid
        else { t with sc := t.sc.setSlot n (.image i) }.restart)
/-- The ROM makes the first two checks of a revocation, then the module restarts and its event is recorded (R421, R422, log 33). -/
def execWaysideRevoke (ctrl : BitVec 32) (s : State) : Out :=
  .next (s.signal <| s.wayGo ctrl 2 fun t arg _ =>
    if 4 ≤ arg then t.wayFail St.bootMalformed
    else match t.sc.otp.revokeError arg t.wayToken with
      | some st => t.wayFail st
      | none => { t with sc := { t.sc with otp := t.sc.otp.revoke arg } }.restart.scEvent St.rootKeyRevoked [arg])
/-- BLANK to TEST: intent, wipe, done, start. -/
def execWaysideToTest (ctrl : BitVec 32) (s : State) : Out :=
  .next (s.signal <| s.wayGo ctrl 3 fun t _ _ =>
    if t.sc.mode ≠ .romBlank then t.wayFail St.lcStateDenied
    else if sha256 t.wayToken ≠ fit 32 (Config.lcTokenDigest 1) then t.wayFail St.lcTokenInvalid
    else
      let u := { t with sc := { t.sc with otp := t.sc.otp.setIntent 1 } }.scEvent St.lcTransitionStarted [1]
      (u.mainReset.finishTransition 1).start false)

end Sys2Proof.Machine
end

