-- ==== Sys2Proof/Machine/CardVerbs.lean ====
section
/-! DEFINITION. Card cryptogram verbs and MAC computations (06 R208, R209, R212). -/

namespace Sys2Proof.Machine

/-! ### ISO/IEC 9797-1 (R200, R212) -/

/-- Padding method 1 (zeros) or 2 (0x80, zeros) to whole blocks; method 1 leaves whole blocks as they are. -/
def isoPad (method n : Nat) (l : Bytes) : Bytes :=
  let m := if method = 2 then l ++ [0x80] else l
  fit (n * cdiv m.length n) m
/-- Algorithm 3 with a double-length key over padded data. -/
def alg3Mac (key : Bytes) (l : Bytes) : Bytes :=
  let ms := pieces 8 l
  let cv := ms.dropLast.foldl (fun x m => alg3Step key false (xorBytes x m)) (zeros 8)
  alg3Step key true (xorBytes cv (ms.getLastD (zeros 8)))
/-- A MAC by MAC_ALG (R212), before truncation. -/
def macOf (alg pad t : Nat) (key l : Bytes) : Bytes :=
  match alg with
  | 1 => cbcMac t key (pieces 8 (isoPad pad 8 l))
  | 2 => cbcMac t key (pieces 16 (isoPad pad 16 l))
  | 3 => alg3Mac key (isoPad pad 8 l)
  | _ => cmac t key l

/-! ### EMV keys (R209) -/

/-- Y: the rightmost 16 digits of the PAN followed by the PSN, zero-filled in front. -/
def emvY (pan : Bytes) (psn : Byte) : Bytes := packNibbles (lastOf 16 (panDigits pan ++ nibbles [psn]))
/-- The ICC master key of an issuer master key. -/
def iccKey (t : Nat) (key y : Bytes) : Bytes :=
  if isTdes t then deriveBytes 4 t key y { keyType := 1 } 0 else fit (symLen t) (Config.emvAesIcc key y (symLen t))
/-- The EMV common session key under the card's ATC. -/
def emvSession (t : Nat) (key pan : Bytes) (psn : Byte) (atc : Bytes) (draw : Nat) : Bytes :=
  deriveBytes 3 t (iccKey t key (emvY pan psn)) atc { keyType := t } draw
/-- The session-key MAC: algorithm 3 with the padding method for TDES, AES-CMAC for AES; 8 bytes. -/
def sessionMac (pad t : Nat) (key l : Bytes) : Bytes := (if isTdes t then alg3Mac key (isoPad pad 8 l) else cmac t key l).take 8
/-- PAD 1 and 2 go with double-length TDES keys, 0 with AES keys (log 43). -/
def padKeyType (pad t : Nat) : Bool := if pad = 0 then isAes t else t == 1
/-- An issuer master key is loaded: DERIVE, and class 3 (R240). -/
def useMaster (s : State) (c : CoreId) (k : Core) (ref pad : Nat) (f : State → Handle → VerbAct) : VerbAct :=
  useRef s c k ref (padKeyType pad) uDerive fun t h =>
    if deriveClass h.key.attrs ≠ 3 then .ends t St.keyTemplateDenied [] else f t h
/-- The common fields of the card verbs: a PAN of at most 16 digits. -/
def cardPanOk (pan : Bytes) : Bool := panOk pan true && decide (leAt pan 0 1 ≤ 16)

/-- The ARPC by method 1 or 2 (R209). -/
def arpc (method pad t : Nat) (key arqc arc csu prop : Bytes) : Bytes :=
  match method with
  | 0 => zeros 8
  | 1 => let x := xorBytes arqc (arc ++ zeros 6)
         if isTdes t then tdesE key x else (aesE key (x ++ zeros 8)).take 8
  | _ => fit 8 ((sessionMac pad t key (arqc ++ csu ++ prop)).take 4)
/-- The fields of ARQC_VERIFY and ARPC_GENERATE in range. -/
def arqcOk (b : Bytes) (dataOk : Nat → Bool) (methodOk : Nat → Bool) : Bool :=
  let n := leAt b 56 2
  decide (64 ≤ b.length) && b.length == 64 + n && dataOk n && leAt b 0 8 != 0 && cardPanOk (slice b 16 16) &&
  methodOk (leAt b 33 1) && decide (leAt b 38 1 ≤ 2) && decide (leAt b 39 1 ≤ 8) && res b 44 4 && res b 58 6
/-- Blocks of a session MAC and the keys before it. -/
def cardBlocks (t n : Nat) : Nat := 4 + cdiv (n + 1) (blockLen t)

def execArqcVerify (c : CoreId) (s : State) : Out :=
  .next (s.verb c 0x0301 fun k =>
    let b := k.req.body
    let pad := leAt b 38 1
    let m := leAt b 33 1
    if arqcOk b (fun n => decide (1 ≤ n ∧ n ≤ 256)) (fun m => decide (m ≤ 2)) = false then badBody s
    else useMaster s c k (leAt b 0 8) pad fun s1 h =>
      let t := h.key.attrs.keyType
      onSbu s1 c k (cardBlocks t (leAt b 56 2) + 2) fun s2 =>
        let key := emvSession t (keyBytes h.key) (slice b 16 16) (b.getD 32 0) (slice b 34 2) s2.freeCtr
        let s3 := { s2 with freeCtr := s2.freeCtr + 1 }
        if sessionMac pad t key (b.drop 64) = slice b 8 8 then
          good s3 (resultWord 0 0 ++ zeros 4 ++
            arpc m pad t key (slice b 8 8) (slice b 36 2) (slice b 40 4) (slice b 48 (leAt b 39 1)))
        else good s3 (resultWord 1 0 ++ zeros 12))

def execArpcGenerate (c : CoreId) (s : State) : Out :=
  .next (s.verb c 0x0302 fun k =>
    let b := k.req.body
    let pad := leAt b 38 1
    if arqcOk b (fun n => n == 0) (fun m => m == 1 || m == 2) = false then badBody s
    else useMaster s c k (leAt b 0 8) pad fun s1 h =>
      let t := h.key.attrs.keyType
      onSbu s1 c k (cardBlocks t 20) fun s2 =>
        let key := emvSession t (keyBytes h.key) (slice b 16 16) (b.getD 32 0) (slice b 34 2) s2.freeCtr
        good { s2 with freeCtr := s2.freeCtr + 1 } (resultWord 0 0 ++ zeros 4 ++
          arpc (leAt b 33 1) pad t key (slice b 8 8) (slice b 36 2) (slice b 40 4) (slice b 48 (leAt b 39 1))))

def execScriptMac (c : CoreId) (s : State) : Out :=
  .next (s.verb c 0x0303 fun k =>
    let b := k.req.body
    let n := leAt b 40 2
    let pad := leAt b 33 1
    if b.length ≠ 48 + n ∨ n = 0 ∨ 1024 < n ∨ leAt b 0 8 = 0 ∨ res b 8 8 = false ∨ cardPanOk (slice b 16 16) = false ∨
        2 < pad ∨ res b 36 4 = false ∨ res b 42 6 = false then badBody s
    else useMaster s c k (leAt b 0 8) pad fun s1 h =>
      let t := h.key.attrs.keyType
      onSbu s1 c k (cardBlocks t n) fun s2 =>
        let key := emvSession t (keyBytes h.key) (slice b 16 16) (b.getD 32 0) (slice b 34 2) s2.freeCtr
        good { s2 with freeCtr := s2.freeCtr + 1 } (sessionMac pad t key (b.drop 48)))

/-! ### MAC verbs (R212) -/

def macAes (alg : Nat) : Bool := alg == 2 || alg == 4
/-- The key type a MAC_ALG takes. -/
def macKeyType (alg t : Nat) : Bool := if macAes alg then isAes t else if alg = 3 then t == 1 else isTdes t
/-- MAC_ALG, PAD, MAC_LEN, DATA_LEN in range. -/
def macFieldsOk (alg pad len n top : Nat) : Bool :=
  let cm := alg == 4 || alg == 5
  decide (1 ≤ alg ∧ alg ≤ 5) && (if cm then pad == 0 else pad == 1 || pad == 2) &&
  decide (4 ≤ len) && decide (len ≤ if macAes alg then 16 else 8) && decide (n ≤ top) && (n != 0 || cm || pad == 2)

def execMacGenerate (c : CoreId) (s : State) : Out :=
  .next (s.verb c 0x0501 fun k =>
    let b := k.req.body
    let alg := leAt b 8 1
    let pad := leAt b 9 1
    let len := leAt b 10 1
    let n := leAt b 12 4
    if b.length ≠ 16 + n ∨ leAt b 0 8 = 0 ∨ res b 11 1 = false ∨ macFieldsOk alg pad len n 65520 = false then badBody s
    else useRef s c k (leAt b 0 8) (macKeyType alg) uMacGen fun s1 h =>
      let t := h.key.attrs.keyType
      onSbu s1 c k (cdiv (n + 1) (blockLen t)) fun s2 =>
        good s2 (fit 16 ((macOf alg pad t (keyBytes h.key) (b.drop 16)).take len)))

def execMacVerify (c : CoreId) (s : State) : Out :=
  .next (s.verb c 0x0502 fun k =>
    let b := k.req.body
    let alg := leAt b 8 1
    let pad := leAt b 9 1
    let len := leAt b 10 1
    let n := leAt b 12 4
    if b.length ≠ 32 + n ∨ leAt b 0 8 = 0 ∨ res b 11 1 = false ∨ macFieldsOk alg pad len n 65504 = false then badBody s
    else useRef s c k (leAt b 0 8) (macKeyType alg) uMacVer fun s1 h =>
      let t := h.key.attrs.keyType
      onSbu s1 c k (cdiv (n + 1) (blockLen t)) fun s2 =>
        good s2 (resultWord (if (macOf alg pad t (keyBytes h.key) (b.drop 32)).take len = slice b 16 len then 0 else 1) 0))

end Sys2Proof.Machine
end

