-- ==== Sys2Proof/Machine/NetFrames.lean ====
section
/-! DEFINITION. Reception of Ethernet and Caravan frames: port rules, strangers, receive windows, frame rules, links
(02 R44 to R53, R77, R78, R549; 16 R474). -/

namespace Sys2Proof.Machine

/-! ### Ports and strangers (R46, R78) -/

/-- A port receives while its link is up and the main domain runs. -/
def State.netOn (s : State) (port : Nat) : Bool := s.portsOn && s.portUp port
/-- The Caravan engine of a port that is up and has an address handles frames in S0 and S1; in S2 they wait (R46, R47, R474). -/
def State.caravanOn (s : State) (port : Nat) : Bool := s.portsOn && s.fabricRuns && s.portUp port && s.portHasAddress port
/-- A stranger is dropped without any answer (R78). -/
def State.stranger (s : State) (port : Nat) : State :=
  (s.count port nStranger 1).event (portTap port) St.frameUnauthenticated [port]
/-- A frame outside the receive window or received before is dropped (R52). -/
def State.replayed (s : State) (port : Nat) : State :=
  (s.count port nReplay 1).event (portTap port) St.frameReplayed [port]
/-- A packet dropped under R44 or R47. -/
def State.dropPacket (s : State) (port : Nat) : State :=
  (s.count port nNonCaravan 1).event (portTap port) St.packetDropped [port]
/-- An authenticated frame that breaks a rule (R57, R549). -/
def State.malformedFrame (s : State) (port sid : Nat) : State := s.event (portTap port) St.frameMalformed [port, sid]

/-! ### Header rules (R48, R49, R549) -/

def fromClient (type : Nat) : Bool := [0x01, 0x04, 0x10, 0x12, 0x13, 0x14, 0x15, 0x16, 0x17].contains type
def hdrPhase (h : CaravanHdr) : Nat := h.flags.toNat % 2
def hdrFragIndex (h : CaravanHdr) : Nat := bits h.flags.toNat 15 12
def hdrFragLast (h : CaravanHdr) : Nat := bits h.flags.toNat 11 8
/-- The header rules of R549 that hold of every frame; FRAG fields are zero but in fragmented frames. -/
def hdrForm (h : CaravanHdr) (frags : Bool) : Bool :=
  bits h.flags.toNat 7 1 == 0 && h.reserved == 0 && (frags || (hdrFragIndex h == 0 && hdrFragLast h == 0))
/-- The header rules of a client's frame. -/
def hdrLawful (h : CaravanHdr) (frags : Bool) : Bool := hdrForm h frags && h.pairId == 0
/-- VERSION and BODY_BYTES of a frame with this body (R48); a frame that breaks them is a stranger (log 88). -/
def hdrFits (h : CaravanHdr) (body : Bytes) : Bool := h.version == 1 && h.bodyBytes == body.length

/-! ### Sessions' keys and windows (R50 to R52, R73) -/

/-- The module holds the keys of a KEY_PHASE: the current epoch's, or the old one's until they are erased. -/
def Session.hasKeys (x : Session) (phase : Nat) : Bool := phase == x.epoch % 2 || x.oldPrk.isSome
/-- A FRAME_SEQ inside the window of 1,024 and new. -/
def Session.inWindow (x : Session) (seq : Nat) : Bool :=
  match x.rxHigh with
  | none => true
  | some hi => decide (hi < seq + 1024) && !x.rxSeen.contains seq
/-- A FRAME_SEQ enters the window; the frames of the client's direction in the epoch are counted by it (R74). -/
def Session.enter (seq now : Nat) (x : Session) : Session :=
  let hi := match x.rxHigh with | none => seq | some h => max h seq
  let rise := match x.rxHigh with | none => seq + 1 | some h => hi - h
  { x with rxHigh := some hi, rxSeen := seq :: x.rxSeen.filter fun q => decide (hi < q + 1024)
           rxEpoch := x.rxEpoch + rise, lastRx := now }
/-- What a tagged frame is. -/
inductive RxKind where
  | stranger | replay | ok (x : Session)
def State.rxKind (s : State) (h : CaravanHdr) : RxKind :=
  match s.sess? h.sessionId with
  | none => .stranger
  | some x =>
    if h.tagOk = false ∨ x.hasKeys (hdrPhase h) = false then .stranger
    else if x.inWindow h.frameSeq = false then .replay else .ok x
/-- What a frame that keeps the rules tells of its session: RESP_ACK, port and source (R36, R77, R82). -/
def Session.heard (f : FrameIn) (x : Session) : Session :=
  ({ x with ack := max x.ack f.hdr.claimOrAck, port := f.port, src := f.src } : Session).purge
/-- Responses held for a port that was down leave on the next frame of their session (R36). -/
def State.flushHeld (s : State) (sid port : Nat) (src : Source) : State :=
  match s.sess? sid with
  | none => s
  | some x => x.held.foldl (fun (t : State) r => match r.req.origin with
      | .session _ id => t.sendResponse sid id port src r false
      | _ => t) (s.updSess sid fun y => { y with held := [] })
/-- A frame that keeps the rules is acted on: what it tells of its session is taken in first. -/
def State.actTagged (s : State) (f : FrameIn) (sid : Nat) (act : State → Nat → State) : State :=
  let u := s.updSess sid (Session.heard f)
  act (if f.hdr.type = 0x16 then u else u.flushHeld sid f.port f.src) sid
/-- A tagged frame of a type arrives: strangers and replays are dropped; a frame that breaks the rules has entered the
window and is dropped; on a half-open session CLIENT_FINISH and CLOSE are acted on, and the others kept until the CLIENT_FINISH has
succeeded (R71, R77; log 37). -/
def State.rxTagged (s : State) (f : FrameIn) (type : Nat) (bodyOk : Bool) (act : State → Nat → State) : State :=
  if s.caravanOn f.port = false ∨ f.hdr.type ≠ type then s
  else if hdrFits f.hdr f.body = false then s.stranger f.port
  else match s.rxKind f.hdr with
  | .stranger => s.stranger f.port
  | .replay => s.replayed f.port
  | .ok x =>
    let t := (s.updSess x.id (Session.enter f.hdr.frameSeq s.mono)).touchSession x.id
    if hdrLawful f.hdr (type == 0x04) = false ∨ bodyOk = false then t.malformedFrame f.port x.id
    else if x.live = false ∧ type ≠ 0x04 ∧ type ≠ 0x16 then t.updSess x.id fun y => { y with early := y.early ++ [f] }
    else t.actTagged f x.id act

/-! ### Received Ethernet frames (R44, R47) -/

/-- The port's VLAN (R47). -/
def State.vlanOk (s : State) (port : Nat) : VlanTag → Bool
  | .untagged => s.cfg 0x0103 port 0 == 0
  | .tagged id => s.cfg 0x0103 port 0 == id && id != 0
  | .stacked => false
/-- What a packet of a supported form holds. -/
inductive Packet where
  | arpNd | echo | caravan (h : CaravanHdr)
/-- The upper layer of an IP packet. -/
def State.l4Packet (s : State) (v6 : Bool) (dst : DstKind) : L4 → Option Packet
  | .udp p ok zero c =>
    if p ≠ s.cfg 0x0106 0 7341 ∨ (ok = false ∧ ¬ (v6 = false ∧ zero = true)) ∨ dst = DstKind.ndGroup then none
    else c.map Packet.caravan
  | .icmpEcho own => if own ∧ dst = DstKind.own ∧ s.cfg 0x0108 0 0 = 1 then some .echo else none
  | .nd own => if own ∧ v6 ∧ (dst = DstKind.own ∨ dst = DstKind.ndGroup) then some .arpNd else none
  | .other => none
/-- The packet of a frame in a supported form, if it is one. -/
def State.packetOf (s : State) (port : Nat) (f : EthFrame) : Option Packet :=
  if s.portHasAddress port = false ∨ s.vlanOk port f.vlan = false then none
  else match f.l3, f.dst with
  | .arp own, .own => if own then some .arpNd else none
  | .arp own, .broadcast => if own then some .arpNd else none
  | .ip4 ihl mf off sum dstOwn l, d =>
    if ihl ≠ 5 ∨ mf ∨ off ≠ 0 ∨ sum = false then none
    else if d = DstKind.own ∧ dstOwn then s.l4Packet false d l
    else if d = DstKind.pairGroup then s.l4Packet false d l
    else none
  | .ip6 ext dstOwn l, d =>
    if ext then none
    else if d = DstKind.own ∧ dstOwn then s.l4Packet true d l
    else if d = DstKind.pairGroup ∨ d = DstKind.ndGroup then s.l4Packet true d l
    else none
  | _, _ => none
/-- A Caravan frame that is a stranger by its header: version, type or direction, an untagged frame that breaks its rules,
no session, a failing tag; or a replay. Announcements come to the pair's group alone, in untagged fragmented frames of
session 0. -/
def State.caravanDrop (s : State) (port : Nat) (dst : DstKind) (h : CaravanHdr) : Option State :=
  if h.type = 0x20 ∧ dst = DstKind.pairGroup ∧ h.version = 1 then
    (if hdrForm h true = false ∨ hdrPhase h ≠ 0 ∨ h.sessionId ≠ 0 ∨ h.frameSeq ≠ 0 ∨ hdrFragLast h < hdrFragIndex h then
      some (s.stranger port) else none)
  else if h.version ≠ 1 ∨ fromClient h.type = false ∨ dst ≠ DstKind.own then some (s.stranger port)
  else if h.type = 0x01 then
    (if hdrLawful h false = false ∨ h.sessionId ≠ 0 ∨ h.frameSeq ≠ 0 ∨ h.bodyBytes ≠ 1320 then some (s.stranger port) else none)
  else match s.rxKind h with
    | .stranger => some (s.stranger port)
    | .replay => some (s.replayed port)
    | .ok _ => none
/-- In S2 a frame for the Caravan engines goes to the port's wake buffer of 512 KiB; during an entry to S2 a frame cancels the
entry (R474). -/
def State.wakeBuffer (s : State) (port octets : Nat) : State :=
  if s.porter.power = Power.s2 then
    let n := getD port 0 s.porter.wake
    if 524288 < n + octets then { s with porter := { s.porter with wakeDrops := s.porter.wakeDrops + 1 } }
    else { s with porter := { s.porter with wake := setK port (n + octets) s.porter.wake } }
  else s
/-- A frame at a port: counted, dropped, or passed on; what it carries comes with the row of its kind. -/
def State.ethernetFrame (s : State) (port : Nat) (f : EthFrame) : State :=
  let a := (s.count port nFecCorrected f.fecCorrected).count port nFecUncorrected f.fecUncorrected
  if 9216 < f.octets then a.count port nOversize 1
  else if f.fcsOk = false then a.count port nFcsErrors 1
  else
    let t := ((a.count port nRxFrames 1).count port nRxOctets f.octets).cancelSleep
    match f.l3 with
    | .pause => t.count port nPauseDrops 1
    | _ => if f.octets < 64 then t.dropPacket port else match t.packetOf port f with
      | none => t.dropPacket port
      | some (.caravan h) => (t.caravanDrop port f.dst h).getD (t.wakeBuffer port f.octets)
      | some _ => t.wakeBuffer port f.octets
def execEthernetFrameReceived (port : Nat) (f : EthFrame) (s : State) : Out :=
  .next (s.signal (if s.netOn port then s.ethernetFrame port f else s))

/-! ### ARP, Neighbour Discovery, ICMP (R44, R45, R53) -/

/-- A bucket of `rate` per second holds a token. -/
def Bucket.take (b : Bucket) (now rate cap : Nat) : Option Bucket :=
  let n := b.now now rate cap
  if 10 ^ 9 ≤ n then some { level := n - 10 ^ 9, at0 := now } else none
/-- Octets of an answer of `len` bytes of IP packet or ARP payload. -/
def answerOctets (src : Source) (len : Nat) : Nat := max 64 (18 + (if src.vlan = 0 then 0 else 4) + len)
def State.answerOut (s : State) (port : Nat) (o : Output) (octets : Nat) : State :=
  ((s.emit o).count port nTxFrames 1).count port nTxOctets octets
/-- Requests over the rate are dropped without count or event (log 89). -/
def execArpNdRequest (port : Nat) (src : Source) (s : State) : Out :=
  .next (if s.netOn port = false ∨ s.fabricRuns = false ∨ s.portHasAddress port = false then s
    else match (s.port port).slowArp.take s.mono 10000 10000 with
    | some b => (s.setPort port { s.port port with slowArp := b }).answerOut port (.arpReply port src (s.arpNdReply port src))
        (answerOctets src (if src.v6 then 72 else 28))
    | none => s)
/-- `data` is the request's message from its identifier on, which is echoed. An answer larger than NET_PORT_MTU is not sent;
neither it nor a request over the rate is counted or recorded (log 89). -/
def execIcmpEchoRequest (port : Nat) (src : Source) (data : Bytes) (s : State) : Out :=
  .next (let len := (if src.v6 then 40 else 20) + 4 + data.length
    if s.netOn port = false ∨ s.fabricRuns = false ∨ s.portHasAddress port = false ∨ s.cfg 0x0108 0 0 ≠ 1 ∨ s.mtu port < len then s
    else match (s.port port).slowIcmp.take s.mono 1000 1000 with
    | some b => (s.setPort port { s.port port with slowIcmp := b }).answerOut port
        (.icmpReply port src data (s.echoReply port src data)) (answerOctets src len)
    | none => s)

/-! ### Links (R46) -/

def execLinkDown (port : Nat) (s : State) : Out :=
  .next (if s.portsOn ∧ (s.port port).up then
    (s.setPort port { s.port port with up := false }).event (portTap port) St.linkDown [port] else s)
/-- Block lock and a clear RS layer for 1 ms on the lanes that the port's mode uses (R46, R530). -/
def execLinkUp (port : Nat) (s : State) : Out :=
  .next (if s.portsOn ∧ s.portLanes port ≠ [] ∧ (s.port port).up = false then
    (s.setPort port { s.port port with up := true }).event (portTap port) St.linkUp [port] else s)

end Sys2Proof.Machine
end

