-- ==== Sys2Proof/Machine/Handshake.lean ====
section
/-! DEFINITION. The Caravan handshake: hellos, cookies, session slots, SERVER_HELLO and CLIENT_FINISH (02 R67 to R72, R79 to
R81; 10 R326; 15 R452). -/

namespace Sys2Proof.Machine

/-! ### Untagged answers (R49, R87) -/

/-- A COOKIE or HANDSHAKE_REFUSED frame: it echoes CLIENT_RANDOM and carries neither pair ID nor claim. -/
def State.sendEcho (s : State) (port : Nat) (dst : Source) (type : Nat) (hello rest : Bytes) : State :=
  s.sendFrame port dst { type := type, bodyBytes := 32 + rest.length } none (slice hello 8 32 ++ rest)
def State.refuseHello (s : State) (port : Nat) (dst : Source) (hello : Bytes) (st : Status) (retry : Nat) : State :=
  s.sendEcho port dst 0x05 hello (beBytes 2 st ++ [0, 0] ++ beBytes 4 retry)

/-! ### Rates and cookies (R79 to R81) -/

/-- The /24 or /56 prefix of a source. -/
def helloPrefix (x : Source) : Nat := if x.v6 then 2 * (x.ip / 2 ^ 72) + 1 else 2 * (x.ip / 256)
/-- NET_HELLO_RATE: rate per second and burst. -/
def State.helloRate (s : State) : Nat × Nat :=
  let v := s.cfgBytes 0x010A 0
  if v.length = 6 then (leAt v 0 4, leAt v 4 2) else (1000, 64)
def handshakeRate : Variant → Nat
  | .ym4096 => 200000 | .ym1024 => 50000
/-- Hellos that arrived within the last second (log 38). -/
def State.helloCount (s : State) : Nat := (s.net.helloTimes.filter fun t => decide (s.mono < t + 10 ^ 9)).length
/-- From when on fewer than half as many hellos arrived within the last second as the handshake rate allows: a second after the
youngest of those that reach the half; the arrivals of two seconds are kept for it. -/
def State.arrivalsCalm (s : State) : Nat :=
  match s.net.helloTimes[cdiv (handshakeRate s.variant) 2 - 1]? with
  | some t => t + 10 ^ 9
  | none => 0
/-- A hello has arrived: cookie mode is entered where a limit is exceeded. -/
def State.helloArrived (s : State) : State :=
  let n := { s.net with helloTimes := s.mono :: s.net.helloTimes.filter fun t => decide (s.mono < t + 2 * 10 ^ 9) }
  let t := State.calmMark { s with net := n }
  if n.cookieMode = false ∧ (t.cfg 0x010B 0 16384 < t.halfOpen ∨ handshakeRate t.variant < t.helloCount) then
    { t with net := { t.net with cookieMode := true } }.scEvent St.cookieMode
  else t
/-- Both measures have stayed below half their limits for 1 s. -/
def execCookieModeExit (s : State) : Out :=
  .next (match s.calmMark.net.cookieBelow with
    | some b =>
      if s.portsOn ∧ s.net.cookieMode then
        { s with mono := max s.mono (max b s.arrivalsCalm + 10 ^ 9), net := { s.net with cookieMode := false } }.scEvent St.cookieMode
      else s
    | none => s)
/-- The cookie of a 1 s slot of MONO_NS (widths by log 38). -/
def cookieFor (key : Bytes) (x : Source) (random : Bytes) (slot : Nat) : Bytes :=
  (aesCmac key (beBytes (if x.v6 then 16 else 4) x.ip ++ beBytes 2 x.udp ++ random ++ beBytes 8 slot)).take 16
/-- A cookie of the current or the previous slot, under the key in force: one made before the last refresh of the key is
refused (log 90). -/
def State.cookieOk (s : State) (x : Source) (hello : Bytes) : Bool :=
  match s.net.cookieKey with
  | none => false
  | some k =>
    let n := s.mono / 10 ^ 9
    slice hello 88 16 == cookieFor k x (slice hello 8 32) n ||
    (n != 0 && slice hello 88 16 == cookieFor k x (slice hello 8 32) (n - 1))
def State.sendCookie (s : State) (port : Nat) (x : Source) (hello : Bytes) : State :=
  match s.net.cookieKey with
  | none => s
  | some k => s.sendEcho port x 0x02 hello (cookieFor k x (slice hello 8 32) (s.mono / 10 ^ 9))
/-- The key is drawn anew every 60 s; while it cannot be drawn the current one stays in use (R326). -/
def execCookieKeyRefresh (s : State) : Out :=
  .next (if s.portsOn ∧ s.canDraw 12 then
    let t := { s with mono := max s.mono (s.net.cookieAt + 60 * 10 ^ 9) }
    let r := t.random 12 32
    { r.2 with net := { r.2.net with cookieKey := some r.1, cookieAt := t.mono } }
  else s)

/-! ### Session slots (R67) -/

def helloPartition (hello : Bytes) : Nat := beAt hello 2 2 % 4096
/-- The partitions of sessions and handshakes. -/
def State.slotOwners (s : State) : List Nat := s.net.sessions.map (·.partition) ++ s.net.hellos.map fun h => helloPartition h.body
/-- A slot can be had by a partition. -/
def State.slotFor (s : State) (p : Nat) : Bool :=
  let l := s.slotOwners
  decide (l.length < s.sessionCount) &&
  (p == 0 || (decide ((l.filter (· != 0)).length + 1024 < s.sessionCount) && decide ((l.filter (· == p)).length < s.cfg 0x010D p 16384)))
/-- The slot at the head of the free queue, under its next generation. -/
def State.takeSlot (s : State) : Nat × State :=
  let slot := if s.net.fresh < s.sessionCount then s.net.fresh else s.net.freed.headD 0
  let g := getD slot 0 s.net.gens % 4095 + 1
  let n := if s.net.fresh < s.sessionCount then { s.net with fresh := s.net.fresh + 1 } else { s.net with freed := s.net.freed.drop 1 }
  (g * 2 ^ 20 + slot, { s with net := { n with gens := setK slot g s.net.gens } })
/-- A handshake in work ends with its job and its slot is freed. -/
def State.dropHello (s : State) (sid : Nat) : State :=
  let t := s.dropNetJobs (· == sid)
  State.calmMark { t with net := { t.net with hellos := t.net.hellos.filter fun h => h.sid != sid
                                              freed := t.net.freed ++ [sid % 1048576] } }

/-! ### CLIENT_HELLO (R68, R71, R72, R356) -/

/-- A hello in the form of R68. -/
def helloOk (h : CaravanHdr) (b : Bytes) : Bool :=
  hdrFits h b && hdrLawful h false && h.sessionId == 0 && h.frameSeq == 0 && b.length == 1320 &&
  decide (beAt b 2 2 < 4096) && decide (1280 ≤ beAt b 4 2 ∧ beAt b 4 2 ≤ 9198) && beAt b 7 1 == 0
def sameSender (a b : Source) : Bool := a.ip == b.ip && a.v6 == b.v6 && a.udp == b.udp
/-- The answer that an identical hello of the last 100 ms got, if it has had one; the 100 ms run from this hello on (log 119). -/
def State.helloAgain (s : State) (f : FrameIn) : Option State :=
  match s.net.sessions.find? fun x => x.hello == f.body && sameSender x.helloSrc f.src && decide (s.mono ≤ x.helloAt + 10 ^ 8) with
  | some x => some ((s.updSess x.id fun y => { y with helloAt := s.mono }).sendFragments f.port f.src 0x03 x.maxFrame x.serverHello)
  | none =>
    match s.net.hellos.find? fun h => h.body == f.body && sameSender h.src f.src && decide (s.mono ≤ h.last + 10 ^ 8) with
    | some h => some (s.setHello { h with last := s.mono })
    | none => none
/-- A hello within its rate: refused, answered with a cookie, answered again, or a handshake starts with its slot, its work a
request that the security controller raises in queue 15 of partition 0 (R94, R95). -/
def State.helloServed (s : State) (f : FrameIn) : State :=
  let b := f.body
  if s.serves = false then s.refuseHello f.port f.src b St.pairStandby 100000
  else if s.net.cookieMode ∧ s.cookieOk f.src b = false then s.sendCookie f.port f.src b
  else match s.helloAgain f with
  | some t => t
  | none =>
    if 1 < beAt b 0 1 ∨ beAt b 1 1 < 1 then s.refuseHello f.port f.src b St.versionUnsupported 0
    else if s.sc.identity.isNone then s
    else if s.slotFor (helloPartition b) = false then s.refuseHello f.port f.src b St.sessionLimit 1000000
    else
      let r := s.takeSlot
      let h : Hello := { sid := r.1, port := f.port, src := f.src, body := b, at0 := s.mono, last := s.mono }
      (State.calmMark { r.2 with net := { r.2.net with hellos := r.2.net.hellos ++ [h] } }).stampRequest
        { partition := 0, queue := 15, body := leBytes 4 r.1, port := f.port, origin := .internal } none
def State.clientHello (s : State) (f : FrameIn) : State :=
  if helloOk f.hdr f.body = false then s.stranger f.port
  else
    let t := s.helloArrived
    let (rate, burst) := t.helloRate
    let p := helloPrefix f.src
    match (getD p { level := burst * 10 ^ 9, at0 := t.mono } t.net.helloBuckets).take t.mono rate burst with
    | none => (t.count f.port nHelloRate 1).event (portTap f.port) St.handshakeRateLimited [f.port]
    | some k => { t with net := { t.net with helloBuckets := setK p k t.net.helloBuckets } }.helloServed f
def execClientHello (f : FrameIn) (s : State) : Out :=
  .next (if s.caravanOn f.port = false ∨ f.hdr.type ≠ 0x01 ∨ s.portHasAddress f.port = false then s else s.clientHello f)

/-! ### SERVER_HELLO (R69, R70) -/

/-- The signed body and the key material of a session: bodies, transcript hash, first prk. -/
def State.serverHello (s : State) (h : Hello) (seed waybill random lneRandom : Bytes) : Bytes × Bytes × Bytes :=
  let c := h.body
  let priv := slice lneRandom 0 32
  let kem := Config.kemEncapsulate (slice c 136 1184) (slice lneRandom 32 32)
  let head := [1, 0] ++ beBytes 2 s.pairId ++ beBytes 4 h.sid ++ random ++ beBytes 8 s.pair.claim ++
    fit 32 (Config.publicKey 0x90 priv) ++ fit 1088 kem.1
  let th := sha256 (c ++ head)
  let msg := ascii "caravan v1 module" ++ th
  let sig1 := fit 96 (Config.sign 0x84 (Config.makePrivate 0x84 0 seed) msg (slice lneRandom 64 48))
  let sig2 := fit 3309 (Config.sign 0x8B (Config.makePrivate 0x8B 0 seed) msg (slice lneRandom 112 32))
  let way := if slice c 56 32 = sha256 waybill then [] else waybill
  let prk := hmac 256 (slice c 8 32 ++ random) (fit 32 (Config.dhShared priv (slice c 104 32)) ++ fit 32 kem.2)
  (head ++ sig1 ++ sig2 ++ [0, 0, 0] ++ beBytes 4 way.length ++ way, th, prk)
/-- The jobs of a handshake that has begun are done. -/
def Hello.done (h : Hello) : Bool := h.ticket != 0 && h.job.isNone && h.left.isEmpty
/-- The random bits that a handshake's jobs have drawn, as its shares and signatures use them. -/
def Hello.bits (h : Hello) : Bytes :=
  let r := fun n i => fit n (h.rnds.getD i [])
  r 32 0 ++ r 32 1 ++ r 48 3 ++ r 32 4
/-- The handshake's work is done, MODULE_RANDOM drawn: the session is half-open, SERVER_HELLO is sent; a job that could not draw
refuses the handshake. -/
def State.serverHelloReady (s : State) (sid : Nat) : State :=
  match s.net.hellos.find? (·.sid == sid), s.sc.identity with
  | some h, some (seed, waybill) =>
    if h.starved then ((s.refuseHello h.port h.src h.body St.rngStarved 100000).dropHello sid)
    else if h.done = false ∨ (h.random = [] ∧ s.canDraw 12 = false) then s
    else
      let r := if h.random = [] then s.random 12 32 else (h.random, s)
      let t := r.2
      let e := t.serverHello h seed waybill r.1 h.bits
      let x : Session :=
        { id := sid, partition := helloPartition h.body, credAlg := beAt h.body 6 1, credId := slice h.body 40 16, openedAt := t.mono, startedAt := h.at0
          hello := h.body, helloAt := h.last, helloSrc := h.src, serverHello := e.1, th := e.2.1, prk := e.2.2, maxFrame := beAt h.body 4 2
          lastRx := t.mono, quietAt := t.mono, port := h.port, src := h.src }
      { t with net := { t.net with hellos := t.net.hellos.filter fun y => y.sid != sid, sessions := t.net.sessions ++ [x] } }.sendFragments
        h.port h.src 0x03 x.maxFrame e.1
  | _, _ => s
def execServerHelloReady (sid : Nat) (s : State) : Out := .next (if s.portsOn ∧ s.fabricRuns then s.helloWork.serverHelloReady sid else s)
/-- MODULE_RANDOM of a handshake whose work has begun could not be drawn within 1 ms (R326). -/
def State.helloStarved (s : State) : Option State :=
  match s.net.hellos.find? fun h => h.ticket != 0 && h.random == [] with
  | none => none
  | some h =>
    let t := { s with mono := max s.mono (h.begun + 10 ^ 6) }
    some ((t.refuseHello h.port h.src h.body St.rngStarved 100000).dropHello h.sid)

/-! ### CLIENT_FINISH and the time-out (R71, R72, R254) -/

/-- The registered credential of an identifier and algorithm: its index and public key. -/
def Durable.credential (d : Durable) (p alg : Nat) (id : Bytes) : Option (Nat × KeyMat) :=
  let type := if alg = 1 then 0x84 else if alg = 2 then 0x8B else 0
  ((d.refsOf p).filter fun r => refKind r == 2).findSome? fun r =>
    match d.keyNow r with
    | some k => if !isTombstone k.attrs && k.attrs.keyType == type && publicId p type k.material == id then some (refIndex r, k) else none
    | none => none
/-- A partition whose handshakes are accepted: defined and not resetting; a halted one is; the tenants of a module whose state cannot
be read are out of service, as all are under recovery firmware (R71, R90, R350, R423). -/
def State.admitsHandshake (s : State) (p : Nat) : Bool :=
  s.partDefined p && (s.part p).reset.isNone && s.brought p && (p == 0 || s.sc.mode == .running)
/-- The check that a complete CLIENT_FINISH gives to do: its credential. A SIG_LEN that is not the length of the rest, or not
that of a signature of the credential, is refused as a signature that fails (log 91). -/
def State.finishOk (s : State) (x : Session) (body : Bytes) : Option (Nat × KeyMat) :=
  match s.durable.credential x.partition x.credAlg x.credId with
  | none => none
  | some (n, k) =>
    if s.admitsHandshake x.partition ∧ body.length = 2 + beAt body 0 2 ∧ beAt body 0 2 = sigLen (k.attrs.keyType - 0x80) 0 then
      some (n, k) else none
/-- A fragment; with the last missing one the session is refused, or the check of its signature is raised as a request of the
security controller in queue 15 of partition 0 (R72, R94, R95). -/
def State.finishFragment (s : State) (f : FrameIn) (sid : Nat) : State :=
  match s.sess? sid with
  | none => s
  | some x =>
    if x.live ∨ x.check.isSome then s
    else
      let l := setK (hdrFragIndex f.hdr) f.body x.finish
      let t := s.updSess sid fun y => { y with finish := l }
      let parts := (List.range (hdrFragLast f.hdr + 1)).map fun i => getK i l
      if parts.any (·.isNone) then t
      else
      let body := parts.flatMap fun b => b.getD []
      match t.finishOk x body with
      | some (n, k) => (t.updSess sid fun y =>
          { y with finish := [], check := some { port := f.port, src := f.src, sig := body.drop 2, credential := n, key := k } }).stampRequest
          { partition := 0, queue := 15, body := leBytes 4 sid, port := f.port, origin := .internal } none
      | none => (t.refuseHello f.port f.src x.hello St.credentialInvalid 0).forgetSession sid
def execClientFinish (f : FrameIn) (s : State) : Out :=
  .next (s.rxTagged f 0x04 (decide (hdrFragIndex f.hdr ≤ hdrFragLast f.hdr)) fun t sid => t.finishFragment f sid)
def execHandshakeTimeout (sid : Nat) (s : State) : Out :=
  .next (match s.sess? sid with
    | some x =>
      if x.live ∨ s.portsOn = false then s
      else (({ s with mono := max s.mono (x.openedAt + 10 ^ 8) }).event (portTap x.port) St.handshakeTimeout [sid]).forgetSession sid
    | none => s)

end Sys2Proof.Machine
end

