-- ==== Sys2Proof/Machine/TokenEvents.lean ====
section
/-! DEFINITION. Token slots: insertion and removal, answers, blocks, read-back, shares and components (13 R384 to R396,
R400, R405; 14 R423). -/

namespace Sys2Proof.Machine

/-! ### Power of a slot (R385, R386, R392, R394, R395) -/

/-- The check block of R390. -/
def checkBlock : Bytes := [0x55, 0xAA, 0x0F, 0xF0, 0x00, 0xFF, 0x33, 0xCC, 0x5A, 0xA5, 0x69, 0x96, 0xC3, 0x3C, 0x81, 0x7E]
/-- The step of a slot ends: the command that waits for it with a status and a body. -/
def State.tokenEnd (s : State) (n : Nat) (st : Status) (body : Bytes := []) : State :=
  match s.sc.waiting.find? fun w => w.wait == .token n with
  | some w => (if st = 0 then s else s.slotStatus n st).endWait w.req st body
  | none => s
/-- A status that is a response and an event. -/
def State.tokenFailed (s : State) (n : Nat) (st : Status) : State := (s.slotEvent n st).tokenEnd n st
/-- No command is outstanding. -/
def State.cmdDone (s : State) (n : Nat) : State := s.setSlot n { s.slot n with cmd := none }
/-- A failed share step: the ceremony is abandoned and its blob goes with it (R405). -/
def State.shareFailed (s : State) (k : TokenCmd) (st : Status) : State :=
  match s.custody.ceremony with
  | some c => (match k.why with
    | .scan _ _ => if c.committed then s.abandonCeremony st else s
    | .readBack _ _ => s.abandonCeremony st
    | .writeShare _ _ _ _ => s.abandonCeremony st
    | _ => s)
  | none => s
/-- A block write whose end of busy was not seen is lost: its data phase began when it went out. What the ceremony's read-back needs of it
is kept (R395). -/
def State.loseWrite (s : State) (n : Nat) : State :=
  let x := s.slot n
  match x.cmd with
  | none => s
  | some k =>
    if k.index ≠ 17 then s
    else
      let t := (s.setSlot n { x with writeIncomplete := true }).slotEvent n St.tokenWriteIncomplete [k.arg % 65536, k.arg / 65536]
      match k.why, t.custody.ceremony with
      | .writeShare b g i _, some c =>
        let l : LostWrite := { tokenId := x.tokenId, block := b, oldGen := g, digest := sha256 k.data, x := i }
        t.setCeremony (some { c with lost := (c.lost.filter fun e => e.tokenId != x.tokenId) ++ [l] })
      | _, _ => t
/-- VCC is removed: a write is lost, the command that waits for the slot ends, the authentication lapses. -/
def State.tokenUnpower (s : State) (n : Nat) (st : Status) : State :=
  let t := (s.loseWrite n).tokenEnd n st
  let u := t.setSlot n { t.slot n with powered := false, mode := 0, unlocked := false, cmd := none, step := none }
  if (s.slot n).powered then u.emit (.tokenPower n false) else u
/-- VCC is applied and the token started with GO_IDLE; its identity block and its mode follow (R386). -/
def State.tokenStart (s : State) (n : Nat) : State :=
  let t := s.setSlot n { s.slot n with powered := true, mode := 1, unlocked := false, cmd := none, step := none }
  (t.emit (.tokenPower n true)).tokenSend n .idle 0
/-- A second failure: the step ends and the token is restarted (R392). -/
def State.tokenRestart (s : State) (n : Nat) (k : TokenCmd) (st : Status) : State :=
  (((s.slotEvent n st).tokenUnpower n st).tokenStart n).shareFailed k st
/-- A command goes out again, once. -/
def State.tokenResend (s : State) (n : Nat) (c : TokenCmd) : State :=
  (s.setSlot n { s.slot n with cmd := some c }).emitToken n c.index c.arg c.data
/-- LOCK, unless the ceremony keeps a count of the token. -/
def State.lockUncounted (s : State) (n : Nat) : State :=
  match s.custody.ceremony with
  | some c => if c.live s.mono (s.slot n).tokenId then s else s.lockSlot n
  | none => s.lockSlot n

/-! ### Counting and token work (R400, R401, R405) -/

/-- The public key by which a roster of the ceremony knows a token. -/
def State.rosterKey (s : State) (c : Ceremony) (id : Bytes) : Option Bytes :=
  ((s.ceremonyRosters c).flatMap fun p => (s.roster p).keys).find? fun k => tokenIdOf k == id
/-- Live counts over the ceremony's rosters, and what they need. -/
def State.countedAll (s : State) (c : Ceremony) : Nat := ((s.ceremonyRosters c).map (s.countedOn c)).sum
def State.neededAll (s : State) (c : Ceremony) : Nat := ((s.ceremonyRosters c).map fun p => (s.roster p).m).sum
/-- The end of a counted step: the command's answer, then what the quorum brings. The body goes with OK alone, as every response's
does; TOKEN_ALREADY_COUNTED comes without one (log 110). -/
def State.stepDone (s : State) (n : Nat) (st : Status) : State :=
  match s.custody.ceremony with
  | none => s.tokenEnd n St.ceremonyMalformed
  | some c =>
    if s.tapLapsed then
      ((s.tokenEnd n St.rngTapRefused).setCeremony (some { c with everMet := true })).abandonCeremony St.rngTapRefused
    else (s.tokenEnd n st (if st = 0 then (s.slot n).tokenId ++ leBytes 1 (s.countedAll c) ++ List.replicate 7 0 else [])).quorumCheck
/-- A completed token step (R404). -/
def State.stepMade (s : State) : State :=
  match s.custody.ceremony with | some c => s.setCeremony (some { c with lastStep := s.mono }) | none => s
/-- Token data that the ceremony's stage needs before its commit: KEY_TYPEs of components, and whether shares. -/
def State.tokenNeeds (s : State) (c : Ceremony) : List Nat × Bool :=
  match (if c.op = 1 ∧ c.committed = false then s.stage? c.stage else none) with
  | some g => ((g.items.filterMap fun i => match i with | .branchLoad _ k => some k.attrs.keyType | _ => none).eraseDups,
               g.items.any fun i => match i with | .partitionRestore _ _ _ _ => true | _ => false)
  | none => ([], false)
/-- A signature has verified: the token is counted for 300 s from now. -/
def State.countToken (s : State) (n : Nat) (c : Ceremony) : State :=
  let id := (s.slot n).tokenId
  let st : Status := if c.counts.any fun e => e.1 == id then St.tokenAlreadyCounted else 0
  let c1 := { c with counts := (c.counts.filter fun e => e.1 != id) ++ [(id, s.mono)], lastStep := s.mono }
  let t := (s.setCeremony (some c1)).cmdDone n
  let u := if c.committed then t.startShare n st
    else if t.tokenNeeds c1 = ([], false) then t else t.tokenSend n (.scan 16 st) 16 16
  if (u.slot n).cmd.isSome ∨ (u.slot n).step.isSome then u else u.stepDone n st

/-! ### Records on tokens (R396) -/

/-- A block that holds a record. -/
def recordOk (d : Bytes) : Bool := leAt d 0 2 == 0x5342 && crc32c (d.take 252) == leAt d 252 4
/-- The fields that R396 reserves in a record of its KIND are zero, PARTITION's upper bits among them (R15). -/
def reservedOk (d : Bytes) : Bool :=
  allZero (slice d 41 7) && allZero (slice d 80 172) && decide (leAt d 6 2 < 4096) &&
  (if leAt d 2 1 = 2 then leAt d 5 1 == 0 && allZero (slice d 8 24) && allZero (slice d 35 5) else leAt d 40 1 == 0)
/-- The check value of a component against its record. -/
def componentOk (d : Bytes) : Bool :=
  let t := leAt d 40 1
  reservedOk d && isSym t && checkValue { attrs := { keyType := t }, material := (slice d 48 32).take (symLen t) } == slice d 32 3
/-- The share record for roster position x - 1, of the backup whose blob is built. -/
def shareBlock (c : Ceremony) (r : Roster) (x : Nat) : Bytes :=
  let body := leBytes 2 0x5342 ++ leBytes 1 1 ++ leBytes 1 x ++ leBytes 1 r.m ++ leBytes 1 r.n ++ leBytes 2 c.partition ++
    leBytes 8 c.backupCsn ++ fit 16 Config.deviceSerial ++ slice c.result 40 8 ++ List.replicate 8 0 ++
    fit 32 (getD x [] c.shares) ++ List.replicate 172 0
  body ++ leBytes 4 (crc32c body)
/-- The share of the token in a slot: its position in the roster, from 1. -/
def State.shareX (s : State) (c : Ceremony) (n : Nat) : Nat :=
  ((s.roster c.partition).keys.findIdx fun k => tokenIdOf k == (s.slot n).tokenId) + 1
def State.writeShare (s : State) (n : Nat) (c : Ceremony) (block gen : Nat) (st : Status) : State :=
  let x := s.shareX c n
  s.tokenSend n (.writeShare block gen x st) 17 (block + gen * 65536) (shareBlock c (s.roster c.partition) x)
/-- The next block is read, or none is left. -/
def State.scanNext (s : State) (n block : Nat) (st : Status) (atEnd : State → State) : State :=
  if 1023 ≤ block then atEnd (s.cmdDone n) else s.tokenSend n (.scan (block + 1) st) 16 (block + 1)
/-- A record's contribution to the ceremony: a component of its partition that is needed, or a share. -/
def Ceremony.collect (c : Ceremony) (id d : Bytes) (types : List Nat) (shares : Bool) : Ceremony :=
  let ty := leAt d 40 1
  if recordOk d = false then c
  else if leAt d 2 1 = 2 ∧ types.contains ty ∧ leAt d 6 2 = c.partition ∧
      (c.components.any fun e => e.1 == id && leAt e.2 40 1 == ty) = false then
    { c with components := c.components ++ [(id, d)] }
  else if leAt d 2 1 = 1 ∧ shares ∧ reservedOk d then
    { c with shareRecords := (c.shareRecords.filter fun e => !(e.1 == id && e.2.2 == d)) ++ [(id, leAt d 3 1, d)] }
  else c
/-- No data block is free: the share cannot be written (R396, R405). -/
def State.shareFull (s : State) (n : Nat) : State := ((s.slotStatus n St.tokenFull).tokenEnd n St.tokenFull).abandonCeremony St.tokenFull
/-- A data block has been read in a scan. -/
def State.scanned (s : State) (n block gen : Nat) (st : Status) (d : Bytes) : State :=
  match s.custody.ceremony with
  | none => (s.cmdDone n).tokenEnd n St.ceremonyMalformed
  | some c =>
    let id := (s.slot n).tokenId
    if c.committed then
      (if recordOk d then s.scanNext n block st fun t => t.shareFull n else s.writeShare n c block gen st)
    else
      let needs := s.tokenNeeds c
      let c1 := c.collect id d needs.1 needs.2
      let have0 := fun ty => c1.components.any fun e => e.1 == id && leAt e.2 40 1 == ty
      let bad := recordOk d && leAt d 2 1 == 2 && needs.1.contains (leAt d 40 1) && leAt d 6 2 == c.partition && !componentOk d
      if bad then (s.cmdDone n).tokenEnd n St.componentCheckFailed
      else
        let t := s.setCeremony (some c1)
        if needs.2 = false ∧ needs.1.all have0 then ((t.cmdDone n).stepMade).stepDone n st
        else t.scanNext n block st fun u =>
          if needs.1.all have0 then u.stepMade.stepDone n st else u.tokenEnd n St.componentCheckFailed
/-- A share stands on its token; the last of them completes the ceremony (R405). -/
def State.shareWritten (s : State) (n : Nat) (st : Status) : State :=
  let t := s.cmdDone n
  match t.custody.ceremony with
  | none => t
  | some c =>
    let id := (t.slot n).tokenId
    let c1 := { c with written := id :: c.written, lost := c.lost.filter fun e => e.tokenId != id, lastStep := t.mono }
    let u := (t.setCeremony (some c1)).stepDone n st
    if (u.roster c.partition).keys.all fun k => c1.written.contains (tokenIdOf k) then u.completeCeremony c.backupCsn else u
/-- The outcome of a read-back (R395). -/
def State.readBack (s : State) (n block gen : Nat) (st : Status) (d : Bytes) : State :=
  match s.custody.ceremony with
  | none => s.cmdDone n
  | some c =>
    match c.lost.find? fun e => e.tokenId == (s.slot n).tokenId with
    | none => (s.cmdDone n).stepDone n st
    | some l =>
      if gen = l.oldGen then s.writeShare n c block gen st
      else if gen = l.oldGen + 1 ∧ sha256 d = l.digest then s.shareWritten n st
      else ((s.cmdDone n).tokenFailed n St.tokenBlockConflict).abandonCeremony St.tokenBlockConflict

/-! ### Answers (R387 to R392, R400) -/

def unlockData (pw : Bytes) : Bytes := fit 48 (leBytes 1 pw.length ++ fit 32 pw)
/-- TSTATUS of UNLOCK and SET_PASSWORD as a status (R400, R402). -/
def passwordStatus (t : Nat) : Status :=
  if t = 4 then St.tokenPasswordRejected else if t = 5 then St.tokenLockedOut else St.tokenAuthFailed
/-- TOKEN_ID and public key of an identity block, none where it is not as R393 lays it out. -/
def identityOf (d : Bytes) : Bytes × Bytes :=
  let pub := slice d 32 97
  if leAt d 0 2 = 0x4259 ∧ leAt d 2 2 = 1 ∧ allZero (slice d 4 12) = true ∧ allZero (d.drop 129) = true ∧ slice d 16 16 = tokenIdOf pub then
    (slice d 16 16, pub) else ([], [])
/-- Data lines in use: all four once the mode is 4-bit, which READ_CHECK tries (R390). -/
def Slot.wide (x : Slot) (k : TokenCmd) : Bool := x.mode == 3 || k.why == .readCheck
/-- The block that came with an answer. -/
def Slot.answerBlock (x : Slot) (k : TokenCmd) (r : TokenResp) : Option Bytes := respBlock r (x.wide k) (tokenBlockLen k.index)
/-- The check block failed: GO_IDLE, and the start-up mode for the rest of the insertion (R390). -/
def State.fallBack (s : State) (n : Nat) : State :=
  ((s.setSlot n { s.slot n with fallback := true }).slotEvent n St.tokenModeFallback).tokenSend n .fallback 0
/-- A step of a token fails with an answer that its command does not allow. -/
def State.tokenRefused (s : State) (n : Nat) (k : TokenCmd) (st : Status) : State := ((s.cmdDone n).tokenFailed n st).shareFailed k st
/-- A well-received answer, once busy has ended, by what its command was for. -/
def State.tokenAnswer (s : State) (n : Nat) (k : TokenCmd) (r : TokenResp) : State :=
  let x := s.slot n
  let done := s.cmdDone n
  let d := (x.answerBlock k r).getD []
  match k.why with
  | .idle => s.tokenSend n .identify 16 0
  | .identify =>
    let e := identityOf d
    let t := s.setSlot n { x with tokenId := if respStatus r = 0 then e.1 else [], pub := if respStatus r = 0 then e.2 else [] }
    if x.fallback then t.setSlot n { t.slot n with cmd := none, mode := 2 } else t.tokenSend n .switchMode 2 0x31
  | .switchMode => if respStatus r = 0 then s.tokenSend n .readCheck 3 else s.fallBack n
  | .readCheck => if respStatus r = 0 ∧ d = checkBlock then done.setSlot n { x with cmd := none, mode := 3 } else s.fallBack n
  | .fallback => done.setSlot n { x with cmd := none, mode := 2 }
  | .status pw dg =>
    if respStatus r ≠ 0 then done.tokenFailed n St.tokenAuthFailed
    else if bit (respValue r) 1 then done.tokenFailed n St.tokenPasswordRejected
    else s.tokenSend n (.unlock dg) 10 0 (unlockData pw)
  | .unlock dg =>
    if respStatus r ≠ 0 then done.tokenFailed n (passwordStatus (respStatus r))
    else (s.setSlot n { x with unlocked := true }).tokenSend n (.sign dg) 21 0 dg
  | .sign dg =>
    (match s.custody.ceremony with
    | none => done.lockSlot n
    | some c => match s.rosterKey c x.tokenId with
      | none => (done.tokenEnd n St.custodianNotEnrolled).lockUncounted n
      | some key =>
        if respStatus r = 0 ∧ Config.verifySig 0x184 key dg d then s.countToken n c
        else (done.tokenFailed n St.tokenAuthFailed).lockUncounted n)
  | .scan b st => if respStatus r = 0 then s.scanned n b (respValue r % 2 ^ 24) st d else s.tokenRefused n k St.tokenAuthFailed
  | .readBack b st => if respStatus r = 0 then s.readBack n b (respValue r % 2 ^ 24) st d else s.tokenRefused n k St.tokenAuthFailed
  | .writeShare b _ _ st =>
    if respStatus r = 0 then s.shareWritten n st
    else if respStatus r = 6 then s.tokenRefused n k St.tokenBlockConflict
    else if respStatus r = 7 ∨ respStatus r = 8 then s.scanNext n b st fun t => t.shareFull n
    else s.tokenRefused n k St.tokenAuthFailed
  | .unlockSet d0 =>
    if respStatus r ≠ 0 then done.tokenFailed n (passwordStatus (respStatus r))
    else (s.setSlot n { x with unlocked := true }).tokenSend n .setPassword 8 0 d0
  | .setPassword =>
    if respStatus r ≠ 0 then (done.tokenFailed n (passwordStatus (respStatus r))).lockUncounted n else (done.tokenEnd n 0).lockUncounted n
  | .erase =>
    if respStatus r ≠ 0 then done.tokenFailed n St.tokenAuthFailed
    else (s.setSlot n { x with unlocked := true }).tokenSend n .identity 16 0
  | .identity =>
    let e := identityOf d
    ((done.setSlot n { x with cmd := none, tokenId := e.1, pub := e.2 }).tokenEnd n 0).lockSlot n
  | .lock =>
    if k.index = 9 then done.setSlot n { x with cmd := none, unlocked := false }
    else (done.setSlot n { x with cmd := none, unlocked := x.unlocked || (k.index == 10 && respStatus r == 0) }).lockSlot n
/-- The token holds busy after a command: one of R391 with a busy limit that it carries out, or whose block it judges (log 129). -/
def holdsBusy (k : TokenCmd) (tstatus : Nat) : Bool :=
  [8, 10, 11, 17, 21].contains k.index && (tstatus == 0 || k.index == 8 || k.index == 10)
/-- TOKEN_RESPONSE. -/
def State.tokenResponse (s : State) (n : Nat) (r : TokenResp) : State :=
  match (s.slot n).cmd with
  | none => s
  | some k =>
    let bad := !respCrcOk r || respIndex r != k.index || respStatus r == 1 || (respStatus r == 0 && ((s.slot n).answerBlock k r).isNone)
    if k.held.isSome then s
    else if k.why = .readCheck ∧ (r.missing ∨ bad = true) then s.fallBack n
    else if r.missing ∨ bad = true then
      (if k.resent then s.tokenRestart n k (if r.missing then St.tokenNoResponse else St.tokenCrcError)
       else s.tokenResend n { k with resent := true })
    else if k.data ≠ [] ∧ r.blockStatus ≠ 2 then
      (if k.resentData then s.tokenRestart n k St.tokenCrcError else s.tokenResend n { k with resentData := true })
    else if holdsBusy k (respStatus r) then s.setSlot n { s.slot n with cmd := some { k with held := some r } }
    else s.tokenAnswer n k r
def execTokenResponse (slot : Nat) (r : TokenResp) (s : State) : Out :=
  .next (s.signal <| if slot < 2 then s.tokenResponse slot r else s)
/-- The end of busy: the step goes on (R389, R395). -/
def State.tokenReady (s : State) (n : Nat) : State :=
  match (s.slot n).cmd with
  | some k => (match k.held with | some r => s.tokenAnswer n k r | none => s)
  | none => s
def execTokenBusyEnd (slot : Nat) (s : State) : Out := .next (s.signal <| if slot < 2 then s.tokenReady slot else s)
/-- Busy beyond the command's limit counts as no response: the command goes out once more, or the step fails (R389, R392). -/
def execTokenBusyTimeout (slot : Nat) (s : State) : Out :=
  .next (s.signal <| match (s.slot slot).cmd with
    | some k =>
      if slot < 2 ∧ k.held.isSome then
        (if k.resent then s.tokenRestart slot k St.tokenNoResponse else s.tokenResend slot { k with resent := true, held := none })
      else s
    | none => s)

/-! ### Insertion and removal -/

/-- The wayside loader, which has no request to wait for, takes a token in one step: it reads the identity block, unlocks the token where its password is
empty and runs the recovery build that its blocks from 16 on hold; another token it ignores (R386, R391, R423, log 67). -/
def State.waysideTakes (s : State) (n : Nat) (identity : Bytes) (emptyPassword : Bool) (build : Option FwImage) : State :=
  let e := identityOf identity
  let t := s.setSlot n { s.slot n with cmd := none, tokenId := e.1, pub := e.2, unlocked := emptyPassword }
  match build with
  | some i =>
    if emptyPassword ∧ fwFailure i s.sc.otp true = none then
      { t with sc := { t.sc with mode := .recovery, running := 2, runImage := some i } }
    else t
  | none => t
/-- The controller drives the slots. -/
def State.slotsOn (s : State) : Bool :=
  match s.sc.mode with | .running => true | .starting => true | .wayside => true | .recovery => true | .fatalHalt => true | _ => false
def execTokenDetectClosed (slot : Nat) (identity : Bytes) (emptyPassword : Bool) (build : Option FwImage) (s : State) : Out :=
  .next (s.signal <| if slot < 2 ∧ s.slotsOn ∧ (s.slot slot).present = false then
    let t := ((s.setSlot slot { s.slot slot with present := true }).slotEvent slot St.tokenInserted).tokenStart slot
    if s.sc.mode = .wayside then t.waysideTakes slot identity emptyPassword build else t
  else s)
def execTokenRemoved (slot : Nat) (s : State) : Out :=
  .next (s.signal <| if slot < 2 ∧ (s.slot slot).present then
    let t := (s.tokenUnpower slot St.tokenNotPresent).slotEvent slot St.tokenRemoved
    t.setSlot slot { t.slot slot with present := false, fallback := false, lockedOut := false, tokenId := [], pub := [] }
  else s)
def execTokenOvercurrent (slot : Nat) (s : State) : Out :=
  .next (s.signal <| if slot < 2 ∧ (s.slot slot).powered then
    let t := (s.tokenUnpower slot St.tokenNoResponse).slotEvent slot St.tokenOvercurrent
    t.setSlot slot { t.slot slot with overcurrent := true, lockedOut := true }
  else s)

end Sys2Proof.Machine
end

