-- ==== Sys2Proof/Machine/CeremonyCommands.lean ====
section
/-! DEFINITION. Ceremony and token commands, and the times that end counts, ceremonies and stalled reads of random bits
(13 R400 to R405; 10 R325, R326, R329). -/

namespace Sys2Proof.Machine

/-! ### CEREMONY_OPEN (R402; R424, R427, R428, R468, R470) -/

/-- The states in which an operation is permitted (R424); RNG_TAP in DEPLOYED alone (R329). -/
def opPermitted (l : Lifecycle) (op : Nat) : Bool :=
  match l with
  | .analysis => op == 3 || op == 4 || op == 5
  | .deployed => true
  | _ => op != 6
/-- The form SOURCE(1), res(3), BITS(4) of a capture. -/
def tapBodyOk (b : Bytes) : Bool := b.length == 8 && allZero (slice b 1 3)
/-- What refuses an operation's body. -/
def State.openError (s : State) (op : Nat) (b : Bytes) : Option Status :=
  match op with
  | 2 => if b = [] then none else some St.ceremonyMalformed
  | 3 => s.certError b
  | 4 => s.lcError b
  | 5 => if b.length ≠ 8 ∨ allZero (b.drop 4) = false then some St.ceremonyMalformed
         else if leAt b 0 4 ≠ s.porter.tamperCount then some St.tamperAckMismatch else none
  | 6 => if tapBodyOk b = false then some St.ceremonyMalformed
         else if bit s.rights 3 = false ∨ s.tapAllowed (leAt b 0 1) (leAt b 4 4) = false then some St.rngTapRefused else none
  | _ => none
/-- Operations that no quorum is needed for complete at CEREMONY_OPEN (R425, R429, R470). -/
def State.openCompletes (s : State) (op : Nat) (b : Bytes) : Bool :=
  match op with
  | 3 => s.lifecycle != .deployed
  | 4 => leAt b 0 1 == 1 && (leAt b 1 1 == 2 || leAt b 1 1 == 5)
  | 5 => s.lifecycle == .provisioned && (s.roster 0).n == 0
  | _ => false
/-- A ceremony opens: its challenge is taken, its answer given; it completes at once where no quorum is needed. -/
def State.openCeremony (s : State) (q : Request) (op stage : Nat) (body digest : Bytes) : State :=
  let c : Ceremony := { id := s.custody.nextId, op := op, partition := q.partition, origin := q, stage := stage, body := body,
                        digest := digest, opened := s.mono, lastStep := s.mono }
  let t := { s with custody := { s.custody with ceremony := some c, nextId := s.custody.nextId + 1, last := none } }
  let u := (if op = 3 then t.useChallenge else t).answer q 0 (leBytes 4 c.id ++ [0, 0, 0, 0] ++ digest)
  if s.openCompletes op body then u.completeOp else u
def execCeremonyOpen (s : State) : Out :=
  .next (s.signal <| s.command 0x0A01 fun t q =>
    let b := q.body
    let op := leAt b 0 2
    let n := leAt b 8 4
    let body := b.drop 16
    if b.length < 16 ∨ b.length ≠ 16 + n ∨ leAt b 2 2 ≠ 0 ∨ leAt b 12 4 ≠ 0 ∨ op = 0 ∨ 6 < op ∨
        (op = 1 ∧ n ≠ 0) ∨ (op ≠ 1 ∧ (leAt b 4 4 ≠ 0 ∨ q.partition ≠ 0)) then t.answer q St.ceremonyMalformed
    else if t.porter.unacked ∧ op ≠ 5 then t.answer q St.tamperUnacknowledged
    else if opPermitted t.lifecycle op = false then t.answer q St.lcStateDenied
    else if t.custody.ceremony.isSome then t.answer q St.ceremonyBusy
    else if op = 1 then (match t.stageOf q (leAt b 4 4) with
      | some g => t.openCeremony q 1 g.id [] (sha256 g.image)
      | none => t.answer q St.stageNotFound)
    else match t.openError op body with
      | some st => t.answer q st
      | none => t.openCeremony q op 0 body (sha256 body))

/-! ### The ceremony a command names (R402) -/

/-- The open ceremony of that number, for a request of its partition; for an operation or item under the security officers'
quorum also for partition 0. -/
def State.ceremonyFor (s : State) (q : Request) (id : Nat) (officers : Bool) : Option Ceremony :=
  match s.custody.ceremony with
  | some c => if c.id = id ∧ (c.partition = q.partition ∨ (officers = true ∧ q.partition = 0 ∧ (s.ceremonyRosters c).contains 0)) then some c else none
  | none => none
/-- The form CEREMONY_ID(4), res(4). -/
def State.namedCeremony (s : State) (v : Nat) (f : State → Request → Ceremony → State) : State :=
  s.command v fun t q =>
    if q.body.length ≠ 8 ∨ allZero (q.body.drop 4) = false then t.answer q St.ceremonyMalformed
    else match t.ceremonyFor q (leAt q.body 0 4) false with
      | some c => f t q c
      | none => t.answer q St.ceremonyMalformed

/-! ### CEREMONY_PASSWORD (R400) -/

/-- A slot that holds a token and can take a command. -/
def Slot.free (x : Slot) : Bool := x.started && x.cmd.isNone && x.step.isNone
/-- The head of the queue is handled where a test of it holds; otherwise it waits at the head (log 1). -/
def State.commandWhen (s : State) (v : Nat) (ok : Request → Bool) (f : State → Request → State) : State :=
  match s.sc.queue with
  | q :: _ => if ok q then s.command v f else s
  | [] => s
/-- The digest that the token signs. -/
def challengeDigest (c : Ceremony) (nonce : Bytes) : Bytes :=
  sha .sha384 (ascii "YM8 ceremony v1" ++ fit 16 Config.deviceSerial ++ leBytes 4 c.id ++ leBytes 2 c.op ++ c.digest ++ nonce)
def passwordMalformed (b : Bytes) : Bool :=
  b.length != 40 || decide (1 < leAt b 4 1) || decide (leAt b 5 1 < 8) || decide (32 < leAt b 5 1) || leAt b 6 2 != 0
/-- The command waits for its token step, which the security controller raises (R95). The password stands in the step alone, and goes once
UNLOCK completes. -/
def State.askPassword (s : State) (q : Request) (c : Ceremony) (n : Nat) : State :=
  let r := s.random 12 32
  let pw := (slice q.body 8 32).take (leAt q.body 5 1)
  (r.2.await { q with body := q.body.take 8 } (.token n)).raiseStep n (.status pw (challengeDigest c r.1)) 24
/-- The command reaches its token step, whose nonce is drawn: a ceremony it may name, and a token of its rosters in a slot in use; of a
token that is still starting this is not known yet. -/
def State.passwordStep (s : State) (q : Request) : Bool :=
  let x := s.slot (leAt q.body 4 1)
  !passwordMalformed q.body && x.present && !x.lockedOut &&
  (match s.ceremonyFor q (leAt q.body 0 4) true with | some c => !x.started || (s.rosterKey c x.tokenId).isSome | none => false)
def execCeremonyPassword (s : State) : Out :=
  .next (s.commandDraw 0x0A02 s.passwordStep (fun q => (s.slot (leAt q.body 4 1)).free) fun t q =>
    let n := leAt q.body 4 1
    let x := t.slot n
    if passwordMalformed q.body then t.answer q St.ceremonyMalformed
    else match t.ceremonyFor q (leAt q.body 0 4) true with
      | none => t.answer q St.ceremonyMalformed
      | some c =>
        if x.present = false then (t.slotStatus n St.tokenNotPresent).answer q St.tokenNotPresent
        else if x.lockedOut then (t.slotStatus n St.tokenNoResponse).answer q St.tokenNoResponse
        else if (t.rosterKey c x.tokenId).isNone then (t.slotStatus n St.custodianNotEnrolled).answer q St.custodianNotEnrolled
        else t.askPassword q c n)

/-! ### CEREMONY_STATUS, DATA, RESULT, CANCEL -/

/-- Seconds until a roster token's count lapses, by roster position. -/
def State.expiries (s : State) (c : Ceremony) : Bytes :=
  let keys := match s.ceremonyRosters c with | p :: _ => (s.roster p).keys | [] => []
  fit 64 (keys.flatMap fun k => match c.counts.find? fun e => e.1 == tokenIdOf k with
    | some e => leBytes 4 ((e.2 + 300 * 10 ^ 9 - s.mono) / 10 ^ 9)
    | none => leBytes 4 0)
/-- STATE is a value the spec does not state: free (log 7). -/
def execCeremonyStatus (s : State) : Out :=
  .next (s.namedCeremony 0x0A03 fun t q c =>
    let r := t.free
    r.2.answer q 0 (leBytes 1 r.1 ++ leBytes 1 (t.neededAll c) ++ leBytes 1 (t.countedAll c) ++ List.replicate 5 0 ++ c.digest ++ t.expiries c))
/-- The size of the blob that the ceremony's stage restores. -/
def State.blobBytes (s : State) (c : Ceremony) : Option Nat :=
  match (if c.op = 1 then s.stage? c.stage else none) with
  | some g => g.items.findSome? fun i => match i with | .partitionRestore n _ _ _ => some n | _ => none
  | none => none
def execCeremonyData (s : State) : Out :=
  .next (s.command 0x0A04 fun t q =>
    let b := q.body
    let d := b.drop 16
    if b.length < 16 ∨ leAt b 4 4 ≠ 0 then t.answer q St.ceremonyMalformed
    else match t.ceremonyFor q (leAt b 0 4) false with
      | none => t.answer q St.ceremonyMalformed
      | some c => match t.blobBytes c with
        | none => t.answer q St.ceremonyMalformed
        | some n =>
          if leAt b 8 8 ≠ c.upload.length ∨ n < c.upload.length + d.length then t.answer q St.ceremonyMalformed
          else (t.setCeremony (some { c with upload := c.upload ++ d })).answer q 0 (leBytes 8 (c.upload.length + d.length)))
/-- The blob of a completed backup. -/
def execCeremonyResult (s : State) : Out :=
  .next (s.command 0x0A05 fun t q =>
    let b := q.body
    let n := leAt b 4 4
    let o := leAt b 8 8
    match (if b.length = 16 then t.custody.last else none) with
    | some c =>
      if c.id ≠ leAt b 0 4 ∨ c.partition ≠ q.partition ∨ 65536 < n ∨ c.result.length < o then t.answer q St.ceremonyMalformed
      else t.answer q 0 ((c.result.drop o).take n)
    | none => t.answer q St.ceremonyMalformed)
def execCeremonyCancel (s : State) : Out :=
  .next (s.namedCeremony 0x0A06 fun t q _ => (t.abandonCeremony St.cancelled).answer q 0)

/-! ### Token commands -/

def setPasswordMalformed (b : Bytes) : Bool :=
  let o := leAt b 1 1
  let n := leAt b 2 1
  b.length != 72 || decide (1 < leAt b 0 1) || decide (n < 8) || decide (32 < n) || (o != 0 && decide (o < 8)) || decide (32 < o) ||
  !allZero (slice b 3 5)
/-- A slot that a command may name at this moment: empty, out of use, or free. -/
def State.slotReady (s : State) (n : Nat) : Bool := let x := s.slot n; !x.present || x.lockedOut || x.free
/-- A locked token is unlocked with the old password first. -/
def execTokenSetPassword (s : State) : Out :=
  .next (s.commandWhen 0x0A07 (fun q => setPasswordMalformed q.body || s.slotReady (leAt q.body 0 1)) fun t q =>
    let b := q.body
    let n := leAt b 0 1
    let x := t.slot n
    if setPasswordMalformed b then t.answer q St.ceremonyMalformed
    else if x.present = false then (t.slotStatus n St.tokenNotPresent).answer q St.tokenNotPresent
    else if x.lockedOut then (t.slotStatus n St.tokenNoResponse).answer q St.tokenNoResponse
    else
      let old := (slice b 8 32).take (leAt b 1 1)
      let d := fit 80 (leBytes 1 old.length ++ fit 32 old ++ leBytes 1 (leAt b 2 1) ++ fit 32 ((slice b 40 32).take (leAt b 2 1)))
      let u := t.await { q with body := q.body.take 8 } (.token n)
      if x.unlocked then u.raiseStep n .setPassword 8 0 d else u.raiseStep n (.unlockSet d) 10 0 (unlockData old))
def execTokenErase (s : State) : Out :=
  .next (s.commandWhen 0x0A08 (fun q => q.partition != 0 || s.slotReady (leAt q.body 0 1)) fun t q =>
    let b := q.body
    let n := leAt b 0 1
    let x := t.slot n
    if b.length ≠ 8 ∨ 1 < n ∨ allZero (b.drop 1) = false ∨ q.partition ≠ 0 then t.answer q St.ceremonyMalformed
    else if x.present = false then (t.slotStatus n St.tokenNotPresent).answer q St.tokenNotPresent
    else if x.lockedOut then (t.slotStatus n St.tokenNoResponse).answer q St.tokenNoResponse
    else (t.await q (.token n)).raiseStep n .erase 11)

/-! ### Times (R400, R404) -/

/-- 300 s after its signature check a count lapses: count `n` of the ceremony, in the order of the checks. -/
def execTokenCountExpiry (n : Nat) (s : State) : Out :=
  .next (match s.custody.ceremony with
    | some c => (match c.counts[n]? with
      | some e => { s with mono := max s.mono (e.2 + 300 * 10 ^ 9) }.setCeremony (some { c with counts := c.counts.eraseIdx n })
      | none => s)
    | none => s)
/-- 300 s without a step, or 3,600 s from its opening. -/
def execCeremonyTimeout (s : State) : Out :=
  .next (match s.custody.ceremony with
    | some c =>
      let t := { s with mono := max s.mono (min (c.lastStep + 300 * 10 ^ 9) (c.opened + 3600 * 10 ^ 9)) }
      (t.scEvent St.ceremonyTimeout [c.id]).abandonCeremony St.ceremonyTimeout
    | none => s)

/-! ### RNG_TAP, RNG_READER_TIMEOUT (R325, R326, R329) -/

/-- A completed capture is read through partition 0, over a session or the service port, by RNG_TAP with a body of 16 bytes: OFFSET(8),
LEN(4) of at most 65,536, res(4). R329 names no command for it (log 122). -/
def State.tapRead (s : State) (q : Request) : State :=
  let b := q.body
  if allZero (b.drop 12) = false ∨ 65536 < leAt b 8 4 ∨ s.rng.tap.isSome then s.answer q St.rngTapRefused
  else s.answer q 0 (slice s.rng.capture (leAt b 0 8) (leAt b 8 4))
/-- In TEST freely, in PROVISIONED under a grant of non-key memory read; DEPLOYED needs the ceremony. -/
def execRngTap (s : State) : Out :=
  .next (s.command 0x0E09 fun t q =>
    let b := q.body
    if b.length = 16 ∧ (t.lifecycle = .test ∨ bit t.rights 3 = true) then t.tapRead q
    else if tapBodyOk b = false then t.answer q St.rngTapRefused
    else match t.lifecycle with
      | .test => if t.tapAllowed (leAt b 0 1) (leAt b 4 4) then (t.startTap (leAt b 0 1) (leAt b 4 4)).answer q 0 else t.answer q St.rngTapRefused
      | .provisioned =>
        if bit t.rights 3 ∧ t.tapAllowed (leAt b 0 1) (leAt b 4 4) then (t.startTap (leAt b 0 1) (leAt b 4 4)).answer q 0
        else t.answer q St.rngTapRefused
      | .deployed => t.answer q St.rngTapRefused
      | _ => t.answer q St.lcStateDenied)
/-- A backup key that cannot be drawn within 1 s ends the ceremony's step, and the token command that waits in it; the ceremony
stays open (R326, R404; log 62). -/
def State.backupStarved (s : State) : Option State :=
  match s.custody.ceremony with
  | some c =>
    if c.committed ∧ c.shares = [] then
      let now := max s.mono (c.drawAt + 10 ^ 9)
      let t := ({ s with mono := now }.setCeremony (some { c with drawAt := now })).scEvent St.rngStarved [12]
      some ((s.sc.waiting.filter fun w => match w.wait with | .token _ => w.req.verb == 0x0A02 | _ => false).foldl
        (fun u w => u.endWait w.req St.rngStarved) t)
    else none
  | none => none
/-- A received record whose IVs cannot be drawn within 1 ms is dropped: it is never acknowledged (R326, R362). -/
def State.recordStarved (s : State) : Option State :=
  match s.pair.recStall, s.pair.partialRec with
  | some t, (_, r) :: l =>
    some (({ s with mono := max s.mono (t + 10 ^ 6) }.setPair fun p =>
      { p with partialRec := l, recStall := none, lostCsn := some (min r.csn (p.lostCsn.getD r.csn)) }).scEvent St.rngStarved [12])
  | _, _ => none
/-- The security controller's draw at its limit: the first commit that waits for record IVs after 1 ms, an install step, the
command at the head of the queue or a backup key after 1 s, a received record or a handshake after 1 ms. -/
def State.scStarved (s : State) : State :=
  if s.scOn = false then s
  else if s.canDraw 12 then s
  else
    let hello := match s.helloStarved with | some t => t.scEvent St.rngStarved [12] | none => s
    let starve := fun (t : State) => t.scEvent St.rngStarved [12]
    match s.seq.waiting.find? fun w => decide (0 < ivRecords w.items) && !w.drawn && !s.held w with
    | some w => starve (({ s with mono := max s.mono (w.arrived + 10 ^ 6) }.dropWaiting w).refuseCommit w.src St.rngStarved none)
    | none =>
      match s.sc.waiting.find? fun w => match w.wait with
        | .install g _ => (match s.stage? g with | some x => x.validated && x.applying.isNone && drawsKeys x.items | none => false)
        | _ => false with
      | some w =>
        let since := match w.wait with | .install _ t => t | _ => 0
        starve ({ s with mono := max s.mono (since + 10 ^ 9) }.endWait w.req St.rngStarved (stageFail none))
      | none =>
        match s.sc.stall, s.sc.queue with
        | some t, q :: l =>
          if q.verb = 0x0B05 ∨ q.verb = 0x0A02 then
            starve ({ s with mono := max s.mono (t + 10 ^ 9), sc := { s.sc with queue := l, stall := none } }.answer q St.rngStarved)
          else hello
        | _, _ =>
          match s.backupStarved with
          | some t => t
          | none => match s.recordStarved with | some t => t | none => hello
/-- A stalled read ends at its reader's limit: an invocation after 1 ms, also where every short-block unit of its cluster stands
still for a mask seed (R136, R279); the controller's functions by R326. -/
def execRngReaderTimeout (c : CoreId) (s : State) : Out :=
  .next (match c with
    | .sc =>
      (match s.core? .sc with
      | some k => (match k.wait with
        | .random t => if s.canDraw 12 then s.scStarved
            else ({ s with mono := max s.mono (t + 10 ^ 6) }.scEvent St.rngStarved [12]).endWith .sc k St.rngStarved []
        | _ => s.scStarved)
      | none => s.scStarved)
    | .tx n m =>
      match s.core? (.tx n m) with
      | some k =>
        let starve := fun (t : Nat) =>
          ({ s with mono := max s.mono (t + 10 ^ 6) }.event n St.rngStarved [n]).endWith (.tx n m) k St.rngStarved []
        (match k.wait with
        | .random t => if s.canDraw n then s else starve t
        | .unit t _ => (match getK n s.clusters with
          | some x => if x.sbus.all (·.stalled.isSome) then starve t else s
          | none => s)
        | _ => s)
      | none => s)

end Sys2Proof.Machine
end

