-- ==== Sys2Proof/Machine/DataVerbs.lean ====
section
/-! DEFINITION. The data protection and tokenisation verbs (06 R213 to R216; 08 R267, R276, R277). -/

namespace Sys2Proof.Machine

/-! ### DATA_ENCRYPT and DATA_DECRYPT (R213, R214) -/

/-- The lane mode of a verb's MODE: CBC, CTR, GCM, CCM. -/
def laneMode (mode : Nat) (enc : Bool) : Nat :=
  match mode with
  | 1 => if enc then 1 else 2
  | 2 => 3
  | 3 => if enc then 4 else 5
  | _ => if enc then 6 else 7
/-- The usage R184 demands: CBC, GCM and CCM by direction, CTR both bits. -/
def modeUsage (mode : Nat) (enc : Bool) : BitVec 16 := if mode = 2 then uEnc ||| uDecClear else if enc then uEnc else uDecClear
/-- A CTR job whose counter would pass 2^128 − 1 (R285). -/
def ctrWraps (mode : Nat) (iv : Bytes) (n : Nat) : Bool := mode == 2 && decide (2 ^ 128 < beNat iv + cdiv n 16)
/-- The request body in form: `enc` of DATA_ENCRYPT; what depends on the key's type is checked with the key. -/
def dataOk (b : Bytes) (enc : Bool) : Bool :=
  let mode := leAt b 8 1
  let tag := leAt b 9 1
  let ivk := leAt b 10 1
  let n := leAt b 12 4
  let aad := leAt b 16 4
  let gcm := mode == 3
  decide (64 ≤ b.length) && decide (1 ≤ mode ∧ mode ≤ 3) && decide (1 ≤ n ∧ n ≤ 12288) && decide (aad ≤ 4096) &&
  b.length == 64 + pad16 aad + n && leAt b 0 8 != 0 && res b 11 1 && res b 20 12 && res b (64 + aad) (pad16 aad - aad) &&
  (if gcm then decide (12 ≤ tag ∧ tag ≤ 16) && res b 44 4 else tag == 0 && aad == 0) &&
  (ivk == 0 || (ivk == 1 && gcm && enc)) && (mode != 1 || n % 8 == 0) && !ctrWraps mode (slice b 32 16) n
/-- 0 DATA_LEN(4), 4 res(12), 16 IV(16), 32 TAG(16), 48 DATA. -/
def dataAnswer (iv tag d : Bytes) : Bytes := leBytes 4 d.length ++ zeros 12 ++ fit 16 iv ++ fit 16 tag ++ d
/-- TDES CBC runs on the short-block units, and so do AES CBC and CTR with at most 256 bytes (R214). -/
def onUnits (mode t n : Nat) : Bool := isTdes t || (mode != 3 && decide (n ≤ 256))
/-- One body verb. -/
def dataVerb (s : State) (c : CoreId) (k : Core) (enc : Bool) : VerbAct :=
  let b := k.req.body
  let mode := leAt b 8 1
  let tagB := leAt b 9 1
  let ivk := leAt b 10 1 == 1
  let n := leAt b 12 4
  let aad := slice b 64 (leAt b 16 4)
  let d := b.drop (64 + pad16 (leAt b 16 4))
  let iv := slice b 32 16
  if dataOk b enc = false then badBody s
  else s.onLane c
    (useRef s c k (leAt b 0 8) (if mode = 1 then isSym else isAes) (modeUsage mode enc) fun s1 h =>
      let t := h.key.attrs.keyType
      if mode = 1 ∧ n % blockLen t ≠ 0 then badBody s1
      else if onUnits mode t n then onSbu s1 c k (cdiv n (blockLen t)) fun s2 =>
        let key := keyBytes h.key
        let o := if mode = 2 then ctr key iv d
          else if enc then cbcEnc t key (iv.take (blockLen t)) d else cbcDec t key (iv.take (blockLen t)) d
        good s2 (dataAnswer iv [] o)
      else s1.startLane c k (laneMode mode enc) tagB false ivk h (if mode = 3 then iv.take 12 else iv) (slice b 48 16) aad d n)
    fun j st => if st = 0 then good s (dataAnswer j.iv (if enc then j.tag else []) j.output) else .ends s st []

def execDataEncrypt (c : CoreId) (s : State) : Out := .next (s.verb c 0x0601 fun k => dataVerb s c k true)
def execDataDecrypt (c : CoreId) (s : State) : Out := .next (s.verb c 0x0602 fun k => dataVerb s c k false)

/-! ### BULK_ENCRYPT and BULK_DECRYPT (R215) -/

/-- IV_LEN by mode: GCM 12, CCM 7 to 13, CBC and CTR 16, 0 with IV_FROM_KEY. -/
def bulkIvOk (mode ivLen : Nat) (ivk : Bool) : Bool :=
  if ivk then ivLen == 0 else if mode = 3 then ivLen == 12 else if mode = 4 then decide (7 ≤ ivLen ∧ ivLen ≤ 13) else ivLen == 16
/-- TAG_LEN by mode: GCM 12 to 16, CCM 4 to 16 even, else 0. -/
def bulkTagOk (mode tag : Nat) : Bool :=
  if mode = 3 then decide (12 ≤ tag ∧ tag ≤ 16) else if mode = 4 then decide (4 ≤ tag ∧ tag ≤ 16) && tag % 2 == 0 else tag == 0
/-- The body in form; the BULK flag is demanded, and the payload lies within the mode's limits. -/
def bulkOk (q : Request) (enc : Bool) : Bool :=
  let b := q.body
  let mode := leAt b 8 1
  let ivk := leAt b 10 1
  let aad := leAt b 12 4
  q.bulk && decide (48 ≤ b.length) && b.length == 48 + aad && leAt b 0 8 != 0 && decide (1 ≤ mode ∧ mode ≤ 4) &&
  (ivk == 0 || (ivk == 1 && mode == 3 && enc)) && bulkIvOk mode (leAt b 11 1) (ivk == 1) && bulkTagOk mode (leAt b 9 1) &&
  decide (aad ≤ 8192) && (mode == 3 || mode == 4 || aad == 0) && (mode != 3 || res b 28 4) &&
  laneLengthOk (laneMode mode enc) q.payloadLen (leAt b 11 1) (slice b 16 16)
/-- One bulk verb: the IV goes to OUT, then one STREAM job takes the payload; the verb ends with the job. -/
def bulkVerb (s : State) (c : CoreId) (k : Core) (enc : Bool) : VerbAct :=
  let b := k.req.body
  let mode := leAt b 8 1
  let ivk := leAt b 10 1 == 1
  let iv := slice b 16 (leAt b 11 1)
  if bulkOk k.req enc = false then badBody s
  else s.onLane c
    (useRef s c k (leAt b 0 8) isAes (modeUsage mode enc) fun s1 h =>
      s1.startLane c (k.storeBytes .out 0 (fit 16 iv)) (laneMode mode enc) (leAt b 9 1) true ivk h iv (slice b 32 16) (b.drop 48) []
        k.req.payloadLen)
    fun _ st => .ends s st []

def execBulkEncrypt (c : CoreId) (s : State) : Out := .next (s.verb c 0x0603 fun k => bulkVerb s c k true)
def execBulkDecrypt (c : CoreId) (s : State) : Out := .next (s.verb c 0x0604 fun k => bulkVerb s c k false)

/-! ### TOKENISE and DETOKENISE (R216) -/

/-- The numeral of an ASCII character: digits, then lowercase letters. -/
def charDigit (b : Byte) : Option Nat :=
  let n := b.toNat
  if 48 ≤ n ∧ n ≤ 57 then some (n - 48) else if 97 ≤ n ∧ n ≤ 122 then some (n - 87) else none
def digitChar (n : Nat) : Byte := BitVec.ofNat 8 (if n < 10 then 48 + n else 87 + n)
def inRadix (r : Nat) (b : Byte) : Bool := match charDigit b with | some d => decide (d < r) | none => false
/-- The numerals of a text within a radix. -/
def numerals (l : Bytes) : List Nat := l.filterMap charDigit
/-- The domain's length in the range of R200. -/
def domainOk (radix n : Nat) : Bool := if radix = 10 then decide (6 ≤ n ∧ n ≤ 56) else decide (4 ≤ n ∧ n ≤ 36)
def tokenOk (b : Bytes) : Bool :=
  let radix := leAt b 8 1
  let head := leAt b 9 1
  let tail := leAt b 10 1
  let n := leAt b 12 1
  b.length == 112 && leAt b 0 8 != 0 && (radix == 10 || radix == 36) && decide (head ≤ 8) && decide (tail ≤ 4) &&
  decide (leAt b 11 1 ≤ 32) && decide (n ≤ 64) && res b 13 3 && decide (head + tail ≤ n) && domainOk radix (n - head - tail) &&
  (slice b 48 n).all (inRadix radix) && res b (48 + n) (64 - n)
/-- Blocks of FF1: 10 rounds, each a chain over tweak, padding and half domain. -/
def ff1Blocks (radix n tweak : Nat) : Nat :=
  let half := cdiv (bitLen (radix ^ cdiv n 2 - 1)) 8
  10 * (1 + cdiv (tweak + 1 + half) 16)
def tokenVerb (s : State) (c : CoreId) (k : Core) (usage : BitVec 16)
    (f : Bytes → Nat → Bytes → List Nat → List Nat) : VerbAct :=
  let b := k.req.body
  let radix := leAt b 8 1
  let head := leAt b 9 1
  let n := leAt b 12 1
  let m := n - head - leAt b 10 1
  let tweak := slice b 16 (leAt b 11 1)
  let text := slice b 48 n
  if tokenOk b = false then badBody s
  else useRef s c k (leAt b 0 8) isAes usage fun s1 h => onSbu s1 c k (ff1Blocks radix m tweak.length) fun s2 =>
    let o := fit m ((f (keyBytes h.key) radix tweak (numerals (slice text head m))).map digitChar)
    good s2 (leBytes 1 n ++ zeros 15 ++ fit 64 (text.take head ++ o ++ text.drop (head + m)))

def execTokenise (c : CoreId) (s : State) : Out := .next (s.verb c 0x0605 fun k => tokenVerb s c k uEnc Config.ff1Encrypt)
def execDetokenise (c : CoreId) (s : State) : Out := .next (s.verb c 0x0606 fun k => tokenVerb s c k uDecClear Config.ff1Decrypt)

/-! ### DATA_WRAP and DATA_UNWRAP (R200, R214) -/

/-- KEY, LEN, reserved, DATA of LEN bytes. -/
def wrapBodyOk (b : Bytes) : Bool := decide (16 ≤ b.length) && b.length == 16 + leAt b 8 4 && leAt b 0 8 != 0 && res b 12 4
/-- Block operations of KWP on `n` bytes of data. -/
def kwpBlocks (n : Nat) : Nat := if n ≤ 8 then 1 else 6 * cdiv n 8

def execDataWrap (c : CoreId) (s : State) : Out :=
  .next (s.verb c 0x0607 fun k =>
    let b := k.req.body
    let n := leAt b 8 4
    if wrapBodyOk b = false ∨ n = 0 ∨ 4096 < n then badBody s
    else useRef s c k (leAt b 0 8) isAes uEnc fun s1 h => onSbu s1 c k (kwpBlocks n) fun s2 =>
      good s2 (dataOut (fit (pad8 n + 8) (Config.kwpWrap (keyBytes h.key) (b.drop 16)))))

def execDataUnwrap (c : CoreId) (s : State) : Out :=
  .next (s.verb c 0x0608 fun k =>
    let b := k.req.body
    let n := leAt b 8 4
    if wrapBodyOk b = false ∨ n < 16 ∨ 4104 < n ∨ n % 8 ≠ 0 then badBody s
    else useRef s c k (leAt b 0 8) isAes uDecClear fun s1 h => onSbu s1 c k (kwpBlocks n) fun s2 =>
      match Config.kwpUnwrap (keyBytes h.key) (b.drop 16) with
      | none => .ends s2 St.integrityCheckFailed []
      | some l => good s2 (dataOut (l.take (n - 8))))

end Sys2Proof.Machine
end

