-- ==== Sys2Proof/Machine/DukptVerbs.lean ====
section
/-! DEFINITION. The DUKPT verbs (06 R210, R211). The derivation data of X9.24-3 is that of the standard (PRESUMED, log 17). -/

namespace Sys2Proof.Machine

/-! ### AES DUKPT -/

/-- The algorithm indicator of a key type: 2TDEA, 3TDEA, AES-128, -192, -256. -/
def dukptAlg (t : Nat) : Nat := t - 1
/-- Derivation data: version, key block counter, usage indicator, algorithm, length in bits, 8 bytes of identification. -/
def dukptData (usage t : Nat) (id : Bytes) : Bytes :=
  [1, 1] ++ beBytes 2 usage ++ beBytes 2 (dukptAlg t) ++ beBytes 2 (8 * symLen t) ++ fit 8 id
/-- One derivation (kdrv 0x01). -/
def dukptStep (pt : Nat) (key : Bytes) (usage t : Nat) (id : Bytes) : Bytes :=
  deriveBytes 1 pt key (dukptData usage t id) { keyType := t } 0
/-- The intermediate keys for the set bits of the counter, highest first. -/
def dukptWalk (t : Nat) (derId : Bytes) (ctr : Nat) : List Nat → (acc : Nat) → Bytes → Bytes
  | [], _, key => key
  | i :: l, acc, key =>
    if ctr.testBit i then dukptWalk t derId ctr l (acc + 2 ^ i) (dukptStep t key 0x8000 t (derId ++ beBytes 4 (acc + 2 ^ i)))
    else dukptWalk t derId ctr l acc key
def highBits (n : Nat) : List Nat := (List.range n).reverse
/-- The initial key of a BDK for a KSN's BDK ID and derivation ID. -/
def dukptInitialAes (bt : Nat) (bdk ksn : Bytes) (t : Nat) : Bytes := dukptStep bt bdk 0x8001 t (ksn.take 8)
/-- A working key of a BDK for a KSN. -/
def dukptAesKey (bt : Nat) (bdk ksn : Bytes) (usage t : Nat) : Bytes :=
  let derId := slice ksn 4 4
  let ctr := beNat (slice ksn 8 4)
  let k := dukptWalk bt derId ctr (highBits 32) 0 (dukptInitialAes bt bdk ksn bt)
  dukptStep bt k usage t (derId ++ beBytes 4 ctr)
/-- Set bits of a counter. -/
def setBits (n w : Nat) : Nat := ((List.range w).filter fun i => n.testBit i).length
/-- A counter within R200: not 0, at most 16 set bits for AES, 10 for TDES. -/
def aesKsnOk (ksn : Bytes) : Bool := let n := beNat (slice ksn 8 4); n != 0 && decide (setBits n 32 ≤ 16)
/-- Blocks that a derivation takes on a short-block unit. -/
def dukptAesBlocks (ksn : Bytes) : Nat := 2 * (setBits (beNat (slice ksn 8 4)) 32 + 2)

/-! ### TDES DUKPT -/

/-- The 21-bit counter at the end of an 80-bit KSN. -/
def tdesCtr (ksn : Bytes) : Nat := beNat (ksn.take 10) % 2 ^ 21
def tdesKsnOk (ksn : Bytes) : Bool := tdesCtr ksn != 0 && decide (setBits (tdesCtr ksn) 21 ≤ 10)
/-- The initial key: the KSN's first 8 bytes with the counter's bits in them cleared. -/
def dukptInitialTdes (bdk ksn : Bytes) : Bytes :=
  fit 16 (Config.dukptInitial bdk (beBytes 8 (beNat (ksn.take 10) / 2 ^ 21 * 2 ^ 5)))
/-- Non-reversible key generation for each set bit, highest first, on the last 8 bytes of the KSN. -/
def tdesWalk (base ctr : Nat) : List Nat → (acc : Nat) → Bytes → Bytes
  | [], _, key => key
  | i :: l, acc, key =>
    if ctr.testBit i then tdesWalk base ctr l (acc + 2 ^ i) (fit 16 (Config.dukptNrkg key (beBytes 8 (base + acc + 2 ^ i))))
    else tdesWalk base ctr l acc key
def dukptTdesKey (bdk ksn : Bytes) (variant dir : Nat) : Bytes :=
  let n := beNat (ksn.take 10)
  fit 16 (Config.dukptVariant variant dir
    (tdesWalk (n % 2 ^ 64 / 2 ^ 21 * 2 ^ 21) (tdesCtr ksn) (highBits 21) 0 (dukptInitialTdes bdk ksn)))
def dukptTdesBlocks (ksn : Bytes) : Nat := 2 * (setBits (tdesCtr ksn) 21 + 2)

/-! ### Common -/

/-- A base derivation key is loaded: DERIVE, class 1 or 2 (R240). -/
def useBdk (s : State) (c : CoreId) (k : Core) (ref : Nat) (typeOk : Nat → Bool) (f : State → Handle → VerbAct) : VerbAct :=
  useRef s c k ref typeOk uDerive fun t h =>
    if deriveClass h.key.attrs ≠ 1 ∧ deriveClass h.key.attrs ≠ 2 then .ends t St.keyTemplateDenied [] else f t h
def isTdes2 (t : Nat) : Bool := t == 1

/-- The translation once the source key is at hand (R205, R206). -/
def translateFrom (s : State) (c : CoreId) (k : Core) (sf : Nat) (key blk pan : Bytes) (df : Nat) (w : Handle) : VerbAct :=
  match readPin sf key blk (panField sf (panDigits pan)) with
  | none => good s (pinAnswer 2 [])
  | some canon => writePin s c k df (keyBytes w.key) canon (panField df (panDigits pan)) fun t out => good t (pinAnswer 0 out)

def execDukptAesPinTranslate (c : CoreId) (s : State) : Out :=
  .next (s.verb c 0x0401 fun k =>
    let b := k.req.body
    let ksn := slice b 48 12
    let wt := leAt b 60 1
    let df := leAt b 61 1
    if b.length ≠ 64 ∨ leAt b 0 8 = 0 ∨ leAt b 8 8 = 0 ∨ res b 62 2 = false ∨ aesKsnOk ksn = false ∨ isAes wt = false ∨
        df ≠ 4 ∨ panOk (slice b 32 16) true = false then badBody s
    else useBdk s c k (leAt b 0 8) isAes fun s1 h => loadRef s1 c k (leAt b 8 8) fun s2 w =>
      demand s2 w (pinKeyType df) uPinEnc (onSbu s2 c k (dukptAesBlocks ksn + 2) fun s3 =>
        translateFrom s3 c k 4 (dukptAesKey h.key.attrs.keyType (keyBytes h.key) ksn 0x1000 wt) (slice b 16 16) (slice b 32 16) df w))

/-- A DATA_LEN of a decrypt verb: whole blocks, up to 4,096 bytes. -/
def cbcLenOk (n blk : Nat) : Bool := decide (blk ≤ n ∧ n ≤ 4096) && n % blk == 0
/-- The usage indicator of DATA_USAGE 0, 1, 2: both ways, encrypt, decrypt. -/
def dataIndicator (u : Nat) : Nat := if u = 0 then 0x3002 else if u = 1 then 0x3000 else 0x3001

def execDukptAesDecrypt (c : CoreId) (s : State) : Out :=
  .next (s.verb c 0x0402 fun k =>
    let b := k.req.body
    let ksn := slice b 8 12
    let wt := leAt b 20 1
    let u := leAt b 21 1
    let n := leAt b 24 4
    if b.length ≠ 48 + n ∨ leAt b 0 8 = 0 ∨ isSym wt = false ∨ 2 < u ∨ res b 22 2 = false ∨ res b 28 4 = false ∨
        cbcLenOk n (blockLen wt) = false ∨ aesKsnOk ksn = false then badBody s
    else useBdk s c k (leAt b 0 8) isAes fun s1 h =>
      onSbu s1 c k (dukptAesBlocks ksn + n / blockLen wt) fun s2 =>
        let key := dukptAesKey h.key.attrs.keyType (keyBytes h.key) ksn (dataIndicator u) wt
        good s2 (dataOut (cbcDec wt key (slice b 32 (blockLen wt)) (b.drop 48))))

def execDukptAesMacVerify (c : CoreId) (s : State) : Out :=
  .next (s.verb c 0x0403 fun k =>
    let b := k.req.body
    let ksn := slice b 8 12
    let wt := leAt b 20 1
    let len := leAt b 21 1
    let n := leAt b 24 4
    -- algorithm 3 takes a double-length key: a three-key working key is refused (R200, log 44)
    if b.length ≠ 48 + n ∨ leAt b 0 8 = 0 ∨ isSym wt = false ∨ wt = 2 ∨ len < 4 ∨ blockLen wt < len ∨ res b 22 2 = false ∨
        res b 28 4 = false ∨ n = 0 ∨ 8192 < n ∨ aesKsnOk ksn = false then badBody s
    else useBdk s c k (leAt b 0 8) isAes fun s1 h =>
      onSbu s1 c k (dukptAesBlocks ksn + cdiv n (blockLen wt)) fun s2 =>
        let key := dukptAesKey h.key.attrs.keyType (keyBytes h.key) ksn 0x2001 wt
        let m := if isAes wt then cmac wt key (b.drop 48) else alg3Mac key (isoPad 1 8 (b.drop 48))
        good s2 (resultWord (if m.take len = slice b 32 len then 0 else 1) 0))

def execDukptTdesPinTranslate (c : CoreId) (s : State) : Out :=
  .next (s.verb c 0x0404 fun k =>
    let b := k.req.body
    let ksn := slice b 48 10
    let df := leAt b 58 1
    if b.length ≠ 64 ∨ leAt b 0 8 = 0 ∨ leAt b 8 8 = 0 ∨ res b 59 5 = false ∨ tdesKsnOk ksn = false ∨
        pinBlockOk 0 (slice b 16 16) = false ∨ pinFormatOk df = false ∨ panOk (slice b 32 16) true = false then badBody s
    else useBdk s c k (leAt b 0 8) isTdes2 fun s1 h => loadRef s1 c k (leAt b 8 8) fun s2 w =>
      demand s2 w (pinKeyType df) uPinEnc (onSbu s2 c k (dukptTdesBlocks ksn + 1) fun s3 =>
        translateFrom s3 c k 0 (dukptTdesKey (keyBytes h.key) ksn 0 0) (slice b 16 16) (slice b 32 16) df w))

def execDukptTdesDecrypt (c : CoreId) (s : State) : Out :=
  .next (s.verb c 0x0405 fun k =>
    let b := k.req.body
    let ksn := slice b 8 10
    let u := leAt b 18 1
    let n := leAt b 24 4
    if b.length ≠ 48 + n ∨ leAt b 0 8 = 0 ∨ 1 < u ∨ res b 19 5 = false ∨ res b 28 4 = false ∨ res b 40 8 = false ∨
        cbcLenOk n 8 = false ∨ tdesKsnOk ksn = false then badBody s
    else useBdk s c k (leAt b 0 8) isTdes2 fun s1 h =>
      onSbu s1 c k (dukptTdesBlocks ksn + n / 8) fun s2 =>
        good s2 (dataOut (cbcDec 1 (dukptTdesKey (keyBytes h.key) ksn 2 u) (slice b 32 8) (b.drop 48))))

def execDukptTdesMacVerify (c : CoreId) (s : State) : Out :=
  .next (s.verb c 0x0406 fun k =>
    let b := k.req.body
    let ksn := slice b 8 10
    let u := leAt b 18 1
    let len := leAt b 19 1
    let n := leAt b 24 4
    if b.length ≠ 48 + n ∨ leAt b 0 8 = 0 ∨ 1 < u ∨ len < 4 ∨ 8 < len ∨ res b 20 4 = false ∨ res b 28 4 = false ∨
        res b 40 8 = false ∨ n = 0 ∨ 8192 < n ∨ tdesKsnOk ksn = false then badBody s
    else useBdk s c k (leAt b 0 8) isTdes2 fun s1 h =>
      onSbu s1 c k (dukptTdesBlocks ksn + cdiv n 8) fun s2 =>
        let m := alg3Mac (dukptTdesKey (keyBytes h.key) ksn 1 u) (isoPad 1 8 (b.drop 48))
        good s2 (resultWord (if m.take len = slice b 32 len then 0 else 1) 0))

/-- The initial key as a key: DERIVE and EXPORT, class 2; its masks are those the world may give (log 45). -/
def initialKey (k : Core) (h : Handle) (t : Nat) (m : Bytes) : KeyMat :=
  keyFromTemplate k.partition (sourceParent h)
    { keyType := t, usage := uDerive ||| uExport, worldMask := worldMaskAllowed k.world k.partition, lcMask := 7, flags := 2 } m

def execDukptInitialKey (c : CoreId) (s : State) : Out :=
  .next (s.verb c 0x0407 fun k =>
    let b := k.req.body
    let ksn := slice b 16 12
    let scheme := leAt b 28 1
    let wt := leAt b 29 1
    let form := if scheme = 1 then isAes wt && aesKsnOk ksn else scheme == 2 && wt == 0 && res b 26 2 && tdesKsnOk ksn
    if b.length ≠ 32 ∨ leAt b 0 8 = 0 ∨ leAt b 8 8 = 0 ∨ res b 30 2 = false ∨ form = false then badBody s
    else useBdk s c k (leAt b 0 8) (if scheme = 1 then isAes else isTdes2) fun s1 h =>
      useRef s1 c k (leAt b 8 8) isSym uWrap fun s2 w => onSbu s2 c k 2 fun s3 =>
        let key := if scheme = 1 then initialKey k h wt (dukptInitialAes h.key.attrs.keyType (keyBytes h.key) ksn wt)
          else initialKey k h 1 (dukptInitialTdes (keyBytes h.key) ksn)
        exportAs s3 c k w key fun s4 l => good s4 (blockField l))

end Sys2Proof.Machine
end

