-- ==== Sys2Proof/Machine/GuestCommands.lean ====
section
/-! DEFINITION. Guestbook, clock and dump commands, fatal errors and their reset (17 R486, R495, R497 to R507). -/

namespace Sys2Proof.Machine

/-! ### Items (R481, R482, R489) -/

/-- The periodic metrics that are figures of the state: healthy sources, awake clusters, KiB of burst queue and MiB of spill in
use, open sessions, lines of the untrimmed journal. Die temperature and input power are measured (log 114). -/
def State.periodic (s : State) (m : Nat) : Option Nat :=
  match m with
  | 19 => some s.rng.healthy
  | 22 => some (s.clusters.filter fun e => e.2.power != .gated).length
  | 23 => some (((s.disp.queued.filter fun q => !q.spilled).map (·.charge)).sum / 1024)
  | 24 => some (s.spillTotal / 2 ^ 20)
  | 25 => some (s.net.sessions.filter fun x => x.live).length
  | 26 => some s.journalLines
  | _ => none
/-- The FIFO that takes the samples that no rule's effect forms: key fill waits and session lookups go to a cluster's, the periodic metrics
to the security controller's (R489). -/
def sampleFits (fifo m : Nat) : Bool :=
  (decide (m = 15 ∨ m = 16) && decide (fifo < 12)) || (decide (19 ≤ m ∧ m ≤ 26) && fifo == 16)
def execTapItemWrite (fifo : Nat) (src : TapSrc) (whole : Bool) (s : State) : Out :=
  .next (if s.fifoExists fifo = false then s
    else
      match src with
      | .raised => match takeFormed fifo s.raised with
        | some (e, l) => { s with raised := l }.tapArrive fifo e.item whole
        | none => s
      | .formed => match takeFormed fifo s.samples with
        | some (it, l) => { s with samples := l }.tapArrive fifo it whole
        | none => s
      | .sample m v => if sampleFits fifo m then s.tapArrive fifo (sampleItem m ((s.periodic m).getD v) s.mono) whole else s
      | .rest => match (s.fifo fifo).staging with
        | some it => s.tapWrite fifo it
        | none => s
      | .reset w => match (s.fifo fifo).staging with
        | some it =>
          if 1 ≤ w ∧ w < it.words then
            let t := s.tapWrite fifo { it with words := w, truncated := true, args := it.args.take (w - 3) }
            (t.setFifo fifo { t.fifo fifo with truncSeen := true }).scEvent St.tapItemTruncated [fifo]
          else s
        | none => s)
/-- The Guestbook reads; a debug reader reads through the open JTAG gate (R430, R483). -/
def execGuestbookRead (fifo : Nat) (reader : TapReader) (s : State) : Out :=
  .next (match reader with
    | .guestbook ecc => s.guestRead fifo ecc
    | .debug => if s.jtagOpen ∧ s.fifoExists fifo then s.setFifo fifo (s.fifo fifo).debugRead else s)

/-! ### Guestbook commands (R495, R507) -/

/-- The records still held, oldest first. -/
def Guest.held (g : Guest) : List WindowRecord := g.records.filter fun r => decide (g.cleared ≤ r.seq)
/-- OLDEST_SEQ is unstated while no record is held: a free value (log 36). -/
def State.oldestSeq (s : State) : Nat × State :=
  match s.guest.held with
  | r :: _ => (r.seq, s)
  | [] => (Config.freeNat s.freeCtr, { s with freeCtr := s.freeCtr + 1 })
def execGbStatus (s : State) : Out :=
  .next (s.command 0x0E01 fun t q =>
    let g := t.guest
    if q.body ≠ [] then t.answer q St.diagMalformed
    else
      let o := t.oldestSeq
      o.2.answer q 0 (leBytes 4 g.held.length ++ leBytes 4 819 ++ leBytes 8 g.nextSeq ++ leBytes 8 o.1 ++ leBytes 4 g.dropped ++
        leBytes 1 (b2n g.full) ++ [0, 0, 0] ++ leBytes 4 g.wallEpoch ++ leBytes 1 (b2n !g.wallKnown) ++ [0, 0, 0] ++
        leBytes 8 (g.wallAt t.mono) ++ leBytes 8 t.mono))
def execGbRead (s : State) : Out :=
  .next (s.command 0x0E02 fun t q =>
    let n := leAt q.body 8 1
    if q.body.length ≠ 16 ∨ allZero (q.body.drop 9) = false ∨ n = 0 ∨ 3 < n then t.answer q St.diagMalformed
    else
      let l := (t.guest.held.filter fun r => decide (leAt q.body 0 8 ≤ r.seq)).take n
      t.answer q 0 (leBytes 1 l.length ++ List.replicate 7 0 ++ l.flatMap windowBytes))
/-- CLEARED_BELOW rises and goes to the header's next line; a slot freed where the next record goes makes room again. -/
def State.clearBelow (s : State) (n : Nat) : State :=
  let g := { s.guest with cleared := max s.guest.cleared n, headerSeq := s.guest.headerSeq + 1 }
  { s with guest := { g with full := g.full && g.slotTaken g.writeSlot } }.scEvent St.guestbookCleared [n]
def execGbClear (s : State) : Out :=
  .next (s.signal <| s.command 0x0E03 fun t q =>
    let n := leAt q.body 0 8
    if q.body.length ≠ 8 ∨ t.guest.nextSeq < n then t.answer q St.diagMalformed
    else (t.clearBelow n).answer q 0)

/-! ### CLOCK_SET (R497, R498) -/

/-- The epoch that a new wall time carries. -/
def Guest.epochFor (g : Guest) (wall now : Nat) : Nat :=
  if g.wallKnown ∧ g.wallAt now ≤ wall then g.wallEpoch else g.wallEpoch + 1
/-- The one-item commit of CLOCK_SET is made; its outcome is the command's. -/
def State.setClock (s : State) (q : Request) (wall : Nat) : State :=
  let items := [CItem.wallClock wall (s.guest.epochFor wall s.mono)]
  let w : PendingCommit := { src := .clock q, ticket := q.ticket, partition := 0, items := items, lines := recordLines items,
                             arrived := s.mono }
  ({ s with guest := { s.guest with lastSet := some s.mono } }.queueCommit w).await q .commit
def execClockSet (s : State) : Out :=
  .next (s.command 0x0E04 fun t q =>
    if q.body.length ≠ 8 then t.answer q St.diagMalformed
    else if t.serves = false then t.answer q St.pairStandby
    else if (match t.guest.lastSet with | some m => decide (t.mono < m + 10 ^ 9) | none => false) then t.answer q St.clockSetTooSoon
    else t.setClock q (leAt q.body 0 8))

/-! ### Dump commands (R504, R505, R507) -/

def State.dumpSlot (s : State) (n : Nat) : DumpSlot := if n = 0 then s.guest.fatal else s.guest.diverged
/-- A slot's stream as blocks, its STATE byte as it stands now. -/
def DumpSlot.blocks (d : DumpSlot) : Bytes := dumpBlocks (d.stream.take 40 ++ leBytes 1 d.state ++ d.stream.drop 41)
def execDumpStatus (s : State) : Out :=
  .next (s.command 0x0E05 fun t q =>
    let g := t.guest
    if q.body ≠ [] then t.answer q St.diagMalformed
    else t.answer q 0 (leBytes 1 g.fatal.state ++ leBytes 1 g.diverged.state ++ List.replicate 6 0 ++ leBytes 8 g.fatal.seq ++
      leBytes 8 g.diverged.seq ++ leBytes 4 g.fatal.stream.length ++ leBytes 4 g.diverged.stream.length ++ fit 4096 g.summary))
def execDumpRead (s : State) : Out :=
  .next (s.command 0x0E06 fun t q =>
    let b := q.body
    let d := t.dumpSlot (leAt b 0 1)
    let n := leAt b 4 4
    let o := leAt b 8 8
    if b.length ≠ 16 ∨ 1 < leAt b 0 1 ∨ allZero (slice b 1 3) = false ∨ n % 4096 ≠ 0 ∨ o % 4096 ≠ 0 ∨ 65536 < n then
      t.answer q St.diagMalformed
    else if d.state = 0 then t.answer q St.dumpNotAvailable
    else t.answer q 0 (slice d.blocks o n))
def execDumpRelease (s : State) : Out :=
  .next (s.signal <| s.command 0x0E07 fun t q =>
    let b := q.body
    let n := leAt b 0 1
    if b.length ≠ 8 ∨ 1 < n ∨ allZero (b.drop 1) = false then t.answer q St.diagMalformed
    else if (t.dumpSlot n).state = 0 then t.answer q St.dumpNotAvailable
    else if n = 0 then { t with guest := { t.guest with fatal := { t.guest.fatal with state := 2 } } }.answer q 0
    else { t with guest := { t.guest with diverged := { t.guest.diverged with state := 2 } } }.answer q 0)
def execTapFlush (s : State) : Out :=
  .next (s.command 0x0E08 fun t q =>
    let n := leAt q.body 0 1
    if q.body.length ≠ 8 ∨ allZero (q.body.drop 1) = false ∨ t.fifoExists n = false then t.answer q St.diagMalformed
    else (t.tapFlush n).answer q 0)

/-! ### Fatal errors (R500 to R506) -/

/-- Whether the firmware with its fatal handler runs. -/
def State.handlerRuns (s : State) : Bool := match s.sc.mode with | .running => true | .recovery => true | _ => false
/-- Key material and the state of cores and engines are wiped; trunk and memory encryption key stay. -/
def State.fatalWipe (s : State) : State :=
  let bare := s.custody.ceremony.map fun (c : Ceremony) =>
    { c with components := [], shares := [], shareRecords := [], upload := [], result := [], body := [] }
  { s with egress := [], cores := [], clusters := [], expanders := [], store := {}, lneJobs := [], lnes := [], laneJobs := []
           lanes := [], bulk := [], net := { s.net with sessions := [], hellos := [], cookieKey := none }
           custody := { s.custody with ceremony := bare, last := none }
           sc := { s.sc with mode := .off, queue := [], points := [], waiting := [], identity := none } }
/-- A fatal error takes its number and its time. -/
def State.fatalCount (s : State) : State :=
  { s with guest := { s.guest with dumpSeq := s.guest.dumpSeq + 1, fatalTimes := (s.mono :: s.guest.fatalTimes).take 3 } }
/-- The dump goes to the fatal slot where its STATE is 0 or 2; the summary is kept either way. -/
def State.writeDump (s : State) (cause : Nat) : State :=
  let g := s.guest
  let free := g.fatal.state != 1
  let str := s.fatalStream cause
  let u := s.control 2 64
  { u with freeCtr := s.freeCtr + 4
           guest := { g with fatal := if free then { state := 1, seq := g.dumpSeq, stream := str } else g.fatal
                             dumpSkipped := !free, summary := dumpSummary str } }
/-- An error within the handler: the dump that it wrote, and the summary, end as NESTED. -/
def State.nestDump (s : State) (cause : Nat) : State :=
  let g := s.guest
  { s with guest := { g with
      fatal := if g.dumpSkipped then g.fatal else { state := 1, seq := g.dumpSeq, stream := s.nestedStream cause g.fatal.stream }
      summary := dumpSummary (s.nestedStream cause (g.summary.take 4092)) } }
/-- The handler from the detection to the summary. -/
def State.fatalError (s : State) (cause : Nat) : State :=
  if cause < 1 ∨ 6 < cause then s
  else match s.guest.inFatal with
  | some first => ((s.fatalCount).latchFatal 16 St.fatalError [cause]).nestDump first
  | none =>
    if s.handlerRuns = false then s
    else
      let u := s.fatalCount.latchFatal 16 St.fatalError [cause]
      let t := ((u.settleCommits.standDown).partialWindow).writeDump cause
      { t with guest := { t.guest with inFatal := some cause, fatalCause := some cause } }.fatalWipe
def execFatalError (cause : Nat) (s : State) : Out := .next (s.signal (s.fatalError cause))
/-- The module halts: ports down, the platform in reset, the service port and the dump commands alone. -/
def State.fatalHalt (s : State) : State :=
  { s with raised := [], net := { ports := s.net.ports.map fun (p : Port) => { p with up := false } }
           disp := { nextTicket := s.disp.ticketEnd, ticketEnd := s.disp.ticketEnd }, plat := s.plat.afterReset
           sc := { s.sc with mode := .fatalHalt }, guest := { s.guest with inFatal := none } }.fatalEvent St.fatalLoopHalted
/-- After the summary: the halt, or the warm reset, which WARM_RESET ends with the start. -/
def execFatalReset (s : State) : Out :=
  .next (s.signal (if s.guest.inFatal.isSome then
    (if s.guest.thirdFatal then s.fatalHalt else { s with mono := s.mono + 21 * 10 ^ 6 }.mainReset)
  else s))

end Sys2Proof.Machine
end

