-- ==== Sys2Proof/Machine/KeyVerbs.lean ====
section
/-! DEFINITION. The key management verbs (06 R203, R204). -/

namespace Sys2Proof.Machine

def execKeyGenerate (c : CoreId) (s : State) : Out :=
  .next (s.verb c 0x0101 fun k =>
    let b := k.req.body
    let dest := leAt b 0 8
    let kek := leAt b 8 8
    let t := parseAttrs (slice b 16 32)
    if b.length ≠ 48 ∨ oneOf dest kek = false ∨ templateExports kek t = false then badBody s
    else withKek s c k kek fun s1 h =>
      match symTemplateError k.world k.partition t with
      | some e => .ends s1 e []
      | none => onRandom s1 c k (symLen t.keyType) fun s2 l =>
          keyOut s2 c k [] dest h (keyFromTemplate k.partition t.parentSlot t l))

/-- A key block field: 16 to 4,096 bytes, as long as BLOCK_LEN says, after 12 reserved bytes. -/
def keyBlockOk (b : Bytes) : Bool :=
  let n := leAt b 16 4
  decide (16 ≤ n ∧ n ≤ 4096) && b.length == 32 + n && res b 20 12
/-- A key block is verified and unwrapped under a key with UNWRAP (R179, R255 to R257). -/
def importUnder (s : State) (c : CoreId) (k : Core) (kek : Nat) (blk : Bytes) (f : State → KeyMat → VerbAct) : VerbAct :=
  useRef s c k kek isSym uUnwrap fun s1 h =>
    match openBlock h.key blk with
    | .error e => .ends s1 e []
    | .ok content =>
      match importKey k.world k.partition (sourceParent h) none content with
      | .error e => .ends s1 e []
      | .ok m => onSbu s1 c k (cdiv blk.length 16) fun s2 => f s2 m

def execKeyImport (c : CoreId) (s : State) : Out :=
  .next (s.verb c 0x0102 fun k =>
    let b := k.req.body
    let kek := leAt b 0 8
    let dest := leAt b 8 8
    if keyBlockOk b = false ∨ kek = 0 ∨ dest = 0 then badBody s
    else importUnder s c k kek (b.drop 32) fun s1 m => keyOut s1 c k [] dest none m)

def execKeyExport (c : CoreId) (s : State) : Out :=
  .next (s.verb c 0x0103 fun k =>
    let b := k.req.body
    let ref := leAt b 0 8
    let kek := leAt b 8 8
    if b.length ≠ 16 ∨ ref = 0 ∨ kek = 0 then badBody s
    else loadRef s c k ref fun s1 h => loadRef s1 c k kek fun s2 w =>
      demand s2 h (fun _ => true) uExport (demand s2 w isSym uWrap
        (exportAs s2 c k w h.key fun s3 l => good s3 (blockField l))))

def execKeyTranslate (c : CoreId) (s : State) : Out :=
  .next (s.verb c 0x0104 fun k =>
    let b := k.req.body
    let src := leAt b 0 8
    let dst := leAt b 8 8
    if keyBlockOk b = false ∨ src = 0 ∨ dst = 0 then badBody s
    else importUnder s c k src (b.drop 32) fun s1 m => useRef s1 c k dst isSym uWrap fun s2 w =>
      exportAs s2 c k w m fun s3 l => good s3 (blockField l))

def execKeyInvalidate (c : CoreId) (s : State) : Out :=
  .next (s.verb c 0x0105 fun k =>
    let b := k.req.body
    let ref := leAt b 0 8
    if b.length ≠ 8 ∨ ref = 0 then badBody s
    else if refOk ref = false then .ends s St.keyMalformed []
    else if refPartition ref ≠ k.partition then .ends s St.keyPartitionDenied []
    else s.verbCommit c k (.keyInvalidate ref) [] [])

def execKeyInfo (c : CoreId) (s : State) : Out :=
  .next (s.verb c 0x0106 fun k =>
    let b := k.req.body
    let ref := leAt b 0 8
    if b.length ≠ 8 ∨ ref = 0 then badBody s
    else loadRef s c k ref fun s1 h => onSbu s1 c k (if isSym h.key.attrs.keyType then 1 else 0) fun s2 =>
      let v := s2.checkOf h.key
      good v.2 (attrsBytes h.key.attrs ++ v.1 ++ zeros 5))

end Sys2Proof.Machine
end

