-- ==== Sys2Proof/Machine/ModuleVerbs.lean ====
section
/-! DEFINITION. The attestation and module verbs (06 R221, R222; 15 R450 to R456). -/

namespace Sys2Proof.Machine

/-- WAYBILL: the next index signs; the kept tree is closed to it (R452), and so is an identity whose caches or bottom tree
are not there (R451). -/
def execWaybill (c : CoreId) (s : State) : Out :=
  .next (s.verb c 0x0801 fun k =>
    let b := k.req.body
    let scope := leAt b 32 1
    if b.length ≠ 40 ∨ 1 < scope ∨ res b 33 7 = false then badBody s
    else if keptTree ≤ s.plat.index then .ends s St.identityExhausted []
    else if s.plat.canSign = false then .ends s St.waybillUnavailable []
    else
      let t := if scope = 1 then s.measureSoFar else s
      let r := t.issueIndex
      good r.2.treeWork (t.waybill 1 scope (slice b 0 32) [] r.1))

def execRandom (c : CoreId) (s : State) : Out :=
  .next (s.verb c 0x0802 fun k =>
    let b := k.req.body
    let n := leAt b 0 4
    if b.length ≠ 8 ∨ res b 4 4 = false ∨ n = 0 ∨ 4096 < n then badBody s
    else onRandom s c k n fun t l => good t l)

/-- The outcome that the dispatch decision settled. -/
def decidedVerb (s : State) (k : Core) : VerbAct :=
  match k.decided with
  | some (st, body) => .ends s st body
  | none => badBody s
def execQueueFlush (c : CoreId) (s : State) : Out := .next (s.verb c 0x0803 fun k => decidedVerb s k)
def execPartitionStatus (c : CoreId) (s : State) : Out := .next (s.verb c 0x0804 fun k => decidedVerb s k)

end Sys2Proof.Machine
end

