-- ==== Sys2Proof/Machine/PairEvents.lean ====
section
/-! DEFINITION. The mirror link's and lantern lines' events: handshake, frames, silence, resynchronisation (12 R354 to
R382). -/

namespace Sys2Proof.Machine

/-! ### Reception (R359, R363) -/

/-- A path carries frames again (R370). -/
def State.heardLink (s : State) : State :=
  let t := s.setPair fun p => { p with linkSilent := false, linkHeard := s.mono }
  if s.pair.linkSilent then t.scEvent St.pairPathRestored [0] else t
def State.heardLantern (s : State) : State :=
  let t := s.setPair fun p => { p with lanternSilent := false, lanternHeard := s.mono }
  if s.pair.lanternSilent then t.scEvent St.pairPathRestored [1] else t
/-- The window of 1,024 frame numbers (R52): the new highest and the numbers seen within the window, or nothing for a
replay. -/
def seqWindow (high : Option Nat) (seen : List Nat) (n : Nat) : Option (Nat × List Nat) :=
  match high with
  | none => some (n, [n])
  | some h =>
    if n + 1024 ≤ h ∨ seen.contains n then none
    else
      let top := max h n
      some (top, n :: seen.filter fun x => decide (top < x + 1024))

/-- The marks of a partner's frame: to a standby the active's DURABLE_MARK, to an active the standby's ACKED_CSN and
CONFIRMED (R359, R365, R366). -/
def State.takeMarks (s : State) (h : MirHdr) : State :=
  match s.pair.state with
  | .standby => (s.setPair fun p => { p with mark := max p.mark h.durableMark }).applyReceived
  | .resyncing =>
    let t := s.setPair fun p => { p with mark := max p.mark h.durableMark }
    if t.pair.snapS.isSome then t else t.applyReceived
  | _ =>
    if h.state = 4 ∨ h.state = 5 then
      let t := (s.seq.accepted.filter fun a => decide (s.pair.acked < a.record.csn ∧ a.record.csn ≤ h.durableMark)).foldl
        (fun u a => u.sample a.src.tap 10 (s.mono - a.at0)) s
      (t.setPair fun p => { p with acked := max p.acked h.durableMark, confirmed := max p.confirmed h.confirmed }).raiseDurable
    else s
/-- The active names J once the receiver has every record: the pair is ACTIVE and STANDBY (R381). -/
def State.joinPartner (s : State) (h : MirHdr) : State :=
  if s.pair.serving ∧ s.pair.state = .activeAlone ∧ h.state = 5 ∧ s.headCsn ≤ s.pair.acked ∧
      s.seq.durableBelow ≤ s.pair.confirmed then
    let j := s.seq.next
    ((s.setPair fun p => { p with state := .active, serving := false, joinAt := some j, wasAlone := false, aloneCsn := none }).mirSend
      0x16 (leBytes 8 j)).scEvent St.pairResyncComplete [j]
  else s
/-- A receiver that has applied every record below J is STANDBY: none of those it holds lies below. -/
def State.joinActive (s : State) : State :=
  match s.pair.joinAt with
  | some j => if s.pair.state = .resyncing ∧ s.pair.snapS.isNone ∧ s.pair.received.all (fun r => decide (j ≤ r.csn)) = true ∧
      s.pair.partialRec.all (fun e => decide (j ≤ e.2.csn)) = true then
      (s.setPair fun p => { p with state := .standby, joinAt := none, wasAlone := false, aloneCsn := none }).scEvent St.pairResyncComplete [j]
    else s
  | none => s

/-- A unit that does not serve has shown the own claim: it is one that the partner has seen (R378). -/
def State.seenBy (s : State) (state claim : Nat) : State :=
  if claim = s.pair.claim ∧ 4 ≤ state then s.setPair fun p => { p with known := true } else s
/-- A mirror frame that passes its tag, epoch, reserved field, STATE, BODY_BYTES and window is taken: counted, its claim learned, its
marks used, then its own content; any other frame has no effect but its count. Without MAGIC it is no mirror frame. -/
def State.mirrorFrame (s : State) (h : MirHdr) (body : Nat) (serial : Option Nat) (f : State → State) : State :=
  if s.scOn = false ∨ s.pair.linkOpen = false ∨ h.magic ≠ 0x4D52 then s
  else if h.tagOk = false ∨ h.linkEpoch ≠ s.pair.linkEpoch then s.setPair fun p => p.count mTagDrops 1
  else match seqWindow s.pair.rxHigh s.pair.rxSeen h.frameSeq with
  | none => s
  | some w =>
    let t := (s.setPair fun p => { p with rxHigh := some w.1, rxSeen := w.2 }.count mRx 1).heardLink
    if h.reserved ≠ 0 ∨ h.state = 0 ∨ 7 < h.state ∨ h.bodyBytes ≠ body then t
    else (f ((((t.seenBy h.state h.claim).learnClaim h.claim serial).takeMarks h).joinPartner h)).joinActive

def execMirrorHeartbeat (h : MirHdr) (s : State) : Out := .next (s.signal <| s.mirrorFrame h 0 none id)
def execMirrorClaim (h : MirHdr) (serial : Nat) (s : State) : Out := .next (s.signal <| s.mirrorFrame h 0 (some serial) id)
def execMirrorStandDown (h : MirHdr) (s : State) : Out := .next (s.signal <| s.mirrorFrame h 0 none fun t => t.partnerFailed false)
def execMirrorHeartbeatTimer (s : State) : Out := .next (if s.scOn then s.mirSend 0x10 else s)

/-! ### Streams, receiving (R361, R362, R365, R369) -/

/-- BODY_BYTES of a RECORDS or SNAPSHOT frame of `n` blocks (R361). -/
def streamBytes (n : Nat) : Nat := 16 + 260 * n
/-- Blocks of a frame that came through: bad ones are counted. -/
def goodBlocks (first : Nat) (crcs : List Bool) : List Nat :=
  ((List.range crcs.length).zip crcs).filterMap fun e => if e.2 then some (first + e.1) else none
def badBlocks (crcs : List Bool) : Nat := (crcs.filter fun b => !b).length
/-- The next block expected once `got` is there. -/
def advanceNext (got : List Nat) : (fuel : Nat) → Nat → Nat
  | 0, n => n
  | f + 1, n => if got.contains n then advanceNext got f (n + 1) else n
/-- BLOCK_ACK: BASE and the bitmap of blocks above it (R361, R62). -/
def ackBody (base : Nat) (got : List Nat) : Bytes :=
  leBytes 8 base ++ (List.range 32).map fun i =>
    BitVec.ofNat 8 ((List.range 8).map fun k => if got.contains (base + 8 * i + k) then 2 ^ k else 0).sum
def State.sendBlockAck (s : State) : State :=
  let t := if s.pair.snapS.isSome then s.mirSend 0x12 (ackBody s.pair.snapRecvNext s.pair.snapBlocks) else s
  (t.mirSend 0x12 (ackBody s.pair.recNext s.pair.recBlocks)).setPair fun p => { p with uncovered := false, sinceAck := 0 }
/-- Blocks have arrived: an acknowledgement after every 16, else by the timer. -/
def State.blocksCame (s : State) (n : Nat) : State :=
  let t := s.setPair fun p => { p with uncovered := true, sinceAck := p.sinceAck + n }
  if 16 ≤ t.pair.sinceAck then t.sendBlockAck else t
/-- The state after every record received. -/
def State.receivedHead (s : State) : Durable := s.pair.received.foldl Durable.applyRecord s.durable
/-- The area of a unit that follows is written with a record whose DURABLE_BELOW covers what it has applied (log 124). -/
def State.followArea (s : State) (r : Record) : State := if s.seq.applied ≤ r.durableBelow then s.writeArea else s
/-- A whole record is written to the receiver's PJM, under its own bough (R362): not before the IVs of its key records
can be drawn (R326). -/
def State.journalReceived (s : State) (r : Record) : Bool × State :=
  match s.recordIvs (.record r.csn) (ivRecords r.items) with
  | (none, t) => (false, t)
  | (some ivs, t) =>
    let own := { r with ticket := 0, wrapped := wrapKeys (s.boughOf r.partition) (s.receivedHead.recordKeys r) ivs }
    (true, match r.items with
    | [.csnReserve e] => { t with seq := { t.seq with blockEnd := max t.seq.blockEnd e } }
    | _ =>
      if r.csn = 0 then { t with seq := t.seq.write own }.followArea r
      else if r.csn ≤ t.seq.applied ∨ t.pair.received.any (fun x => x.csn == r.csn) then t
      else ({ t with seq := t.seq.write own }.followArea r).setPair fun p =>
        { p with received := p.received ++ [own],
                 acked := if p.snapS.isSome ∨ (match p.lostCsn with | some c => decide (c < r.csn) | none => false) = true then p.acked
                   else max p.acked r.csn })
/-- The records whose last block has been reached, in stream order. -/
def State.takeRecords : (fuel : Nat) → State → State
  | 0, s => s
  | f + 1, s => match s.pair.partialRec with
    | [] => s
    | (e, r) :: l =>
      if e < s.pair.recNext then
        match s.journalReceived r with
        | (true, t) => State.takeRecords f (t.setPair fun p => { p with partialRec := l, recStall := none })
        | (false, t) => t.setPair fun p => { p with recStall := some (p.recStall.getD s.mono) }
      else s
/-- RECORDS blocks at a standby or a receiver. -/
def State.recordsCame (s : State) (first : Nat) (crcs : List Bool) (recs : List (Nat × Record)) : State :=
  let ok := match s.pair.state with | .standby => true | .resyncing => true | _ => false
  if ok = false ∨ crcs.length = 0 ∨ 32 < crcs.length then s
  else
    let good := goodBlocks first crcs
    let got := (good.filter fun b => decide (s.pair.recNext ≤ b) && !s.pair.recBlocks.contains b) ++ s.pair.recBlocks
    let next := advanceNext got got.length s.pair.recNext
    let new := recs.filter fun e => good.contains e.1 && decide (s.pair.recNext ≤ e.1) && s.pair.partialRec.all fun x => x.1 != e.1
    let s1 := s.setPair fun p =>
      { p with recBlocks := got.filter (fun b => decide (next ≤ b)), recNext := next,
               partialRec := new.foldl (fun l e => insertByKey e l) p.partialRec }.count mCrcErrors (badBlocks crcs)
    let s2 := State.takeRecords s1.pair.partialRec.length s1
    let s3 := if s.pair.acked < s2.pair.acked then s2.mirSend 0x10 else s2
    let s4 := if s3.pair.snapS.isSome then s3 else s3.applyReceived
    s4.blocksCame crcs.length
def execMirrorRecords (h : MirHdr) (first : Nat) (crcs : List Bool) (recs : List (Nat × Record)) (s : State) : Out :=
  .next (s.signal <| s.mirrorFrame h (streamBytes crcs.length) none fun t => t.recordsCame first crcs recs)
/-- SNAPSHOT blocks at a receiver (R380). -/
def State.snapshotCame (s : State) (first : Nat) (crcs : List Bool) : State :=
  if s.pair.state ≠ .resyncing ∨ s.pair.snapS.isNone ∨ crcs.length = 0 ∨ 32 < crcs.length then s
  else
    let got := ((goodBlocks first crcs).filter fun b => decide (s.pair.snapRecvNext ≤ b) && !s.pair.snapBlocks.contains b) ++ s.pair.snapBlocks
    let next := advanceNext got got.length s.pair.snapRecvNext
    (s.setPair fun p => { p with snapBlocks := got.filter (fun b => decide (next ≤ b)), snapRecvNext := next }.count mCrcErrors
      (badBlocks crcs)).blocksCame crcs.length
def execMirrorSnapshot (h : MirHdr) (first : Nat) (crcs : List Bool) (s : State) : Out :=
  .next (s.signal <| s.mirrorFrame h (streamBytes crcs.length) none fun t => t.snapshotCame first crcs)
def execMirrorBlockAckTimer (s : State) : Out := .next (if s.scOn ∧ s.pair.uncovered then s.sendBlockAck else s)

/-! ### Streams, sending (R361) -/

/-- A block is sent again. -/
def State.resendBlock (s : State) (stream blk : Nat) : State :=
  let again := fun (b : MirSent) => if b.stream = stream ∧ b.blk = blk then { b with resends := b.resends + 1, at0 := s.mono } else b
  match s.pair.sent.find? fun b => b.stream == stream && b.blk == blk with
  | none => s
  | some x => (s.mirSend (streamType stream) (streamBody blk [x.data]) x.recs).setPair fun p =>
      { p with sent := p.sent.map again }.count mResends 1
/-- Acknowledged blocks are done; those reported missing below a received one are re-sent at once. -/
def State.blockAcked (s : State) (stream base : Nat) (got : List Nat) : State :=
  let done := fun (b : MirSent) => b.stream == stream && (decide (b.blk < base) || got.contains b.blk)
  let t := s.setPair fun p => { p with sent := p.sent.filter fun b => !done b }
  let missing := t.pair.sent.filter fun b => b.stream == stream && got.any fun g => decide (b.blk < g)
  missing.foldl (fun u b => u.resendBlock stream b.blk) t
def execMirrorBlockAck (h : MirHdr) (stream base : Nat) (got : List Nat) (s : State) : Out :=
  .next (s.signal <| s.mirrorFrame h 40 none fun t => t.blockAcked stream base got)
/-- A block unacknowledged since its last send is sent again: after 4 µs, doubling to at most 64 µs. -/
def State.blockTimer (s : State) (stream blk : Nat) : State :=
  match s.pair.sent.find? fun b => b.stream == stream && b.blk == blk with
  | some b => { s with mono := max s.mono (b.at0 + 1000 * min 64 (4 * 2 ^ b.resends)) }.resendBlock stream blk
  | none => s
def execMirrorBlockResendTimer (stream blk : Nat) (s : State) : Out :=
  .next (if s.scOn ∧ s.pair.linkOpen then s.blockTimer stream blk else s)

/-! ### Lantern lines (R363, R364, R370) -/

/-- A unit that behaves as one of a pair (R355, R356). -/
def State.inPair (s : State) : Bool := s.paired && s.pair.state != .unpaired
/-- A lantern frame that passes its MAC, epoch and SEQ. -/
def State.lanternFrame (s : State) (f : LanternIn) (g : State → State) : State :=
  if s.scOn = false ∨ s.inPair = false then s
  else if f.macOk = false ∨ s.pair.lanternKey = [] then s.setPair fun p => p.count mLanternDrops 1
  else if f.linkEpoch ≠ s.pair.linkEpoch ∨ f.reserved ≠ 0 ∨ f.state = 0 ∨ 7 < f.state ∨
      (match s.pair.lanternRx with | some n => decide (f.seq ≤ n) | none => false) = true then s
  else g ((((s.setPair fun p => { p with lanternRx := some f.seq }).heardLantern).seenBy f.state f.claim).learnClaim f.claim none)
def execLanternFrameTimer (s : State) : Out := .next (if s.scOn ∧ s.paired then s.lanternSend 1 else s)
def execLanternFrame (f : LanternIn) (s : State) : Out :=
  .next (s.signal <| if f.type = 1 ∨ f.type = 2 ∨ f.type = 4 then
    s.lanternFrame f fun t => if f.type = 4 then t.partnerFailed false else t
  else s)
def execLanternTamper (f : LanternIn) (s : State) : Out :=
  .next (s.signal <| if f.type = 3 then s.lanternFrame f fun t => (t.scEvent St.partnerTampered).partnerFailed false else s)
/-- A path has carried no authenticated frame for its limit. -/
def State.pathSilent (s : State) (p : MirPath) : State :=
  if s.scOn = false ∨ s.inPair = false ∨ s.pair.lanternKey = [] then s
  else match p with
  | .link =>
    if s.pair.linkSilent then s
    else
      let t := { s with mono := max s.mono (s.pair.linkHeard + 500000) }.setPair fun q => { q with linkSilent := true }
      if t.pair.lanternSilent then t.partnerFailed true else t.scEvent St.pairPathDegraded [0]
  | .lantern =>
    if s.pair.lanternSilent then s
    else
      let t := { s with mono := max s.mono (s.pair.lanternHeard + 2000000) }.setPair fun q => { q with lanternSilent := true }
      if t.pair.linkSilent then t.partnerFailed true else t.scEvent St.pairPathDegraded [1]
def execPathSilent (p : MirPath) (s : State) : Out := .next (s.signal (s.pathSilent p))

/-! ### Claims (R375) -/

/-- Time to the next CLAIM_ANNOUNCE: 100 ms in the first second of a claim, then 1 s; a claim held since before the start is past its
first second. -/
def Pair.announceGap (p : Pair) : Nat :=
  match p.claimAt with
  | some t => if p.claimLast < t + 10 ^ 9 then 10 ^ 8 else 10 ^ 9
  | none => 10 ^ 9
/-- The next CLAIM_ANNOUNCE of a unit that serves clients under a claim. -/
def State.announceTimer (s : State) : State :=
  if s.scOn = false ∨ s.serves = false ∨ s.paired = false ∨ s.pair.claim = 0 then s
  else
    let now := max s.mono (s.pair.claimLast + s.pair.announceGap)
    ({ s with mono := now }.setPair fun p => { p with claimLast := now }).announce
def execClaimAnnounceTimer (s : State) : Out := .next s.announceTimer
/-- The partner's announcement, accepted under its checks; any other is dropped as a stranger (R78). -/
def execClaimAnnounce (port : Nat) (b : ClaimBody) (s : State) : Out :=
  .next (s.signal <| if s.scOn = false ∨ s.portUp port = false then s
  else if s.paired ∧ b.checksOk ∧ b.reserved = 0 ∧ b.pairId = s.pairId ∧ b.serial = s.partnerNumber then s.learnClaim b.claim (some b.serial)
  else (s.count port nStranger 1).event (portTap port) St.frameUnauthenticated [port])

/-! ### The link handshake and roles at a meeting (R355, R358, R378 to R381) -/

/-- The unit begins its part of the handshake: the lower one sends its message. One that cannot draw its parts fails (R326, log 62). -/
def State.linkStart (s : State) : State :=
  if s.sc.identity.isNone ∨ s.canDraw 12 = false ∨ s.canDraw 16 (readRequests linkDraws) = false then
    (s.setPair fun p => { p with linkOpen := false, handshaking := false }).scEvent St.pairLinkRefused
  else
    let r := s.random 12 32
    let q := State.readAll 16 linkDraws r.2
    let hello := q.2.linkHello r.1 q.1
    let t := q.2.setPair fun p => { p with linkOpen := false, handshaking := true, hello := hello, secret := q.1 }
    if t.lower then t.emit (.mirrorHandshake hello) else t
def execMirrorLinkLock (s : State) : Out :=
  .next (s.signal (if s.scOn ∧ s.paired ∧ s.partnerSerial ≠ [] then (s.setPair fun p => { p with locked := true }).linkStart else s))
def execMirrorHandshakeRetry (s : State) : Out :=
  .next (s.signal (if s.scOn ∧ s.inPair ∧ s.pair.locked ∧ s.pair.linkOpen = false ∧ s.pair.handshaking = false then
    State.linkStart { s with mono := s.mono + 10 ^ 9 } else s))
/-- The link opens with a new epoch and its keys: sequence numbers and streams start afresh. A link that was silent carries frames
again; the lantern lines are heard when a frame comes (R370). -/
def State.openLink (s : State) (peer : PeerInfo) : State :=
  let again := s.pair.lanternKey != []
  let t := if again ∧ s.pair.linkSilent then s.scEvent St.pairPathRestored [0] else s
  (t.setPair fun p =>
    let q := s.linkKeys peer p
    { q with linkOpen := true, handshaking := false, hello := [], secret := [], linkEpoch := max p.linkEpoch peer.linkEpoch + 1, txSeq := 0,
             rxHigh := none, rxSeen := [], lanternTx := 0, lanternRx := none, sent := [], nextBlk := 0, recNext := 0,
             recBlocks := [], partialRec := [], snapNextBlk := 0, snapRecvNext := 0, snapBlocks := [], uncovered := false,
             sinceAck := 0, linkSilent := false, lanternSilent := again && p.lanternSilent, linkHeard := s.mono, lanternHeard := s.mono, failed := false }).prepareTamper
/-- The SNAPSHOT stream: the key database in compact form, TAB pages, counters, programs, configuration, partitions, and the claim,
CSN and IV reservation state (R380); how the parts stand in it is open (log 112). -/
def State.snapshotBytes (s : State) : Bytes :=
  let d := s.durable
  let part := fun (n : Nat) (ids : List Nat) (b : Bytes) => Config.snapshotPart n ids b
  (d.keys.flatMap fun e => match d.keyNow e.1 with
    | some k => Config.compactKey e.1 (attrsBytes k.attrs) k.material ++ part 1 [e.1, k.putCsn] (leBytes 8 k.attrs.nonce) | none => []) ++
  (d.tab.flatMap fun e => part 2 [e.1.1, e.1.2] ((newest e.2).getD [])) ++
  (d.ctrs.flatMap fun e => part 3 [e.1.1, e.1.2, (newest e.2).getD 0] []) ++
  (d.progs.flatMap fun e => match d.progNow e.1.1 e.1.2 with
    | some i => part 4 [e.1.1, e.1.2, i.world, i.version, i.entry, i.declaredCycles] (i.signerId ++ i.text) | none => []) ++
  (d.config.flatMap fun e => part 5 [e.1.1, e.1.2] e.2) ++
  (d.parts.flatMap fun e => part 6 [e.1, e.2.roster.m, e.2.roster.n, e.2.revEpoch] e.2.roster.keys.flatten) ++
  (d.boughEpochs.flatMap fun e => part 7 [e.1, e.2] []) ++
  part 8 [s.seq.applied, s.pair.claim, s.pair.seen, s.seq.next, s.seq.blockEnd] []
def State.holdsTenants (s : State) : Bool := s.durable.parts.any fun e => e.1 != 0
/-- The unit serves and its partner resynchronises from it at its APPLIED_CSN (R380, R381): the streams begin. -/
def State.serveResync (s : State) (peer : PeerInfo) : State :=
  let t := s.setPair fun p => { p with state := .activeAlone, serving := true, acked := 0, confirmed := 0, waitSince := none }
  let full := peer.wantFull || !(decide (s.seq.trim ≤ peer.appliedCsn) && s.holdsCsn peer.lastCsn)
  let snap := streamBlocks t.snapshotBytes
  let t1 := if full then State.sendBlocks 1 [] (cdiv snap.length 32) snap t else t
  let above := t1.seq.journal.filter fun r => decide ((if full then s.seq.applied else peer.appliedCsn) < r.csn)
  (above.foldl (fun u r => u.sendRecord r) t1.sendReserve).scEvent St.pairResyncStarted [s.seq.applied]
/-- The records that this unit alone holds: above the last that it knows its partner to have held (R378). -/
def State.loneRecords (s : State) : List Record :=
  let held := max s.pair.acked (s.pair.aloneCsn.getD 0)
  (s.seq.journal ++ s.seq.apart).filter fun r => decide (held < r.csn) && !r.items.isEmpty
/-- Durable commits still to be applied are applied, and those that can no longer be durable are refused with PAIR_FENCED (R376). -/
def State.settleFenced (s : State) : State :=
  let t := State.settleLoop s.seq.accepted.length s
  t.seq.accepted.foldl (fun u a => u.refuseCommit a.src St.pairFenced none) { t with seq := { t.seq with accepted := [] } }
/-- The unit gives up its own state for the active's (R378, R380). -/
def State.beginResync (s0 : State) (peer : PeerInfo) : State :=
  let s := (if s0.serves then s0.fencePair else s0).settleFenced
  let s1 := if s.pair.wasAlone ∧ 0 < s.pair.claim ∧ s.pair.known = false ∧ s.loneRecords ≠ [] then s.diverge s.loneRecords else s
  let short := !s.pair.wantFull && decide (peer.trimPoint ≤ s.seq.applied) && peer.holdsLast
  ({ s1 with seq := { s1.seq with apart := [], blocked := none } }.setPair fun p =>
    { p with state := .resyncing, received := [], snapS := if short then none else some peer.appliedCsn,
             acked := if short then s.seq.applied else 0, mark := 0, joinAt := none, waitSince := none,
             recStall := none, lostCsn := none }).scEvent
    St.pairResyncStarted [peer.appliedCsn]
/-- An active whose link was renewed sends its reservation and its unacknowledged records again (R361, R369). -/
def State.resumeStream (s : State) (peer : PeerInfo) : State :=
  s.seq.accepted.foldl (fun t a =>
    if a.record.csn = 0 then
      let u := t.sendRecord a.record
      { u with seq := { u.seq with accepted := u.seq.accepted.map fun x =>
          if x = a then { x with blk := u.pair.nextBlk, unsent := false } else x } }
    else if peer.lastCsn < a.record.csn then t.sendRecord a.record else t) s.sendReserve
/-- Units that have not met settle their roles by what they hold, then by serial; the one that becomes active takes a claim above
any that either has seen (R355, R374). -/
def State.formPair (s : State) (peer : PeerInfo) : State :=
  let t := s.setPair fun p => { p with met := some peer.serial, seen := max p.seen peer.claim }
  if s.holdsTenants ∧ peer.holdsTenants then
    (s.setPair fun p => { p with linkOpen := false, state := .unpaired }).scEvent St.pairJoinRefused  -- unpaired in behaviour (R355)
  else if s.holdsTenants ∨ (peer.holdsTenants = false ∧ peer.serial < ownSerial) then
    (t.takeClaim.becomeAlone).serveResync peer
  else t.beginResync peer
/-- The comparison after a successful handshake. -/
def State.meet (s0 : State) (peer : PeerInfo) : State :=
  if s0.porter.unacked then s0  -- after a tamper the unit resynchronises only once it is acknowledged (R469, R471)
  else if s0.pair.met ≠ some peer.serial ∧ peer.met = false then s0.formPair peer
  else
    let s := (s0.setPair fun p => { p with met := some peer.serial }).seenBy peer.state peer.claim
    let t := s.learnClaim peer.claim (some peer.serial)
    if s.pair.state = .active ∧ peer.state = 4 ∧ t.pair.state = .active then t.resumeStream peer
    else if s.pair.state = .standby ∧ (peer.state = 1 ∨ peer.state = 3) then t
    else if beats s.pair.claim ownSerial peer.claim peer.serial then
      (match t.pair.state with
       | .fenced => t
       | .waiting => (t.becomeAlone).serveResync peer
       | _ => t.serveResync peer)
    else t.beginResync peer
/-- The partner's message of the agreement has its length (log 62). -/
def State.linkHelloOk (s : State) (peer : PeerInfo) : Bool := peer.hello.length == 64 + (if s.lower then 1088 else 1184)
/-- The handshake ends: this unit's proof goes out. One that fails, or a channel of more than 10 µs one way, leaves the link closed
(R358, R534). -/
def State.handshakeDone (s : State) (peer : PeerInfo) : State :=
  if s.scOn = false ∨ s.paired = false ∨ s.pair.handshaking = false then s
  else
    let t := if s.linkHelloOk peer then s.emit (.mirrorHandshake (s.linkProof peer)) else s
    if s.linkHelloOk peer = false ∨ peer.waybillOk = false ∨ peer.sigsOk = false ∨ peer.serial ≠ s.partnerNumber ∨
        peer.pairId ≠ s.pairId ∨ 10000 < peer.latencyNs then
      (t.setPair fun p => { p with linkOpen := false, handshaking := false, hello := [], secret := [] }).scEvent St.pairLinkRefused
    else (t.openLink peer).meet peer
def execMirrorHandshakeDone (peer : PeerInfo) (s : State) : Out := .next (s.signal (s.handshakeDone peer))

/-! ### Resynchronisation (R380, R381) -/

/-- The durable state that a snapshot gives, under this unit's own pair items (log 30). -/
def snapDurable (x : Snapshot) (own : Durable) : Durable :=
  { parts := x.parts.map fun q => (q.partition, { roster := { m := q.m, n := q.n, keys := q.keys }, revEpoch := q.revEpoch })
    boughEpochs := x.boughEpochs
    config := (own.config.filter fun e => e.1.1 / 256 == 7) ++ x.config.filter fun e => e.1.1 / 256 != 7
    keys := x.keys.map fun e => (e.1, [(x.csn, some e.2)])
    tab := x.tabs.map fun e => (e.1, [(x.csn, fit 4096 e.2)])
    ctrs := x.ctrs.map fun e => (e.1, [(x.csn, e.2)])
    progs := x.progs.map fun e => ((e.1, leAt e.2 8 2), [(x.csn, some (parseImage e.2))])
    lastTickets := [] }
/-- Boughs of every defined partition (R230). -/
def State.deriveBoughs (s : State) : State :=
  match s.porter.trunk with
  | some t => { s with store := { s.store with boughs := s.durable.parts.map fun e =>
      (e.1, treeKey 1 e.1 (boughKey t e.1 (getD e.1 0 s.durable.boughEpochs))) } }
  | none => { s with store := { s.store with boughs := [] } }
/-- The snapshot is written to flash and loaded, once the IVs of its keys' records can be drawn; then the journaled records above it are
applied. -/
def State.snapshotLoaded (s : State) (x : Snapshot) : State :=
  if s.scOn = false ∨ s.pair.state ≠ .resyncing ∨ s.pair.snapS.isNone then s
  else
    let rest := s.pair.received.filter fun r => decide (x.csn < r.csn)
    let top := (rest.map (·.csn)).foldl max x.csn
    let copy := DbCopy.sealed { csn := x.csn, trunkId := match s.porter.trunk with | some t => trunkId t | none => [], keys := x.keys }
    let t := { s with durable := snapDurable x s.durable
                      store := { s.store with slots := [], retire := [] }
                      clusters := s.clusters.map fun (e : Nat × Cluster) => (e.1, { e.2 with slice := [], pages := [], images := [] })
                      seq := { s.seq with applied := x.csn, areaCsn := x.csn, outOfService := false, restored := [], durableBelow := x.csn, next := x.csn + 1
                                          blockEnd := max s.seq.blockEnd x.blockEnd, copy0 := copy, copy1 := {}, trim := x.csn
                                          journal := s.seq.journal.filter fun r => decide (x.csn < r.csn) || r.csn == 0 }
                      pair := { s.pair with snapS := none, wantFull := false, received := rest, acked := top, seen := max s.pair.seen x.claim } }
    match (t.writeArea.deriveBoughs).areaIvs with
    | (some ivs, u) => ((((u.fillArea ivs).fenceClusters).mirSend 0x10).applyReceived).joinActive
    | (none, u) => { s with expanders := u.expanders, raised := u.raised }
def execResyncSnapshotLoaded (snap : Snapshot) (s : State) : Out := .next (s.signal (s.snapshotLoaded snap))
/-- The receiver's journal has reached 90 % before the snapshot was loaded: resynchronisation starts again with a new S, which the active
fixes at the handshake that follows (log 127). -/
def State.restartResync (s : State) : State :=
  ({ s with seq := { s.seq with journal := [], ringAt := 0 } }.setPair fun p =>
    { p with snapS := some p.mark, snapBlocks := [], snapRecvNext := 0, received := [], partialRec := [], wantFull := true,
             linkOpen := false }).scEvent St.pairResyncRestarted [s.pair.mark]
def execResyncRestart (s : State) : Out :=
  .next (if s.scOn ∧ s.pair.state = .resyncing ∧ s.pair.snapS.isSome ∧ ringLines * 9 ≤ s.journalLines * 10 then s.restartResync else s)
def execResyncControl (h : MirHdr) (j : Nat) (s : State) : Out :=
  .next (s.signal <| s.mirrorFrame h 8 none fun t => t.setPair fun p => if p.state = .resyncing then { p with joinAt := some j } else p)
/-- No partner within MIR_START_WAIT: a unit that was alone with the highest claim goes on alone, another stays WAITING
(R379). -/
def State.startWaitOver (s : State) : State :=
  match s.pair.waitSince with
  | none => s
  | some t =>
    if s.scOn = false ∨ s.pair.state ≠ .waiting then s
    else
      let u := { s with mono := max s.mono (t + s.cfg 0x0703 0 30 * 10 ^ 9) }.setPair fun p => { p with waitSince := none }
      if s.pair.wasAlone ∧ s.pair.claim = s.pair.seen ∧ (s.pair.claim = 0 ∨ s.pair.seenSerial = ownSerial) then u.becomeAlone
      else u.scEvent St.pairWaiting
def execMirStartWaitExpiry (s : State) : Out := .next (s.signal s.startWaitOver)

end Sys2Proof.Machine
end

