-- ==== Sys2Proof/Machine/PinVerbs.lean ====
section
/-! DEFINITION. The PIN verbs (06 R205 to R207). -/

namespace Sys2Proof.Machine

/-- A deciphering key demands PIN_ENC and DEC. -/
abbrev uPinRead : BitVec 16 := uPinEnc ||| uDec

def execPinTranslate (c : CoreId) (s : State) : Out :=
  .next (s.verb c 0x0201 fun k =>
    let b := k.req.body
    let src := leAt b 0 8
    let dst := leAt b 8 8
    let blk := slice b 16 16
    let pan := slice b 32 16
    let sf := leAt b 48 1
    let df := leAt b 49 1
    let ds := panDigits pan
    if b.length ≠ 56 ∨ res b 50 6 = false ∨ src = 0 ∨ dst = 0 ∨ pinBlockOk sf blk = false ∨ pinFormatOk df = false ∨
        (sf = 4 ∧ df ≠ 4) ∨ panOk pan (sf != 1 || df != 1) = false then badBody s
    else loadRef s c k src fun s1 h => loadRef s1 c k dst fun s2 w =>
      demand s2 h (pinKeyType sf) uPinRead (demand s2 w (pinKeyType df) uPinEnc
        (onSbu s2 c k (pinBlocks sf) fun s3 =>
          match readPin sf (keyBytes h.key) blk (panField sf ds) with
          | none => good s3 (pinAnswer 2 [])
          | some canon => writePin s3 c k df (keyBytes w.key) canon (panField df ds) fun s4 out => good s4 (pinAnswer 0 out))))

/-- AES-256. -/
def isAes256 (t : Nat) : Bool := t == 5
/-- The canonical field with the card's format 4 PAN field removed or put in. -/
def withPan (pan field : Bytes) : Bytes := xorBytes field (panField 4 (panDigits pan))

def execPinMakeReference (c : CoreId) (s : State) : Out :=
  .next (s.verb c 0x0202 fun k =>
    let b := k.req.body
    let ref := leAt b 0 8
    let wrap := leAt b 8 8
    let blk := slice b 16 16
    let pan := slice b 32 16
    let fmt := leAt b 48 1
    if b.length ≠ 56 ∨ res b 49 7 = false ∨ ref = 0 ∨ wrap = 0 ∨ pinBlockOk fmt blk = false ∨ panOk pan true = false then badBody s
    else loadRef s c k ref fun s1 h => loadRef s1 c k wrap fun s2 w =>
      demand s2 h (pinKeyType fmt) uPinRead (demand s2 w isAes256 uWrap
        (onSbu s2 c k (pinBlocks fmt + 2) fun s3 =>
          match readPin fmt (keyBytes h.key) blk (panField fmt (panDigits pan)) with
          | none => good s3 (resultWord 2 0 ++ zeros 60)
          | some canon => onRandom s3 c k 12 fun s4 iv =>
              good s4 (resultWord 0 0 ++ zeros 12 ++ wrapForm (keyBytes w.key) iv (withPan pan canon)))))

def execPinVerifyReference (c : CoreId) (s : State) : Out :=
  .next (s.verb c 0x0203 fun k =>
    let b := k.req.body
    let ref := leAt b 0 8
    let wrap := leAt b 8 8
    let blk := slice b 16 16
    let pan := slice b 32 16
    let fmt := leAt b 48 1
    if b.length ≠ 112 ∨ res b 49 15 = false ∨ ref = 0 ∨ wrap = 0 ∨ pinBlockOk fmt blk = false ∨ panOk pan true = false then badBody s
    else loadRef s c k ref fun s1 h => loadRef s1 c k wrap fun s2 w =>
      demand s2 h (pinKeyType fmt) uPinRead (demand s2 w isAes256 uUnwrap
        (onSbu s2 c k (pinBlocks fmt + 2) fun s3 =>
          match unwrapForm (keyBytes w.key) (slice b 64 48) with
          | none => good s3 (resultWord 3 0)
          | some l => match readPin fmt (keyBytes h.key) blk (panField fmt (panDigits pan)) with
            | none => good s3 (resultWord 2 0)
            | some canon => good s3 (resultWord (if withPan pan (fit 16 l) = canon then 0 else 1) 0))))

def execPinCompare (c : CoreId) (s : State) : Out :=
  .next (s.verb c 0x0204 fun k =>
    let b := k.req.body
    let ra := leAt b 0 8
    let rb := leAt b 8 8
    let ba := slice b 16 16
    let bb := slice b 32 16
    let pan := slice b 48 16
    let fa := leAt b 64 1
    let fb := leAt b 65 1
    let ds := panDigits pan
    if b.length ≠ 72 ∨ res b 66 6 = false ∨ ra = 0 ∨ rb = 0 ∨ pinBlockOk fa ba = false ∨ pinBlockOk fb bb = false ∨
        panOk pan (fa != 1 || fb != 1) = false then badBody s
    else loadRef s c k ra fun s1 h => loadRef s1 c k rb fun s2 w =>
      demand s2 h (pinKeyType fa) uPinRead (demand s2 w (pinKeyType fb) uPinRead
        (onSbu s2 c k (pinBlocks fa + pinBlocks fb) fun s3 =>
          match readPin fa (keyBytes h.key) ba (panField fa ds), readPin fb (keyBytes w.key) bb (panField fb ds) with
          | none, _ => good s3 (resultWord 2 0)
          | some _, none => good s3 (resultWord 3 0)
          | some x, some y => good s3 (resultWord (if x = y then 0 else 1) 0))))

end Sys2Proof.Machine
end

