-- ==== Sys2Proof/Machine/PowerEvents.lean ====
section
/-! DEFINITION. Tampers, sleep states, wakes and losses of power (16 R459 to R478; 14 R415; 19 R532 to R540). -/

namespace Sys2Proof.Machine

/-! ### Tamper (R459 to R463) -/

/-- The bit of PRT_TAMPER_CAUSE of a sensor. -/
def causeBit : Sensor → Nat
  | .mesh n => if n = 0 then 0 else 1
  | .lid n => if n = 0 then 2 else 3
  | .tempLow => 4 | .tempHigh => 5 | .aonLow => 6 | .glitch => 7 | .xtalStop => 8
  | .light n => 9 + min 3 n
  | .aonLost => 13
/-- The porter's part of a trip. -/
def Porter.trip (p : Porter) (n now : Nat) : Porter :=
  { p with latch := true, unacked := true, cause := p.cause ||| 2 ^ n, tripMono := now, sensorActive := true, held := true,
           trunk := none, s3 := none, alarm := none, entering := none, wake := [] }
/-- Whether the main rail is up. -/
def State.mainUp (s : State) : Bool :=
  s.porter.p12v && (match s.porter.power with | .s0 => true | .s1 => true | .s2 => true | _ => false)
/-- What the block drives in the trip cycle and after it: the prepared lantern frame, tokens without VCC. -/
def State.tripOutputs (s : State) : State :=
  let t := if s.paired then s.lanternTrip else s
  (List.range 2).foldl (fun (u : State) n => if (u.slot n).powered then u.emit (.tokenPower n false) else u) t
/-- A trip: with main power everything volatile is wiped and the main domain held in reset; in S3 what was retained is
lost; a lost AON state is found at AON power-on, with the porter's registers at reset and its count lost. -/
def State.tamperTrip (s : State) (x : Sensor) : State :=
  match x with
  | .aonLost =>
    if s.porter.power = .s4 then
      { s with mono := 0, porter := ({ tamperCount := s.porter.tamperCount, counted := s.porter.counted && s.porter.latch,
                                       p12v := s.porter.p12v, sensorActive := false } : Porter) }
    else s
  | _ =>
    let p := s.porter.trip (causeBit x) s.mono
    if s.mainUp then
      let t := s.tripOutputs.mainReset
      { t with porter := { p with power := .s0 }, sc := { t.sc with memKey := none } }
    else if s.porter.power = .s3 then { s with porter := p, sc := { s.sc with retained := [], memKey := none } }
    else { s with porter := p }
/-- The glitch sensor is disarmed below 10.0 V. -/
def execTamperTrip (sensor : Sensor) (s : State) : Out :=
  .next (s.signal (if sensor = .glitch ∧ s.porter.p12v = false then s else s.tamperTrip sensor))
/-- VBAT below 2.0 V, once per episode. -/
def execVbatAbsent (s : State) : Out :=
  .next (if s.porter.standby then
    let t := { s with porter := { s.porter with vbat := false, vbatRecorded := true } }
    if s.porter.vbatRecorded then t else t.scEvent St.vbatAbsent
  else s)

/-! ### PRT_STATUS, TAMPER_STATUS (R478) -/

def powerCode : Power → Nat
  | .s0 => 0 | .s1 => 1 | .s2 => 2 | .s3 => 3 | .s4 => 4
def Porter.status (p : Porter) : Nat :=
  powerCode p.power * 2 ^ 20 + p.wakeSource * 2 ^ 16 + b2n p.vbat * 32 + b2n p.sensorActive * 16 + b2n p.unacked * 8 + b2n p.latch * 4
def execTamperStatus (s : State) : Out :=
  .next (s.command 0x0D02 fun t q =>
    if q.body ≠ [] then t.answer q St.powerMalformed
    else t.answer q 0 (leBytes 4 t.porter.status ++ leBytes 4 t.porter.cause ++ leBytes 4 t.porter.tamperCount ++ [0, 0, 0, 0] ++
      leBytes 8 t.porter.tripMono))

/-! ### S2 (R472 to R474) -/

/-- What refuses POWER_STATE. -/
def State.powerRefused (s : State) (target : Nat) : Bool :=
  s.custody.ceremony.isSome || s.sc.upload.isSome || s.plat.busy || s.rights != 0 || (target == 2 && s.porter.unacked)
/-- The response leaves, then the entry begins. -/
def execPowerState (s : State) : Out :=
  .next (s.command 0x0D01 fun t q =>
    let b := q.body
    let n := leAt b 0 1
    let a := leAt b 4 4
    if b.length ≠ 8 ∨ (n ≠ 2 ∧ n ≠ 3) ∨ allZero (slice b 1 3) = false ∨ 2592000 < a then t.answer q St.powerMalformed
    else if t.powerRefused n then t.answer q St.powerStateRefused
    else { t with porter := { t.porter with entering := some (n, a) } }.answer q 0)
/-- No request has been ticketed for PWR_S2_IDLE; a live debug grant or a missing acknowledgement keeps the module awake (log 131). -/
def execS2IdleTimer (s : State) : Out :=
  .next (let n := s.cfg 0x0903 0 0
    if s.scOn ∧ n ≠ 0 ∧ s.porter.entering.isNone ∧ s.fabricRuns ∧ s.disp.queued = [] ∧ s.porter.unacked = false ∧ s.rights = 0 then
      { s with mono := max s.mono (s.porter.lastRequest + n * 10 ^ 9), porter := { s.porter with entering := some (2, 0) } }
    else s)
/-- Every queue is empty and everything is gated: S2. -/
def execS2EntryDone (s : State) : Out :=
  .next (s.signal (match s.porter.entering with
    | some (2, _) =>
      if s.scOn ∧ s.disp.queued = [] ∧ s.sc.queue = [] ∧ s.sc.waiting = [] ∧ s.egress = [] ∧ s.allQuiet then
        { s with porter := { s.porter with power := .s2, entering := none }
                 clusters := s.clusters.map fun (e : Nat × Cluster) => (e.1, { e.2 with power := .gated }) }.scEvent St.powerStateEntered [2]
      else s
    | _ => s))
def wakeCode : WakeSource → Nat
  | .powerUp => 0 | .frame => 1 | .doorbell => 2 | .token => 3 | .pwrWakeN => 4 | .alarm => 5 | .mainReturn => 6
/-- A wake from S2: the clusters kept awake resume, the wake buffers are passed on; a debug grant has ended (R430). -/
def State.wakeS2 (s : State) (w : WakeSource) : State :=
  if s.porter.power = .s2 ∧ s.porter.held = false ∧ (w = .frame ∨ w = .doorbell ∨ w = .token) then
    let awake := fun (e : Nat × Cluster) => if e.1 < s.minAwake then (e.1, { e.2 with power := .idle s.mono, epochs := s.currentEpochs }) else e
    ({ s with porter := { s.porter with power := .s0, wakeSource := wakeCode w, wake := [] }
              clusters := s.clusters.map awake }.endGrant.scEvent St.powerWake [wakeCode w]).enterS1
  else s
def execS2Wake (w : WakeSource) (s : State) : Out := .next (s.signal (s.wakeS2 w))

/-! ### S3 (R415, R475, R477) -/

/-- The bytes of the running image's section of a type. -/
def State.sectionData (s : State) (type : Nat) : Bytes :=
  match s.sc.runImage with
  | some i => (match i.sections.find? fun x => x.type == type with | some x => x.data | none => [])
  | none => []
/-- The regions that R415 names, as they stand: the SC firmware region, each cluster's program memory (the verb library, then the programs
loaded), the microcode store. -/
def State.liveRegions (s : State) : List Bytes :=
  let programs := fun (x : Cluster) => x.images.flatMap fun e => match s.durable.progNow e.1 e.2.1 with | some i => i.text | none => []
  [s.sectionData 1] ++ (s.clusters.map fun e => s.sectionData 2 ++ programs e.2) ++ [s.sectionData 4]
/-- The steps 4 to 6 of R475: the platform off, the values stored, the main rail off; S4 without the standby rail. -/
def State.enterS3 (s : State) (alarm : Option Nat) : State :=
  let regions := s.liveRegions
  let st := match s.sc.runImage with
    | some i => if s.sc.running < 2 then some { slot := s.sc.running, digest := fwDigest i, regions := regions.map sha256 } else none
    | none => none
  let t := s.endAllSessions.mainReset
  if s.porter.standby then
    { t with porter := { t.porter with power := .s3, s3 := st, alarm := alarm, entering := none, wake := [] }, sc := { t.sc with retained := regions } }
  else { t with porter := { t.porter with power := .s4, entering := none, s3 := none, alarm := none, wake := [] }, sc := { t.sc with memKey := none, retained := [] } }
/-- Dispatched requests have completed. -/
def State.drained (s : State) : Bool :=
  s.cores.all (fun c => c.1 == .sc) && s.egress.isEmpty && s.sc.queue.isEmpty && s.sc.waiting.isEmpty
def execS3EntryDone (s : State) : Out :=
  .next (s.signal (match s.porter.entering with
    | some (3, a) =>
      if s.scOn ∧ s.drained then
        (s.scEvent St.powerStateEntered [3]).leaveService.enterS3 (if a = 0 then none else some (s.mono + a * 10 ^ 9))
      else s
    | _ => s))
/-- Why the fast path is refused: the first region whose digest fails, in the order of `liveRegions`; by the model's own numbers 0xFF
where no values are stored, 0xFE where another slot is preferred, 0xFD where the latch is set (R415, log 71). -/
def State.wakeMismatch (s : State) : Option Nat :=
  match s.porter.s3 with
  | none => some 0xFF
  | some x =>
    if s.porter.latch then some 0xFD
    else if x.slot ≠ s.sc.preferred then some 0xFE
    else match s.sc.slot x.slot with
      | .image _ => (List.range x.regions.length).find? fun n => sha256 (s.sc.retained.getD n []) != x.regions.getD n []
      | _ => some 0
/-- The fast path: the retained firmware goes on. -/
def State.fastWake (s : State) : State :=
  match s.porter.s3 with
  | some x =>
    (match s.sc.slot x.slot with
    | .image i =>
      { s with sc := { s.sc with mode := .starting, running := x.slot, runImage := some i, bootCount := s.sc.bootCount + 1, ctrl := (s.control 5).sc.ctrl }
               rng := {}, svc := { linkUp := true }, porter := { s.porter with s3 := none }
               guest := { s.guest with window := { start := s.mono } } }.platStart
    | _ => s)
  | none => s
/-- A wake from S3: by the fast path where every condition of R415 holds, else by the cold path. A sensor that holds the main domain in
reset holds the wake until the release (R463). -/
def State.wakeS3 (s : State) (w : Nat) : State :=
  if s.porter.power ≠ .s3 ∨ s.porter.p12v = false then s
  else if s.porter.held then { s with porter := { s.porter with wakeDue := some w } }
  else
    let t := { s with porter := { s.porter with power := .s0, wakeSource := w, alarm := none, wakeDue := none } }.scEvent St.powerWake [w]
    let u := { t with sc := { t.sc with retained := [] } }
    match t.wakeMismatch with
    | none => u.fastWake
    | some n => ({ u with porter := { u.porter with s3 := none } }.scEvent St.wakeDigestMismatch [n]).start false
def execS3Wake (w : WakeSource) (s : State) : Out :=
  .next (s.signal (match w with
    | .mainReturn => if s.porter.p12v then s else { s with porter := { s.porter with p12v := true } }.wakeS3 (wakeCode w)
    | .pwrWakeN => s.wakeS3 (wakeCode w)
    | .alarm => s.wakeS3 (wakeCode w)
    | _ => s))
def execPwrWakeN (s : State) : Out := .next (s.signal (s.wakeS3 (wakeCode .pwrWakeN)))
/-- The porter's alarm. -/
def execPorterAlarm (s : State) : Out :=
  .next (s.signal (match s.porter.alarm with
    | some t => if s.porter.power = .s3 then
        { s with mono := max s.mono t, porter := { s.porter with alarm := none } }.wakeS3 (wakeCode .alarm) else s
    | none => s))
/-- Every sensor has been clear for 100 ms: the reset is released. A wake that it held goes on; WARM_RESET follows where main power is up
(R463). -/
def State.releaseTamper (s : State) : State :=
  let t := { s with mono := s.mono + 10 ^ 8, porter := { s.porter with sensorActive := false, held := s.porter.power == .s4 } }
  match s.porter.wakeDue with
  | some w => t.wakeS3 w
  | none => t
def execTamperResetRelease (s : State) : Out :=
  .next (s.signal (if s.porter.held ∧ s.porter.latch then s.releaseTamper else s))

/-! ### Losses of power (R477, R538, R539) -/

/-- The entry to S3 that a loss of power makes is recorded, where the standby rail is there (R473). -/
def State.recordLostS3 (s : State) : State := if s.porter.standby then s.scEvent St.powerStateEntered [3] else s
/-- The hold-up: the unit stands down, the token slots are powered down, then S3 with the standby rail, else S4 (R477). Where no firmware
writes the Guestbook the loss is recorded at the next start. -/
def State.powerLost (s : State) : State :=
  if s.porter.p12v = false then s
  else
    let off := fun (t : State) => { t with porter := { t.porter with p12v := false } }
    let tokens := fun (t : State) => (t.tokenUnpower 0 St.tokenNoResponse).tokenUnpower 1 St.tokenNoResponse
    if s.mainUp = false then off s
    else if s.scOn then
      let t := tokens ((s.scEvent St.mainPowerLost).settleCommits.standDown)
      off ((t.recordLostS3.drainTaps.partialWindow).enterS3 none)
    else off (((tokens s).enterS3 none).scEvent St.mainPowerLost).recordLostS3
def execMainPowerLost (s : State) : Out := .next (s.signal s.powerLost)
/-- P12V above 14.0 V is disconnected and handled as a loss of main power. -/
def execP12vOvervoltage (s : State) : Out := .next (s.signal s.powerLost)
/-- Without the standby rail S3 ends in S4. -/
def execStandbyRailLost (s : State) : Out :=
  .next (s.signal (
    let t := { s with porter := { s.porter with standby := false } }
    if s.porter.power = .s3 then { t with porter := { t.porter with power := .s4, s3 := none, alarm := none }, sc := { t.sc with memKey := none, retained := [] } } else t))

end Sys2Proof.Machine
end

