-- ==== Sys2Proof/Machine/RequestFrames.lean ====
section
/-! DEFINITION. Request items, messages in blocks, de-duplication, acknowledgements and their timers (02 R54 to R66, R82 to
R86). -/

namespace Sys2Proof.Machine

/-! ### De-duplication (R82, R83) -/

/-- Room for one more record in the session and in the store. -/
def State.recordRoom (s : State) (x : Session) : Bool :=
  decide (x.dedup.length < 4096) && decide (s.storeUsed + 64 ≤ s.storeSize)
/-- What a request ID that arrives calls for. -/
inductive Copy where
  | stale | reassembling | inFlight | again (r : Response) | fresh
/-- The first rule of R82 that matches; `x.high` is H with this ID taken in. A later copy that is itself in reception is not
the request in reassembly. -/
def Session.copyKind (x : Session) (id : Nat) : Copy :=
  if id < x.ack ∨ id + 65536 ≤ x.high then .stale
  else if x.inbound.any (fun i => i.id == id && !i.copy) then .reassembling
  else match x.dedup? id with
    | some d => (match d.state with | .inFlight => .inFlight | .cached r => .again r | .noCopy => .stale)
    | none => .fresh
/-- The last frame of any copy tells where the response goes (R36). -/
def Session.lastCopy (id port : Nat) (src : Source) (x : Session) : Session :=
  { x with dedup := x.dedup.map fun d => if d.id = id then { d with port := port, src := src } else d
           inbound := x.inbound.map fun i => if i.id = id then { i with port := port, src := src } else i }
/-- H takes in the ID of a new item, or of a BLOCKS message at its first block (log 92). -/
def Session.sawId (id : Nat) (x : Session) : Session := ({ x with high := max x.high id } : Session).purge
/-- A copy of a request that is no new request. -/
def State.copyAnswer (s : State) (f : FrameIn) (sid id : Nat) (c : Copy) : State :=
  let t := s.updSess sid (Session.lastCopy id f.port f.src)
  match c with
  | .stale => s.refuseNow sid id f.port f.src St.requestIdStale
  | .reassembling => t
  | .inFlight => (match s.earlierCopy sid id f.port with
    | some q => (t.takeCopy q f.port).count q.port nDupAbsorbed 1
    | none => t.count f.port nDupAbsorbed 1)
  | .again r => t.sendResponse sid id f.port f.src r true
  | .fresh => s

/-! ### Complete requests (R59, R98 to R101) -/

/-- An admitted request is complete: it gets its record and its ticket, which the payload that has come is kept under. -/
def State.ticketRequest (s : State) (sid : Nat) (p : Nat) (i : Inbound) (h : ItemHdr) (body payload : Bytes) : State :=
  let d : Dedup := { id := i.id, state := .inFlight, port := i.port, src := i.src }
  let t := s.updSess sid fun y => y.setDedup d
  let r : Request := { partition := p, queue := h.queue, verb := h.verb, bulk := h.bulk, payloadLen := h.payloadLen, body := body,
                       charge := i.charge, reserved := i.reserved, spilled := i.spilled, port := i.port, origin := .session sid i.id }
  let n := t.disp.nextTicket
  let u := t.stampRequest r i.refused
  if h.bulk ∧ i.refused.isNone then { u with bulk := setK n payload u.bulk } else u
/-- What keeps a new request of a session from being taken: no room for its record, its code, its queue; else where its charge
lies. -/
def State.takeNew (s : State) (x : Session) (h : ItemHdr) : Admit :=
  if s.recordRoom x = false then .refused St.sessionBacklog 100
  else match s.arrivalRefusal h.verb with
    | some st => .refused st 0
    | none => s.admitCharge x.partition h.queue (chargeOf h.bodyLen)

/-! ### REQUEST frames (R56, R57) -/

/-- One item of a REQUEST frame. -/
def State.requestItem (s : State) (f : FrameIn) (sid : Nat) (h : ItemHdr) (body payload : Bytes) : State :=
  let t := s.updSess sid (Session.sawId h.id)
  match t.sess? sid with
  | none => s
  | some x => match x.copyKind h.id with
    | .fresh => (match t.takeNew x h with
      | .refused st retry => t.refuseNow sid h.id f.port f.src st retry
      | .taken res sp =>
        (t.ticketRequest sid x.partition { id := h.id, port := f.port, src := f.src, charge := chargeOf h.bodyLen, reserved := res,
                                           spilled := sp } h body payload).spillCheck x.partition sp)
    | c => t.copyAnswer f sid h.id c
/-- The items from a position on; a faulty gap or item ends the frame. -/
def State.requestItems (f : FrameIn) (sid : Nat) : (fuel : Nat) → State → (pos : Nat) → State
  | 0, s, _ => s
  | n + 1, s, pos =>
    let b := f.body
    let start := 8 * cdiv pos 8
    let h := itemHeader (b.drop start)
    let stop := start + 24 + h.bodyLen + h.payloadLen
    if allZero ((b.take start).drop pos) = false then s.malformedFrame f.port sid
    else if b.length ≤ start then s
    else if b.length < start + 24 then (if allZero (b.drop start) then s else s.malformedFrame f.port sid)
    else match h.error false with
      | some st =>
        let t := s.refuseNow sid h.id f.port f.src st
        if b.length < stop then t.malformedFrame f.port sid else State.requestItems f sid n t stop
      | none =>
        if b.length < stop then s.malformedFrame f.port sid
        else State.requestItems f sid n
          (s.requestItem f sid h (slice b (start + 24) h.bodyLen) (slice b (start + 24 + h.bodyLen) h.payloadLen)) stop
def execRequestFrame (f : FrameIn) (s : State) : Out :=
  .next (s.signal (s.rxTagged f 0x10 true fun t sid => State.requestItems f sid f.body.length t 0))

/-! ### Inbound messages (R60 to R66) -/

/-- The lowest block not yet received. -/
def lowestMissing (l : List (Nat × Bytes)) : (fuel : Nat) → (n : Nat) → Nat
  | 0, n => n
  | f + 1, n => if (getK n l).isSome then lowestMissing l f (n + 1) else n
def Inbound.base (i : Inbound) : Nat := lowestMissing i.blocks i.blocks.length 0
/-- The bytes received in order from the start. -/
def Inbound.front (i : Inbound) : Bytes := (List.range i.base).flatMap fun n => getD n [] i.blocks
def Inbound.header (i : Inbound) : ItemHdr := itemHeader (getD 0 [] i.blocks)
def ItemHdr.msgLen (h : ItemHdr) : Nat := 24 + h.bodyLen + h.payloadLen
def State.setInbound (s : State) (sid : Nat) (i : Inbound) : State :=
  s.updSess sid fun x => { x with inbound := x.inbound.map fun e => if e.id = i.id then i else e }
def State.dropInbound (s : State) (sid id : Nat) : State :=
  s.updSess sid fun x => { x with inbound := x.inbound.filter fun e => e.id != id, quietAt := s.mono }
def Session.inbound? (x : Session) (id : Nat) : Option Inbound := x.inbound.find? (·.id == id)
/-- BLOCK_ACK (R62): what of a message has been received. -/
def State.sendAck (s : State) (sid port : Nat) (dst : Source) (i : Inbound) (complete : Bool) : State :=
  let got := (List.range 1024).filter fun n => (getK (i.base + n) i.blocks).isSome
  s.sendTagged sid port dst 0x13 (beBytes 8 i.id ++ beBytes 4 i.base ++ beBytes 1 (b2n complete) ++ [0, 0, 0] ++ bitmap 128 got)
/-- The blocks of a frame with their indexes, and whether their CRCs hold. -/
def frameBlocks (b : Bytes) : List (Nat × Bytes × Bool) :=
  (List.range (beAt b 12 2)).map fun k =>
    let x := slice b (16 + 260 * k) 260
    (beAt b 8 4 + k, x.take 256, crc32c (x.take 256) == beAt x 256 4)
/-- The padding of a block of a message of a known length: only the last block has any (R61). -/
def paddingOk (len : Option Nat) (n : Nat) (d : Bytes) : Bool :=
  match len with
  | some m => decide (n + 1 ≠ cdiv m 256) || allZero (d.drop (m - 256 * n))
  | none => true
/-- The length of a message whose block 0 is held or comes with these blocks. -/
def Inbound.lenWith (i : Inbound) (l : List (Nat × Bytes × Bool)) : Option Nat :=
  match getK 0 i.blocks with
  | some b => some (itemHeader b).msgLen
  | none => (l.find? fun e => e.1 == 0 && e.2.2).map fun e => (itemHeader e.2.1).msgLen
/-- The blocks of a frame that count as received: CRC and padding hold (R61). -/
def Inbound.validBlocks (i : Inbound) (l : List (Nat × Bytes × Bool)) : List (Nat × Bytes × Bool) :=
  l.filter fun e => e.2.2 && paddingOk (i.lenWith l) e.1 e.2.1
/-- A last block held since before block 0 came, whose padding proves not zero, counts as not received. -/
def Inbound.dropBadLast (i : Inbound) (l : List (Nat × Bytes × Bool)) : Inbound :=
  { i with blocks := i.blocks.filter fun e => paddingOk (i.lenWith l) e.1 e.2 }
/-- Blocks that a message keeps in the session's window buffer: those after its gap, where they are not in reserved queue space
(R65, R66). -/
def Inbound.waitingBlocks (i : Inbound) : Nat :=
  if i.total != 0 && !i.header.bulk then 0 else (i.blocks.filter fun e => decide (i.base ≤ e.1)).length
/-- How far above its base a message may take blocks: 1,024, less what other messages keep in the window buffer; the block at
the base is always taken (log 93). -/
def Session.windowFor (x : Session) (i : Inbound) : Nat :=
  if i.total != 0 && !i.header.bulk then 1024
  else max 1 (1024 - ((x.inbound.filter fun e => e.id != i.id).map Inbound.waitingBlocks).sum)
/-- New blocks inside the window join the message; a later copy keeps the bytes of block 0, and the others until block 0 has told
the length and with it the padding. -/
def Inbound.addBlocks (now window : Nat) (l : List (Nat × Bytes × Bool)) (i : Inbound) : Inbound :=
  let ok := l.filter fun e => decide (e.1 < i.base + window) && (i.total == 0 || decide (e.1 < i.total))
  let new := ok.filter fun e => (getK e.1 i.blocks).isNone
  { i with blocks := i.blocks ++ new.map fun e => (e.1, if i.copy && e.1 != 0 && i.total != 0 then [] else e.2.1)
           lastAt := if new.isEmpty then i.lastAt else now, sinceAck := i.sinceAck + ok.length }
/-- Block 0 has come: the message is checked and its space reserved; a refusal discards it. -/
def State.openMessage (s : State) (f : FrameIn) (x : Session) (i : Inbound) : State × Option Inbound :=
  let h := i.header
  let refuse := fun (st retry : Nat) => ((s.dropInbound x.id i.id).refuseNow x.id i.id f.port f.src st retry, none)
  if h.id ≠ i.id then ((s.dropInbound x.id i.id).malformedFrame f.port x.id, none)
  else match h.error true with
    | some st => refuse st 0
    | none => if i.copy then (s, some { i with total := cdiv h.msgLen 256
                                               blocks := (i.blocks.filter fun e => decide (e.1 < cdiv h.msgLen 256)).map fun e =>
                                                 (e.1, if e.1 = 0 then e.2 else []) })
      else match s.takeNew x h with
      | .refused st retry => refuse st retry
      | .taken res sp =>
        let j : Inbound := { i with total := cdiv h.msgLen 256, charge := chargeOf h.bodyLen, reserved := res, spilled := sp
                                    blocks := i.blocks.filter fun e => decide (e.1 < cdiv h.msgLen 256) }
        ((s.setInbound x.id j).spillCheck x.partition sp, some j)
/-- A ticketed request is queued or runs. -/
def State.ticketLive (s : State) (n : Nat) : Bool := s.disp.queued.any (·.ticket == n) || s.cores.any (fun c => c.2.req.ticket == n)
/-- Item header and body are complete: the request is stamped, and answered at once where its partition has been halted since (R107);
a BULK message goes on under its ticket. -/
def State.stampMessage (s : State) (f : FrameIn) (x : Session) (i0 : Inbound) : State :=
  let i : Inbound := if i0.refused.isNone ∧ (s.part x.partition).halted then { i0 with refused := some St.partitionHalted } else i0
  let h := i.header
  let body := slice i.front 24 h.bodyLen
  let payload := (i.front.take h.msgLen).drop (24 + h.bodyLen)
  if s.recordRoom x = false then
    (s.dropInbound x.id i.id).refuseNow x.id i.id f.port f.src St.sessionBacklog 100
  else
    let n := s.disp.nextTicket
    let done := h.bulk = false ∨ i.base = i.total
    -- with its ticket the request holds the charge that the message held
    let t := if done then s.dropInbound x.id i.id
      else s.setInbound x.id { i with ticket := some n, charge := 0, reserved := 0, spilled := false }
    t.ticketRequest x.id x.partition i h body payload
/-- Payload blocks pass on to the lane in block order (R66); those of a request that is answered already are drained (R108). -/
def State.passPayload (s : State) (sid n : Nat) (i : Inbound) : State :=
  let h := i.header
  let t := if s.ticketLive n ∧ i.refused.isNone then
      { s with bulk := setK n ((i.front.take h.msgLen).drop (24 + h.bodyLen)) s.bulk }.laneData n else s
  if i.base = i.total then t.dropInbound sid i.id else t
/-- A later copy of a request has come whole: it is answered as R82 says of it, with the last frame of the copy (R36). -/
def State.copyWhole (s : State) (f : FrameIn) (x : Session) (i : Inbound) : State :=
  let t := s.dropInbound x.id i.id
  match t.sess? x.id with
  | none => t
  | some y => t.copyAnswer f x.id i.id (y.copyKind i.id)
/-- What a message's new blocks lead to: an acknowledgement, a stamp, a passing on of payload, the answer to a later copy. -/
def State.messageGrown (s : State) (f : FrameIn) (x : Session) (i : Inbound) (final : Bool) : State :=
  let complete := i.total != 0 && i.base == i.total
  let ack := complete || decide (32 ≤ i.sinceAck) || final
  let i1 := if ack then { i with sinceAck := 0 } else i
  let t := s.setInbound x.id i1
  let u := if ack then t.sendAck x.id f.port f.src i1 complete else t
  if i1.copy then (if complete then u.copyWhole f x i1 else u)
  else match i1.ticket with
  | some n => u.passPayload x.id n i1
  | none =>
    if i1.total ≠ 0 ∧ 24 + i1.header.bodyLen ≤ i1.front.length then u.stampMessage f x i1 else u
/-- Blocks for a message that is or becomes known. -/
def State.mergeBlocks (s : State) (f : FrameIn) (x : Session) (i0 : Inbound) : State :=
  let l := frameBlocks f.body
  let ok := i0.validBlocks l
  let i1 := i0.dropBadLast l
  let t := s.count f.port nBlockCrc (l.length - ok.length + (i0.blocks.length - i1.blocks.length))
  let i := ({ i1 with port := f.port, src := f.src } : Inbound).addBlocks s.mono (x.windowFor i1) ok
  let u := t.updSess x.id (Session.lastCopy i.id f.port f.src)
  let final := fun (j : Inbound) => ok.any fun e => e.1 + 1 == j.total
  if i.total = 0 ∧ (getK 0 i.blocks).isSome then
    match u.openMessage f x i with
    | (v, some j) => v.messageGrown f x j (final j)
    | (v, none) => v
  else u.messageGrown f x i (final i)
/-- A message or a later copy that no frame has named before is put in reception. -/
def State.startInbound (s : State) (f : FrameIn) (x : Session) (i : Inbound) : State :=
  (s.updSess x.id fun y => { y with inbound := y.inbound ++ [i] }).mergeBlocks f x i
/-- A frame of a message that is not taken into reception: its faulty blocks are counted, and it is answered, a copy with its block 0. -/
def State.notReceived (s : State) (f : FrameIn) (x : Session) (i : Inbound) (c : Copy) : State :=
  let l := frameBlocks f.body
  let ok := i.validBlocks l
  let u := s.count f.port nBlockCrc (l.length - ok.length)
  match c with
  | .fresh => u.refuseNow x.id i.id f.port f.src St.sessionBacklog 100
  | _ => if ok.any (·.1 == 0) then u.copyAnswer f x.id i.id c else u
/-- A BLOCKS frame of a request message. Blocks that count as not received do nothing but count. A later copy of a request is taken
in like a message and answered when it has come whole, or, where the session has 64 messages in reassembly, with its block 0; a stale
one is refused with its block 0 and its other blocks are dropped (R36, R61, R65, R82; log 94). -/
def State.blocksIn (s : State) (f : FrameIn) (sid : Nat) : State :=
  let id := beAt f.body 0 8
  match s.sess? sid with
  | none => s
  | some x0 =>
    let l := frameBlocks f.body
    let i := (x0.inbound? id).getD { id := id, port := f.port, src := f.src, lastAt := s.mono }
    if i.validBlocks l = [] then s.count f.port nBlockCrc l.length
    else
      let t := s.updSess sid (Session.sawId id)
      match t.sess? sid with
      | none => s
      | some x =>
        let c := x.copyKind id
        match c, x.inbound? id with
        | .stale, _ => t.notReceived f x i c
        | _, some j => t.mergeBlocks f x j
        | .reassembling, none => t
        | .fresh, none => if t.recordRoom x = false ∨ 64 ≤ x.inbound.length then t.notReceived f x i c else t.startInbound f x i
        | _, none => if 64 ≤ x.inbound.length then t.notReceived f x i c else t.startInbound f x { i with copy := true }
def blocksFormOk (b : Bytes) : Bool :=
  let n := beAt b 12 2
  decide (1 ≤ n ∧ n ≤ 35) && b.length == 16 + 260 * n && beAt b 14 2 == 0
def execBlocksFrame (f : FrameIn) (s : State) : Out :=
  .next (s.signal (s.rxTagged f 0x12 (blocksFormOk f.body) fun t sid => t.blocksIn f sid))
/-- 5 µs after an arrival not yet covered. -/
def execBlockAckTimer (sid mid : Nat) (s : State) : Out :=
  .next (match s.sess? sid with
    | some x => (match x.inbound? mid with
      | some i =>
        if i.sinceAck = 0 ∨ s.portsOn = false then s
        else
          let j := { i with sinceAck := 0 }
          (s.setInbound sid j).sendAck sid i.port i.src j false
      | none => s)
    | none => s)

/-! ### Time-outs of messages (R63, R64) -/

/-- The core that runs a ticket. -/
def State.coreOfTicket (s : State) (n : Nat) : Option (CoreId × Core) := s.cores.find? fun c => c.2.req.ticket == n
/-- A stalled payload: the job is aborted and the request answered; a queued request leaves its queue; one whose commit is
under way is let go on. -/
def State.payloadStalled (s : State) (sid mid n : Nat) : State :=
  match s.coreOfTicket n with
  | some (c, k) =>
    (match k.wait with
    | .commit _ _ => s
    | .verbCommit _ _ => s
    | _ => (s.dropInbound sid mid).endWith c k St.reassemblyTimeout [])
  | none => (s.dropInbound sid mid).cancelQueued (fun q => q.ticket == n) St.reassemblyTimeout
def execReassemblyTimeout (sid mid : Nat) (s : State) : Out :=
  .next (match s.sess? sid with
    | some x => (match x.inbound? mid with
      | some i =>
        if s.portsOn = false then s
        else
          let t := { s with mono := max s.mono (i.lastAt + 20 * 10 ^ 6) }
          match i.ticket with
          | some n => t.payloadStalled sid mid n
          | none => (t.dropInbound sid mid).event (portTap i.port) St.reassemblyTimeout [sid, mid]
      | none => s)
    | none => s)

/-! ### Outgoing messages (R62, R63, R64) -/

/-- Runs of consecutive numbers of a rising list, each of at most `per`. -/
def runsOf (per : Nat) : List Nat → List (Nat × Nat)
  | [] => []
  | n :: l => match runsOf per l with
    | (m, k) :: r => if m = n + 1 ∧ k < per then (n, k + 1) :: r else (n, 1) :: (m, k) :: r
    | [] => [(n, 1)]
/-- Blocks are sent again, which starts their timers anew; the re-sends that the timer makes count to the twelve of R63, those that a
BLOCK_ACK asks for do not (log 78). -/
def State.resendBlocks (s : State) (sid : Nat) (o : Outbound) (blks : List Nat) (timer : Bool) : State :=
  match s.sess? sid with
  | none => s
  | some x =>
    let per := max 1 (min 35 ((s.frameRoom x o.port o.src - 16) / 260))
    let t := (runsOf per blks).foldl (fun (t : State) e => t.sendTagged sid o.port o.src 0x12 (blocksBody o.id e.1 o.data e.2)) s
    t.updSess sid (Session.setOutbound
      { o with sent := o.sent.map fun e => if blks.contains e.1 then (e.1, e.2.1 + b2n timer, s.mono) else e })
/-- The form of R62: ID, BASE, ACK_FLAGS, reserved bytes, bit map. -/
def ackFormOk (b : Bytes) : Bool := b.length == 144 && beAt b 12 1 / 2 == 0 && beAt b 13 3 == 0
/-- The indexes a BLOCK_ACK reports received above its BASE. -/
def ackGot (b : Bytes) : List Nat :=
  (List.range 1024).filterMap fun i => if bit (leAt b (16 + i / 8) 1) (i % 8) then some (beAt b 8 4 + i) else none
/-- The window moves with the highest BASE received, which an older BLOCK_ACK that comes late does not move back (log 95); what is
reported missing below a received block is sent again at once; new blocks follow. -/
def State.ackIn (s : State) (f : FrameIn) (sid : Nat) : State :=
  let b := f.body
  let id := beAt b 0 8
  match s.sess? sid with
  | none => s
  | some x => match x.outbound.find? (·.id == id) with
    | none => s
    | some o =>
      let got := ackGot b
      let base := max o.base (min (beAt b 8 4) o.next)
      if bit (beAt b 12 1) 0 ∨ o.total ≤ base then
        s.updSess sid fun y => { y with outbound := y.outbound.filter fun (e : Outbound) => e.id != id }
      else
        let o1 := { o with base := base, sent := o.sent.filter fun e => decide (base ≤ e.1) && !got.contains e.1 }
        let top := got.foldl max 0
        let missing := (o1.sent.map (·.1)).filter fun n => decide (n < top)
        ((s.updSess sid (Session.setOutbound o1)).resendBlocks sid o1 missing false).pump sid id
def execBlockAck (f : FrameIn) (s : State) : Out :=
  .next (s.rxTagged f 0x13 (ackFormOk f.body) fun t sid => t.ackIn f sid)
/-- The timer before the k-th re-send, in ns. -/
def resendDelay (k : Nat) : Nat := min (20 * 2 ^ (k - 1)) 2000 * 1000
def execBlockResendTimer (sid mid blk : Nat) (s : State) : Out :=
  .next (match s.sess? sid with
    | some x => (match x.outbound.find? (·.id == mid) with
      | some o => (match o.sent.find? fun e => e.1 == blk && decide (e.2.1 < 12) with
        | some e => if s.portsOn then
            { s with mono := max s.mono (e.2.2 + resendDelay (e.2.1 + 1)) }.resendBlocks sid o [blk] true else s
        | none => s)
      | none => s)
    | none => s)
/-- A block is unacknowledged 2,000 µs after its 12th re-send. -/
def execMessageAbandoned (sid mid : Nat) (s : State) : Out :=
  .next (match s.sess? sid with
    | some x => (match x.outbound.find? (·.id == mid) with
      | some o => (match o.sent.find? fun e => decide (12 ≤ e.2.1) with
        | some e => if s.portsOn then
            let t := { s with mono := max s.mono (e.2.2 + 2 * 10 ^ 6) }
            (t.updSess sid fun y => { y with outbound := y.outbound.filter fun (z : Outbound) => z.id != mid }).event (portTap o.port)
              St.messageAbandoned [sid, mid]
          else s
        | none => s)
      | none => s)
    | none => s)

end Sys2Proof.Machine
end

