-- ==== Sys2Proof/Machine/ServicePort.lean ====
section
/-! DEFINITION. The service port: registers, rings, completions, ends of its session (18 R510 to R526; 13 R407; 17 R487). -/

namespace Sys2Proof.Machine

/-! ### Register values (R513 to R519, R525, R526) -/

def State.svcId (s : State) : Nat := 0x0A08 * 2 ^ 16 + 0x0100 + variantCode s.variant
def State.buildSeq (s : State) : Nat := match s.sc.runImage with | some i => i.buildSeq | none => 0
def State.svcLc (s : State) : Nat :=
  s.sc.preferred * 2 ^ 15 + s.sc.running * 2 ^ 13 + b2n s.sc.resumed * 2 ^ 12 + s.sc.otp.revokedBits * 2 ^ 8 + lcCode s.lifecycle
def State.svcStatus (s : State) : Nat :=
  s.pairCode * 2 ^ 8 + b2n (s.guest.fatal.state == 1) * 2 ^ 7 + b2n s.fatalHalted * 2 ^ 6 + b2n s.porter.unacked * 2 ^ 5 +
  b2n s.waysideOn * 2 ^ 4 + b2n s.ready
/-- TOK_SLOTn_STATUS (R407). -/
def State.slotReg (s : State) (n : Nat) : Nat :=
  let x := s.slot n
  let counted := match s.custody.ceremony with
    | some c => if c.live s.mono x.tokenId then c.id % 256 else 0
    | none => 0
  x.lastStatus * 2 ^ 16 + counted * 2 ^ 8 + b2n x.overcurrent * 2 ^ 7 + b2n x.writeIncomplete * 2 ^ 6 + b2n x.unlocked * 2 ^ 5 +
  b2n x.fallback * 2 ^ 4 + x.mode * 4 + b2n x.powered * 2 + b2n x.present
def Ring.idle (r : Ring) : Bool := !r.enable && r.slots.isEmpty
/-- The registers of a ring by offset within its 64 bytes. -/
def Ring.reg (r : Ring) (o : Nat) : Nat :=
  match o with
  | 0x00 => r.sqBase % 2 ^ 32
  | 0x04 => r.sqBase / 2 ^ 32
  | 0x08 => r.sqSize
  | 0x10 => r.sqHead
  | 0x14 => r.cqBase % 2 ^ 32
  | 0x18 => r.cqBase / 2 ^ 32
  | 0x1C => r.cqSize
  | 0x24 => r.cqTail
  | 0x28 => r.vector * 2 ^ 8 + b2n r.enable
  | 0x2C => b2n r.enable * 2 ^ 9 + b2n r.idle * 2 ^ 8 + r.error
  | 0x30 => r.timeUs * 2 ^ 16 + r.count
  | _ => 0
/-- A word of the selected dump block; blocks beyond the stream and those of an empty slot are zero. -/
def State.dumpWord (s : State) (o : Nat) : Nat :=
  let d := s.dumpSlot (s.svc.dumpSelect / 2 ^ 31)
  if d.state = 0 then 0 else leAt d.blocks (4096 * (s.svc.dumpSelect % 2 ^ 14) + o) 4
def State.dumpInfo (s : State) : Nat := s.guest.diverged.state * 2 ^ 16 + s.guest.fatal.state
def State.wayReg (s : State) (off : Nat) : Nat :=
  match off with
  | 0x4000 => s.svc.wayArg * 2 ^ 8 + s.svc.waySlot * 2 ^ 6 + s.svc.wayOp
  | 0x4004 => s.svc.wayResult * 2 ^ 8 + s.svc.wayState
  | 0x4008 => s.svc.wayAddr % 2 ^ 32
  | 0x400C => s.svc.wayAddr / 2 ^ 32
  | 0x4010 => s.svc.wayLen
  | _ => 0
/-- The 64-bit register whose low word stands at an offset. -/
def State.reg64 (s : State) (off : Nat) : Option Nat :=
  if off = 0x0030 then some s.mono
  else if 0x0404 ≤ off ∧ off < 0x0400 + 0x10 * 18 ∧ off % 16 = 4 then some (s.fifo ((off - 0x0400) / 16)).lost
  else if 0x1000 ≤ off ∧ off < 0x1400 ∧ off % 8 = 0 then some ((s.port ((off - 0x1000) / 128)).ctrs.toList.getD ((off - 0x1000) % 128 / 8) 0)
  else if 0x1400 ≤ off ∧ off < 0x1438 ∧ off % 8 = 0 then some (s.pair.ctrs.toList.getD ((off - 0x1400) / 8) 0)
  else none
/-- The high word of a 64-bit register stands at an offset. -/
def State.isHigh (s : State) (off : Nat) : Bool := decide (4 ≤ off) && (s.reg64 (off - 4)).isSome
/-- The other registers. -/
def State.reg32 (s : State) (off : Nat) : Nat :=
  if off = 0x0000 then s.svcId
  else if 0x0010 ≤ off ∧ off ≤ 0x001C then leAt (fit 16 Config.deviceSerial) (off - 0x0010) 4
  else if off = 0x0020 then s.svcLc
  else if off = 0x0024 then s.buildSeq
  else if off = 0x0028 then s.svcStatus
  else if off = 0x0040 then s.svc.intStatus.toNat
  else if off = 0x0044 then s.svc.intEnable.toNat
  else if off = 0x0200 then s.porter.status
  else if off = 0x0204 then s.porter.cause
  else if off = 0x0210 then s.slotReg 0
  else if off = 0x0214 then s.slotReg 1
  else if off = 0x0220 then s.plat.status
  else if 0x0400 ≤ off ∧ off < 0x0400 + 0x10 * 18 ∧ s.fifoExists ((off - 0x0400) / 16) then
    (if off % 16 = 0 then (s.fifo ((off - 0x0400) / 16)).status else (s.fifo ((off - 0x0400) / 16)).ecc)
  else if 0x0800 ≤ off ∧ off < 0x0A00 then (s.ring ((off - 0x0800) / 64)).reg (off % 64)
  else if off = 0x1440 then s.porter.wakeDrops
  else if off = 0x2000 then s.svc.dumpSelect
  else if off = 0x2004 then s.dumpInfo
  else if 0x3000 ≤ off ∧ off < 0x4000 then s.dumpWord (off - 0x3000)
  else if 0x8000 ≤ off ∧ off < 0x8200 then getD off 0 s.svc.msix
  else 0
/-- Registers that read before READY (R511). -/
def openRegister (off : Nat) : Bool :=
  off == 0x0000 || decide (0x0010 ≤ off ∧ off ≤ 0x0020) || off == 0x0024 || off == 0x0028
/-- What a read of a 32-bit word gives. -/
def State.readReg (s : State) (off : Nat) : Nat :=
  if 0x4000 ≤ off ∧ off ≤ 0x4024 then (if s.waysideOn then s.wayReg off else 0)
  else if s.ready = false ∧ openRegister off = false then 0
  else match s.reg64 off with
    | some v => v % 2 ^ 32
    | none => if s.isHigh off then s.svc.latch else s.reg32 off
/-- A read of a low word latches the high word (R514); a read of any other offset is answered too (log 40). -/
def execReg64LowRead (off : Nat) (s : State) : Out :=
  .next (if s.svc.linkUp = false ∨ off % 4 ≠ 0 then s
    else
      let t := s.emit (.register off (s.readReg off))
      match s.reg64 off with
      | some v => if s.ready then { t with svc := { t.svc with latch := v / 2 ^ 32 } } else t
      | none => t)

/-! ### Rings (R519, R520, R522, R523) -/

/-- A ring stops with an error. -/
def State.stopRing (s : State) (n code : Nat) : State :=
  (s.setRing n { s.ring n with enable := false, error := code }).raiseInt 0x02
/-- What a taken and not yet consumed request counts for. -/
def Ring.load (r : Ring) : Nat := r.slots.length + (r.cqTail + r.cqSize - r.cqHead) % r.cqSize
/-- Registers of a ring take a write. -/
def State.ringOn (s : State) (n : Nat) : Bool := s.svc.linkUp && s.ready && decide (n < 8)
/-- A doorbell: the index after the last submission entry. -/
def State.sqDoorbell (s : State) (n v : Nat) : State :=
  let r := s.ring n
  if s.ringOn n = false ∨ r.enable = false then s
  else if r.sqSize ≤ v then s.stopRing n 1 else s.setRing n { r with sqTail := v }
def State.cqDoorbell (s : State) (n v : Nat) : State :=
  let r := s.ring n
  if s.ringOn n = false ∨ r.enable = false then s
  else if r.cqSize ≤ v then s.stopRing n 1 else s.setRing n { r with cqHead := v }
/-- Bases and sizes that a ring can be enabled with. -/
def Ring.sound (r : Ring) : Bool :=
  r.sqBase % 4096 == 0 && r.cqBase % 4096 == 0 && decide (2 ≤ r.sqSize ∧ r.sqSize ≤ 4096) && decide (2 ≤ r.cqSize ∧ r.cqSize ≤ 4096)
/-- SVC_RING_CTRLr. -/
def State.ringControl (s : State) (n v : Nat) : State :=
  if s.ringOn n = false then s
  else
    let r := { s.ring n with vector := bits v 12 8 }
    if v % 2 = 0 then s.setRing n { r with enable := false }
    else if r.enable then s.setRing n r
    else if r.sound = false then s.setRing n { r with error := 5 }
    else s.setRing n { r with enable := true, error := 0, sqHead := 0, sqTail := 0, cqHead := 0, cqTail := 0, phase := true, unsignalled := 0 }
def execSvcSqTailWrite (ring : Nat) (v : BitVec 32) (s : State) : Out := .next (s.signal (s.sqDoorbell ring v.toNat))
def execSvcCqHeadWrite (ring : Nat) (v : BitVec 32) (s : State) : Out := .next (s.signal (s.cqDoorbell ring v.toNat))
def execSvcRingEnableWrite (ring : Nat) (v : BitVec 32) (s : State) : Out := .next (s.signal (s.ringControl ring v.toNat))
/-- A write to the other registers of a ring. -/
def State.ringReg (s : State) (n o v : Nat) : State :=
  let r := s.ring n
  let setup := fun (x : Ring) => if r.enable then s else s.setRing n x
  match o with
  | 0x00 => setup { r with sqBase := r.sqBase / 2 ^ 32 * 2 ^ 32 + v }
  | 0x04 => setup { r with sqBase := v * 2 ^ 32 + r.sqBase % 2 ^ 32 }
  | 0x08 => setup { r with sqSize := v }
  | 0x0C => s.sqDoorbell n v
  | 0x14 => setup { r with cqBase := r.cqBase / 2 ^ 32 * 2 ^ 32 + v }
  | 0x18 => setup { r with cqBase := v * 2 ^ 32 + r.cqBase % 2 ^ 32 }
  | 0x1C => setup { r with cqSize := v }
  | 0x20 => s.cqDoorbell n v
  | 0x28 => s.ringControl n v
  | 0x30 => s.setRing n { r with timeUs := v / 2 ^ 16, count := v % 2 ^ 16 }
  | _ => s

/-! ### Entries (R521 to R523) -/

/-- A submission entry that stops its ring. -/
def entryBad (e : SqEntry) : Bool :=
  e.res0 != 0 || e.res1 != 0 || e.reqAddr % 64 != 0 || e.respAddr % 64 != 0 || decide (e.reqBytes < 24 ∨ 65560 < e.reqBytes) ||
  decide (e.respMax < 32)
/-- What refuses a request item of a ring (R57, R523). -/
def ringItemError (h : ItemHdr) (e : SqEntry) : Option Status :=
  match h.error false with
  | some st => some st
  | none => if h.queue ≠ 3 ∨ h.bulk ∨ e.reqBytes ≠ 24 + h.bodyLen then some St.malformedRequest else none
/-- The request of an entry is answered at once or joins queue 3 of partition 0. -/
def State.ringRequest (s : State) (n key : Nat) (e : SqEntry) (item : Bytes) : State :=
  let h := itemHeader item
  let origin := Origin.ring n key
  let refuse := fun (st retry : Nat) =>
    s.ringReady n key { req := { origin := origin, verb := h.verb, queue := 3 }, status := st, retryUs := retry }
  match ringItemError h e with
  | some st => refuse st 0
  | none => match s.arrivalRefusal h.verb with
    | some st => refuse st 0
    | none => match s.admitCharge 0 3 (chargeOf h.bodyLen) with
      | .refused st retry => refuse st retry
      | .taken res sp =>
        (s.stampRequest { partition := 0, queue := 3, verb := h.verb, body := slice item 24 h.bodyLen, charge := chargeOf h.bodyLen,
                          reserved := res, spilled := sp, origin := origin } none).spillCheck 0 sp
/-- The next entry of a ring, with its request item as far as it could be read. -/
def State.ringFetch (s : State) (n : Nat) (e : SqEntry) (item : Option Bytes) : State :=
  let r := s.ring n
  if s.ringOn n = false ∨ s.fabricRuns = false ∨ r.enable = false ∨ r.sqHead = r.sqTail ∨ r.cqSize ≤ r.load + 1 then s
  else if entryBad e then s.stopRing n 2
  else match item with
    | none => s.stopRing n 3
    | some b =>
      let x : RingSlot := { key := s.svc.gen, index := r.sqHead, addr := e.respAddr, max := e.respMax, reqId := beAt b 0 8 }
      let t := { s with svc := { s.svc with gen := s.svc.gen + 1 } }.setRing n
        { r with sqHead := (r.sqHead + 1) % r.sqSize, slots := r.slots ++ [x] }
      t.ringRequest n x.key e b
def execRingEntryFetched (ring : Nat) (e : SqEntry) (item : Option Bytes) (s : State) : Out :=
  .next (s.signal (s.ringFetch ring e item))

/-! ### Completions (R519, R521, R524) -/

/-- The vector of a ring is signalled. -/
def State.signalRing (s : State) (n : Nat) : State :=
  let r := s.ring n
  let t := s.setRing n { r with unsignalled := 0 }
  if r.vector = 0 then t else t.emit (.msix r.vector)
/-- The first response that is ready is written, then its completion; a failing write stops the ring for good. -/
def State.ringComplete (s : State) (n : Nat) (writeOk : Bool) : State :=
  let r := s.ring n
  match r.ready with
  | [] => s
  | (key, resp) :: l =>
    match r.slots.find? (·.key == key) with
    | none => s.setRing n { r with ready := l }
    | some x =>
      if writeOk = false then (s.setRing n { r with slots := [], ready := [] }).stopRing n 4
      else
        let item := if resp.streamPart = 3 then [] else responseHeader x.reqId resp false false ++ resp.body
        let c := Output.completion n x.index item.length resp.status r.phase (decide (x.max < item.length)) x.addr (item.take x.max)
        let tail := if r.cqTail + 1 < r.cqSize then r.cqTail + 1 else 0
        let r1 := { r with ready := l, slots := r.slots.filter fun y => y.key != key, cqTail := tail
                           phase := if tail = 0 then !r.phase else r.phase, unsignalled := r.unsignalled + 1
                           firstUnsignalled := if r.unsignalled = 0 then s.mono else r.firstUnsignalled }
        let t := (s.emit c).setRing n r1
        if max 1 r1.count ≤ r1.unsignalled then t.signalRing n else t
def execRingCompletion (ring : Nat) (writeOk : Bool) (s : State) : Out :=
  .next (s.signal (if s.ringOn ring then s.ringComplete ring writeOk else s))
def execRingCoalesceTimer (ring : Nat) (s : State) : Out :=
  .next (let r := s.ring ring
    if s.ringOn ring ∧ r.unsignalled ≠ 0 then { s with mono := max s.mono (r.firstUnsignalled + r.timeUs * 1000) }.signalRing ring else s)

/-! ### The end of the service port session (R512, R532) -/

/-- Its stages are discarded, its registers return to their reset values; what it had ticketed runs on. -/
def State.endService (s : State) : State :=
  if s.svc.linkUp = false then s
  else { s.dropStages (fun g => g.session.isNone) with svc := { linkUp := true, gen := s.svc.gen } }
def execSvcFlr (s : State) : Out := .next (s.signal s.endService)
def execSvcHotReset (s : State) : Out := .next (s.signal s.endService)
def execSvcLinkDown (s : State) : Out := .next (s.signal s.endService)
def execSvcPerstAssert (s : State) : Out := .next (s.signal s.endService)

/-! ### Register writes (R13, R407, R487, R513, R518, R525, R526) -/

/-- Bits of SVC_INT_STATUS are cleared; vector 0 can be signalled again once none that is enabled is set. -/
def State.clearInt (s : State) (v : BitVec 32) : State :=
  let st := s.svc.intStatus &&& ~~~ v.truncate 6
  { s with svc := { s.svc with intStatus := st, armed := s.svc.armed || (st &&& s.svc.intEnable) == 0 } }
def State.clearSlot (s : State) (n v : Nat) : State :=
  let x := s.slot n
  s.setSlot n { x with overcurrent := x.overcurrent && !bit v 7, writeIncomplete := x.writeIncomplete && !bit v 6 }
def State.clearTap (s : State) (n v : Nat) : State :=
  let f := s.fifo n
  if s.fifoExists n then s.setFifo n { f with uncorrectable := f.uncorrectable && !bit v 23, truncSeen := f.truncSeen && !bit v 22
                                              underrun := f.underrun && !bit v 21 } else s
/-- The wayside registers; GO comes with the WAYSIDE rows (log 33). -/
def State.wayWrite (s : State) (off v : Nat) : State :=
  let c := s.svc
  if s.waysideOn = false then s
  else if off = 0x4000 then
    (if bit v 31 then s else { s with svc := { c with wayArg := bits v 11 8, waySlot := bits v 7 6, wayOp := bits v 3 0 } })
  else if off = 0x4008 then { s with svc := { c with wayAddr := c.wayAddr / 2 ^ 32 * 2 ^ 32 + v } }
  else if off = 0x400C then { s with svc := { c with wayAddr := v * 2 ^ 32 + c.wayAddr % 2 ^ 32 } }
  else if off = 0x4010 then { s with svc := { c with wayLen := v } }
  else if 0x4014 ≤ off ∧ off ≤ 0x4020 then
    let i := (off - 0x4014) / 4
    if h : i < 4 then { s with svc := { c with wayToken := c.wayToken.set i v } } else s
  else s
/-- A write of a 32-bit word: read-only and unlisted registers ignore it. -/
def State.writeReg (s : State) (off : Nat) (v : BitVec 32) : State :=
  let n := v.toNat
  if s.svc.linkUp = false ∨ off % 4 ≠ 0 then s
  else if 0x4000 ≤ off ∧ off ≤ 0x4024 then s.wayWrite off n
  else if s.ready = false then s
  else if off = 0x0040 then s.clearInt v
  else if off = 0x0044 then { s with svc := { s.svc with intEnable := v.truncate 6 } }
  else if off = 0x0210 then s.clearSlot 0 n
  else if off = 0x0214 then s.clearSlot 1 n
  else if 0x0400 ≤ off ∧ off < 0x0400 + 0x10 * 18 ∧ off % 16 = 0 then s.clearTap ((off - 0x0400) / 16) n
  else if 0x0800 ≤ off ∧ off < 0x0A00 then s.ringReg ((off - 0x0800) / 64) (off % 64) n
  else if off = 0x2000 then { s with svc := { s.svc with dumpSelect := n / 2 ^ 31 * 2 ^ 31 + n % 2 ^ 14 } }
  else if 0x8000 ≤ off ∧ off < 0x8200 then { s with svc := { s.svc with msix := setK off n s.svc.msix } }
  else s
def execRegisterWrite (off : Nat) (v : BitVec 32) (s : State) : Out := .next (s.signal (s.writeReg off v))

end Sys2Proof.Machine
end

