-- ==== Sys2Proof/Machine/SessionEvents.lean ====
section
/-! DEFINITION. Rekeys, keep-alives, closes and exhaustion of sessions (02 R49, R51, R73 to R76). -/

namespace Sys2Proof.Machine

/-! ### Rekeys (R70, R73, R74) -/

/-- Both directions move to the next epoch; the old keys stay for 2 ms. -/
def Session.nextEpoch (now : Nat) (x : Session) : Session :=
  { x with oldPrk := some x.prk, prk := hmac 256 x.prk (ascii "caravan v1 next" ++ x.th ++ [1]), epoch := x.epoch + 1
           switchedAt := now, rekeying := false, txEpoch := 0, rxEpoch := 0 }
/-- A REKEY under the current epoch is answered and followed, or is the acknowledgement of the module's own. -/
def State.rekeyIn (s : State) (f : FrameIn) (sid : Nat) : State :=
  match s.sess? sid with
  | none => s
  | some x =>
    if hdrPhase f.hdr ≠ x.epoch % 2 then s
    else
      let t := if x.rekeying then s else s.sendTagged sid f.port f.src 0x15 []
      t.updSess sid (Session.nextEpoch s.mono)
def execRekey (f : FrameIn) (s : State) : Out := .next (s.rxTagged f 0x14 f.body.isEmpty fun t sid => t.rekeyIn f sid)
def State.rekeyAcked (s : State) (f : FrameIn) (sid : Nat) : State :=
  s.updSess sid fun x => if x.rekeying ∧ hdrPhase f.hdr = x.epoch % 2 then Session.nextEpoch s.mono x else x
def execRekeyAck (f : FrameIn) (s : State) : Out := .next (s.rxTagged f 0x15 f.body.isEmpty fun t sid => t.rekeyAcked f sid)
/-- A direction has sent 2^40 - 2^32 frames in the epoch. -/
def execRekeyStart (sid : Nat) (s : State) : Out :=
  .next (match s.sess? sid with
    | some x =>
      if s.portsOn ∧ x.live ∧ x.rekeying = false ∧ (2 ^ 40 - 2 ^ 32 ≤ x.txEpoch ∨ 2 ^ 40 - 2 ^ 32 ≤ x.rxEpoch) then
        (s.sendTagged sid x.port x.src 0x14 []).updSess sid fun y => { y with rekeying := true }
      else s
    | none => s)
def execEpochKeyErase (sid : Nat) (s : State) : Out :=
  .next (match s.sess? sid with
    | some x =>
      if x.oldPrk.isSome then
        { s with mono := max s.mono (x.switchedAt + 2 * 10 ^ 6) }.updSess sid fun y => { y with oldPrk := none }
      else s
    | none => s)

/-! ### Ends (R51, R74 to R76) -/

/-- A close for a cause without a listed REASON: the byte is free (log 39). -/
def State.closeFree (s : State) (sid : Nat) (st : Status) : State :=
  { s with freeCtr := s.freeCtr + 1 }.closeSession sid st (Config.freeNat s.freeCtr % 256)
/-- The next frame of a direction would need FRAME_SEQ 2^64 - 1, or a direction has reached 2^40 frames in an epoch; the CLOSE
takes the last number (log 39). -/
def Session.exhausted (x : Session) : Bool :=
  decide (2 ^ 64 - 2 ≤ x.txSeq) || (match x.rxHigh with | some h => decide (2 ^ 64 - 2 ≤ h) | none => false) ||
  decide (2 ^ 40 ≤ x.txEpoch) || decide (2 ^ 40 ≤ x.rxEpoch)
def execSessionExhausted (sid : Nat) (s : State) : Out :=
  .next (match s.sess? sid with
    | some x => if s.portsOn ∧ x.exhausted then s.closeFree sid St.sessionExhausted else s
    | none => s)
/-- A client's CLOSE ends the session at its frame and is answered once. -/
def execClose (f : FrameIn) (s : State) : Out :=
  .next (s.rxTagged f 0x16 (f.body == closeBody St.sessionClosed 1) fun t sid => t.closeSession sid St.sessionClosed 1)
def execKeepalive (f : FrameIn) (s : State) : Out :=
  .next (s.rxTagged f 0x17 f.body.isEmpty fun t sid => t.sendTagged sid f.port f.src 0x17 [])

/-! ### The end of a handshake (R71, R72) -/

/-- A client's frame that was kept while its session was half-open is acted on. -/
def State.earlyFrame (s : State) (sid : Nat) (f : FrameIn) : State :=
  s.actTagged f sid fun t n =>
    if f.hdr.type = 0x10 then State.requestItems f n f.body.length t 0
    else if f.hdr.type = 0x12 then t.blocksIn f n
    else if f.hdr.type = 0x13 then t.ackIn f n
    else if f.hdr.type = 0x14 then t.rekeyIn f n
    else if f.hdr.type = 0x15 then t.rekeyAcked f n
    else t.sendTagged n f.port f.src 0x17 []
/-- The signature of a CLIENT_FINISH has been checked: the session is live and the frames that followed are acted on, or the handshake
is refused, its slot freed and they are discarded. -/
def State.finishDone (s : State) (x : Session) : State :=
  match x.check with
  | some c => match c.job.bind s.lneJob? with
    | some j => match j.place with
      | .done st =>
        let t := s.dropLneJob j
        let known := (t.durable.credential x.partition x.credAlg x.credId).map (·.1) == some c.credential
        if st = 0 ∧ known ∧ t.admitsHandshake x.partition then
          let t := t.sample 16 17 ((t.mono - x.startedAt) / 1000)
          x.early.foldl (fun u f => u.earlyFrame x.id f)
            (t.updSess x.id fun y => { y with live := true, credential := c.credential, check := none, early := [] }).calmMark
        else (t.refuseHello c.port c.src x.hello St.credentialInvalid 0).forgetSession x.id
      | _ => s
    | none => s
  | none => s
/-- What the end of an LNE job lets the handshakes do. -/
def State.handshakesGo (s : State) : State := (s.net.sessions.foldl State.finishDone s).helloWork.treeWork
def execLneJobComplete (engine : Nat) (s : State) : Out := .next (s.signal (s.lneComplete engine).handshakesGo)
def execLneRngTimeout (handle : Nat) (s : State) : Out := .next (s.lneStarve handle).handshakesGo
/-- No request of a session is in reassembly, queued or dispatched; it is idle since its last frame or, where that is later, since
its last request ended (R75). -/
def State.sessionQuiet (s : State) (x : Session) : Bool :=
  let mine := fun (q : Request) => match q.origin with | .session i _ => i == x.id | _ => false
  x.inbound.isEmpty && !s.disp.queued.any mine && !s.sessInFlight x.id
def execSessionIdle (sid : Nat) (s : State) : Out :=
  .next (match s.sess? sid with
    | some x =>
      if s.portsOn ∧ x.live ∧ s.sessionQuiet x then
        { s with mono := max s.mono (max x.lastRx x.quietAt + s.cfg 0x010C 0 600 * 10 ^ 9) }.closeFree sid St.sessionIdle
      else s
    | none => s)

end Sys2Proof.Machine
end

