-- ==== Sys2Proof/Machine/SmbTarget.lean ====
section
/-! DEFINITION. The SMBus target and the thermal warning (19 R541 to R544). -/

namespace Sys2Proof.Machine

/-- The target answers while a J2 rail is present, never in S4. -/
def State.smbOn (s : State) : Bool := (s.porter.p12v || s.porter.standby) && s.porter.power != .s4
/-- The main domain runs, so that its fields can be read. -/
def State.mainOn (s : State) : Bool := s.mainUp && !s.porter.held
def State.smbWord (s : State) (v : Nat) : State := if s.smbOn then s.emit (.smb (leBytes 2 v)) else s
def execSmbIdent (s : State) : Out := .next (s.smbWord (0x0100 + variantCode s.variant))
/-- SVC_SMB_STATE. -/
def State.smbState (s : State) : Nat :=
  let main := fun (b : Bool) => b2n (s.mainOn && b)
  powerCode s.porter.power * 2 ^ 8 + main s.ready * 2 ^ 7 + main s.porter.unacked * 2 ^ 6 + main s.fatalHalted * 2 ^ 5 +
  main s.waysideOn * 2 ^ 4 + main s.plat.held * 2 ^ 3 + b2n s.smb.thermalWarn * 4 + b2n s.porter.vbat * 2 + b2n s.porter.p12v
def execSmbState (s : State) : Out := .next (s.smbWord s.smbState)
/-- A measurement of the surroundings: a free value (log 41). -/
def State.smbMeasure (s : State) : State := { s.smbWord (Config.freeNat s.freeCtr % 65536) with freeCtr := s.freeCtr + 1 }
def execSmbDieTemp (s : State) : Out := .next s.smbMeasure
def execSmbPower (s : State) : Out := .next s.smbMeasure
def execSmbAlertRead (s : State) : Out := .next (s.smbWord s.smb.alert.toNat)
/-- Write one to clear; a cause that persists sets no bit again. -/
def execSmbAlertWrite (v : BitVec 16) (s : State) : Out :=
  .next (if s.smbOn then { s with smb := { s.smb with alert := s.smb.alert &&& ~~~ v.truncate 3 } } else s)
def execSmbSerial (s : State) : Out := .next (if s.smbOn then s.emit (.smb (fit 16 Config.deviceSerial)) else s)
/-- The target's address in answer to the Alert Response Address, while SMB_ALERT_N is low. -/
def execSmbAlertResponse (s : State) : Out :=
  .next (if s.smbOn ∧ s.smb.alert ≠ 0 then s.emit (.smb [if s.smb.addrOpen then 0x9A else 0x98]) else s)
/-- The die temperature, in tenths of a degree Celsius, reaches 101 degrees, or falls to 99. -/
def execThermalWarnChange (temp : Int) (s : State) : Out :=
  .next (if s.smb.thermalWarn = false ∧ 1010 ≤ temp then
      { s with smb := { s.smb with thermalWarn := true, alert := s.smb.alert ||| 4 } }
    else if s.smb.thermalWarn ∧ temp ≤ 990 then { s with smb := { s.smb with thermalWarn := false } }
    else s)

/-- SMB_ALERT_N is driven low (R543). -/
def State.smbAlertLow (s : State) : Bool := s.smbOn && s.smb.alert != 0

/-! ### LEDs (R546) -/

/-- What an LED shows. -/
inductive Led where
  | off | on | slow | fast
deriving DecidableEq, Repr
/-- S3 and S4: every LED is off. -/
def State.ledsOff (s : State) : Bool := s.porter.power == .s3 || s.porter.power == .s4 || !s.porter.p12v
/-- LED 0, driven by the SC: starting before READY, in service, in S2. -/
def State.led0 (s : State) : Led :=
  if s.ledsOff || s.porter.held then .off
  else if s.porter.power = .s2 then .slow
  else if s.ready then .on else .fast
/-- LED 1, driven by the porter; of several causes the fastest sign shows (log 83). -/
def State.led1 (s : State) : Led :=
  if s.ledsOff then .off
  else if s.sc.mode = .wayside then .fast
  else if s.fatalHalted || s.plat.held then .slow
  else if s.porter.latch || s.porter.unacked then .on else .off
/-- A token write is under way, from its data phase to the end of busy. -/
def State.tokenWriting (s : State) : Bool :=
  let writing := fun (x : Slot) => match x.cmd with | some k => k.index == 17 | none => false
  writing s.custody.slot0 || writing s.custody.slot1
/-- LED 2, driven by the SC: no ceremony, its quorum met or awaited, a token write. -/
def State.led2 (s : State) : Led :=
  if s.ledsOff || s.porter.held then .off
  else if s.tokenWriting then .fast
  else match s.custody.ceremony with
    | some c => if s.quorumNow c then .on else .slow
    | none => .off

end Sys2Proof.Machine
end

