-- ==== Sys2Proof/Machine/Dispatch.lean ====
section
/-! DEFINITION. One arm per command: what it does to everything but the queue. -/

namespace Sys2Proof.Machine

/-- The effect of a command, by its row of the table. -/
def exec (i : Instr) (s : State) : Host.Outcome State Fault Refusal :=
  match i with
  | .add c d a b => Sys2Proof.Machine.execAdd c d a b s
  | .sub c d a b => Sys2Proof.Machine.execSub c d a b s
  | .and c d a b => Sys2Proof.Machine.execAnd c d a b s
  | .or c d a b => Sys2Proof.Machine.execOr c d a b s
  | .xor c d a b => Sys2Proof.Machine.execXor c d a b s
  | .andn c d a b => Sys2Proof.Machine.execAndn c d a b s
  | .sll c d a b => Sys2Proof.Machine.execSll c d a b s
  | .srl c d a b => Sys2Proof.Machine.execSrl c d a b s
  | .sra c d a b => Sys2Proof.Machine.execSra c d a b s
  | .rol c d a b => Sys2Proof.Machine.execRol c d a b s
  | .mul c d a b => Sys2Proof.Machine.execMul c d a b s
  | .mulhu c d a b => Sys2Proof.Machine.execMulhu c d a b s
  | .divu c d a b => Sys2Proof.Machine.execDivu c d a b s
  | .remu c d a b => Sys2Proof.Machine.execRemu c d a b s
  | .slt c d a b => Sys2Proof.Machine.execSlt c d a b s
  | .sltu c d a b => Sys2Proof.Machine.execSltu c d a b s
  | .seq c d a b => Sys2Proof.Machine.execSeq c d a b s
  | .sel c d a b x => Sys2Proof.Machine.execSel c d a b x s
  | .bswap c d a => Sys2Proof.Machine.execBswap c d a s
  | .addi c d a imm => Sys2Proof.Machine.execAddi c d a imm s
  | .andi c d a imm => Sys2Proof.Machine.execAndi c d a imm s
  | .ori c d a imm => Sys2Proof.Machine.execOri c d a imm s
  | .xori c d a imm => Sys2Proof.Machine.execXori c d a imm s
  | .shiftImm c d a kind n => Sys2Proof.Machine.execShiftImm c d a kind n s
  | .slti c d a imm => Sys2Proof.Machine.execSlti c d a imm s
  | .sltiu c d a imm => Sys2Proof.Machine.execSltiu c d a imm s
  | .li c d imm => Sys2Proof.Machine.execLi c d imm s
  | .lih c d h imm => Sys2Proof.Machine.execLih c d h imm s
  | .beq c a b off => Sys2Proof.Machine.execBeq c a b off s
  | .bne c a b off => Sys2Proof.Machine.execBne c a b off s
  | .blt c a b off => Sys2Proof.Machine.execBlt c a b off s
  | .bge c a b off => Sys2Proof.Machine.execBge c a b off s
  | .bltu c a b off => Sys2Proof.Machine.execBltu c a b off s
  | .bgeu c a b off => Sys2Proof.Machine.execBgeu c a b off s
  | .jmp c off => Sys2Proof.Machine.execJmp c off s
  | .call c off => Sys2Proof.Machine.execCall c off s
  | .nop c => Sys2Proof.Machine.execNop c s
  | .ret c => Sys2Proof.Machine.execRet c s
  | .endInv c a => Sys2Proof.Machine.execEndInv c a s
  | .fail c a => Sys2Proof.Machine.execFail c a s
  | .mono c d => Sys2Proof.Machine.execMono c d s
  | .csrr c d n => Sys2Proof.Machine.execCsrr c d n s
  | .csrw c n a => Sys2Proof.Machine.execCsrw c n a s
  | .eret c => Sys2Proof.Machine.execEret c s
  | .wfi c => Sys2Proof.Machine.execWfi c s
  | .fence c => Sys2Proof.Machine.execFence c s
  | .ld1 c t win a off => Sys2Proof.Machine.execLd1 c t win a off s
  | .ld2 c t win a off => Sys2Proof.Machine.execLd2 c t win a off s
  | .ld4 c t win a off => Sys2Proof.Machine.execLd4 c t win a off s
  | .ld8 c t win a off => Sys2Proof.Machine.execLd8 c t win a off s
  | .ld1s c t win a off => Sys2Proof.Machine.execLd1s c t win a off s
  | .ld2s c t win a off => Sys2Proof.Machine.execLd2s c t win a off s
  | .ld4s c t win a off => Sys2Proof.Machine.execLd4s c t win a off s
  | .ldb c t win a off => Sys2Proof.Machine.execLdb c t win a off s
  | .st1 c t win a off => Sys2Proof.Machine.execSt1 c t win a off s
  | .st2 c t win a off => Sys2Proof.Machine.execSt2 c t win a off s
  | .st4 c t win a off => Sys2Proof.Machine.execSt4 c t win a off s
  | .st8 c t win a off => Sys2Proof.Machine.execSt8 c t win a off s
  | .stb c t win a off => Sys2Proof.Machine.execStb c t win a off s
  | .ldctr c d a => Sys2Proof.Machine.execLdctr c d a s
  | .bmov c d a => Sys2Proof.Machine.execBmov c d a s
  | .bxor c d a b => Sys2Proof.Machine.execBxor c d a b s
  | .band c d a b => Sys2Proof.Machine.execBand c d a b s
  | .bor c d a b => Sys2Proof.Machine.execBor c d a b s
  | .bnot c d a => Sys2Proof.Machine.execBnot c d a s
  | .bsel c d a b x => Sys2Proof.Machine.execBsel c d a b x s
  | .bget c d a h => Sys2Proof.Machine.execBget c d a h s
  | .bshl c d a n => Sys2Proof.Machine.execBshl c d a n s
  | .bshr c d a n => Sys2Proof.Machine.execBshr c d a n s
  | .bli c d m => Sys2Proof.Machine.execBli c d m s
  | .bins c d a p n1 => Sys2Proof.Machine.execBins c d a p n1 s
  | .rnd c d => Sys2Proof.Machine.execRnd c d s
  | .rndg c d => Sys2Proof.Machine.execRndg c d s
  | .aese c d xs k => Sys2Proof.Machine.execAese c d xs k s
  | .aesd c d xs k => Sys2Proof.Machine.execAesd c d xs k s
  | .tdese c d xs k => Sys2Proof.Machine.execTdese c d xs k s
  | .tdesd c d xs k => Sys2Proof.Machine.execTdesd c d xs k s
  | .cmacu c d xs k len => Sys2Proof.Machine.execCmacu c d xs k len s
  | .cmac1 c d xs k len => Sys2Proof.Machine.execCmac1 c d xs k len s
  | .cbcmac c d xs k => Sys2Proof.Machine.execCbcmac c d xs k s
  | .cbcmac3 c d xs k len => Sys2Proof.Machine.execCbcmac3 c d xs k len s
  | .hashuStart c h alg xs len => Sys2Proof.Machine.execHashuStart c h alg xs len s
  | .hashuAbsorb c h xs len => Sys2Proof.Machine.execHashuAbsorb c h xs len s
  | .hashuOut c d h j => Sys2Proof.Machine.execHashuOut c d h j s
  | .hashuDiscard c h => Sys2Proof.Machine.execHashuDiscard c h s
  | .hashCompressionDone c h => Sys2Proof.Machine.execHashCompressionDone c h s
  | .pinfmt c d v xs p fmt => Sys2Proof.Machine.execPinfmt c d v xs p fmt s
  | .pine c d xs p k fmt => Sys2Proof.Machine.execPine c d xs p k fmt s
  | .bwrap c a d k => Sys2Proof.Machine.execBwrap c a d k s
  | .bopen c d v win a k => Sys2Proof.Machine.execBopen c d v win a k s
  | .ctcmp c d a b mask => Sys2Proof.Machine.execCtcmp c d a b mask s
  | .kld c d a => Sys2Proof.Machine.execKld c d a s
  | .kclr c d => Sys2Proof.Machine.execKclr c d s
  | .kmov c d a => Sys2Proof.Machine.execKmov c d a s
  | .kattr c d a f => Sys2Proof.Machine.execKattr c d a f s
  | .kgen c d a => Sys2Proof.Machine.execKgen c d a s
  | .kdrv c d p xs t alg => Sys2Proof.Machine.execKdrv c d p xs t alg s
  | .kform c d a b t => Sys2Proof.Machine.execKform c d a b t s
  | .kunw c d w win a len => Sys2Proof.Machine.execKunw c d w win a len s
  | .kexp c d a w win addr => Sys2Proof.Machine.execKexp c d a w win addr s
  | .lsub c d a => Sys2Proof.Machine.execLsub c d a s
  | .xsub c d a => Sys2Proof.Machine.execXsub c d a s
  | .jwait c d a => Sys2Proof.Machine.execJwait c d a s
  | .jtest c d a => Sys2Proof.Machine.execJtest c d a s
  | .skput c k a => Sys2Proof.Machine.execSkput c k a s
  | .skinv c a => Sys2Proof.Machine.execSkinv c a s
  | .sctr c a b => Sys2Proof.Machine.execSctr c a b s
  | .stab c a b => Sys2Proof.Machine.execStab c a b s
  | .sitem c a b => Sys2Proof.Machine.execSitem c a b s
  | .commit c d a => Sys2Proof.Machine.execCommit c d a s
  | .keyGenerate c => Sys2Proof.Machine.execKeyGenerate c s
  | .keyImport c => Sys2Proof.Machine.execKeyImport c s
  | .keyExport c => Sys2Proof.Machine.execKeyExport c s
  | .keyTranslate c => Sys2Proof.Machine.execKeyTranslate c s
  | .keyInvalidate c => Sys2Proof.Machine.execKeyInvalidate c s
  | .keyInfo c => Sys2Proof.Machine.execKeyInfo c s
  | .pinTranslate c => Sys2Proof.Machine.execPinTranslate c s
  | .pinMakeReference c => Sys2Proof.Machine.execPinMakeReference c s
  | .pinVerifyReference c => Sys2Proof.Machine.execPinVerifyReference c s
  | .pinCompare c => Sys2Proof.Machine.execPinCompare c s
  | .arqcVerify c => Sys2Proof.Machine.execArqcVerify c s
  | .arpcGenerate c => Sys2Proof.Machine.execArpcGenerate c s
  | .scriptMac c => Sys2Proof.Machine.execScriptMac c s
  | .dukptAesPinTranslate c => Sys2Proof.Machine.execDukptAesPinTranslate c s
  | .dukptAesDecrypt c => Sys2Proof.Machine.execDukptAesDecrypt c s
  | .dukptAesMacVerify c => Sys2Proof.Machine.execDukptAesMacVerify c s
  | .dukptTdesPinTranslate c => Sys2Proof.Machine.execDukptTdesPinTranslate c s
  | .dukptTdesDecrypt c => Sys2Proof.Machine.execDukptTdesDecrypt c s
  | .dukptTdesMacVerify c => Sys2Proof.Machine.execDukptTdesMacVerify c s
  | .dukptInitialKey c => Sys2Proof.Machine.execDukptInitialKey c s
  | .macGenerate c => Sys2Proof.Machine.execMacGenerate c s
  | .macVerify c => Sys2Proof.Machine.execMacVerify c s
  | .dataEncrypt c => Sys2Proof.Machine.execDataEncrypt c s
  | .dataDecrypt c => Sys2Proof.Machine.execDataDecrypt c s
  | .bulkEncrypt c => Sys2Proof.Machine.execBulkEncrypt c s
  | .bulkDecrypt c => Sys2Proof.Machine.execBulkDecrypt c s
  | .tokenise c => Sys2Proof.Machine.execTokenise c s
  | .detokenise c => Sys2Proof.Machine.execDetokenise c s
  | .dataWrap c => Sys2Proof.Machine.execDataWrap c s
  | .dataUnwrap c => Sys2Proof.Machine.execDataUnwrap c s
  | .sign c => Sys2Proof.Machine.execSign c s
  | .verify c => Sys2Proof.Machine.execVerify c s
  | .keyAgree c => Sys2Proof.Machine.execKeyAgree c s
  | .kemEncapsulate c => Sys2Proof.Machine.execKemEncapsulate c s
  | .kemDecapsulate c => Sys2Proof.Machine.execKemDecapsulate c s
  | .keypairGenerate c => Sys2Proof.Machine.execKeypairGenerate c s
  | .rsaDecrypt c => Sys2Proof.Machine.execRsaDecrypt c s
  | .waybill c => Sys2Proof.Machine.execWaybill c s
  | .random c => Sys2Proof.Machine.execRandom c s
  | .queueFlush c => Sys2Proof.Machine.execQueueFlush c s
  | .partitionStatus c => Sys2Proof.Machine.execPartitionStatus c s
  | .partitionReset => Sys2Proof.Machine.execPartitionReset s
  | .partitionQueueFlush => Sys2Proof.Machine.execPartitionQueueFlush s
  | .sessionClose => Sys2Proof.Machine.execSessionClose s
  | .partitionResetCancel p => Sys2Proof.Machine.execPartitionResetCancel p s
  | .partitionResetWipe p => Sys2Proof.Machine.execPartitionResetWipe p s
  | .stageOpen => Sys2Proof.Machine.execStageOpen s
  | .stageAdd => Sys2Proof.Machine.execStageAdd s
  | .stageValidate => Sys2Proof.Machine.execStageValidate s
  | .stageApply => Sys2Proof.Machine.execStageApply s
  | .stageDiscard => Sys2Proof.Machine.execStageDiscard s
  | .stageStatus => Sys2Proof.Machine.execStageStatus s
  | .scCommandResume => Sys2Proof.Machine.execScCommandResume s
  | .ceremonyOpen => Sys2Proof.Machine.execCeremonyOpen s
  | .ceremonyPassword => Sys2Proof.Machine.execCeremonyPassword s
  | .ceremonyStatus => Sys2Proof.Machine.execCeremonyStatus s
  | .ceremonyData => Sys2Proof.Machine.execCeremonyData s
  | .ceremonyResult => Sys2Proof.Machine.execCeremonyResult s
  | .ceremonyCancel => Sys2Proof.Machine.execCeremonyCancel s
  | .tokenSetPassword => Sys2Proof.Machine.execTokenSetPassword s
  | .tokenErase => Sys2Proof.Machine.execTokenErase s
  | .ceremonyTimeout => Sys2Proof.Machine.execCeremonyTimeout s
  | .tokenCountExpiry n => Sys2Proof.Machine.execTokenCountExpiry n s
  | .tokenDetectClosed slot identity emptyPassword build => Sys2Proof.Machine.execTokenDetectClosed slot identity emptyPassword build s
  | .tokenRemoved slot => Sys2Proof.Machine.execTokenRemoved slot s
  | .tokenOvercurrent slot => Sys2Proof.Machine.execTokenOvercurrent slot s
  | .tokenResponse slot r => Sys2Proof.Machine.execTokenResponse slot r s
  | .tokenBusyEnd slot => Sys2Proof.Machine.execTokenBusyEnd slot s
  | .firmwareBegin => Sys2Proof.Machine.execFirmwareBegin s
  | .firmwareData => Sys2Proof.Machine.execFirmwareData s
  | .firmwareEnd => Sys2Proof.Machine.execFirmwareEnd s
  | .bootStatus => Sys2Proof.Machine.execBootStatus s
  | .debugChallenge => Sys2Proof.Machine.execDebugChallenge s
  | .debugGrantExpiry => Sys2Proof.Machine.execDebugGrantExpiry s
  | .platformStatus => Sys2Proof.Machine.execPlatformStatus s
  | .recoveryBegin => Sys2Proof.Machine.execRecoveryBegin s
  | .recoveryData => Sys2Proof.Machine.execRecoveryData s
  | .recoveryEnd => Sys2Proof.Machine.execRecoveryEnd s
  | .platformRecover => Sys2Proof.Machine.execPlatformRecover s
  | .platformRestart => Sys2Proof.Machine.execPlatformRestart s
  | .deviceCertificate => Sys2Proof.Machine.execDeviceCertificate s
  | .powerState => Sys2Proof.Machine.execPowerState s
  | .tamperStatus => Sys2Proof.Machine.execTamperStatus s
  | .rngTap => Sys2Proof.Machine.execRngTap s
  | .gbStatus => Sys2Proof.Machine.execGbStatus s
  | .gbRead => Sys2Proof.Machine.execGbRead s
  | .gbClear => Sys2Proof.Machine.execGbClear s
  | .clockSet => Sys2Proof.Machine.execClockSet s
  | .dumpStatus => Sys2Proof.Machine.execDumpStatus s
  | .dumpRead => Sys2Proof.Machine.execDumpRead s
  | .dumpRelease => Sys2Proof.Machine.execDumpRelease s
  | .tapFlush => Sys2Proof.Machine.execTapFlush s
  | .ethernetFrameReceived port f => Sys2Proof.Machine.execEthernetFrameReceived port f s
  | .arpNdRequest port src => Sys2Proof.Machine.execArpNdRequest port src s
  | .icmpEchoRequest port src data => Sys2Proof.Machine.execIcmpEchoRequest port src data s
  | .clientHello f => Sys2Proof.Machine.execClientHello f s
  | .cookieModeExit => Sys2Proof.Machine.execCookieModeExit s
  | .serverHelloReady sid => Sys2Proof.Machine.execServerHelloReady sid s
  | .clientFinish f => Sys2Proof.Machine.execClientFinish f s
  | .handshakeTimeout sid => Sys2Proof.Machine.execHandshakeTimeout sid s
  | .cookieKeyRefresh => Sys2Proof.Machine.execCookieKeyRefresh s
  | .requestFrame f => Sys2Proof.Machine.execRequestFrame f s
  | .blocksFrame f => Sys2Proof.Machine.execBlocksFrame f s
  | .blockAck f => Sys2Proof.Machine.execBlockAck f s
  | .blockAckTimer sid mid => Sys2Proof.Machine.execBlockAckTimer sid mid s
  | .blockResendTimer sid mid blk => Sys2Proof.Machine.execBlockResendTimer sid mid blk s
  | .messageAbandoned sid mid => Sys2Proof.Machine.execMessageAbandoned sid mid s
  | .reassemblyTimeout sid mid => Sys2Proof.Machine.execReassemblyTimeout sid mid s
  | .rekey f => Sys2Proof.Machine.execRekey f s
  | .rekeyAck f => Sys2Proof.Machine.execRekeyAck f s
  | .rekeyStart sid => Sys2Proof.Machine.execRekeyStart sid s
  | .epochKeyErase sid => Sys2Proof.Machine.execEpochKeyErase sid s
  | .sessionExhausted sid => Sys2Proof.Machine.execSessionExhausted sid s
  | .close f => Sys2Proof.Machine.execClose f s
  | .keepalive f => Sys2Proof.Machine.execKeepalive f s
  | .sessionIdle sid => Sys2Proof.Machine.execSessionIdle sid s
  | .linkDown port => Sys2Proof.Machine.execLinkDown port s
  | .linkUp port => Sys2Proof.Machine.execLinkUp port s
  | .responseEgress => Sys2Proof.Machine.execResponseEgress s
  | .dispatchSlot => Sys2Proof.Machine.execDispatchSlot s
  | .unitPowerGate u => Sys2Proof.Machine.execUnitPowerGate u s
  | .unitResumeDone u => Sys2Proof.Machine.execUnitResumeDone u s
  | .commitAdmit => Sys2Proof.Machine.execCommitAdmit s
  | .commitBacklog ticket => Sys2Proof.Machine.execCommitBacklog ticket s
  | .commitJournaled => Sys2Proof.Machine.execCommitJournaled s
  | .commitApply => Sys2Proof.Machine.execCommitApply s
  | .mirrorAckTimeout csn => Sys2Proof.Machine.execMirrorAckTimeout csn s
  | .keyCheckpointStart => Sys2Proof.Machine.execKeyCheckpointStart s
  | .keyCheckpointWritten => Sys2Proof.Machine.execKeyCheckpointWritten s
  | .lneJobLoad => Sys2Proof.Machine.execLneJobLoad s
  | .lneYieldPoint engine => Sys2Proof.Machine.execLneYieldPoint engine s
  | .lneJobComplete engine => Sys2Proof.Machine.execLneJobComplete engine s
  | .lneAgePromotion handle => Sys2Proof.Machine.execLneAgePromotion handle s
  | .lneRngTimeout handle => Sys2Proof.Machine.execLneRngTimeout handle s
  | .laneJobStart lane => Sys2Proof.Machine.execLaneJobStart lane s
  | .laneResumeTimer handle => Sys2Proof.Machine.execLaneResumeTimer handle s
  | .laneJobComplete lane => Sys2Proof.Machine.execLaneJobComplete lane s
  | .laneStallTimeout handle => Sys2Proof.Machine.execLaneStallTimeout handle s
  | .maskReseedRequest u => Sys2Proof.Machine.execMaskReseedRequest u s
  | .maskReseedStall u => Sys2Proof.Machine.execMaskReseedStall u s
  | .maskSeedArrival u => Sys2Proof.Machine.execMaskSeedArrival u s
  | .rngWindowEnd windows => Sys2Proof.Machine.execRngWindowEnd windows s
  | .rngStartup windows katOk => Sys2Proof.Machine.execRngStartup windows katOk s
  | .rngStartupRetry windows katOk => Sys2Proof.Machine.execRngStartupRetry windows katOk s
  | .rngReaderTimeout c => Sys2Proof.Machine.execRngReaderTimeout c s
  | .rngTapEnd => Sys2Proof.Machine.execRngTapEnd s
  | .mirrorLinkLock => Sys2Proof.Machine.execMirrorLinkLock s
  | .mirrorHandshakeDone peer => Sys2Proof.Machine.execMirrorHandshakeDone peer s
  | .mirrorHandshakeRetry => Sys2Proof.Machine.execMirrorHandshakeRetry s
  | .mirrorHeartbeatTimer => Sys2Proof.Machine.execMirrorHeartbeatTimer s
  | .mirrorHeartbeat h => Sys2Proof.Machine.execMirrorHeartbeat h s
  | .mirrorRecords h first crcs recs => Sys2Proof.Machine.execMirrorRecords h first crcs recs s
  | .mirrorBlockAck h stream base got => Sys2Proof.Machine.execMirrorBlockAck h stream base got s
  | .mirrorBlockResendTimer stream blk => Sys2Proof.Machine.execMirrorBlockResendTimer stream blk s
  | .mirrorClaim h serial => Sys2Proof.Machine.execMirrorClaim h serial s
  | .mirrorSnapshot h first crcs => Sys2Proof.Machine.execMirrorSnapshot h first crcs s
  | .mirrorStandDown h => Sys2Proof.Machine.execMirrorStandDown h s
  | .resyncControl h j => Sys2Proof.Machine.execResyncControl h j s
  | .lanternFrameTimer => Sys2Proof.Machine.execLanternFrameTimer s
  | .lanternFrame f => Sys2Proof.Machine.execLanternFrame f s
  | .lanternTamper f => Sys2Proof.Machine.execLanternTamper f s
  | .pathSilent p => Sys2Proof.Machine.execPathSilent p s
  | .claimAnnounceTimer => Sys2Proof.Machine.execClaimAnnounceTimer s
  | .claimAnnounce port b => Sys2Proof.Machine.execClaimAnnounce port b s
  | .mirStartWaitExpiry => Sys2Proof.Machine.execMirStartWaitExpiry s
  | .resyncSnapshotLoaded snap => Sys2Proof.Machine.execResyncSnapshotLoaded snap s
  | .resyncRestart => Sys2Proof.Machine.execResyncRestart s
  | .coldStart => Sys2Proof.Machine.execColdStart s
  | .warmReset => Sys2Proof.Machine.execWarmReset s
  | .moduleStarted => Sys2Proof.Machine.execModuleStarted s
  | .s3Wake w => Sys2Proof.Machine.execS3Wake w s
  | .waysideLoadImage ctrl dma => Sys2Proof.Machine.execWaysideLoadImage ctrl dma s
  | .waysideRevoke ctrl => Sys2Proof.Machine.execWaysideRevoke ctrl s
  | .waysideToTest ctrl => Sys2Proof.Machine.execWaysideToTest ctrl s
  | .tamperTrip sensor => Sys2Proof.Machine.execTamperTrip sensor s
  | .tamperResetRelease => Sys2Proof.Machine.execTamperResetRelease s
  | .vbatAbsent => Sys2Proof.Machine.execVbatAbsent s
  | .mainPowerLost => Sys2Proof.Machine.execMainPowerLost s
  | .p12vOvervoltage => Sys2Proof.Machine.execP12vOvervoltage s
  | .s2EntryDone => Sys2Proof.Machine.execS2EntryDone s
  | .s2Wake w => Sys2Proof.Machine.execS2Wake w s
  | .s2IdleTimer => Sys2Proof.Machine.execS2IdleTimer s
  | .s3EntryDone => Sys2Proof.Machine.execS3EntryDone s
  | .pwrWakeN => Sys2Proof.Machine.execPwrWakeN s
  | .porterAlarm => Sys2Proof.Machine.execPorterAlarm s
  | .pltPwrGoodRise => Sys2Proof.Machine.execPltPwrGoodRise s
  | .pltPwrGoodFall => Sys2Proof.Machine.execPltPwrGoodFall s
  | .platformPowerGoodWait => Sys2Proof.Machine.execPlatformPowerGoodWait s
  | .platformReleasedEarly manifest flash => Sys2Proof.Machine.execPlatformReleasedEarly manifest flash s
  | .platformVerified => Sys2Proof.Machine.execPlatformVerified s
  | .regionMismatch why => Sys2Proof.Machine.execRegionMismatch why s
  | .serveTimeout => Sys2Proof.Machine.execServeTimeout s
  | .platformRecoveryWritten => Sys2Proof.Machine.execPlatformRecoveryWritten s
  | .hostFlashCommand ch cmd => Sys2Proof.Machine.execHostFlashCommand ch cmd s
  | .identityTreeBuilt => Sys2Proof.Machine.execIdentityTreeBuilt s
  | .tapItemWrite fifo src whole => Sys2Proof.Machine.execTapItemWrite fifo src whole s
  | .guestbookRead fifo reader => Sys2Proof.Machine.execGuestbookRead fifo reader s
  | .guestbookWindowClose => Sys2Proof.Machine.execGuestbookWindowClose s
  | .gbRateRefill => Sys2Proof.Machine.execGbRateRefill s
  | .fatalError cause => Sys2Proof.Machine.execFatalError cause s
  | .fatalReset => Sys2Proof.Machine.execFatalReset s
  | .svcSqTailWrite ring v => Sys2Proof.Machine.execSvcSqTailWrite ring v s
  | .svcCqHeadWrite ring v => Sys2Proof.Machine.execSvcCqHeadWrite ring v s
  | .svcRingEnableWrite ring v => Sys2Proof.Machine.execSvcRingEnableWrite ring v s
  | .ringEntryFetched ring e item => Sys2Proof.Machine.execRingEntryFetched ring e item s
  | .ringCompletion ring writeOk => Sys2Proof.Machine.execRingCompletion ring writeOk s
  | .ringCoalesceTimer ring => Sys2Proof.Machine.execRingCoalesceTimer ring s
  | .svcFlr => Sys2Proof.Machine.execSvcFlr s
  | .svcHotReset => Sys2Proof.Machine.execSvcHotReset s
  | .svcLinkDown => Sys2Proof.Machine.execSvcLinkDown s
  | .svcPerstAssert => Sys2Proof.Machine.execSvcPerstAssert s
  | .reg64LowRead off => Sys2Proof.Machine.execReg64LowRead off s
  | .registerWrite off v => Sys2Proof.Machine.execRegisterWrite off v s
  | .smbIdent => Sys2Proof.Machine.execSmbIdent s
  | .smbState => Sys2Proof.Machine.execSmbState s
  | .smbDieTemp => Sys2Proof.Machine.execSmbDieTemp s
  | .smbPower => Sys2Proof.Machine.execSmbPower s
  | .smbAlertRead => Sys2Proof.Machine.execSmbAlertRead s
  | .smbAlertWrite v => Sys2Proof.Machine.execSmbAlertWrite v s
  | .smbSerial => Sys2Proof.Machine.execSmbSerial s
  | .smbAlertResponse => Sys2Proof.Machine.execSmbAlertResponse s
  | .thermalWarnChange temp => Sys2Proof.Machine.execThermalWarnChange temp s
  | .mirrorBlockAckTimer => Sys2Proof.Machine.execMirrorBlockAckTimer s
  | .tokenBusyTimeout slot => Sys2Proof.Machine.execTokenBusyTimeout slot s
  | .standbyRailLost => Sys2Proof.Machine.execStandbyRailLost s
  | .platformRestartPowerOffEnd => Sys2Proof.Machine.execPlatformRestartPowerOffEnd s

end Sys2Proof.Machine
end

