-- ==== Sys2Proof/Safety.lean ====
section
/-! DEFINITION. What counts as a safe step, and the conditions and outcomes the statements speak of. -/

namespace Sys2Proof

/-- The core that a Ghedo instruction, a verb or the end of a hash compression runs on; none for the module's other commands. -/
def Instr.runsOn : Instr → Option CoreId
  | .add c _ _ _ | .sub c _ _ _ | .and c _ _ _ | .or c _ _ _ | .xor c _ _ _ | .andn c _ _ _ | .sll c _ _ _ | .srl c _ _ _
  | .sra c _ _ _ | .rol c _ _ _ | .mul c _ _ _ | .mulhu c _ _ _ | .divu c _ _ _ | .remu c _ _ _ | .slt c _ _ _ | .sltu c _ _ _
  | .seq c _ _ _ | .sel c _ _ _ _ | .bswap c _ _ | .addi c _ _ _ | .andi c _ _ _ | .ori c _ _ _ | .xori c _ _ _
  | .shiftImm c _ _ _ _ | .slti c _ _ _ | .sltiu c _ _ _ | .li c _ _ | .lih c _ _ _ | .beq c _ _ _ | .bne c _ _ _ | .blt c _ _ _
  | .bge c _ _ _ | .bltu c _ _ _ | .bgeu c _ _ _ | .jmp c _ | .call c _ | .nop c | .ret c | .endInv c _ | .fail c _ | .mono c _
  | .csrr c _ _ | .csrw c _ _ | .eret c | .wfi c | .fence c | .ld1 c _ _ _ _ | .ld2 c _ _ _ _ | .ld4 c _ _ _ _ | .ld8 c _ _ _ _
  | .ld1s c _ _ _ _ | .ld2s c _ _ _ _ | .ld4s c _ _ _ _ | .ldb c _ _ _ _ | .st1 c _ _ _ _ | .st2 c _ _ _ _ | .st4 c _ _ _ _
  | .st8 c _ _ _ _ | .stb c _ _ _ _ | .ldctr c _ _ | .bmov c _ _ | .bxor c _ _ _ | .band c _ _ _ | .bor c _ _ _ | .bnot c _ _
  | .bsel c _ _ _ _ | .bget c _ _ _ | .bshl c _ _ _ | .bshr c _ _ _ | .bli c _ _ | .bins c _ _ _ _ | .rnd c _ | .rndg c _
  | .aese c _ _ _ | .aesd c _ _ _ | .tdese c _ _ _ | .tdesd c _ _ _ | .cmacu c _ _ _ _ | .cmac1 c _ _ _ _ | .cbcmac c _ _ _
  | .cbcmac3 c _ _ _ _ | .hashuStart c _ _ _ _ | .hashuAbsorb c _ _ _ | .hashuOut c _ _ _ | .hashuDiscard c _
  | .hashCompressionDone c _ | .pinfmt c _ _ _ _ _ | .pine c _ _ _ _ _ | .bwrap c _ _ _ | .bopen c _ _ _ _ _ | .ctcmp c _ _ _ _
  | .kld c _ _ | .kclr c _ | .kmov c _ _ | .kattr c _ _ _ | .kgen c _ _ | .kdrv c _ _ _ _ _ | .kform c _ _ _ _
  | .kunw c _ _ _ _ _ | .kexp c _ _ _ _ _ | .lsub c _ _ | .xsub c _ _ | .jwait c _ _ | .jtest c _ _ | .skput c _ _ | .skinv c _
  | .sctr c _ _ | .stab c _ _ | .sitem c _ _ | .commit c _ _ | .keyGenerate c | .keyImport c | .keyExport c | .keyTranslate c
  | .keyInvalidate c | .keyInfo c | .pinTranslate c | .pinMakeReference c | .pinVerifyReference c | .pinCompare c | .arqcVerify c
  | .arpcGenerate c | .scriptMac c | .dukptAesPinTranslate c | .dukptAesDecrypt c | .dukptAesMacVerify c
  | .dukptTdesPinTranslate c | .dukptTdesDecrypt c | .dukptTdesMacVerify c | .dukptInitialKey c | .macGenerate c | .macVerify c
  | .dataEncrypt c | .dataDecrypt c | .bulkEncrypt c | .bulkDecrypt c | .tokenise c | .detokenise c | .dataWrap c | .dataUnwrap c
  | .sign c | .verify c | .keyAgree c | .kemEncapsulate c | .kemDecapsulate c | .keypairGenerate c | .rsaDecrypt c | .waybill c
  | .random c | .queueFlush c | .partitionStatus c => some c
  | _ => none

end Sys2Proof

namespace Sys2Proof.Machine

/-- The step answers a next state: neither a fault nor a refusal. -/
def runs (s : State) : Prop := ∃ t, step s = .next t

/-- Core `c` holds `k`, waits for nothing and, a transaction core, has budget left for one more instruction; the budget of R140 is
an invocation's and binds no core of the SC. -/
abbrev coreReady (s : State) (c : CoreId) (k : Core) : Prop :=
  s.core? c = some k ∧ k.wait = .none ∧ (c = .sc ∨ k.retired < instructionBudget)

/-- The core gone on to the next instruction in order: PC + 4, one more instruction retired. -/
def Core.stepped (k : Core) : Core := { k with pc := k.pc + 4, wait := .none, retired := k.retired + 1, insn := none }

/-- The core gone on at a program counter. -/
def Core.jumped (k : Core) (pc : Word) : Core := { k with pc := pc, retired := k.retired + 1, insn := none }

/-- The OUT and SCR windows of every core are in canonical form. -/
def windowsOk (s : State) : Prop := ∀ e ∈ s.cores, memWf e.2.out = true ∧ memWf e.2.scr = true

/-- A key register of the core holds a key of an allowed type with one of the usages an operation demands (R156). -/
abbrev keyServes (k : Core) (kr : KReg) (h : Handle) (typeOk : Nat → Bool) (anyOf : BitVec 16) : Prop :=
  k.getK kr = some h ∧ typeOk h.key.attrs.keyType = true ∧ hasAny h.key.attrs.usage anyOf = true

/-- Core `i` of cluster `n` runs, in world V, the invocation `k` of the verb with this code, and its step can go on. -/
abbrev verbRuns (s : State) (n i : Nat) (k : Core) (code : Nat) : Prop :=
  s.core? (.tx n i) = some k ∧ k.world = 1 ∧ k.req.verb = code ∧ k.verbTakes = true

/-- A reference loads as a handle of an allowed type with all of the usages demanded. -/
abbrev keyLoads (s : State) (c : CoreId) (k : Core) (ref : Nat) (typeOk : Nat → Bool) (all : BitVec 16) (h : Handle) (t : State) : Prop :=
  s.kld c k ref = .ok (h, t) ∧ typeOk h.key.attrs.keyType = true ∧ h.key.attrs.usage &&& all = all

/-- The command ends the invocation with a status and a body, in a state. -/
abbrev verbEnds (x : Instr) (s t : State) (n i : Nat) (k : Core) (st : Status) (body : Bytes) : Prop :=
  exec x s = .next (t.endInvocation (.tx n i) { k with wait := .none } st body)

/-- The command hands one commit of one item to the sequencer, and the core waits for it. -/
abbrev verbCommits (x : Instr) (s t : State) (n i : Nat) (k : Core) (item : CItem) (front back : Bytes) : Prop :=
  let w : PendingCommit := { src := .core (.tx n i), ticket := k.req.ticket, partition := k.partition, items := [item],
                             lines := recordLines [item], arrived := t.mono }
  exec x s = .next ((t.queueCommit w).setCore (.tx n i)
    { k with stage := [item], commitMade := true, jobs := [], wait := .verbCommit front back })

/-- KEK_REF is zero and names no key, or it loads as a symmetric key with WRAP (R192). -/
abbrev kekLoads (s : State) (c : CoreId) (k : Core) (ref : Nat) (kek : Option Handle) (t : State) : Prop :=
  (ref = 0 ∧ kek = none ∧ t = s) ∨ (ref ≠ 0 ∧ ∃ w, kek = some w ∧ keyLoads s c k ref isSym uWrap w t)

/-- A verb delivers a new key from the state `s1` (R192), once the short-block units have served its check value: without KEK_REF by one
commit of a KEY_PUT at DEST_REF, with it as a key block; the response is `front` and then the key-out layout. -/
abbrev keyDelivered (x : Instr) (s s1 : State) (n i : Nat) (k : Core) (front : Bytes) (dest : Nat) (kek : Option Handle) (new : KeyMat) : Prop :=
  ∀ s2, s1.sbu (.tx n i) k 1 = .ok s2 →
    let v := s2.checkOf new
    (kek = none → verbCommits x s v.2 n i k (.keyPut dest new) (front ++ v.1 ++ zeros 5) (leBytes 4 0 ++ zeros 4)) ∧
    (∀ w l s3, kek = some w → sealBlock w.key new (Config.freeBytes v.2.freeCtr 32) = .ok l → v.2.sbu (.tx n i) k (cdiv l.length 16) = .ok s3 →
      verbEnds x s { s3 with freeCtr := s3.freeCtr + 1 } n i k 0
        (front ++ v.1 ++ zeros 5 ++ zeros 8 ++ leBytes 4 l.length ++ zeros 4 ++ l))

/-- The cluster's expander serves a verb's draw of `len` bytes, with what the verb had already drawn of it before the expander blocked
(R319, R320). -/
abbrev verbDraws (s : State) (n : Nat) (k : Core) (len : Nat) (l : Bytes) (t : State) : Prop :=
  s.tryReads n (.invocation k.req.ticket) [len] = (some l, t)

/-- A PIN translation answers RESULT 0 and a fresh block of the destination format under the key `w`, its fill drawn from the core's
expander in the formats that have one. -/
abbrev pinWritten (x : Instr) (s s1 : State) (n i : Nat) (k : Core) (df : Nat) (w : Handle) (canon pan : Bytes) : Prop :=
  ∀ s2, s1.sbu (.tx n i) k (pinBlocks df) = .ok s2 →
    let word := leBytes 1 0 ++ zeros 3 ++ zeros 12
    (df = 0 → verbEnds x s s2 n i k 0 (word ++ fit 16 (fit 16 (encipherPin df (keyBytes w.key) canon pan [])))) ∧
    (df ≠ 0 → ∀ rnd s3, verbDraws s2 n k 8 rnd s3 → verbEnds x s s3 n i k 0
      (word ++ fit 16 (fit 16 (encipherPin df (keyBytes w.key) canon pan rnd))))

/-- The verb submits, in the state `u`, a job for a long-number engine whose operands and sizes R291 to R293 allow and for which the staging
memory has room, and its core waits for it. -/
abbrev lneStarts (x : Instr) (s u : State) (n i : Nat) (k : Core) (op p bits : Nat) (key : Option Handle) (ops : List Bytes) (tmpl : Bytes) : Prop :=
  let len := fun a => (ops.getD a []).length
  let j := u.wholeJob (k.submitter (.tx n i)) op p bits key ops tmpl
  operandsOk op p (opBitsOf bits key) key.isSome (len 0) (len 1) (len 2) (len 3) = true → opBitsOk op p bits key = true → u.lneUnits + j.units ≤ 2048 →
    exec x s = .next ((u.addLne j).setCore (.tx n i) { k with wait := .job u.nextHandle, jobs := (u.nextHandle, false) :: k.jobs })

/-- How a verb with one LNE job runs: it starts when the core has no job; while the job is not done the core waits for it; a job that ended OK
goes on as `fin` says, without the job; a status among `ends` ends the verb with that status. -/
abbrev lneVerb (x : Instr) (s : State) (n i : Nat) (k : Core) (start : Prop) (ends : Status → Bool) (fin : State → LneJob → Prop) : Prop :=
  (s.lneJobs.find? (·.core == .tx n i) = none → start) ∧
  ∀ j, s.lneJobs.find? (·.core == .tx n i) = some j →
    ((∀ st, j.place ≠ .done st) → exec x s = .next (s.setCore (.tx n i) { k with wait := .job j.handle })) ∧
    (j.place = .done 0 → fin (s.dropLneJob j) j) ∧
    (∀ st, j.place = .done st → st ≠ 0 → ends st = true → verbEnds x s (s.dropLneJob j) n i k st [])

/-- A verb derives the key of its template from the shared secret `p` by kdrv algorithm 0x05 and delivers it (R192, R218). -/
abbrev secretDelivered (x : Instr) (s u : State) (n i : Nat) (k : Core) (front : Bytes) (dest kek : Nat) (t tParent : Attrs) (context : Bytes)
    (p : Handle) : Prop :=
  ∀ h' v v2 w, derive 1 k.partition p context tParent 5 u.freeCtr = .ok h' → u.sbu (.tx n i) k (cdiv (symLen t.keyType) 8) = .ok v →
    kekLoads v (.tx n i) k kek w v2 → keyDelivered x s v2 n i k front dest w h'.key

/-- The security controller runs its firmware, and the command of this code at the head of its queue, the request `q`, is
taken, which leaves `t`. -/
abbrev scTakes (s t : State) (code : Nat) (q : Request) : Prop :=
  s.sc.mode = .running ∧ q.verb = code ∧ ∃ l, s.sc.queue = q :: l ∧ t = { s with sc := { s.sc with queue := l } }

/-- A tagged frame of a type other than CLIENT_FINISH and CLOSE is taken on the live session `x`: it is new and authentic, keeps the header
rules, and `u` is the state in which its own effect happens. -/
abbrev frameTaken (s u : State) (f : FrameIn) (type : Nat) (x : Session) : Prop :=
  s.caravanOn f.port = true ∧ f.hdr.type = type ∧ hdrFits f.hdr f.body = true ∧ s.rxKind f.hdr = .ok x ∧
  hdrLawful f.hdr false = true ∧ x.live = true ∧
  u = (((s.updSess x.id (Session.enter f.hdr.frameSeq s.mono)).touchSession x.id).updSess x.id (Session.heard f)).flushHeld x.id f.port f.src

/-- A mirror frame with a body of `body` bytes passes MAGIC, tag, epoch, window, reserved field, STATE and BODY_BYTES; `u` is the state, its claim learned and its marks taken,
in which its own content acts, before a partner that is complete joins. -/
abbrev mirrorTaken (s u : State) (h : MirHdr) (body : Nat) (serial : Option Nat) : Prop :=
  s.sc.mode = .running ∧ s.pair.linkOpen = true ∧ h.magic = 0x4D52 ∧ h.tagOk = true ∧ h.linkEpoch = s.pair.linkEpoch ∧ h.reserved = 0 ∧ 1 ≤ h.state ∧
  h.state ≤ 7 ∧ h.bodyBytes = body ∧
  ∃ w, seqWindow s.pair.rxHigh s.pair.rxSeen h.frameSeq = some w ∧
    u = ((((((s.setPair fun p => { p with rxHigh := some w.1, rxSeen := w.2 }.count mRx 1).heardLink).seenBy h.state h.claim).learnClaim h.claim serial).takeMarks h).joinPartner h)

end Sys2Proof.Machine
end

