-- ==== Sys2Proof/Certificates/Slice0/Obligations.lean ====
section
/-! DEFINITION. The statements for the provers. -/

open Sys2Proof Sys2Proof.Machine

/-- On a core that takes an instruction, each integer register instruction answers the next state in which gD holds the value
of R158 (a write to g0 is discarded, g0 reads 0), the program counter is PC + 4, one more instruction has retired, and
nothing else differs. Shift and rotate counts are the low six bits of gB. -/
def Obligations.IntegerRegisterResults : Prop :=
  ∀ (s : State) (c : CoreId) (k : Core) (d a b x : GReg), coreReady s c k →
    let put := fun v : Word => (Host.Outcome.next (s.setCore c ((k.setG d v).stepped)) : Out)
    let A := k.getG a
    let B := k.getG b
    let n := B.toNat % 64
    exec (.add c d a b) s = put (A + B) ∧
    exec (.sub c d a b) s = put (A - B) ∧
    exec (.and c d a b) s = put (A &&& B) ∧
    exec (.or c d a b) s = put (A ||| B) ∧
    exec (.xor c d a b) s = put (A ^^^ B) ∧
    exec (.andn c d a b) s = put (A &&& ~~~B) ∧
    exec (.sll c d a b) s = put (BitVec.ofNat 64 (A.toNat * 2 ^ n)) ∧
    exec (.srl c d a b) s = put (BitVec.ofNat 64 (A.toNat / 2 ^ n)) ∧
    exec (.sra c d a b) s = put (BitVec.ofInt 64 (A.toInt / 2 ^ n)) ∧
    exec (.rol c d a b) s = put ((A <<< n) ||| (A >>> (64 - n))) ∧
    exec (.mul c d a b) s = put (BitVec.ofNat 64 (A.toNat * B.toNat)) ∧
    exec (.mulhu c d a b) s = put (BitVec.ofNat 64 (A.toNat * B.toNat / 2 ^ 64)) ∧
    exec (.divu c d a b) s = put (if B.toNat = 0 then BitVec.ofNat 64 (2 ^ 64 - 1) else BitVec.ofNat 64 (A.toNat / B.toNat)) ∧
    exec (.remu c d a b) s = put (if B.toNat = 0 then A else BitVec.ofNat 64 (A.toNat % B.toNat)) ∧
    exec (.slt c d a b) s = put (if A.toInt < B.toInt then 1 else 0) ∧
    exec (.sltu c d a b) s = put (if A.toNat < B.toNat then 1 else 0) ∧
    exec (.seq c d a b) s = put (if A = B then 1 else 0) ∧
    exec (.sel c d a b x) s = put (if k.getG x ≠ 0 then A else B) ∧
    (∀ v : Word, (∀ i : Fin 8, v.extractLsb' (8 * i.val) 8 = A.extractLsb' (8 * (7 - i.val)) 8) →
      exec (.bswap c d a) s = put v)

/-- On a core that takes an instruction, each integer immediate instruction answers the next state in which gD holds the value
of R159 (addi, slti, sltiu and li extend the immediate by its sign, andi, ori and xori by zeros; lih replaces 16 bits),
the program counter is PC + 4, and nothing else but the count of retired instructions differs. -/
def Obligations.IntegerImmediateResults : Prop :=
  ∀ (s : State) (c : CoreId) (k : Core) (d a : GReg) (imm : BitVec 16) (n : BitVec 6) (m : BitVec 21) (h : Fin 4), coreReady s c k →
    let put := fun v : Word => (Host.Outcome.next (s.setCore c ((k.setG d v).stepped)) : Out)
    let A := k.getG a
    exec (.addi c d a imm) s = put (A + BitVec.ofInt 64 imm.toInt) ∧
    exec (.andi c d a imm) s = put (A &&& BitVec.ofNat 64 imm.toNat) ∧
    exec (.ori c d a imm) s = put (A ||| BitVec.ofNat 64 imm.toNat) ∧
    exec (.xori c d a imm) s = put (A ^^^ BitVec.ofNat 64 imm.toNat) ∧
    exec (.shiftImm c d a .sll n) s = put (BitVec.ofNat 64 (A.toNat * 2 ^ n.toNat)) ∧
    exec (.shiftImm c d a .srl n) s = put (BitVec.ofNat 64 (A.toNat / 2 ^ n.toNat)) ∧
    exec (.shiftImm c d a .sra n) s = put (BitVec.ofInt 64 (A.toInt / 2 ^ n.toNat)) ∧
    exec (.shiftImm c d a .rol n) s = put ((A <<< n.toNat) ||| (A >>> (64 - n.toNat))) ∧
    exec (.slti c d a imm) s = put (if A.toInt < imm.toInt then 1 else 0) ∧
    exec (.sltiu c d a imm) s = put (if A.toNat < (BitVec.ofInt 64 imm.toInt).toNat then 1 else 0) ∧
    exec (.li c d m) s = put (BitVec.ofInt 64 m.toInt) ∧
    (∀ v : Word, (∀ i : Fin 64, v.getLsbD i.val =
        if 16 * h.val ≤ i.val ∧ i.val < 16 * h.val + 16 then imm.getLsbD (i.val - 16 * h.val) else (k.getG d).getLsbD i.val) →
      exec (.lih c d h imm) s = put v)

/-- On a core that takes an instruction: a branch goes to PC + 4 × OFF (sign-extended) when its comparison holds, else to
PC + 4; jmp always; call pushes PC + 4 on a return stack that holds less than eight addresses; ret pops it. With eight
addresses call, and with none ret, faults with RETURN_STACK_FAULT. nop only goes on. No other state changes. -/
def Obligations.ControlTransferResults : Prop :=
  ∀ (s : State) (c : CoreId) (k : Core) (a b : GReg) (off : BitVec 16) (j : BitVec 26), coreReady s c k →
    let go := fun (taken : Bool) => (Host.Outcome.next (s.setCore c
      (if taken then k.jumped (k.pc + 4 * BitVec.ofInt 64 off.toInt) else k.stepped)) : Out)
    let far := k.pc + 4 * BitVec.ofInt 64 j.toInt
    let A := k.getG a
    let B := k.getG b
    exec (.beq c a b off) s = go (decide (A = B)) ∧
    exec (.bne c a b off) s = go (decide (A ≠ B)) ∧
    exec (.blt c a b off) s = go (decide (A.toInt < B.toInt)) ∧
    exec (.bge c a b off) s = go (decide (B.toInt ≤ A.toInt)) ∧
    exec (.bltu c a b off) s = go (decide (A.toNat < B.toNat)) ∧
    exec (.bgeu c a b off) s = go (decide (B.toNat ≤ A.toNat)) ∧
    exec (.jmp c j) s = .next (s.setCore c (k.jumped far)) ∧
    (k.rstack.length < 8 → exec (.call c j) s = .next (s.setCore c { k.jumped far with rstack := (k.pc + 4) :: k.rstack })) ∧
    (8 ≤ k.rstack.length → exec (.call c j) s = .next (s.endFault c k St.returnStackFault)) ∧
    (∀ r rs, k.rstack = r :: rs → exec (.ret c) s = .next (s.setCore c { k.jumped r with rstack := rs })) ∧
    (k.rstack = [] → exec (.ret c) s = .next (s.endFault c k St.returnStackFault)) ∧
    exec (.nop c) s = .next (s.setCore c k.stepped)

/-- On a core of a cluster that takes an instruction, end with a length up to 65,536 ends the invocation with OK and the first bytes of OUT, or with
all that OUT holds once a streaming job has frozen it; fail with a
status it may give ends it with that status and no body (any other value is STATUS_INVALID), mono writes MONO_NS. On
the security controller, where no invocation runs, end and fail go where the firmware's exception state says (the model's choice, log 11); csrw writes
the register and goes on, csrr and eret take values internal to the firmware (log 11), fence goes on, and wfi takes an interrupt that is there, else
waits (log 102); on a transaction core the five are ILLEGAL_INSTRUCTION. -/
def Obligations.ControlAndSystemResults : Prop :=
  ∀ (s : State) (c : CoreId) (k : Core) (d a : GReg) (n : BitVec 10), coreReady s c k →
    exec (.mono c d) s = .next (s.setCore c ((k.setG d (BitVec.ofNat 64 s.mono)).stepped)) ∧
    (c ≠ .sc →
      ((k.getG a).toNat ≤ 65536 → k.outFrozen = false → exec (.endInv c a) s =
        .next (s.endInvocation c { k with retired := k.retired + 1 } 0 (readBytes k.out 0 (k.getG a).toNat))) ∧
      ((k.getG a).toNat ≤ 65536 → k.outFrozen = true → exec (.endInv c a) s =
        .next (s.endInvocation c { k with retired := k.retired + 1 } 0 (readBytes k.out 0 k.outTop))) ∧
      (65536 < (k.getG a).toNat → exec (.endInv c a) s = .next (s.endFault c k St.outLengthInvalid)) ∧
      (St.failValid (k.getG a).toNat = true → exec (.fail c a) s =
        .next (s.endInvocation c { k with retired := k.retired + 1 } (k.getG a).toNat [])) ∧
      (St.failValid (k.getG a).toNat = false → exec (.fail c a) s = .next (s.endFault c k St.statusInvalid)) ∧
      (∀ i : Instr, i = .csrr c d n ∨ i = .csrw c n a ∨ i = .eret c ∨ i = .wfi c ∨ i = .fence c →
        exec i s = .next (s.endFault c k St.illegalInstruction))) ∧
    (c = .sc →
      ((k.getG a).toNat ≤ 65536 → exec (.endInv c a) s = .next (s.scTrap { k with retired := k.retired + 1 })) ∧
      (St.failValid (k.getG a).toNat = true → exec (.fail c a) s = .next (s.scTrap { k with retired := k.retired + 1 })) ∧
      exec (.csrw c n a) s = .next ({ s with sysRegs := setK n.toNat (k.getG a) s.sysRegs }.setCore c k.stepped) ∧
      exec (.csrr c d n) s = .next ({ s with freeCtr := s.freeCtr + 1 }.setCore c
        ((k.setG d (Config.systemRegister n.toNat (getD n.toNat 0 s.sysRegs) s.freeCtr)).stepped)) ∧
      exec (.eret c) s = .next ({ s with freeCtr := s.freeCtr + 1 }.setCore c
        { k.jumped (Config.scResumePc s.freeCtr &&& ~~~3) with world := if Config.freeNat s.freeCtr % 2 = 0 then 0 else 3 }) ∧
      (s.sc.irq = true → exec (.wfi c) s = .next ({ s with sc := { s.sc with irq := false } }.setCore c k.stepped)) ∧
      (s.sc.irq = false → exec (.wfi c) s = .next (s.setCore c { k with wait := .interrupt, insn := some (.wfi c) })) ∧
      exec (.fence c) s = .next (s.setCore c k.stepped))

/-- On a core that takes an instruction, with an aligned address that lies in IN, SCR or TAB: ld1 to ld8 put the window's
bytes, least significant first, into gT extended by zeros, ld1s to ld4s extended by the sign, ldb into bT, not sealed; the TAB
page read may enter the cluster's page buffer; nothing else changes. ldctr reads the counter whose number gA holds as of the
dispatch snapshot. -/
def Obligations.LoadResults : Prop :=
  ∀ (s : State) (c : CoreId) (k : Core) (d : GReg) (e : BReg) (w : Win) (a : GReg) (off : BitVec 14), coreReady s c k →
    let x := k.addr a off
    let after := fun k' : Core => (Host.Outcome.next ((if w = .tab then s.fillPage c k (x / 4096) else s).setCore c k'.stepped) : Out)
    let rd := fun n => leNat (s.readWin k w x n)
    let fits := fun n => w ≠ .out ∧ x % n = 0 ∧ x + n ≤ k.winSize w
    (fits 1 → exec (.ld1 c d w a off) s = after (k.setG d (BitVec.ofNat 64 (rd 1))) ∧
      exec (.ld1s c d w a off) s = after (k.setG d (BitVec.ofInt 64 (BitVec.ofNat 8 (rd 1)).toInt))) ∧
    (fits 2 → exec (.ld2 c d w a off) s = after (k.setG d (BitVec.ofNat 64 (rd 2))) ∧
      exec (.ld2s c d w a off) s = after (k.setG d (BitVec.ofInt 64 (BitVec.ofNat 16 (rd 2)).toInt))) ∧
    (fits 4 → exec (.ld4 c d w a off) s = after (k.setG d (BitVec.ofNat 64 (rd 4))) ∧
      exec (.ld4s c d w a off) s = after (k.setG d (BitVec.ofInt 64 (BitVec.ofNat 32 (rd 4)).toInt))) ∧
    (fits 8 → exec (.ld8 c d w a off) s = after (k.setG d (BitVec.ofNat 64 (rd 8)))) ∧
    (fits 16 → exec (.ldb c e w a off) s = after (k.setB e { val := bytesBlock (s.readWin k w x 16), sealed := false })) ∧
    ((k.getG a).toNat < 65536 → exec (.ldctr c d a) s = .next ((s.fillPage c k (256 + (k.getG a).toNat / 512)).setCore c
      ((k.setG d (BitVec.ofNat 64 (s.durable.ctrAt k.partition (k.getG a).toNat k.snapshot))).stepped)))

/-- On a core that takes an instruction, with an aligned address that lies in SCR, or in OUT while OUT is not frozen: st1 to
st8 store the low bytes of gT, least significant first, stb the 16 bytes of an unsealed bT, at that address of the window,
and the core goes on. -/
def Obligations.StoreResults : Prop :=
  ∀ (s : State) (c : CoreId) (k : Core) (d : GReg) (e : BReg) (w : Win) (a : GReg) (off : BitVec 14), coreReady s c k →
    let x := k.addr a off
    let fits := fun n => (w = .scr ∨ w = .out ∧ k.outFrozen = false) ∧ x % n = 0 ∧ x + n ≤ k.winSize w
    let after := fun l => (Host.Outcome.next (s.setCore c ((k.storeBytes w x l).stepped)) : Out)
    (fits 1 → exec (.st1 c d w a off) s = after (leBytes 1 (k.getG d).toNat)) ∧
    (fits 2 → exec (.st2 c d w a off) s = after (leBytes 2 (k.getG d).toNat)) ∧
    (fits 4 → exec (.st4 c d w a off) s = after (leBytes 4 (k.getG d).toNat)) ∧
    (fits 8 → exec (.st8 c d w a off) s = after (leBytes 8 (k.getG d).toNat)) ∧
    (fits 16 → (k.getB e).sealed = false → exec (.stb c e w a off) s = after (leBytes 16 (k.getB e).val.toNat))

/-- On a core that takes an instruction, for every width: a misaligned address ends the invocation with ALIGNMENT_FAULT; an aligned
one outside its window, a load from OUT, a store to IN, TAB or a frozen OUT with WINDOW_VIOLATION; stb of a sealed block with
SEAL_VIOLATION whatever its address; ldctr of a counter number from 65,536 on with WINDOW_VIOLATION. -/
def Obligations.AccessFaults : Prop :=
  ∀ (s : State) (c : CoreId) (k : Core) (d : GReg) (e : BReg) (w : Win) (a : GReg) (off : BitVec 14), coreReady s c k →
    let x := k.addr a off
    let load := fun (n : Nat) (i : Instr) =>
      n = 1 ∧ (i = .ld1 c d w a off ∨ i = .ld1s c d w a off) ∨ n = 2 ∧ (i = .ld2 c d w a off ∨ i = .ld2s c d w a off) ∨
      n = 4 ∧ (i = .ld4 c d w a off ∨ i = .ld4s c d w a off) ∨ n = 8 ∧ i = .ld8 c d w a off ∨ n = 16 ∧ i = .ldb c e w a off
    let store := fun (n : Nat) (i : Instr) =>
      n = 1 ∧ i = .st1 c d w a off ∨ n = 2 ∧ i = .st2 c d w a off ∨ n = 4 ∧ i = .st4 c d w a off ∨ n = 8 ∧ i = .st8 c d w a off ∨
      n = 16 ∧ i = .stb c e w a off ∧ (k.getB e).sealed = false
    (∀ n i, load n i ∨ store n i → x % n ≠ 0 → exec i s = .next (s.endFault c k St.alignmentFault)) ∧
    (∀ n i, load n i → x % n = 0 → (w = .out ∨ k.winSize w < x + n) → exec i s = .next (s.endFault c k St.windowViolation)) ∧
    (∀ n i, store n i → x % n = 0 → (w = .inW ∨ w = .tab ∨ w = .out ∧ k.outFrozen = true ∨ k.winSize w < x + n) →
      exec i s = .next (s.endFault c k St.windowViolation)) ∧
    ((k.getB e).sealed = true → exec (.stb c e w a off) s = .next (s.endFault c k St.sealViolation)) ∧
    (65536 ≤ (k.getG a).toNat → exec (.ldctr c d a) s = .next (s.endFault c k St.windowViolation))

/-- For a memory in canonical form, a store of a byte string at an address leaves every byte outside it as it was, puts
the string there, and keeps the form. For every state and core, an instruction that stores (st1 to st8, stb) and leaves its
invocation running changes of that core's OUT and SCR only the bytes of its width from the address it computes, in the window it names, no
general, block or key register, no staged commit, and no other core. -/
def Obligations.StoreFrame : Prop :=
  (∀ (m : Memory) (x : Nat) (l : Bytes), memWf m = true →
    memWf (writeBytes m x l) = true ∧ readBytes (writeBytes m x l) x l.length = l ∧
    ∀ y, (y < x ∨ x + l.length ≤ y) → readByte y (writeBytes m x l) = readByte y m) ∧
  ∀ (s t : State) (c : CoreId) (k k' : Core) (d : GReg) (e : BReg) (w : Win) (a : GReg) (off : BitVec 14) (n : Nat) (i : Instr),
    (n = 1 ∧ i = .st1 c d w a off ∨ n = 2 ∧ i = .st2 c d w a off ∨ n = 4 ∧ i = .st4 c d w a off ∨
      n = 8 ∧ i = .st8 c d w a off ∨ n = 16 ∧ i = .stb c e w a off) →
    memWf k.out = true → memWf k.scr = true →
    s.core? c = some k → exec i s = .next t → t.core? c = some k' →
    let x := k.addr a off
    (∀ y, w ≠ .out ∨ y < x ∨ x + n ≤ y → readByte y k'.out = readByte y k.out) ∧
    (∀ y, w ≠ .scr ∨ y < x ∨ x + n ≤ y → readByte y k'.scr = readByte y k.scr) ∧
    k'.g = k.g ∧ k'.b = k.b ∧ k'.k = k.k ∧ k'.rstack = k.rstack ∧ k'.stage = k.stage ∧ k'.jobs = k.jobs ∧
    ∀ c', c' ≠ c → t.core? c' = s.core? c'

/-- On a core that takes an instruction, bmov, bxor, band, bor, bnot, bsel, bshl and bshr write the block R165 gives, sealed when a
source is sealed (bsel: either candidate, whichever is chosen); bli writes an unsealed block of bytes FF and 00; bget of an
unsealed block writes half of it to gD, of a sealed one faults; bins replaces bytes of bD within its 16 bytes and keeps its seal, and is no
instruction beyond them. -/
def Obligations.BlockRegisterResults : Prop :=
  ∀ (s : State) (c : CoreId) (k : Core) (d a b : BReg) (g x : GReg) (n : BitVec 7) (h : Fin 2) (m : BitVec 16) (p : BitVec 4)
    (n1 : BitVec 3), coreReady s c k →
    let put := fun (v : Block) (sl : Bool) => (Host.Outcome.next (s.setCore c ((k.setB d { val := v, sealed := sl }).stepped)) : Out)
    let A := (k.getB a).val
    let B := (k.getB b).val
    let one := (k.getB a).sealed
    let two := (k.getB a).sealed || (k.getB b).sealed
    exec (.bmov c d a) s = put A one ∧
    exec (.bnot c d a) s = put (~~~A) one ∧
    exec (.bxor c d a b) s = put (A ^^^ B) two ∧
    exec (.band c d a b) s = put (A &&& B) two ∧
    exec (.bor c d a b) s = put (A ||| B) two ∧
    exec (.bsel c d a b x) s = put (if k.getG x ≠ 0 then A else B) two ∧
    exec (.bshl c d a n) s = put (BitVec.ofNat 128 (A.toNat * 2 ^ n.toNat)) one ∧
    exec (.bshr c d a n) s = put (BitVec.ofNat 128 (A.toNat / 2 ^ n.toNat)) one ∧
    (∀ v : Block, (∀ i : Fin 16, v.extractLsb' (8 * i.val) 8 = if m.getLsbD i.val then 0xFF else 0) →
      exec (.bli c d m) s = put v false) ∧
    ((k.getB a).sealed = false → exec (.bget c g a h) s =
      .next (s.setCore c ((k.setG g (A.extractLsb' (64 * h.val) 64)).stepped))) ∧
    ((k.getB a).sealed = true → exec (.bget c g a h) s = .next (s.endFault c k St.sealViolation)) ∧
    (p.toNat + n1.toNat + 1 ≤ 16 → ∀ v : Block, (∀ i : Fin 16, v.extractLsb' (8 * i.val) 8 =
        if p.toNat ≤ i.val ∧ i.val < p.toNat + n1.toNat + 1 then (k.getG g).extractLsb' (8 * (i.val - p.toNat)) 8
        else (k.getB d).val.extractLsb' (8 * i.val) 8) →
      exec (.bins c d g p n1) s = put v (k.getB d).sealed) ∧
    (16 < p.toNat + n1.toNat + 1 → exec (.bins c d g p n1) s = .next (s.endFault c k St.illegalInstruction))

/-- On a core that takes an instruction, rnd puts 16 and rndg 8 fresh bytes (of the expander's generator, whose function is free, log 7) into an unsealed block or
a general register when the core's expander can deliver; otherwise the core waits and nothing else changes. -/
def Obligations.RandomInstructionResults : Prop :=
  ∀ (s : State) (c : CoreId) (k : Core) (d : BReg) (g : GReg), coreReady s c k →
    (s.canDraw (expanderOf c) = true →
      exec (.rnd c d) s = .next ((s.random (expanderOf c) 16).2.setCore c
        ((k.setB d { val := bytesBlock (s.random (expanderOf c) 16).1, sealed := false }).stepped)) ∧
      exec (.rndg c g) s = .next ((s.random (expanderOf c) 8).2.setCore c
        ((k.setG g (BitVec.ofNat 64 (leNat (s.random (expanderOf c) 8).1))).stepped))) ∧
    (s.canDraw (expanderOf c) = false →
      exec (.rnd c d) s = .next (s.setCore c { k with wait := .random s.mono, insn := some (.rnd c d) }) ∧
      exec (.rndg c g) s = .next (s.setCore c { k with wait := .random s.mono, insn := some (.rndg c g) }))

/-- On a core that takes an instruction, with a key of the type and usage R167 and R168 demand and a short-block unit that
serves one block: aese, tdese, aesd, tdesd write the enciphered or deciphered block (TDES on the low 8 bytes, zeros above), a
deciphered block sealed unless the key has DEC_CLEAR; cmacu with L 0 and cbcmac chain one block, cmacu with L of 1 to
the block and cmac1 give the CMAC, cbcmac3 a step of MAC algorithm 3, sealed when a source is. -/
def Obligations.CipherResults : Prop :=
  ∀ (s t : State) (c : CoreId) (k : Core) (h : Handle) (d a : BReg) (kr : KReg) (len : BitVec 5), coreReady s c k →
    s.sbu c k 1 = .ok t →
    let put := fun (l : Bytes) (sl : Bool) =>
      (Host.Outcome.next (t.setCore c ((k.setB d { val := bytesBlock (fit 16 l), sealed := sl }).stepped)) : Out)
    let key := keyBytes h.key
    let ty := h.key.attrs.keyType
    let A := blockBytes (k.getB a).val
    let D := blockBytes (k.getB d).val
    let sa := (k.getB a).sealed
    let sd := (k.getB d).sealed
    let open' := hasAny h.key.attrs.usage uDecClear
    (keyServes k kr h isAes uEnc → exec (.aese c d a kr) s = put (aesE key (A.take 16)) sa) ∧
    (keyServes k kr h isTdes uEnc → exec (.tdese c d a kr) s = put (tdesE key (A.take 8)) sa) ∧
    (keyServes k kr h isAes (uDec ||| uDecClear) → exec (.aesd c d a kr) s = put (aesD key (A.take 16)) (!open' || sa)) ∧
    (keyServes k kr h isTdes (uDec ||| uDecClear) → exec (.tdesd c d a kr) s = put (tdesD key (A.take 8)) (!open' || sa)) ∧
    (keyServes k kr h isSym (uMacGen ||| uMacVer) →
      exec (.cbcmac c d a kr) s = put (ecbE ty key (xorBytes (D.take (blockLen ty)) (A.take (blockLen ty)))) (sd || sa) ∧
      exec (.cmacu c d a kr 0) s = put (ecbE ty key (xorBytes (D.take (blockLen ty)) (A.take (blockLen ty)))) (sd || sa) ∧
      (len.toNat ≤ blockLen ty →
        (len ≠ 0 → exec (.cmacu c d a kr len) s =
          put (cmacFinal ty key (D.take (blockLen ty)) ((A.take (blockLen ty)).take len.toNat)) (sd || sa)) ∧
        exec (.cmac1 c d a kr len) s = put (cmac ty key (A.take len.toNat)) sa)) ∧
    (keyServes k kr h isTdes (uMacGen ||| uMacVer) →
      exec (.cbcmac3 c d a kr 0) s = put (desE (slice key 0 8) (xorBytes (D.take 8) (A.take 8))) (sd || sa) ∧
      exec (.cbcmac3 c d a kr 1) s = put (desE (slice key 0 8) (desD (slice key 8 8) (desE (slice key 0 8)
        (xorBytes (D.take 8) (A.take 8))))) (sd || sa))

/-- On a core that takes an instruction, aese, aesd, tdese, tdesd, cmacu, cmac1, cbcmac and cbcmac3 on a key register that
holds no key fault with KEY_HANDLE_EMPTY; on a key of a type they do not take they are refused with KEY_TYPE_MISMATCH, on
one without the usage with KEY_USAGE_DENIED; a length above 16, or above 1 for cbcmac3, is no instruction. -/
def Obligations.CipherKeyChecks : Prop :=
  ∀ (s : State) (c : CoreId) (k : Core) (h : Handle) (d a : BReg) (kr : KReg) (len : BitVec 5) (i : Instr) (typeOk : Nat → Bool)
    (u : BitVec 16), coreReady s c k →
    (i = .aese c d a kr ∧ typeOk = isAes ∧ u = uEnc ∨ i = .tdese c d a kr ∧ typeOk = isTdes ∧ u = uEnc ∨
     i = .aesd c d a kr ∧ typeOk = isAes ∧ u = uDec ||| uDecClear ∨ i = .tdesd c d a kr ∧ typeOk = isTdes ∧ u = uDec ||| uDecClear ∨
     i = .cmacu c d a kr 0 ∧ typeOk = isSym ∧ u = uMacGen ||| uMacVer ∨ i = .cmac1 c d a kr 0 ∧ typeOk = isSym ∧ u = uMacGen ||| uMacVer ∨
     i = .cbcmac c d a kr ∧ typeOk = isSym ∧ u = uMacGen ||| uMacVer ∨ i = .cbcmac3 c d a kr 1 ∧ typeOk = isTdes ∧ u = uMacGen ||| uMacVer) →
    (k.getK kr = none → exec i s = .next (s.endFault c k St.keyHandleEmpty)) ∧
    (k.getK kr = some h → typeOk h.key.attrs.keyType = false → exec i s = .next (s.endWith c k St.keyTypeMismatch [])) ∧
    (k.getK kr = some h → typeOk h.key.attrs.keyType = true → h.key.attrs.usage &&& u = 0 →
      exec i s = .next (s.endWith c k St.keyUsageDenied [])) ∧
    (16 < len.toNat → exec (.cmacu c d a kr len) s = .next (s.endFault c k St.illegalInstruction) ∧
      exec (.cmac1 c d a kr len) s = .next (s.endFault c k St.illegalInstruction)) ∧
    (1 < len.toNat → exec (.cbcmac3 c d a kr len) s = .next (s.endFault c k St.illegalInstruction))

/-- On a core that takes an instruction: start absorbs the low L bytes into a new context; absorb adds them (to a fresh context
of the algorithm, its seal kept, when the last was given out); a compression runs once a block boundary is reached; out gives 16 bytes of the
hash and marks the context given out; discard empties it. What needs one of the cluster's two hash units waits while both are busy or another core
came first; on a context whose compression runs each of them makes the core wait, and the end of the compression frees context and unit; an L above
16 is no instruction. -/
def Obligations.HashResults : Prop :=
  ∀ (s : State) (c : CoreId) (k : Core) (h : Fin 2) (alg : HashAlg) (a d : BReg) (len : BitVec 5) (j : Fin 4), coreReady s c k →
    let low := (blockBytes (k.getB a).val).take len.toNat
    let sa := (k.getB a).sealed
    let x := k.hash[h]
    let base : HashCtx := if x.finalised then { alg := x.alg, sealed := x.sealed } else x
    let fills := decide (base.absorbed.length / hashBlock base.alg < (base.absorbed ++ low).length / hashBlock base.alg)
    let unit := s.hashBusy c < 2 ∧ s.behind c s.mono k.req.ticket Wait.hashSince = false
    let waits := fun (i : Instr) (b : Bool) => exec i s = .next (s.setCore c { k with wait := .hash s.mono b, insn := some i })
    let go := fun (k' : Core) => (Host.Outcome.next (s.setCore c k'.stepped) : Out)
    (x.running = false → len.toNat ≤ 16 →
      exec (.hashuStart c h alg a len) s = go (k.setHash h
        { alg := alg, absorbed := low, sealed := sa, finalised := false,
          running := decide (0 < low.length / hashBlock alg) }) ∧
      ((fills = false ∨ unit) → exec (.hashuAbsorb c h a len) s = go (k.setHash h { base with
          absorbed := base.absorbed ++ low, sealed := base.sealed || sa, running := fills })) ∧
      (fills = true → ¬ unit → waits (.hashuAbsorb c h a len) true)) ∧
    (x.running = false →
      ((x.finalised = true ∨ unit) → exec (.hashuOut c d h j) s = go ((k.setHash h { x with finalised := true }).setB d
        { val := bytesBlock (slice (sha x.alg x.absorbed) (16 * j.val) 16), sealed := x.sealed })) ∧
      (x.finalised = false → ¬ unit → waits (.hashuOut c d h j) true)) ∧
    (x.running = false → exec (.hashuDiscard c h) s = go (k.setHash h {})) ∧
    (x.running = true → len.toNat ≤ 16 →
      (∀ i : Instr, i = .hashuStart c h alg a len ∨ i = .hashuAbsorb c h a len ∨ i = .hashuOut c d h j ∨ i = .hashuDiscard c h →
        waits i false) ∧
      exec (.hashCompressionDone c h) s = .next (s.setCore c (k.setHash h { x with running := false }))) ∧
    (16 < len.toNat → exec (.hashuStart c h alg a len) s = .next (s.endFault c k St.illegalInstruction) ∧
      exec (.hashuAbsorb c h a len) s = .next (s.endFault c k St.illegalInstruction))

/-- On a core that takes an instruction, outside world C: pinfmt of a format of ISO 9564-1 writes the sealed canonical field, or zero,
and whether the field was well-formed; pine of a sealed canonical field writes the enciphered block of the format, with fresh bytes where the format has them; bwrap stores the 48-byte form
at an aligned SCR address and bopen opens one, always sealed; ctcmp compares the bytes its mask selects. pinfmt and ctcmp on a
sealed operand count, and fault with COMPARE_LIMIT from the fifth on; an empty mask is no instruction. -/
def Obligations.PinWrapCompareResults : Prop :=
  ∀ (s t : State) (c : CoreId) (k : Core) (h : Handle) (d a p : BReg) (v g : GReg) (kr : KReg) (w : Win) (m : BitVec 16) (f : Fin 16)
    (fmt : BitVec 3), coreReady s c k →
    let A := blockBytes (k.getB a).val
    let P := blockBytes (k.getB p).val
    let sl := (k.getB a).sealed || (k.getB p).sealed
    let counted := fun (k' : Core) => if sl then { k' with sealedCompares := k.sealedCompares + 1 } else k'
    let x := (k.getG g).toNat
    let form := pinFormatOk fmt.toNat = true ∧ k.world ≠ 4
    (form → (sl = true → k.sealedCompares < 4) →
      (pinFieldOk fmt.toNat (pinField fmt.toNat A P) = true → exec (.pinfmt c d v a p fmt) s = .next (s.setCore c (counted
        (((k.setB d { val := bytesBlock (canonicalOf (pinField fmt.toNat A P)), sealed := true }).setG v 1).stepped)))) ∧
      (pinFieldOk fmt.toNat (pinField fmt.toNat A P) = false → exec (.pinfmt c d v a p fmt) s = .next (s.setCore c (counted
        (((k.setB d { val := 0, sealed := true }).setG v 0).stepped))))) ∧
    (form → sl = true → 4 ≤ k.sealedCompares → exec (.pinfmt c d v a p fmt) s = .next (s.endFault c k St.compareLimit)) ∧
    (k.world ≠ 4 → keyServes k kr h isTdes uPinEnc → (k.getB a).sealed = true → s.sbu c k 1 = .ok t →
      exec (.pine c d a p kr 0) s = .next (t.setCore c ((k.setB d
        { val := bytesBlock (fit 16 (tdesE (keyBytes h.key) (xorBytes (pinBlock 0 A []) (P.take 8)))), sealed := false }).stepped))) ∧
    (form → fmt ≠ 0 → keyServes k kr h (if fmt = 4 then isAes else isTdes) uPinEnc → (k.getB a).sealed = true →
      s.canDraw (expanderOf c) = true → s.sbu c k (if fmt = 4 then 2 else 1) = .ok t →
      exec (.pine c d a p kr fmt) s = .next ((t.random (expanderOf c) 8).2.setCore c ((k.setB d
        { val := bytesBlock (fit 16 (encipherPin fmt.toNat (keyBytes h.key) A P (t.random (expanderOf c) 8).1)), sealed := false }).stepped))) ∧
    (keyServes k kr h (· == 5) uWrap → x % 16 = 0 → x + 48 ≤ 16384 → s.sbu c k 2 = .ok t → s.canDraw (expanderOf c) = true →
      exec (.bwrap c g d kr) s = .next ((t.random (expanderOf c) 12).2.setCore c ((k.storeBytes .scr x
        (wrapForm (keyBytes h.key) (t.random (expanderOf c) 12).1 (blockBytes (k.getB d).val))).stepped))) ∧
    (keyServes k kr h (· == 5) uUnwrap → x % 16 = 0 → w ≠ .out → x + 48 ≤ k.winSize w → (s.fillWin c k w x 48).sbu c k 2 = .ok t →
      (∀ l, unwrapForm (keyBytes h.key) (s.readWin k w x 48) = some l → exec (.bopen c d v w g kr) s = .next (t.setCore c
        (((k.setB d { val := bytesBlock l, sealed := true }).setG v 1).stepped))) ∧
      (unwrapForm (keyBytes h.key) (s.readWin k w x 48) = none → exec (.bopen c d v w g kr) s = .next (t.setCore c
        (((k.setB d { val := 0, sealed := true }).setG v 0).stepped)))) ∧
    (m ≠ 0 → (sl = true → k.sealedCompares < 4) → exec (.ctcmp c f a p m) s = .next (s.setCore c (counted
      ((k.setG (f.castLE (by decide)) (if ∀ i : Fin 16, m.getLsbD i.val = true → A.getD i.val 0 = P.getD i.val 0 then 1 else 0)).stepped)))) ∧
    (m ≠ 0 → sl = true → 4 ≤ k.sealedCompares → exec (.ctcmp c f a p m) s = .next (s.endFault c k St.compareLimit)) ∧
    exec (.ctcmp c f a p 0) s = .next (s.endFault c k St.illegalInstruction)

/-- On a core that takes an instruction: a reference that is well-formed, of the core's partition, stored as of the dispatch snapshot,
not a tombstone, open to the core's world and the life-cycle state, not expired and of a valid ancestry puts its handle into the key
register and fills the key stores; otherwise the invocation is refused with the status of the first of those checks that fails,
in that order. -/
def Obligations.KeyLoadResults : Prop :=
  ∀ (s : State) (c : CoreId) (k : Core) (d : KReg) (a : GReg), coreReady s c k →
    let ref := (k.getG a).toNat
    let no := fun st : Status => exec (.kld c d a) s = .next (s.endWith c k st [])
    (refOk ref = false → no St.keyMalformed) ∧
    (refOk ref = true →
      (refPartition ref ≠ k.partition → no St.keyPartitionDenied) ∧
      (refPartition ref = k.partition →
        (s.durable.keyAt ref k.snapshot = none → no St.keyNotFound) ∧
        ∀ m, s.durable.keyAt ref k.snapshot = some m →
          let live := isTombstone m.attrs = false
          let world := m.attrs.worldMask.getLsbD k.world = true
          let lc := m.attrs.lcMask &&& lcBit s.lifecycle ≠ 0
          let expired := m.attrs.expiryS ≠ 0 ∧ m.attrs.expiryS * 10 ^ 9 ≤ (if k.world = 0 ∨ k.world = 3 then s.mono else k.dispatched)
          let orphan := refKind ref ≠ 1 ∧ s.durable.ancestryOk k.partition k.snapshot m.attrs = false
          (¬ live → no St.keyInvalidated) ∧
          (live → ¬ world → no St.keyWorldDenied) ∧
          (live → world → ¬ lc → no St.keyLifecycleDenied) ∧
          (live → world → lc → expired → no St.keyExpired) ∧
          (live → world → lc → ¬ expired → orphan → no St.keyAncestorInvalid) ∧
          (live → world → lc → ¬ expired → ¬ orphan → exec (.kld c d a) s =
            .next ((s.fillKey c ref m.attrs.parentSlot).setCore c ((k.setK d (some { ref := some ref, key := m })).stepped)))))

/-- On a core that takes an instruction: kclr empties kD, kmov copies a held handle, kattr 0 to 4 give the
attribute and 5 the check value of a symmetric key (of an asymmetric one a free value, log 16); kgen with a template in SCR that keeps R238 makes a key of fresh random bytes, kdrv one derived from the parent, kform an ephemeral one of two unsealed blocks; the
new key is owned by the partition, carries the template, and exists only in the invocation. An empty source register faults. -/
def Obligations.KeyRegisterResults : Prop :=
  ∀ (s t : State) (c : CoreId) (k : Core) (h h' : Handle) (d ka : KReg) (g x : GReg) (a b : BReg) (f : BitVec 5) (alg : BitVec 8) (tm : Attrs),
    coreReady s c k →
    let go := fun (u : State) (k' : Core) => (Host.Outcome.next (u.setCore c k'.stepped) : Out)
    exec (.kclr c d) s = go s (k.setK d none) ∧
    (k.getK ka = some h →
      exec (.kmov c d ka) s = go s (k.setK d (some h)) ∧
      exec (.kattr c g ka 0) s = go s (k.setG g (BitVec.ofNat 64 h.key.attrs.keyType)) ∧
      exec (.kattr c g ka 1) s = go s (k.setG g (BitVec.ofNat 64 h.key.attrs.usage.toNat)) ∧
      exec (.kattr c g ka 2) s = go s (k.setG g (BitVec.ofNat 64 h.key.attrs.generation)) ∧
      exec (.kattr c g ka 3) s = go s (k.setG g (BitVec.ofNat 64 h.key.attrs.expiryS)) ∧
      exec (.kattr c g ka 4) s = go s (k.setG g (BitVec.ofNat 64 h.key.attrs.mode)) ∧
      (isSym h.key.attrs.keyType = false → exec (.kattr c g ka 5) s =
        go { s with freeCtr := s.freeCtr + 1 } (k.setG g (BitVec.ofNat 64 (Config.freeNat s.freeCtr % 2 ^ 24)))) ∧
      (isSym h.key.attrs.keyType = true → s.sbu c k 1 = .ok t →
        exec (.kattr c g ka 5) s = go t (k.setG g (BitVec.ofNat 64 (beNat (checkValue h.key)))))) ∧
    (k.getK ka = none →
      exec (.kmov c d ka) s = .next (s.endFault c k St.keyHandleEmpty) ∧
      (f.toNat ≤ 5 → exec (.kattr c g ka f) s = .next (s.endFault c k St.keyHandleEmpty))) ∧
    (5 < f.toNat → exec (.kattr c g ka f) s = .next (s.endFault c k St.illegalInstruction)) ∧
    (k.template (k.getG x).toNat = some tm → isSym tm.keyType = true →
      (templateError k.world k.partition false tm = none → s.canDraw (expanderOf c) (cdiv (symLen tm.keyType) 64) = true →
        let r := s.random (expanderOf c) (symLen tm.keyType)
        exec (.kgen c d x) s = go r.2 (k.setK d (some { ref := none, key := keyFromTemplate k.partition tm.parentSlot tm r.1 }))) ∧
      (1 ≤ alg.toNat → alg.toNat ≤ 5 → k.getK ka = some h → (k.getB a).sealed = false →
        derive k.world k.partition h (blockBytes (k.getB a).val) tm alg.toNat s.freeCtr = .ok h' →
        s.sbu c k (cdiv (symLen tm.keyType) 8) = .ok t →
        exec (.kdrv c d ka a x alg) s = go { t with freeCtr := t.freeCtr + 1 } (k.setK d (some h'))) ∧
      (templateError k.world k.partition false tm = none → within tm.usage (uEnc ||| uDec ||| uDecClear ||| uMacGen ||| uMacVer) = true →
        (k.getB a).sealed = false → (k.getB b).sealed = false →
        let m := keyFromTemplate k.partition tm.parentSlot tm
          ((blockBytes (k.getB a).val ++ blockBytes (k.getB b).val).take (symLen tm.keyType))
        exec (.kform c d a b x) s = go s (k.setK d
          (some { ref := none, key := { m with attrs := { m.attrs with flags := m.attrs.flags ||| fEphemeral } } }))))

/-- On a core that takes an instruction: with a wrapping key that has UNWRAP and a key block that verifies and
imports, kunw puts the key into kD without a reference; with one that has WRAP and a key that may be exported, kexp stores the key
block at the address and its length in gD. -/
def Obligations.KeyBlockResults : Prop :=
  ∀ (s t : State) (c : CoreId) (k : Core) (h e : Handle) (d ka kw : KReg) (win : Win) (x n g : GReg) (l : Bytes) (m : KeyMat) (content : BlockContent),
    coreReady s c k →
    (keyServes k kw h isSym uUnwrap → win ≠ .out → (k.getG x).toNat + (k.getG n).toNat ≤ k.winSize win →
      openBlock h.key (s.readWin k win (k.getG x).toNat (k.getG n).toNat) = .ok content →
      importKey k.world k.partition (sourceParent h) none content = .ok m → (s.fillWin c k win (k.getG x).toNat (k.getG n).toNat).sbu c k (cdiv (k.getG n).toNat 16) = .ok t →
      exec (.kunw c d kw win x n) s = .next (t.setCore c ((k.setK d (some { ref := none, key := m })).stepped))) ∧
    (keyServes k kw h isSym uWrap → k.getK ka = some e → sealBlock h.key e.key (Config.freeBytes s.freeCtr 32) = .ok l →
      k.canStore win (k.getG x).toNat l.length = true → s.sbu c k (cdiv l.length 16) = .ok t →
      exec (.kexp c g ka kw win x) s = .next ({ t with freeCtr := t.freeCtr + 1 }.setCore c
        (((k.storeBytes win (k.getG x).toNat l).setG g (BitVec.ofNat 64 l.length)).stepped)))

/-- On a core that takes an instruction, before its commit and with fewer than 256 items staged: skput of a key that is not
ephemeral stages KEY_PUT of the reference in gA, skinv KEY_INVALIDATE, sctr CTR_ADD with a signed 64-bit delta, stab a 4,096-byte page
from an aligned SCR address within the 65,536-byte limit, sitem in worlds V and M the item of its kind, a KEY_PUT with its records opened, a TAB_WRITE from an aligned address; each goes on. commit with staged items
marks the commit made, hands them to the sequencer in order and waits; with none it gives OK and CSN 0. After a
commit, and with 256 items staged, the stage instructions fault. -/
def Obligations.StageAndCommitResults : Prop :=
  ∀ (s : State) (c : CoreId) (k : Core) (h : Handle) (kr : KReg) (a b d e : GReg), coreReady s c k →
    let staged := fun (i : CItem) => (Host.Outcome.next (s.setCore c { k.stepped with stage := k.stage ++ [i] }) : Out)
    let A := (k.getG a).toNat
    let B := (k.getG b).toNat
    let pages := (k.stage.map tabBytesOf).sum
    (k.commitMade = false → k.stage.length < 256 → pages ≤ 65536 →
      (k.getK kr = some h → isEphemeral h.key.attrs = false → exec (.skput c kr a) s = staged (.keyPut A (putKey h))) ∧
      exec (.skinv c a) s = staged (.keyInvalidate A) ∧
      (A < 65536 → exec (.sctr c a b) s = staged (.ctrAdd A (k.getG b).toInt)) ∧
      (A ≤ 255 → B % 16 = 0 → B + 4096 ≤ 16384 → pages + 4096 ≤ 65536 →
        exec (.stab c a b) s = staged (.tabWrite A (readBytes k.scr B 4096))) ∧
      (k.world = 1 ∨ k.world = 4 → (A = 4 → B % 16 = 0) → k.inWin .scr B (k.itemBodyLen A B) = true → itemNumberBad A (readBytes k.scr B 16) = false →
        let body := readBytes k.scr B (k.itemBodyLen A B)
        let item := if A = 1 then s.decodeKeyPut k.partition body else decodeItem A body
        pages + tabBytesOf item ≤ 65536 → exec (.sitem c a b) s = staged item)) ∧
    (k.getK kr = none → exec (.skput c kr a) s = .next (s.endFault c k St.keyHandleEmpty)) ∧
    (k.commitMade = true → exec (.skinv c a) s = .next (s.endFault c k St.stageAfterCommit) ∧
      exec (.commit c d e) s = .next (s.endFault c k St.stageAfterCommit)) ∧
    (k.commitMade = false → 256 ≤ k.stage.length → exec (.skinv c a) s = .next (s.endFault c k St.stageLimit)) ∧
    (k.commitMade = false → k.stage = [] →
      exec (.commit c d e) s = .next (s.setCore c { ((k.setG d 0).setG e 0).stepped with commitMade := true })) ∧
    (k.commitMade = false → k.stage ≠ [] →
      let w : PendingCommit := { src := .core c, ticket := k.req.ticket, partition := k.partition, items := k.stage,
                                 lines := recordLines k.stage, arrived := s.mono }
      exec (.commit c d e) s = .next ((s.queueCommit w).setCore c
        { k with commitMade := true, wait := .commit d e, retired := k.retired + 1, insn := none })) ∧
    (k.world ≠ 1 → k.world ≠ 4 → exec (.sitem c a b) s = .next (s.endFault c k St.illegalInstruction)) ∧
    (65536 ≤ A → exec (.sctr c a b) s = .next (s.endFault c k St.windowViolation))

/-- On a core that takes an instruction: lsub or xsub of a descriptor in SCR whose address is aligned and inside it, when it
answers a next state that leaves the core at the next instruction, has put the next handle into gD and added exactly one job of that handle,
made by this core for its request's ticket and partition; jwait on a finished job of the invocation puts its status into gD, releases the job (a streaming job stays for the trailer)
and drops the handle, on an unfinished one waits; jtest puts 1 or 0 into gD and changes nothing else; a handle that is not the invocation's faults. -/
def Obligations.EngineJobResults : Prop :=
  ∀ (s : State) (c : CoreId) (k : Core) (d a : GReg), coreReady s c k →
    let x := (k.getG a).toNat
    (∀ t k', exec (.lsub c d a) s = .next t → t.core? c = some k' → k'.pc = k.pc + 4 → k'.wait = .none → c ≠ .sc →
      k'.jobs = (s.nextHandle, false) :: k.jobs ∧ (d ≠ 0 → k'.getG d = BitVec.ofNat 64 s.nextHandle) ∧ t.nextHandle = s.nextHandle + 1 ∧
      t.lneJobs.length = s.lneJobs.length + 1 ∧ ∃ j ∈ t.lneJobs, j.handle = s.nextHandle ∧ j.core = c ∧ j.ticket = k.req.ticket ∧ j.partition = k.req.partition) ∧
    (∀ t k', exec (.xsub c d a) s = .next t → t.core? c = some k' → k'.pc = k.pc + 4 → k'.wait = .none → c ≠ .sc →
      k'.jobs = (s.nextHandle, true) :: k.jobs ∧ (d ≠ 0 → k'.getG d = BitVec.ofNat 64 s.nextHandle) ∧ t.nextHandle = s.nextHandle + 1) ∧
    (∀ j st, getK x k.jobs = some false → s.lneJob? x = some j → j.place = .done st → exec (.jwait c d a) s =
      .next ((s.dropLneJob j).setCore c (((((k.takeLne j).dropJob x).setG d (BitVec.ofNat 64 st)).stepped)))) ∧
    (∀ j st, getK x k.jobs = some true → s.laneJob? x = some j → j.place = .done st → j.stream = false → exec (.jwait c d a) s =
      .next ((s.dropLaneJob j).setCore c (((((k.takeLane j).dropJob x).setG d (BitVec.ofNat 64 st)).stepped)))) ∧
    (∀ j st, getK x k.jobs = some true → s.laneJob? x = some j → j.place = .done st → j.stream = true → exec (.jwait c d a) s =
      .next (s.setCore c (((((k.takeLane j).dropJob x).setG d (BitVec.ofNat 64 st)).stepped)))) ∧
    (((∃ j, getK x k.jobs = some false ∧ s.lneJob? x = some j ∧ ∀ st, j.place ≠ .done st) ∨
      (∃ j, getK x k.jobs = some true ∧ s.laneJob? x = some j ∧ ∀ st, j.place ≠ .done st)) →
      exec (.jwait c d a) s = .next (s.setCore c { k with wait := .job x, insn := some (.jwait c d a) }) ∧
      exec (.jtest c d a) s = .next (s.setCore c ((k.setG d 0).stepped))) ∧
    (∀ j st, getK x k.jobs = some true → s.laneJob? x = some j → j.place = .done st →
      exec (.jtest c d a) s = .next (s.setCore c ((k.setG d 1).stepped))) ∧
    (∀ j st, getK x k.jobs = some false → s.lneJob? x = some j → j.place = .done st →
      exec (.jtest c d a) s = .next (s.setCore c ((k.setG d 1).stepped))) ∧
    (getK x k.jobs = none → exec (.jwait c d a) s = .next (s.endFault c k St.jobHandleInvalid) ∧
      exec (.jtest c d a) s = .next (s.endFault c k St.jobHandleInvalid))

/-- On a core that takes an instruction, with an aligned descriptor in SCR whose key register, where it names one, holds a key of the type and usage
demanded, whose operand references, results and template lie in their windows, with fewer jobs than the limit: lsub of an operation of the whole set
that keeps R291 to R293, or of a microcode program that is loaded and permitted and whose header the descriptor keeps, with staging units to spare,
adds a waiting LNE job of that operation, key and operands; xsub that keeps R183 and the length limits of R267, of an operand or of the request's
payload, adds a lane job of that mode, key, IV, source and destination. Each puts the handle into gD and goes on. -/
def Obligations.JobSubmissionCompletes : Prop :=
  ∀ (s : State) (c : CoreId) (k : Core) (d a : GReg) (ds : Bytes), coreReady s c k →
    k.descriptor (k.getG a).toNat = .ok ds →
    let goneOn := fun (t : State) (k' : Core) (lane : Bool) => t.core? c = some k' ∧ k'.pc = k.pc + 4 ∧ k'.wait = .none ∧
      k'.jobs = (s.nextHandle, lane) :: k.jobs ∧ k'.getG d = (if d = 0 then 0 else BitVec.ofNat 64 s.nextHandle) ∧ t.nextHandle = s.nextHandle + 1
    (let refs := [parseRef (slice ds 8 8), parseRef (slice ds 16 8), parseRef (slice ds 24 8), parseRef (slice ds 32 8)]
     let opw := leAt ds 0 2
     let keyReg := leAt ds 3 1
     let key := (keyRegOf keyReg).bind k.getK
     let micro := bit (leAt ds 2 1) 0
     let added := fun (j : LneJob) => j.handle = s.nextHandle ∧ j.operation = opw ∧ j.opBits = leAt ds 4 2 ∧ j.micro = micro ∧ j.key = key ∧
       j.operands = refs.map (s.readRef k) ∧ j.place = .waiting ∧ j.resultOffset = leAt ds 40 4 ∧ j.resultKeyReg = leAt ds 6 1
     (keyReg < 8 → key.isSome = true) → refs.all k.refOk = true → k.inWin .scr (leAt ds 40 4) (8 + leAt ds 44 4) = true →
     s.lneOutstanding c k < lneJobLimit c →
     (micro = false → (opw / 256 = 6 → k.inWin .scr (leAt ds 48 4) 32 = true) →
       lneKeyError k (opw / 256) (opw % 256) key (parseAttrs (readBytes k.scr (leAt ds 48 4) 32)) = none →
       lneDescriptorOk ds (opw / 256) (opw % 256) (leAt ds 4 2) key keyReg (leAt ds 6 1) refs = true →
       s.lneUnits + stagingUnits (refs.map (s.readRef k)) (resultLen (opw / 256) (opw % 256) (opBitsOf (leAt ds 4 2) key)) ≤ 2048 →
       ∃ t k', exec (.lsub c d a) s = .next t ∧ goneOn t k' false ∧ ∃ j ∈ t.lneJobs, added j) ∧
     (∀ m, micro = true → s.microProgram opw = some m → s.microKeyError opw key = none →
       s.microFails k ds opw (leAt ds 4 2) keyReg (leAt ds 6 1) refs = none →
       s.lneUnits + stagingUnits (refs.map (s.readRef k)) m.resultMax ≤ 2048 →
       ∃ t k', exec (.lsub c d a) s = .next t ∧ goneOn t k' false ∧ ∃ j ∈ t.lneJobs, added j)) ∧
    (∀ h, let mode := leAt ds 0 1
     let stream := bit (leAt ds 1 1) 0
     let ivKey := bit (leAt ds 1 1) 1
     let aad := parseRef (slice ds 16 8)
     let src := parseRef (slice ds 24 8)
     let n := if stream then k.req.payloadLen else src.len
     let iv := readBytes k.scr (leAt ds 8 4) (leAt ds 4 1)
     (keyRegOf (leAt ds 2 1)).bind k.getK = some h → laneUsageError h mode = none →
     (stream = true → k.req.bulk = true ∧ k.streamJob = none) → k.refOk aad = true →
     (stream = false → k.refOk src = true ∧ k.inWin .scr (leAt ds 32 4) (if mode = 8 then 0 else n) = true) →
     k.inWin .scr (leAt ds 12 4) (leAt ds 3 1) = true → k.inWin .scr (leAt ds 8 4) (if ivKey then 12 else leAt ds 4 1) = true →
     (k.jobs.filter (·.2)).length < 2 →
     laneFieldsOk ds mode (leAt ds 3 1) (leAt ds 4 1) ivKey aad.len src.len stream = true →
     laneLengthOk mode n (leAt ds 4 1) iv = true →
     ∃ t k', exec (.xsub c d a) s = .next t ∧ goneOn t k' true ∧
       ∃ j ∈ t.laneJobs, j.handle = s.nextHandle ∧ j.core = c ∧ j.mode = mode ∧ j.key = h ∧ j.iv = iv ∧ j.ivFromKey = ivKey ∧ j.stream = stream ∧
         j.aad = s.readRef k aad ∧ j.source = (if stream then [] else s.readRef k src) ∧ j.dataLen = n ∧ j.destOffset = leAt ds 32 4)

/-- For every state in which core c of a cluster runs the invocation k: ending it leaves the core without an invocation, every
other core as it was, no engine job of the core, and adds as the last response one to k's request, carrying the CSN of a durable
commit; without a durable commit and without a stream job its status is the one given with its body, with a durable commit and another
status than OK it is OK without a body and FAULT_AFTER_COMMIT is formed. A fault ends the invocation so with its code. -/
def Obligations.EndingAnswersOnce : Prop :=
  ∀ (s : State) (n i : Nat) (k : Core) (st : Status) (body : Bytes), s.core? (.tx n i) = some k →
    let t := s.endInvocation (.tx n i) k st body
    t.core? (.tx n i) = none ∧ (∀ c', c' ≠ .tx n i → t.core? c' = s.core? c') ∧
    (∀ j ∈ t.lneJobs, j.core ≠ .tx n i) ∧ (∀ j ∈ t.laneJobs, j.core ≠ .tx n i) ∧
    (∃ r, t.egress = s.egress ++ [r] ∧ r.req = k.req ∧ r.csn = k.commitCsn ∧
      (k.streamJob = none → k.commitCsn = 0 → r.status = st ∧ r.body = body) ∧
      (k.streamJob = none → k.commitCsn ≠ 0 → st ≠ 0 → r.status = 0 ∧ r.body = [])) ∧
    (k.commitCsn ≠ 0 → st ≠ 0 → ∃ e ∈ t.raised, e.2.code = St.faultAfterCommit ∧ e.2.args = [st, k.req.ticket]) ∧
    (∃ r, r ∈ (s.endFault (.tx n i) k st).egress ∧ r.req = k.req ∧ (k.streamJob = none → k.commitCsn = 0 → r.status = st))

/-- On a core that runs the verb with a well-formed body, with keys that load, serve and open or seal, and short-block units and an expander that
deliver: KEY_GENERATE delivers a new key of the template to DEST_REF by one commit, or under KEK_REF as a key block; KEY_IMPORT the imported key to
DEST_REF; KEY_EXPORT and KEY_TRANSLATE answer OK with the key block and its length; KEY_INVALIDATE hands over one KEY_INVALIDATE; KEY_INFO answers the
attribute record and the check value (the value of an asymmetric key's check value is free, log 16). -/
def Obligations.KeyVerbResults : Prop :=
  ∀ (s s1 s2 s3 : State) (n i : Nat) (k : Core) (h w : Handle) (kek : Option Handle) (m : KeyMat) (ct : BlockContent) (l : Bytes),
    let c := CoreId.tx n i
    let b := k.req.body
    let A := leAt b 0 8
    let B := leAt b 8 8
    let tm := parseAttrs (slice b 16 32)
    (verbRuns s n i k 0x0101 → b.length = 48 → (A ≠ 0 ∧ B = 0 ∨ A = 0 ∧ B ≠ 0 ∧ tm.usage &&& uExport ≠ 0) → kekLoads s c k B kek s1 →
      templateError 1 k.partition false tm = none → isSym tm.keyType = true → verbDraws s1 n k (symLen tm.keyType) l s2 →
      keyDelivered (.keyGenerate c) s s2 n i k [] A kek (keyFromTemplate k.partition tm.parentSlot tm l)) ∧
    (verbRuns s n i k 0x0102 → 48 ≤ b.length → b.length ≤ 4128 → leAt b 16 4 = b.length - 32 → res b 20 12 = true → A ≠ 0 → B ≠ 0 →
      keyLoads s c k A isSym uUnwrap h s1 → openBlock h.key (b.drop 32) = .ok ct →
      importKey 1 k.partition (sourceParent h) none ct = .ok m → s1.sbu c k (cdiv (b.drop 32).length 16) = .ok s2 →
      keyDelivered (.keyImport c) s s2 n i k [] B none m) ∧
    (verbRuns s n i k 0x0103 → b.length = 16 → A ≠ 0 → B ≠ 0 → s.kld c k A = .ok (h, s1) → keyLoads s1 c k B isSym uWrap w s2 →
      h.key.attrs.usage &&& uExport = uExport → sealBlock w.key h.key (Config.freeBytes s2.freeCtr 32) = .ok l →
      s2.sbu c k (cdiv l.length 16) = .ok s3 →
      verbEnds (.keyExport c) s { s3 with freeCtr := s3.freeCtr + 1 } n i k 0 (leBytes 4 l.length ++ zeros 4 ++ l)) ∧
    (verbRuns s n i k 0x0104 → 48 ≤ b.length → b.length ≤ 4128 → leAt b 16 4 = b.length - 32 → res b 20 12 = true → A ≠ 0 → B ≠ 0 →
      keyLoads s c k A isSym uUnwrap h s1 → openBlock h.key (b.drop 32) = .ok ct →
      importKey 1 k.partition (sourceParent h) none ct = .ok m → s1.sbu c k (cdiv (b.drop 32).length 16) = .ok s2 →
      ∀ s4 s5, keyLoads s2 c k B isSym uWrap w s4 → sealBlock w.key m (Config.freeBytes s4.freeCtr 32) = .ok l →
      s4.sbu c k (cdiv l.length 16) = .ok s5 →
      verbEnds (.keyTranslate c) s { s5 with freeCtr := s5.freeCtr + 1 } n i k 0 (leBytes 4 l.length ++ zeros 4 ++ l)) ∧
    (verbRuns s n i k 0x0105 → b.length = 8 → A ≠ 0 → refOk A = true → refPartition A = k.partition →
      verbCommits (.keyInvalidate c) s s n i k (.keyInvalidate A) [] []) ∧
    (verbRuns s n i k 0x0106 → b.length = 8 → A ≠ 0 → s.kld c k A = .ok (h, s1) →
      s1.sbu c k (if isSym h.key.attrs.keyType then 1 else 0) = .ok s2 →
      verbEnds (.keyInfo c) s (s2.checkOf h.key).2 n i k 0 (attrsBytes h.key.attrs ++ (s2.checkOf h.key).1 ++ zeros 5) ∧
      (isSym h.key.attrs.keyType = true → s2.checkOf h.key = (checkValue h.key, s2)))

/-- On a core that runs the verb with a well-formed body, with keys that load and serve and units that deliver: PIN_TRANSLATE answers
RESULT 0 and a fresh block of the destination format under the second key, or RESULT 2 when the source block is not well-formed; PIN_MAKE_REFERENCE
wraps the canonical field with the card's format 4 PAN field, or answers RESULT 2; PIN_VERIFY_REFERENCE and PIN_COMPARE answer RESULT 0 when the PINs are
equal, 1 when they differ, 2 when the first block and 3 when the reference or the second block is not well-formed. -/
def Obligations.PinVerbResults : Prop :=
  ∀ (s s1 s2 s3 : State) (n i : Nat) (k : Core) (h w : Handle) (x y f : Bytes),
    let c := CoreId.tx n i
    let b := k.req.body
    let A := leAt b 0 8
    let B := leAt b 8 8
    let blk := slice b 16 16
    let pan := slice b 32 16
    let ds := panDigits pan
    let sf := leAt b 48 1
    let df := leAt b 49 1
    let word := fun r : Nat => leBytes 1 r ++ zeros 3
    (verbRuns s n i k 0x0201 → b.length = 56 → res b 50 6 = true → A ≠ 0 → B ≠ 0 → pinBlockOk sf blk = true → pinFormatOk df = true →
      (sf = 4 → df = 4) → panOk pan (sf != 1 || df != 1) = true → s.kld c k A = .ok (h, s1) → s1.kld c k B = .ok (w, s2) →
      pinKeyType sf h.key.attrs.keyType = true → h.key.attrs.usage &&& uPinRead = uPinRead → pinKeyType df w.key.attrs.keyType = true →
      w.key.attrs.usage &&& uPinEnc = uPinEnc → s2.sbu c k (pinBlocks sf) = .ok s3 →
      (readPin sf (keyBytes h.key) blk (panField sf ds) = none →
        verbEnds (.pinTranslate c) s s3 n i k 0 (word 2 ++ zeros 12 ++ zeros 16)) ∧
      (readPin sf (keyBytes h.key) blk (panField sf ds) = some x → pinWritten (.pinTranslate c) s s3 n i k df w x (panField df ds))) ∧
    (verbRuns s n i k 0x0202 → b.length = 56 → res b 49 7 = true → A ≠ 0 → B ≠ 0 → pinBlockOk sf blk = true → panOk pan true = true →
      s.kld c k A = .ok (h, s1) → s1.kld c k B = .ok (w, s2) → pinKeyType sf h.key.attrs.keyType = true →
      h.key.attrs.usage &&& uPinRead = uPinRead → w.key.attrs.keyType = 5 → w.key.attrs.usage &&& uWrap = uWrap →
      s2.sbu c k (pinBlocks sf + 2) = .ok s3 →
      (readPin sf (keyBytes h.key) blk (panField sf ds) = none → verbEnds (.pinMakeReference c) s s3 n i k 0 (word 2 ++ zeros 60)) ∧
      (readPin sf (keyBytes h.key) blk (panField sf ds) = some x → ∀ iv s4, verbDraws s3 n k 12 iv s4 →
        verbEnds (.pinMakeReference c) s s4 n i k 0 (word 0 ++ zeros 12 ++ wrapForm (keyBytes w.key) iv (xorBytes x (panField 4 ds))))) ∧
    (verbRuns s n i k 0x0203 → b.length = 112 → res b 49 15 = true → A ≠ 0 → B ≠ 0 → pinBlockOk sf blk = true → panOk pan true = true →
      s.kld c k A = .ok (h, s1) → s1.kld c k B = .ok (w, s2) → pinKeyType sf h.key.attrs.keyType = true →
      h.key.attrs.usage &&& uPinRead = uPinRead → w.key.attrs.keyType = 5 → w.key.attrs.usage &&& uUnwrap = uUnwrap →
      s2.sbu c k (pinBlocks sf + 2) = .ok s3 →
      (unwrapForm (keyBytes w.key) (slice b 64 48) = none → verbEnds (.pinVerifyReference c) s s3 n i k 0 (word 3)) ∧
      (unwrapForm (keyBytes w.key) (slice b 64 48) = some f →
        (readPin sf (keyBytes h.key) blk (panField sf ds) = none → verbEnds (.pinVerifyReference c) s s3 n i k 0 (word 2)) ∧
        (readPin sf (keyBytes h.key) blk (panField sf ds) = some x →
          verbEnds (.pinVerifyReference c) s s3 n i k 0 (word (if xorBytes (fit 16 f) (panField 4 ds) = x then 0 else 1))))) ∧
    (verbRuns s n i k 0x0204 → b.length = 72 → res b 66 6 = true → A ≠ 0 → B ≠ 0 →
      let fa := leAt b 64 1
      let fb := leAt b 65 1
      let p2 := panDigits (slice b 48 16)
      pinBlockOk fa blk = true → pinBlockOk fb (slice b 32 16) = true → panOk (slice b 48 16) (fa != 1 || fb != 1) = true →
      s.kld c k A = .ok (h, s1) → s1.kld c k B = .ok (w, s2) → pinKeyType fa h.key.attrs.keyType = true →
      h.key.attrs.usage &&& uPinRead = uPinRead → pinKeyType fb w.key.attrs.keyType = true → w.key.attrs.usage &&& uPinRead = uPinRead →
      s2.sbu c k (pinBlocks fa + pinBlocks fb) = .ok s3 →
      (readPin fa (keyBytes h.key) blk (panField fa p2) = none → verbEnds (.pinCompare c) s s3 n i k 0 (word 2)) ∧
      (readPin fa (keyBytes h.key) blk (panField fa p2) = some x →
        (readPin fb (keyBytes w.key) (slice b 32 16) (panField fb p2) = some y →
          verbEnds (.pinCompare c) s s3 n i k 0 (word (if x = y then 0 else 1))) ∧
        (readPin fb (keyBytes w.key) (slice b 32 16) (panField fb p2) = none → verbEnds (.pinCompare c) s s3 n i k 0 (word 3))))

/-- On a core that runs the verb with a well-formed body and a key that loads and serves (for the card verbs a DERIVE key of class 3):
ARQC_VERIFY answers RESULT 0 with the ARPC when the cryptogram is the session MAC of the data, else RESULT 1 with zeros; ARPC_GENERATE the ARPC, SCRIPT_MAC
the 8-byte MAC; MAC_GENERATE the MAC cut to MAC_LEN, MAC_VERIFY RESULT 0 or 1 by comparing that many bytes. -/
def Obligations.CardAndMacVerbResults : Prop :=
  ∀ (s s1 s2 : State) (n i : Nat) (k : Core) (h : Handle),
    let c := CoreId.tx n i
    let b := k.req.body
    let A := leAt b 0 8
    let t := h.key.attrs.keyType
    let word := fun r : Nat => leBytes 1 r ++ zeros 3
    let session := emvSession t (keyBytes h.key) (slice b 16 16) (b.getD 32 0) (slice b 34 2) s2.freeCtr
    let after := { s2 with freeCtr := s2.freeCtr + 1 }
    let reply := fun pad => arpc (leAt b 33 1) pad t session (slice b 8 8) (slice b 36 2) (slice b 40 4) (slice b 48 (leAt b 39 1))
    let master := fun pad => keyLoads s c k A (padKeyType pad) uDerive h s1 ∧ deriveClass h.key.attrs = 3
    (verbRuns s n i k 0x0301 → arqcOk b (fun n => decide (1 ≤ n ∧ n ≤ 256)) (fun m => decide (m ≤ 2)) = true → master (leAt b 38 1) →
      s1.sbu c k (cardBlocks t (leAt b 56 2) + 2) = .ok s2 →
      (sessionMac (leAt b 38 1) t session (b.drop 64) = slice b 8 8 →
        verbEnds (.arqcVerify c) s after n i k 0 (word 0 ++ zeros 4 ++ reply (leAt b 38 1))) ∧
      (sessionMac (leAt b 38 1) t session (b.drop 64) ≠ slice b 8 8 →
        verbEnds (.arqcVerify c) s after n i k 0 (word 1 ++ zeros 12))) ∧
    (verbRuns s n i k 0x0302 → arqcOk b (fun n => n == 0) (fun m => m == 1 || m == 2) = true → master (leAt b 38 1) →
      s1.sbu c k (cardBlocks t 20) = .ok s2 → verbEnds (.arpcGenerate c) s after n i k 0 (word 0 ++ zeros 4 ++ reply (leAt b 38 1))) ∧
    (verbRuns s n i k 0x0303 → b.length = 48 + leAt b 40 2 → 1 ≤ leAt b 40 2 → leAt b 40 2 ≤ 1024 → A ≠ 0 → res b 8 8 = true →
      cardPanOk (slice b 16 16) = true → leAt b 33 1 ≤ 2 → res b 36 4 = true → res b 42 6 = true → master (leAt b 33 1) →
      s1.sbu c k (cardBlocks t (leAt b 40 2)) = .ok s2 →
      verbEnds (.scriptMac c) s after n i k 0 (sessionMac (leAt b 33 1) t session (b.drop 48))) ∧
    (let alg := leAt b 8 1
     let len := leAt b 10 1
     (verbRuns s n i k 0x0501 → b.length = 16 + leAt b 12 4 → A ≠ 0 → res b 11 1 = true → macFieldsOk alg (leAt b 9 1) len (leAt b 12 4) 65520 = true →
       keyLoads s c k A (macKeyType alg) uMacGen h s1 → s1.sbu c k (cdiv (leAt b 12 4 + 1) (blockLen t)) = .ok s2 →
       verbEnds (.macGenerate c) s s2 n i k 0 (fit 16 ((macOf alg (leAt b 9 1) t (keyBytes h.key) (b.drop 16)).take len))) ∧
     (verbRuns s n i k 0x0502 → b.length = 32 + leAt b 12 4 → A ≠ 0 → res b 11 1 = true → macFieldsOk alg (leAt b 9 1) len (leAt b 12 4) 65504 = true →
       keyLoads s c k A (macKeyType alg) uMacVer h s1 → s1.sbu c k (cdiv (leAt b 12 4 + 1) (blockLen t)) = .ok s2 →
       verbEnds (.macVerify c) s s2 n i k 0
         (word (if (macOf alg (leAt b 9 1) t (keyBytes h.key) (b.drop 32)).take len = slice b 16 len then 0 else 1))))

/-- On a core that runs the verb with a well-formed body, a base derivation key that loads with DERIVE and class 1 or 2, and units that
serve: the PIN translations answer RESULT 0 and a fresh block of the destination format, or RESULT 2; the decrypt verbs the CBC plaintext; the MAC verbs
RESULT 0 or 1; DUKPT_INITIAL_KEY the initial key of either scheme as a key block. The derivation data and the usage indicators are the model's reading
of X9.24-3 (log 17), and so is the refusal of a three-key working key for a MAC (log 44). -/
def Obligations.DukptVerbResults : Prop :=
  ∀ (s s1 s2 s3 s4 : State) (n i : Nat) (k : Core) (h w : Handle) (x l : Bytes),
    let c := CoreId.tx n i
    let b := k.req.body
    let A := leAt b 0 8
    let B := leAt b 8 8
    let bt := h.key.attrs.keyType
    let bdk := keyBytes h.key
    let word := fun r : Nat => leBytes 1 r ++ zeros 3
    let base := fun typeOk => keyLoads s c k A typeOk uDerive h s1 ∧ (deriveClass h.key.attrs = 1 ∨ deriveClass h.key.attrs = 2)
    let pan := slice b 32 16
    let ds := panDigits pan
    (let key := dukptAesKey bt bdk (slice b 48 12) 0x1000 (leAt b 60 1)
     verbRuns s n i k 0x0401 → b.length = 64 → A ≠ 0 → B ≠ 0 → res b 62 2 = true → aesKsnOk (slice b 48 12) = true → isAes (leAt b 60 1) = true →
      leAt b 61 1 = 4 → panOk pan true = true → base isAes → keyLoads s1 c k B isAes uPinEnc w s2 →
      s2.sbu c k (dukptAesBlocks (slice b 48 12) + 2) = .ok s3 →
      (readPin 4 key (slice b 16 16) (panField 4 ds) = none → verbEnds (.dukptAesPinTranslate c) s s3 n i k 0 (word 2 ++ zeros 28)) ∧
      (readPin 4 key (slice b 16 16) (panField 4 ds) = some x → pinWritten (.dukptAesPinTranslate c) s s3 n i k 4 w x (panField 4 ds))) ∧
    (let wt := leAt b 20 1
     verbRuns s n i k 0x0402 → b.length = 48 + leAt b 24 4 → A ≠ 0 → isSym wt = true → leAt b 21 1 ≤ 2 → res b 22 2 = true → res b 28 4 = true →
      cbcLenOk (leAt b 24 4) (blockLen wt) = true → aesKsnOk (slice b 8 12) = true → base isAes →
      s1.sbu c k (dukptAesBlocks (slice b 8 12) + leAt b 24 4 / blockLen wt) = .ok s2 →
      verbEnds (.dukptAesDecrypt c) s s2 n i k 0 (dataOut (cbcDec wt (dukptAesKey bt bdk (slice b 8 12) (dataIndicator (leAt b 21 1)) wt)
        (slice b 32 (blockLen wt)) (b.drop 48)))) ∧
    (let wt := leAt b 20 1
     let len := leAt b 21 1
     let key := dukptAesKey bt bdk (slice b 8 12) 0x2001 wt
     let mac := if isAes wt then cmac wt key (b.drop 48) else alg3Mac key (isoPad 1 8 (b.drop 48))
     verbRuns s n i k 0x0403 → b.length = 48 + leAt b 24 4 → A ≠ 0 → isSym wt = true → wt ≠ 2 → 4 ≤ len → len ≤ blockLen wt → res b 22 2 = true →
      res b 28 4 = true → 1 ≤ leAt b 24 4 → leAt b 24 4 ≤ 8192 → aesKsnOk (slice b 8 12) = true → base isAes →
      s1.sbu c k (dukptAesBlocks (slice b 8 12) + cdiv (leAt b 24 4) (blockLen wt)) = .ok s2 →
      verbEnds (.dukptAesMacVerify c) s s2 n i k 0 (word (if mac.take len = slice b 32 len then 0 else 1))) ∧
    (let key := dukptTdesKey bdk (slice b 48 10) 0 0
     let df := leAt b 58 1
     verbRuns s n i k 0x0404 → b.length = 64 → A ≠ 0 → B ≠ 0 → res b 59 5 = true → tdesKsnOk (slice b 48 10) = true →
      pinBlockOk 0 (slice b 16 16) = true → pinFormatOk df = true → panOk pan true = true → base isTdes2 →
      keyLoads s1 c k B (pinKeyType df) uPinEnc w s2 → s2.sbu c k (dukptTdesBlocks (slice b 48 10) + 1) = .ok s3 →
      (readPin 0 key (slice b 16 16) (panField 0 ds) = none → verbEnds (.dukptTdesPinTranslate c) s s3 n i k 0 (word 2 ++ zeros 28)) ∧
      (readPin 0 key (slice b 16 16) (panField 0 ds) = some x → pinWritten (.dukptTdesPinTranslate c) s s3 n i k df w x (panField df ds))) ∧
    (verbRuns s n i k 0x0405 → b.length = 48 + leAt b 24 4 → A ≠ 0 → leAt b 18 1 ≤ 1 → res b 19 5 = true → res b 28 4 = true →
      res b 40 8 = true → cbcLenOk (leAt b 24 4) 8 = true → tdesKsnOk (slice b 8 10) = true → base isTdes2 →
      s1.sbu c k (dukptTdesBlocks (slice b 8 10) + leAt b 24 4 / 8) = .ok s2 →
      verbEnds (.dukptTdesDecrypt c) s s2 n i k 0
        (dataOut (cbcDec 1 (dukptTdesKey bdk (slice b 8 10) 2 (leAt b 18 1)) (slice b 32 8) (b.drop 48)))) ∧
    (let len := leAt b 19 1
     verbRuns s n i k 0x0406 → b.length = 48 + leAt b 24 4 → A ≠ 0 → leAt b 18 1 ≤ 1 → 4 ≤ len → len ≤ 8 → res b 20 4 = true → res b 28 4 = true →
      res b 40 8 = true → 1 ≤ leAt b 24 4 → leAt b 24 4 ≤ 8192 → tdesKsnOk (slice b 8 10) = true → base isTdes2 →
      s1.sbu c k (dukptTdesBlocks (slice b 8 10) + cdiv (leAt b 24 4) 8) = .ok s2 →
      verbEnds (.dukptTdesMacVerify c) s s2 n i k 0 (word (if (alg3Mac (dukptTdesKey bdk (slice b 8 10) 1 (leAt b 18 1))
        (isoPad 1 8 (b.drop 48))).take len = slice b 32 len then 0 else 1))) ∧
    (let wt := leAt b 29 1
     let made := fun m : KeyMat => sealBlock w.key m (Config.freeBytes s3.freeCtr 32) = .ok l → s3.sbu c k (cdiv l.length 16) = .ok s4 →
       verbEnds (.dukptInitialKey c) s { s4 with freeCtr := s4.freeCtr + 1 } n i k 0 (leBytes 4 l.length ++ zeros 4 ++ l)
     verbRuns s n i k 0x0407 → b.length = 32 → A ≠ 0 → B ≠ 0 → res b 30 2 = true → keyLoads s1 c k B isSym uWrap w s2 → s2.sbu c k 2 = .ok s3 →
      (leAt b 28 1 = 1 → isAes wt = true → aesKsnOk (slice b 16 12) = true → base isAes →
        made (initialKey k h wt (dukptInitialAes bt bdk (slice b 16 12) wt))) ∧
      (leAt b 28 1 = 2 → wt = 0 → res b 26 2 = true → tdesKsnOk (slice b 16 12) = true → base isTdes2 →
        made (initialKey k h 1 (dukptInitialTdes bdk (slice b 16 12)))))

/-- On a core that runs the verb with a well-formed body and a key that loads and serves: DATA_ENCRYPT and DATA_DECRYPT of TDES CBC, and of CBC and CTR on at
most 256 bytes, answer at once; other data goes to a lane as one job of that mode, key, IV, AAD and data; BULK_ENCRYPT and BULK_DECRYPT submit one STREAM lane
job; while the job is not done the core waits for it, and the job's end ends the verb with its output or its status; TOKENISE and DETOKENISE answer the text with its
middle through FF1; DATA_WRAP and DATA_UNWRAP the KWP of the data, or INTEGRITY_CHECK_FAILED. -/
def Obligations.DataVerbResults : Prop :=
  ∀ (s s1 s2 : State) (n i : Nat) (k : Core) (h : Handle) (l : Bytes) (j : LaneJob) (st : Status),
    let c := CoreId.tx n i
    let b := k.req.body
    let A := leAt b 0 8
    let t := h.key.attrs.keyType
    let mode := leAt b 8 1
    let free := s.laneJobs.find? (·.core == c) = none
    let mine := s.laneJobs.find? (·.core == c) = some j
    let waits := fun x : Instr => (∀ st, j.place ≠ .done st) → exec x s = .next (s.setCore c { k with wait := .job j.handle })
    (∀ enc : Bool,
      let x := if enc then Instr.dataEncrypt c else .dataDecrypt c
      let N := leAt b 12 4
      let d := b.drop (64 + pad16 (leAt b 16 4))
      let iv := slice b 32 16
      let out := if mode = 2 then ctr (keyBytes h.key) iv d else if enc then cbcEnc t (keyBytes h.key) (iv.take (blockLen t)) d
        else cbcDec t (keyBytes h.key) (iv.take (blockLen t)) d
      verbRuns s n i k (if enc then 0x0601 else 0x0602) → dataOk b enc = true →
      (free → keyLoads s c k A (if mode = 1 then isSym else isAes) (modeUsage mode enc) h s1 → (mode = 1 → N % blockLen t = 0) →
        (isTdes t = true ∨ (mode ≠ 3 ∧ N ≤ 256) → s1.sbu c k (cdiv N (blockLen t)) = .ok s2 →
          verbEnds x s s2 n i k 0 (leBytes 4 out.length ++ zeros 12 ++ fit 16 iv ++ zeros 16 ++ out)) ∧
        (isTdes t = false → mode = 3 ∨ 256 < N → ∃ u k', exec x s = .next u ∧ u.core? c = some k' ∧ k'.wait = .job s1.nextHandle ∧
          k'.jobs = (s1.nextHandle, true) :: k.jobs ∧ ∃ q ∈ u.laneJobs, q.handle = s1.nextHandle ∧ q.core = c ∧ q.mode = laneMode mode enc ∧
            q.stream = false ∧ q.key = h ∧ q.iv = (if mode = 3 then slice b 32 12 else iv) ∧ q.aad = slice b 64 (leAt b 16 4) ∧ q.source = d ∧ q.dataLen = N)) ∧
      (mine → waits x ∧
        (j.place = .done 0 → verbEnds x s s n i k 0
          (leBytes 4 j.output.length ++ zeros 12 ++ fit 16 j.iv ++ fit 16 (if enc then j.tag else []) ++ j.output)) ∧
        (j.place = .done st → st ≠ 0 → verbEnds x s s n i k st []))) ∧
    (∀ enc : Bool, verbRuns s n i k (if enc then 0x0603 else 0x0604) → bulkOk k.req enc = true →
      let x := if enc then Instr.bulkEncrypt c else .bulkDecrypt c
      (mine → waits x ∧ (j.place = .done st → verbEnds x s s n i k st [])) ∧
      (free → keyLoads s c k A isAes (modeUsage mode enc) h s1 → ∃ u k', exec x s = .next u ∧ u.core? c = some k' ∧
        k'.wait = .job s1.nextHandle ∧ k'.streamJob = some s1.nextHandle ∧ k'.outFrozen = true ∧
        k'.out = (k.storeBytes .out 0 (fit 16 (slice b 16 (leAt b 11 1)))).out ∧
        ∃ q ∈ u.laneJobs, q.handle = s1.nextHandle ∧ q.core = c ∧ q.mode = laneMode mode enc ∧ q.stream = true ∧ q.key = h ∧
          q.aad = b.drop 48 ∧ q.dataLen = k.req.payloadLen)) ∧
    (let text := slice b 48 (leAt b 12 1)
     let head := leAt b 9 1
     let m := leAt b 12 1 - head - leAt b 10 1
     let tweak := slice b 16 (leAt b 11 1)
     let out := fun f : Bytes → Nat → Bytes → List Nat → List Nat =>
       leBytes 1 (leAt b 12 1) ++ zeros 15 ++ fit 64 (text.take head ++
         fit m ((f (keyBytes h.key) (leAt b 8 1) tweak (numerals (slice text head m))).map digitChar) ++ text.drop (head + m))
     tokenOk b = true → s1.sbu c k (ff1Blocks (leAt b 8 1) m tweak.length) = .ok s2 →
      (verbRuns s n i k 0x0605 → keyLoads s c k A isAes uEnc h s1 → verbEnds (.tokenise c) s s2 n i k 0 (out Config.ff1Encrypt)) ∧
      (verbRuns s n i k 0x0606 → keyLoads s c k A isAes uDecClear h s1 → verbEnds (.detokenise c) s s2 n i k 0 (out Config.ff1Decrypt))) ∧
    (let m := leAt b 8 4
     wrapBodyOk b = true → s1.sbu c k (kwpBlocks m) = .ok s2 →
      (verbRuns s n i k 0x0607 → 1 ≤ m → m ≤ 4096 → keyLoads s c k A isAes uEnc h s1 →
        verbEnds (.dataWrap c) s s2 n i k 0 (dataOut (fit (pad8 m + 8) (Config.kwpWrap (keyBytes h.key) (b.drop 16))))) ∧
      (verbRuns s n i k 0x0608 → 16 ≤ m → m ≤ 4104 → m % 8 = 0 → keyLoads s c k A isAes uDecClear h s1 →
        (Config.kwpUnwrap (keyBytes h.key) (b.drop 16) = none → verbEnds (.dataUnwrap c) s s2 n i k St.integrityCheckFailed []) ∧
        (Config.kwpUnwrap (keyBytes h.key) (b.drop 16) = some l → verbEnds (.dataUnwrap c) s s2 n i k 0 (dataOut (l.take (m - 8))))))

/-- On a core that runs the verb with a well-formed body and with keys that load and serve: with no job of its own it submits one long-number job of the
verb's operation, algorithm, key and operands and waits for it, and goes on waiting while it is not done; a job that ended OK: SIGN and RSA_DECRYPT answer the result with its
length, VERIFY RESULT 0, KEYPAIR_GENERATE hands one KEY_PUT of the result key to the sequencer, KEY_AGREE, KEM_DECAPSULATE and KEM_ENCAPSULATE deliver the key
derived from the shared secret to DEST_REF or under KEK_REF; VERIFY answers RESULT 1 with the status for an invalid signature or one out of range; every other failing status
ends the verb with that status. -/
def Obligations.AsymmetricVerbResults : Prop :=
  ∀ (s s1 s2 : State) (n i : Nat) (k : Core) (h : Handle) (kek : Option Handle),
    let c := CoreId.tx n i
    let b := k.req.body
    let A := leAt b 0 8
    let block := fun l : Bytes => leBytes 4 l.length ++ zeros 4 ++ l
    let word := fun r e : Nat => leBytes 1 r ++ [0] ++ leBytes 2 e
    let alg8 := leAt b 8 1
    let every := fun _ : Status => true
    (verbRuns s n i k 0x0701 → b.length = 16 + leAt b 12 4 → A ≠ 0 → paramOk 1 alg8 = true → signFlagsOk alg8 (leAt b 9 1) = true →
      res b 10 2 = true → leAt b 12 4 ≤ 61440 → msgLenOk alg8 (leAt b 9 1) (leAt b 12 4) = true →
      lneVerb (.sign c) s n i k
        (keyLoads s c k A (· == algPrivate alg8) uSign h s1 →
          lneStarts (.sign c) s s1 n i k (if leAt b 9 1 = 1 then 0x0B else 1) alg8 0 (some h) [b.drop 16, [], [], []] [])
        every fun u j => verbEnds (.sign c) s u n i k 0 (block j.result)) ∧
    (let oSig := 32 + pad8 (leAt b 20 4)
     let oMsg := oSig + pad8 (leAt b 16 4)
     let op := if leAt b 9 1 = 1 then 0x0C else 2
     let ops := [b.drop oMsg, slice b oSig (leAt b 16 4), slice b 32 (leAt b 20 4), []]
     verbRuns s n i k 0x0702 → b.length = oMsg + leAt b 12 4 → paramOk 2 alg8 = true → signFlagsOk alg8 (leAt b 9 1) = true → res b 10 2 = true →
      res b 24 8 = true → res b (32 + leAt b 20 4) (pad8 (leAt b 20 4) - leAt b 20 4) = true →
      res b (oSig + leAt b 16 4) (pad8 (leAt b 16 4) - leAt b 16 4) = true → msgLenOk alg8 (leAt b 9 1) (leAt b 12 4) = true →
      verifyLenOk alg8 (leAt b 20 4) (leAt b 16 4) (A != 0) = true →
      lneVerb (.verify c) s n i k
        ((A = 0 → lneStarts (.verify c) s s n i k op alg8 (pubBits alg8 (leAt b 20 4)) none ops []) ∧
          (A ≠ 0 → keyLoads s c k A (· == algPublic alg8) uVerify h s1 → lneStarts (.verify c) s s1 n i k op alg8 0 (some h) ops []))
        (fun st => st != St.invalidSignature && st != St.operandRange) (fun u _ => verbEnds (.verify c) s u n i k 0 (word 0 0)) ∧
      (∀ j st, s.lneJobs.find? (·.core == c) = some j → j.place = .done st → st = St.invalidSignature ∨ st = St.operandRange →
        verbEnds (.verify c) s (s.dropLneJob j) n i k 0 (word 1 st))) ∧
    (let tm := parseAttrs (slice b 16 32)
     verbRuns s n i k 0x0706 → b.length = 48 → A ≠ 0 → res b 9 1 = true → res b 12 4 = true → keypairOk alg8 (leAt b 10 2) = true →
      lneVerb (.keypairGenerate c) s n i k
        (templateError 1 k.partition false tm = none → tm.keyType = algPrivate alg8 →
          lneStarts (.keypairGenerate c) s s n i k 6 alg8 (leAt b 10 2) none [[], [], [], []] (slice b 16 32))
        every fun u j => ∀ r, j.resultKey = some r →
          verbCommits (.keypairGenerate c) s u n i k (.keyPut A r.key) [] (block j.result)) ∧
    (let lab := leAt b 10 2
     let o := 16 + pad8 lab
     verbRuns s n i k 0x0707 → b.length = o + leAt b 12 4 → A ≠ 0 → oaepHash alg8 ≠ 0 → res b 9 1 = true → lab ≤ 256 →
      res b (16 + lab) (pad8 lab - lab) = true →
      lneVerb (.rsaDecrypt c) s n i k
        (keyLoads s c k A isRsaPriv uDecClear h s1 →
          lneStarts (.rsaDecrypt c) s s1 n i k 7 alg8 0 (some h) [b.drop o, slice b 16 lab, [], []] [])
        every fun u j => verbEnds (.rsaDecrypt c) s u n i k 0 (block j.result)) ∧
    (let tm := parseAttrs (slice b 32 32)
     let ctx := slice b 64 16
     let peer := [b.drop 80, [], [], []]
     (∀ dec : Bool,
       let x := if dec then Instr.kemDecapsulate c else .keyAgree c
       let op := if dec then 5 else 3
       let alg := leAt b 24 1
       verbRuns s n i k (if dec then 0x0705 else 0x0703) → b.length = 80 + leAt b 28 4 → A ≠ 0 → oneOf (leAt b 8 8) (leAt b 16 8) = true →
        paramOk op alg = true → res b 25 3 = true → leAt b 28 4 = (if dec then kemCtLen alg else valueLen (algPrivate alg) 0) →
        templateExports (leAt b 16 8) tm = true →
        lneVerb x s n i k
          (keyLoads s c k A (· == algPrivate alg) uDerive h s1 → kekLoads s1 c k (leAt b 16 8) kek s2 →
            lneStarts x s s2 n i k op alg 0 (some h) peer [])
          every fun u j => ∀ p, j.resultKey = some p → secretDelivered x s u n i k [] (leAt b 8 8) (leAt b 16 8) tm tm ctx p) ∧
     (let alg := leAt b 16 1
      verbRuns s n i k 0x0704 → b.length = 80 + leAt b 20 4 → oneOf A (leAt b 8 8) = true → paramOk 4 alg = true → res b 17 3 = true → res b 24 8 = true →
       leAt b 20 4 = valueLen (algPrivate alg) 0 → templateExports (leAt b 8 8) tm = true →
       lneVerb (.kemEncapsulate c) s n i k
         (kekLoads s c k (leAt b 8 8) kek s1 → lneStarts (.kemEncapsulate c) s s1 n i k 4 alg 0 none peer (slice b 32 32))
         every fun u j => ∀ p, j.resultKey = some p → templateError 1 k.partition false tm = none →
           secretDelivered (.kemEncapsulate c) s u n i k (block j.result) A (leAt b 8 8) tm { tm with parentSlot := 0 } ctx p))

/-- On a core that runs the verb: RANDOM answers the bytes asked for of the core's expander, where it serves them, which it does at once for a verb
that had none of them yet; WAYBILL issues the next index, answers a waybill of the
nonce signed with it and never that index again, IDENTITY_EXHAUSTED in the kept tree and WAYBILL_UNAVAILABLE while nothing can sign; QUEUE_FLUSH and
PARTITION_STATUS answer what their dispatch decision settled. -/
def Obligations.ModuleVerbResults : Prop :=
  ∀ (s u : State) (n i : Nat) (k : Core) (st : Status) (body l : Bytes),
    let c := CoreId.tx n i
    let b := k.req.body
    (verbRuns s n i k 0x0802 → b.length = 8 → res b 4 4 = true → 1 ≤ leAt b 0 4 → leAt b 0 4 ≤ 4096 →
      (verbDraws s n k (leAt b 0 4) l u → verbEnds (.random c) s u n i k 0 l) ∧
      (s.drawPart n (.invocation k.req.ticket) = [] → s.canDraw n (cdiv (leAt b 0 4) 64) = true →
        verbDraws s n k (leAt b 0 4) (s.random n (leAt b 0 4)).1 (s.random n (leAt b 0 4)).2)) ∧
    (verbRuns s n i k 0x0801 → b.length = 40 → leAt b 32 1 ≤ 1 → res b 33 7 = true →
      (keptTree ≤ s.plat.index → verbEnds (.waybill c) s s n i k St.identityExhausted []) ∧
      (s.plat.index < keptTree → s.plat.canSign = false → verbEnds (.waybill c) s s n i k St.waybillUnavailable []) ∧
      (s.plat.index < keptTree → s.plat.cacheOk = true → (s.plat.index % 2 ^ 20 ≠ 0 ∨ s.plat.index = 0 ∨ s.plat.treeNext = true) →
        ∃ t, t.plat.index = s.plat.index + 1 ∧ t.durable = s.durable ∧ t.cores = s.cores ∧
          verbEnds (.waybill c) s t n i k 0
            ((if leAt b 32 1 = 1 then s.measureSoFar else s).waybill 1 (leAt b 32 1) (slice b 0 32) [] s.plat.index))) ∧
    (k.decided = some (st, body) →
      (verbRuns s n i k 0x0803 → verbEnds (.queueFlush c) s s n i k st (if st = 0 then body else [])) ∧
      (verbRuns s n i k 0x0804 → verbEnds (.partitionStatus c) s s n i k st (if st = 0 then body else [])))

/-- With the command at the head of the queue: PARTITION_QUEUE_FLUSH and SESSION_CLOSE answer the status and body settled; PARTITION_RESET of a
partition whose reset is under way joins its askers and answers later, with nothing under way it answers OK. The cancel step of a reset that is not
yet cancelled cancels what the partition had before its point; when no commit of it is left to apply the wipe step ends the reset, clears the halt and
the fault count and answers every asker. -/
def Obligations.PartitionCommandResults : Prop :=
  ∀ (s t : State) (q : Request) (p : Nat) (r : ResetState),
    (scTakes s t 0x0F02 q → exec .partitionQueueFlush s = .next ((t.dropPoint q).answer q (t.point q).1 (t.point q).2)) ∧
    (scTakes s t 0x0F03 q → exec .sessionClose s = .next ((t.dropPoint q).answer q (t.point q).1)) ∧
    (scTakes s t 0x0F01 q → (t.point q).1 = 0 → leAt q.body 0 2 = p →
      ((t.part p).reset = none → exec .partitionReset s = .next ((t.dropPoint q).answer q 0)) ∧
      ((t.part p).reset = some r → exec .partitionReset s =
        .next ((t.dropPoint q).setPart p { t.part p with reset := some { r with askers := r.askers ++ [q] } }))) ∧
    (scTakes s t 0x0F01 q → (t.point q).1 ≠ 0 → exec .partitionReset s = .next ((t.dropPoint q).answer q (t.point q).1))

/-- With the command at the head of the queue, on a unit that serves: STAGE_OPEN with a name makes an empty stage under the next identifier and answers it,
STAGE_TOO_LARGE with four of the session or sixty-four in all; for a stage of the requester STAGE_STATUS answers its item count, its bytes and its flag,
STAGE_VALIDATE sets the flag and answers the head CSN when every item passes, else clears it and answers the item's status, STAGE_DISCARD drops it unless
its APPLY has been accepted, STAGE_APPLY
of one that is not validated answers STAGE_NOT_VALIDATED, of one whose quorum is not met waits for its ceremony, else hands its commit to the sequencer;
STAGE_ADD of well-formed items that fit hands over a stage body record, ends the stage's ceremony, and waits for the record. On a unit that does not serve each answers PAIR_STANDBY. -/
def Obligations.StageCommandResults : Prop :=
  ∀ (s t : State) (q : Request) (g : Stage) (its : List RawItem) (items : List CItem) (keys : Bytes) (u : State),
    let own := q.body.length = 8 ∧ allZero (q.body.drop 4) = true ∧ t.stageOf q (leAt q.body 0 4) = some g
    (scTakes s t 0x0901 q → t.serves = true → nameOk q.body = true →
      ((t.seq.stages.filter fun g => g.session == q.session).length < 4 → t.seq.stages.length < 64 → exec .stageOpen s = .next
        (({ t with seq := { t.seq with nextStage := t.seq.nextStage + 1, stages := t.seq.stages ++
            [{ id := t.seq.nextStage, session := q.session, partition := q.partition, name := q.body }] } } : State).answer q 0
          (leBytes 4 t.seq.nextStage ++ zeros 4))) ∧
      (4 ≤ (t.seq.stages.filter fun g => g.session == q.session).length ∨ 64 ≤ t.seq.stages.length → exec .stageOpen s = .next (t.answer q St.stageTooLarge))) ∧
    (scTakes s t 0x0902 q → t.serves = true → 8 ≤ q.body.length → leAt q.body 6 2 = 0 →
      rawItems (leAt q.body 4 2) (q.body.drop 8) = some (its, []) → t.stageOf q (leAt q.body 0 4) = some g →
      t.addFits g its.length ((its.map fun i => i.body.length).sum) = true → (∀ i ∈ its, addError q.partition i = none) →
      let w : PendingCommit := { src := .body q g.id, ticket := q.ticket, partition := q.partition,
                                 items := its.map fun i => decodeStageItem i.kind i.body, stageId := g.id,
                                 lines := 1 + cdiv (q.body.length - 8) 64, arrived := t.mono }
      (t.stageCeremony g.id = none → exec .stageAdd s = .next ((t.queueCommit w).await q .commit)) ∧
      ((t.stageCeremony g.id).isSome = true → exec .stageAdd s =
        .next (((t.queueCommit w).abandonCeremony St.quorumNotMet).await q .commit))) ∧
    (scTakes s t 0x0903 q → t.serves = true → own →
      (t.itemsError t.head .stage g.partition g.items = none → exec .stageValidate s =
        .next ((t.updStage g.id fun x => { x with validated := true }).answer q 0 (leBytes 8 t.headCsn))) ∧
      (∀ st i, t.itemsError t.head .stage g.partition g.items = some (st, i) → exec .stageValidate s =
        .next ((t.updStage g.id fun x => { x with validated := false }).answer q st (stageFail i)))) ∧
    (scTakes s t 0x0904 q → t.serves = true → own →
      (g.validated = false → exec .stageApply s = .next (t.answer q St.stageNotValidated (stageFail none))) ∧
      (g.validated = true → g.items.any (itemQuorum t.lifecycle t.durable) = true → t.quorumMet g.id = false → exec .stageApply s =
        .next { t with sc := { t.sc with waiting := t.sc.waiting ++ [{ req := q, wait := .ceremony g.id }] } }) ∧
      (g.validated = true → (g.items.any (itemQuorum t.lifecycle t.durable) = true → t.quorumMet g.id = true) → g.applying = none →
        (t.await q (.install g.id t.mono)).installDraws q.ticket g.items = (some keys, u) →
        installItems g.partition (u.stageCeremony g.id) keys 0 g.items = .ok items →
        ∃ v w, exec .stageApply s = .next v ∧ v.seq.waiting = u.seq.waiting ++ [w] ∧ w.src = .stage q g.id ∧ w.items = items ∧ v.egress = u.egress)) ∧
    (scTakes s t 0x0905 q → t.serves = true → own →
      (t.applyAccepted g.id = false → exec .stageDiscard s = .next ((t.dropStages fun x => x.id == g.id).answer q 0)) ∧
      (t.applyAccepted g.id = true → exec .stageDiscard s = .next (t.answer q St.stageNotFound))) ∧
    (scTakes s t 0x0906 q → t.serves = true → own → exec .stageStatus s = .next (t.answer q 0
      (leBytes 4 g.items.length ++ leBytes 4 g.sizes.sum ++ leBytes 1 (if g.validated then 1 else 0) ++ zeros 7))) ∧
    (s.sc.mode = .running → s.custody.ceremony = none → ∀ w, s.sc.waiting.find? s.resumable = some w →
      (∀ st x, w.wait = .decided st x → ∃ v, exec .scCommandResume s = .next v ∧ v.sc.waiting = s.sc.waiting.filter (fun y => y.req != w.req) ∧
        ∃ a, v.egress = s.egress ++ [a] ∧ a.req = w.req ∧ a.status = st ∧ a.body = x) ∧
      (∀ n m, w.wait = .install n m → exec .scCommandResume s = .next (s.install w.req n))) ∧
    (∀ i code, (i, code) ∈ [(Instr.stageOpen, 0x0901), (.stageAdd, 0x0902), (.stageValidate, 0x0903), (.stageApply, 0x0904), (.stageDiscard, 0x0905),
        (.stageStatus, 0x0906)] → scTakes s t code q → t.serves = false → exec i s = .next (t.answer q St.pairStandby (refusalBody code)))

/-- For every state with partition p in reset: the cancel step not yet done sets the time of cancellation, at least 1 ms after the point, and takes exactly
the requests of p out of the queues; the wipe step after it, with nothing of p in flight, ends the reset with
no halt and no faults counted, leaves no entry of p that is not pinned in key slot RAM and none in a cluster's slice, and answers every asker OK. -/
def Obligations.PartitionResetSteps : Prop :=
  ∀ (s : State) (p : Nat) (r : ResetState), (s.part p).reset = some r →
    (r.cancelledAt = none → ∃ t, exec (.partitionResetCancel p) s = .next t ∧ t.mono = max s.mono (r.at0 + 10 ^ 6) ∧
      (t.part p).reset = some { r with cancelledAt := some t.mono } ∧
      t.disp.queued = s.disp.queued.filter (fun q => !(q.partition == p))) ∧
    (∀ a, r.cancelledAt = some a → s.partInFlight p = false → ∃ t, exec (.partitionResetWipe p) s = .next t ∧
      t.mono = max s.mono (a + 50000) ∧ t.part p = {} ∧
      (∀ e ∈ t.store.slots, refPartition e.1 = p → ∃ k, s.durable.keyNow e.1 = some k ∧ isPinned k.attrs = true) ∧
      (∀ c ∈ t.clusters, ∀ e ∈ c.2.slice, refPartition e.1 ≠ p) ∧
      (∀ q ∈ r.askers, ∃ a ∈ t.egress, a.req = q ∧ a.status = 0))

/-- With the command at the head of the queue: CEREMONY_OPEN for a stage of the requester, none open, opens it, takes the next number
and answers it with the digest of the stage's image, CEREMONY_BUSY with one open; for another operation that its state permits and whose body it
accepts it answers the digest of the body; CEREMONY_STATUS answers the counts needed and made, the digest and the expiries;
CEREMONY_DATA in order appends to the upload; CEREMONY_RESULT answers a part of the completed result; CEREMONY_CANCEL ends the ceremony; CEREMONY_PASSWORD,
TOKEN_SET_PASSWORD and TOKEN_ERASE for a token in a free slot raise the token step and wait, for an empty slot answer TOKEN_NOT_PRESENT; a raised step
sends its first command when it is dispatched. -/
def Obligations.CeremonyCommandResults : Prop :=
  ∀ (s t : State) (q : Request) (c : Ceremony) (g : Stage),
    let b := q.body
    let n := leAt b 0 1
    let x := t.slot n
    (scTakes s t 0x0A01 q → b.length = 16 → leAt b 0 2 = 1 → leAt b 2 2 = 0 → leAt b 8 4 = 0 → leAt b 12 4 = 0 → t.porter.unacked = false →
      t.lifecycle ≠ .analysis →
      (t.custody.ceremony = some c → exec .ceremonyOpen s = .next (s.signal (t.answer q St.ceremonyBusy))) ∧
      (t.custody.ceremony = none → t.stageOf q (leAt b 4 4) = some g →
        let cer : Ceremony := { id := t.custody.nextId, op := 1, partition := q.partition, origin := q, stage := g.id, digest := sha256 g.image,
                                opened := t.mono, lastStep := t.mono }
        exec .ceremonyOpen s = .next (s.signal
          (({ t with custody := { t.custody with nextId := t.custody.nextId + 1, last := none, ceremony := some cer } } : State).answer q 0
            (leBytes 4 t.custody.nextId ++ zeros 4 ++ sha256 g.image))))) ∧
    (let op := leAt b 0 2
     let body := b.drop 16
     scTakes s t 0x0A01 q → b.length = 16 + leAt b 8 4 → 2 ≤ op → op ≤ 6 → leAt b 2 2 = 0 → leAt b 4 4 = 0 → leAt b 12 4 = 0 → q.partition = 0 →
      (t.porter.unacked = true → op = 5) → opPermitted t.lifecycle op = true → t.custody.ceremony = none → t.openError op body = none →
      t.openCompletes op body = false →
      let cer : Ceremony := { id := t.custody.nextId, op := op, partition := 0, origin := q, stage := 0, body := body, digest := sha256 body,
                              opened := t.mono, lastStep := t.mono }
      let v : State := { t with custody := { t.custody with nextId := t.custody.nextId + 1, last := none, ceremony := some cer } }
      exec .ceremonyOpen s = .next (s.signal ((if op = 3 then v.useChallenge else v).answer q 0
        (leBytes 4 t.custody.nextId ++ zeros 4 ++ sha256 body)))) ∧
    (scTakes s t 0x0A02 q → passwordMalformed b = false → t.ceremonyFor q (leAt b 0 4) true = some c → (t.slot (leAt b 4 1)).lockedOut = false →
      (let v := { t with sc := { t.sc with stall := none } }
       (t.slot (leAt b 4 1)).present = false → exec .ceremonyPassword s =
        .next ((v.slotStatus (leAt b 4 1) St.tokenNotPresent).answer q St.tokenNotPresent)) ∧
      ((t.slot (leAt b 4 1)).present = true → (t.slot (leAt b 4 1)).free = true → t.canDraw 12 = true →
        (t.rosterKey c (t.slot (leAt b 4 1)).tokenId).isSome = true → ∃ u k, exec .ceremonyPassword s = .next u ∧
          (u.slot (leAt b 4 1)).step = some ((t.slot (leAt b 4 1)).steps, k) ∧ k.index = 24 ∧
          u.sc.waiting = t.sc.waiting ++ [{ req := { q with body := b.take 8 }, wait := .token (leAt b 4 1) }] ∧
          u.egress = t.egress ∧ u.custody.ceremony = some c)) ∧
    (b.length = 8 → allZero (b.drop 4) = true → t.ceremonyFor q (leAt b 0 4) false = some c →
      (scTakes s t 0x0A03 q → exec .ceremonyStatus s = .next (t.free.2.answer q 0 (leBytes 1 t.free.1 ++ leBytes 1 (t.neededAll c) ++
        leBytes 1 (t.countedAll c) ++ zeros 5 ++ c.digest ++ t.expiries c))) ∧
      (scTakes s t 0x0A06 q → exec .ceremonyCancel s = .next ((t.abandonCeremony St.cancelled).answer q 0))) ∧
    (scTakes s t 0x0A04 q → 16 ≤ b.length → leAt b 4 4 = 0 → t.ceremonyFor q (leAt b 0 4) false = some c → leAt b 8 8 = c.upload.length →
      (∃ m, t.blobBytes c = some m ∧ c.upload.length + (b.length - 16) ≤ m) → exec .ceremonyData s =
        .next ((t.setCeremony (some { c with upload := c.upload ++ b.drop 16 })).answer q 0 (leBytes 8 (c.upload.length + (b.length - 16))))) ∧
    (scTakes s t 0x0A05 q → b.length = 16 → t.custody.last = some c → c.id = leAt b 0 4 → c.partition = q.partition → leAt b 4 4 ≤ 65536 →
      leAt b 8 8 ≤ c.result.length → exec .ceremonyResult s = .next (t.answer q 0 ((c.result.drop (leAt b 8 8)).take (leAt b 4 4)))) ∧
    (scTakes s t 0x0A07 q → setPasswordMalformed b = false → x.lockedOut = false →
      (x.present = false → exec .tokenSetPassword s = .next ((t.slotStatus n St.tokenNotPresent).answer q St.tokenNotPresent)) ∧
      (x.present = true → x.free = true → ∃ u k, exec .tokenSetPassword s = .next u ∧ (u.slot n).step = some (x.steps, k) ∧
        k.index = (if x.unlocked then 8 else 10) ∧ u.sc.waiting = t.sc.waiting ++ [{ req := { q with body := b.take 8 }, wait := .token n }])) ∧
    (scTakes s t 0x0A08 q → b.length = 8 → n ≤ 1 → allZero (b.drop 1) = true → q.partition = 0 → x.lockedOut = false → x.present = true →
      x.free = true → ∃ u k, exec .tokenErase s = .next u ∧ (u.slot n).step = some (x.steps, k) ∧ k.index = 11 ∧
        u.sc.waiting = t.sc.waiting ++ [{ req := q, wait := .token n }]) ∧
    (∀ no k, n ≤ 1 → x.step = some (no, k) → ((t.beginStep n no).slot n).cmd = some { why := k.why, index := k.index, arg := k.arg, data := k.data } ∧
      ((t.beginStep n no).slot n).step = none ∧ ∃ o ∈ (t.beginStep n no).outputs,
        o = .token n k.index k.arg k.data (tokenFrame k.index k.arg) (tokenLines (x.mode == 3) k.data))

/-- For every state: a token detected in an empty slot is present, powered and started with GO_IDLE; its identity block gives TOKEN_ID and public key; a removed
one leaves the slot empty, unpowered and locked; an overcurrent takes power off and keeps the slot out of use. An answer to UNLOCK with TSTATUS 0 waits for the end of busy,
which unlocks the token and has the digest signed next; LOCK locks it; an answer that is missing, or whose frame fails its CRC, is asked for again once; a busy time out sends the command again once.
A count lapses 300 s after its check, and a ceremony ends 300 s after its last step or 3,600 s after its opening. -/
def Obligations.TokenEventResults : Prop :=
  ∀ (s : State) (n : Nat) (id pub dg d : Bytes) (empty : Bool) (bd : Option FwImage) (r : TokenResp) (k : TokenCmd) (c : Ceremony) (e : Bytes × Nat), n < 2 →
    let good := k.held = none ∧ r.missing = false ∧ respCrcOk r = true ∧ respIndex r = k.index ∧ respStatus r = 0 ∧
      (s.slot n).answerBlock k r = some d ∧ (k.data = [] ∨ r.blockStatus = 2)
    (s.sc.mode = .running → (s.slot n).present = false → ∃ t, exec (.tokenDetectClosed n d empty bd) s = .next t ∧
      (t.slot n).present = true ∧ (t.slot n).powered = true ∧ (t.slot n).mode = 1 ∧ (t.slot n).unlocked = false ∧
      (t.slot n).cmd = some { why := .idle, index := 0 }) ∧
    ((s.slot n).cmd = some k → good → k.why = .identify → k.index = 16 → identityOf d = (id, pub) → ∃ t, exec (.tokenResponse n r) s = .next t ∧
      (t.slot n).tokenId = id ∧ (t.slot n).pub = pub ∧
      (t.slot n).cmd = (if (s.slot n).fallback then none else some { why := .switchMode, index := 2, arg := 0x31 })) ∧
    ((s.slot n).present = true → ∃ t, exec (.tokenRemoved n) s = .next t ∧ (t.slot n).present = false ∧ (t.slot n).powered = false ∧
      (t.slot n).unlocked = false ∧ (t.slot n).cmd = none ∧ (t.slot n).tokenId = []) ∧
    ((s.slot n).powered = true → ∃ t, exec (.tokenOvercurrent n) s = .next t ∧ (t.slot n).powered = false ∧ (t.slot n).lockedOut = true ∧
      (t.slot n).overcurrent = true ∧ (t.slot n).cmd = none) ∧
    ((s.slot n).cmd = some k → good → k.why = .unlock dg → k.index = 10 → ∃ t, exec (.tokenResponse n r) s = .next t ∧
      t.slot n = { s.slot n with cmd := some { k with held := some r } }) ∧
    ((s.slot n).cmd = some k → k.why = .unlock dg → k.held = some r → respStatus r = 0 → ∃ t, exec (.tokenBusyEnd n) s = .next t ∧
      (t.slot n).unlocked = true ∧ (t.slot n).cmd = some { why := .sign dg, index := 21, arg := 0, data := dg }) ∧
    ((s.slot n).cmd = some k → good → k.why = .lock → k.index = 9 → ∃ t, exec (.tokenResponse n r) s = .next t ∧ (t.slot n).unlocked = false ∧
      (t.slot n).cmd = none) ∧
    ((s.slot n).cmd = some k → k.why ≠ .readCheck → k.held = none → k.resent = false → (r.missing = true ∨ respCrcOk r = false) →
      ∃ t, exec (.tokenResponse n r) s = .next t ∧ (t.slot n).cmd = some { k with resent := true } ∧
        Output.token n k.index k.arg k.data (tokenFrame k.index k.arg) (tokenLines ((s.slot n).mode == 3) k.data) ∈ t.outputs) ∧
    ((s.slot n).cmd = some k → k.held.isSome = true → k.resent = false → ∃ t, exec (.tokenBusyTimeout n) s = .next t ∧
      (t.slot n).cmd = some { k with resent := true, held := none }) ∧
    (∀ i, s.custody.ceremony = some c → c.counts[i]? = some e → ∃ t, exec (.tokenCountExpiry i) s = .next t ∧
      t.mono = max s.mono (e.2 + 300 * 10 ^ 9) ∧ t.custody.ceremony = some { c with counts := c.counts.eraseIdx i }) ∧
    (s.custody.ceremony = some c → ∃ t, exec .ceremonyTimeout s = .next t ∧ t.custody.ceremony = none ∧
      t.mono = max s.mono (min (c.lastStep + 300 * 10 ^ 9) (c.opened + 3600 * 10 ^ 9)))

/-- With the command at the head of the queue: FIRMWARE_BEGIN of a well-formed header opens the upload in the slot that is not running, FIRMWARE_DATA in order
appends to it, FIRMWARE_END of a whole image that passes closes it with the image in its slot and answers its digest, of one that fails leaves the slot failing, of one
that only its digest tells from the running image leaves the slot empty;
BOOT_STATUS answers the 88-byte state; DEBUG_CHALLENGE answers 32 fresh bytes that are the new challenge; a debug grant ends at its time. -/
def Obligations.FirmwareAndDebugResults : Prop :=
  ∀ (s t : State) (q : Request) (u : FwUpload) (r e : Nat),
    let b := q.body
    let i := parseFwImage (u.header ++ u.data)
    (scTakes s t 0x0B01 q → b.length = 512 → t.sc.upload = none → fwRootFailure (parseFwImage b) t.sc.otp false = none →
      exec .firmwareBegin s = .next (({ t with sc := { t.sc.setSlot t.sc.targetSlot .upload with
          upload := some { slot := t.sc.targetSlot, header := b } } } : State).answer q 0 (leBytes 1 t.sc.targetSlot ++ zeros 7))) ∧
    (scTakes s t 0x0B01 q → b.length = 512 → t.sc.upload = some u → exec .firmwareBegin s = .next (t.answer q St.firmwareUploadBusy)) ∧
    (scTakes s t 0x0B02 q → t.sc.upload = some u → b.length = 16 + leAt b 8 4 → leAt b 12 4 = 0 → 1 ≤ leAt b 8 4 → leAt b 8 4 ≤ 65520 →
      leAt b 0 8 = u.data.length → exec .firmwareData s = .next (({ t with sc := { t.sc with
          upload := some { u with data := u.data ++ b.drop 16 } } } : State).answer q 0 (leBytes 8 (u.data.length + leAt b 8 4)))) ∧
    (scTakes s t 0x0B03 q → b = [] → t.sc.upload = some u →
      (u.data.length + 512 = i.imageBytes → fwFailure i t.sc.otp false = none → t.ambiguous i = false → exec .firmwareEnd s =
        .next (s.signal ((t.closeUpload u.slot (.image i)).answer q 0 (fwDigest i)))) ∧
      (u.data.length + 512 ≠ i.imageBytes ∨ fwFailure i t.sc.otp false ≠ none →
        exec .firmwareEnd s = .next (s.signal ((t.closeUpload u.slot (.failing (u.header ++ u.data))).answer q St.imageInvalid))) ∧
      (u.data.length + 512 = i.imageBytes → fwFailure i t.sc.otp false = none → t.ambiguous i = true →
        exec .firmwareEnd s = .next (s.signal ((t.closeUpload u.slot .empty).answer q St.firmwareAmbiguous)))) ∧
    (scTakes s t 0x0B04 q → b = [] → exec .bootStatus s = .next (t.answer q 0 (leBytes 1 (lcCode t.lifecycle) ++ leBytes 1 t.sc.running ++
      leBytes 1 t.sc.preferred ++ leBytes 1 t.sc.otp.revokedBits ++ leBytes 1 (t.sc.slotCode 0) ++ leBytes 1 (t.sc.slotCode 1) ++ zeros 2 ++
      leBytes 4 (t.sc.slotSeq 0) ++ leBytes 4 (t.sc.slotSeq 1) ++ leBytes 8 t.sc.bootCount ++ t.sc.slotDigest 0 ++ t.sc.slotDigest 1))) ∧
    (scTakes s t 0x0B05 q → b = [] → s.canDraw 12 = true → ∃ v, exec .debugChallenge s = .next v ∧
      v.sc.challenge = some ((t.random 12 32).1, s.mono, false) ∧ ∃ a, v.egress = s.egress ++ [a] ∧ a.req = q ∧ a.status = 0 ∧ a.body = (t.random 12 32).1) ∧
    (s.sc.grant = some (r, e) → ∃ v, exec .debugGrantExpiry s = .next v ∧ v.sc.grant = none ∧ v.mono = max s.mono e ∧
      ∃ x ∈ v.raised, x.2.code = St.debugEnded ∧ x.2.args = [r])

/-- For every state: a cold start of a module without main power with an active sensor takes power, stays in reset and runs nothing, its start due at the release; without one it
leaves S4 for S0. A warm reset that is released, and the cold start, take the life-cycle state from the LC_DONE groups of OTP (after a resumed transition, the one it completes), and leave the module in ROM, the wayside loader, its start sequence or scrap. A
module in another state ignores both. -/
def Obligations.StartResults : Prop :=
  ∀ (s : State),
    (s.porter.power = .s4 → s.porter.sensorActive = true → ∃ t, exec .coldStart s = .next t ∧ t.porter.p12v = true ∧ t.porter.held = true ∧
      t.porter.coldDue = true ∧ t.sc.mode = s.sc.mode ∧ t.cores = s.cores) ∧
    (s.porter.power = .s4 → s.porter.sensorActive = false → ∃ t, exec .coldStart s = .next t ∧ t.porter.power = .s0 ∧ t.porter.held = false ∧
      (t.sc.mode = .scrap ∨ t.sc.mode = .romBlank ∨ t.sc.mode = .wayside ∨ t.sc.mode = .starting) ∧ t.lifecycle = lcOf (highestSet t.sc.otp.done)) ∧
    (s.porter.power ≠ .s4 → exec .coldStart s = .next (s.signal s)) ∧
    (s.sc.mode = .off → s.guest.inFatal = none → s.porter.p12v = true → s.porter.held = false → s.porter.power = .s0 →
      ∃ t, exec .warmReset s = .next t ∧ (t.sc.mode = .scrap ∨ t.sc.mode = .romBlank ∨ t.sc.mode = .wayside ∨ t.sc.mode = .starting) ∧
        t.lifecycle = lcOf (highestSet t.sc.otp.done)) ∧
    (s.sc.mode ≠ .off → exec .warmReset s = .next (s.signal s))

/-- For every state: MODULE_STARTED of a starting module with its generator up, no trunk wanted, an identity that can sign and an expander that
delivers the IVs of the record area and the draws of the start sets the mode to running, wakes every cluster, lane and engine idle and derives the boughs. A wayside GO of an image that passes restarts the module with it in its slot, one
that fails answers IMAGE_INVALID in WAY_STATUS; OP 2 with the token of a root, another being usable, revokes it; OP 3 in BLANK with the token of transition 1 ends in the state after it. -/
def Obligations.StartedAndWaysideResults : Prop :=
  ∀ (s u : State) (ctrl : BitVec 32) (i : FwImage) (ivs : Bytes),
    let v := ctrl.toNat
    let go := fun op => s.waysideOn = true ∧ bit v 31 = true ∧ v % 16 = op ∧ s.svc.wayState ≠ 1
    let n := if bits v 7 6 = 0 then 1 - s.sc.preferred else bits v 7 6 - 1
    let taken : State := { s with svc := { s.svc with wayOp := v % 16, wayArg := bits v 11 8, waySlot := bits v 7 6, wayResult := 0 } }
    (s.sc.mode = .starting → s.rng.started = true → s.rng.trunkWanted = false → s.plat.canSign = true →
      s.dropStale.deriveKeys.areaIvs = (some ivs, u) → u.canDraw 12 2 = true →
      ∃ t, exec .moduleStarted s = .next t ∧ t.sc.mode = .running ∧ t.sc.identity.isSome = true ∧ t.clusters.length = s.clusterCount ∧
        t.lanes.length = s.laneCount ∧ t.lnes.length = s.lneCount ∧ (∀ c ∈ t.clusters, c.2.power = .idle s.mono) ∧
        t.plat.index = s.plat.index + 1 ∧ ∃ e ∈ t.raised, e.2.code = St.moduleStarted) ∧
    (go 1 → s.sc.mode ≠ .romBlank → bits v 7 6 ≤ 2 → s.svc.wayAddr % 4096 = 0 → s.svc.wayLen ≤ 268435456 →
      (i.imageData.length = s.svc.wayLen → fwFailure i s.sc.otp false = none → exec (.waysideLoadImage ctrl (.image i)) s =
        .next (s.signal ({ taken with sc := s.sc.setSlot n (.image i) } : State).restart)) ∧
      (i.imageData.length ≠ s.svc.wayLen ∨ fwFailure i s.sc.otp false ≠ none → exec (.waysideLoadImage ctrl (.image i)) s =
        .next (s.signal (({ taken with sc := s.sc.setSlot n (.failing i.imageData) } : State).wayFail St.imageInvalid)))) ∧
    (go 2 → bits v 11 8 < 4 → s.sc.otp.revokeError (bits v 11 8) s.wayToken = none → exec (.waysideRevoke ctrl) s =
      .next (s.signal (({ taken with sc := { s.sc with otp := s.sc.otp.revoke (bits v 11 8) } } : State).restart.scEvent St.rootKeyRevoked [bits v 11 8]))) ∧
    (go 2 → 4 ≤ bits v 11 8 → exec (.waysideRevoke ctrl) s = .next (s.signal (taken.wayFail St.bootMalformed))) ∧
    (go 3 → s.sc.mode ≠ .romBlank → exec (.waysideToTest ctrl) s = .next (s.signal (taken.wayFail St.lcStateDenied))) ∧
    (go 3 → s.sc.mode = .romBlank → sha256 s.wayToken ≠ fit 32 (Config.lcTokenDigest 1) →
      exec (.waysideToTest ctrl) s = .next (s.signal (taken.wayFail St.lcTokenInvalid))) ∧
    (go 3 → s.sc.mode = .romBlank → sha256 s.wayToken = fit 32 (Config.lcTokenDigest 1) → exec (.waysideToTest ctrl) s =
      .next (s.signal ((((({ taken with sc := { s.sc with otp := s.sc.otp.setIntent 1 } } : State).scEvent St.lcTransitionStarted
        [1]).mainReset).finishTransition 1).start false)))

/-- With the command at the head of the queue: PLATFORM_STATUS answers the status word, the manifest's sequence and digest and the set's state; RECOVERY_BEGIN
opens an upload of a channel, RECOVERY_DATA in order appends to it, RECOVERY_END of a set that passes makes it valid, of one that fails answers RECOVERY_SET_INVALID;
PLATFORM_RECOVER starts recovery, PLATFORM_RESTART lowers PLT_PWR_EN, each PLATFORM_BUSY during an upload; DEVICE_CERTIFICATE answers the certificate; a tree whose
subtrees are all built and whose jobs have left is there for its index, one with subtrees left is not; damaged caches are rebuilt. -/
def Obligations.PlatformCommandResults : Prop :=
  ∀ (s t : State) (q : Request),
    let b := q.body
    let ch := leAt b 0 1
    let n := leAt b 4 4
    let x := t.plat.set
    let held := getD ch [] x.images
    (scTakes s t 0x0C01 q → b = [] → exec .platformStatus s = .next (t.answer q 0 (leBytes 4 t.plat.status ++ leBytes 4 t.plat.manifestSeq ++
      t.plat.manifestHash ++ leBytes 1 x.state ++ zeros 7))) ∧
    (scTakes s t 0x0C02 q → b.length = 8 → ch ≤ 1 → allZero (slice b 1 3) = true → n % 4096 = 0 → n ≤ 67108864 → t.plat.busy = false →
      exec .recoveryBegin s = .next (({ t with plat := { t.plat with set := { state := 2, channel := ch, lens := setK ch n x.lens, images := setK ch [] x.images } } } : State).answer q 0)) ∧
    (scTakes s t 0x0C03 q → b.length = 16 + n → allZero (slice b 1 3) = true → 1 ≤ n → n ≤ 65520 → x.state = 2 → x.channel = ch →
      leAt b 8 8 = held.length → held.length + n ≤ getD ch 0 x.lens → exec .recoveryData s =
        .next (({ t with plat := { t.plat with set := { x with images := setK ch (held ++ b.drop 16) x.images } } } : State).answer q 0 (leBytes 8 (held.length + n)))) ∧
    (scTakes s t 0x0C04 q → b = [] → x.state = 2 →
      (t.setOk = true → exec .recoveryEnd s = .next (({ t with plat := { t.plat with set := { x with state := 1 } } } : State).answer q 0 (parseManifest t.setManifest).digest)) ∧
      (t.setOk = false → exec .recoveryEnd s = .next (({ t with plat := { t.plat with set := { x with state := 0 } } } : State).answer q St.recoverySetInvalid))) ∧
    (scTakes s t 0x0C05 q → b = [] →
      (x.state = 1 → t.plat.recovering = false → ∃ v, exec .platformRecover s = .next v ∧ v.plat.recovering = true ∧ v.plat.attempt = 1 ∧
        v.plat.pwrEn = true ∧ v.plat.rst = 0 ∧ v.plat.held = false) ∧
      (x.state = 2 → exec .platformRecover s = .next (s.signal (t.answer q St.platformBusy)))) ∧
    (scTakes s t 0x0C06 q → b = [] → t.plat.busy = false → ∃ v, exec .platformRestart s = .next v ∧ v.plat.pwrEn = false ∧ v.plat.restartOff = true ∧
      v.plat.rst = 0 ∧ v.plat.outEn = 0 ∧ v.plat.outAt = t.mono) ∧
    (scTakes s t 0x0C07 q → b = [] → exec .deviceCertificate s = .next (t.answer q 0 t.deviceCertificate)) ∧
    (∀ y, s.sc.mode = .running → s.plat.cacheOk = true → s.plat.build = some y →
      (y.left = 0 → (∀ h ∈ y.jobs, s.lneJob? h = none) → ∃ v, exec .identityTreeBuilt s = .next v ∧ v.plat.treeNext = true ∧ v.plat.build = none) ∧
      (y.left ≠ 0 → ∃ v, exec .identityTreeBuilt s = .next v ∧ v.plat.treeNext = s.plat.treeNext)) ∧
    (s.sc.mode = .running → s.plat.cacheOk = false → ∃ v, exec .identityTreeBuilt s = .next v ∧ v.plat.cacheOk = true)

/-- With the controller running and PLT_PWR_EN high: the rise of PLT_PWR_GOOD starts the measurement with the filter on, and releases everything with it off; its
fall withdraws everything; without it the wait's end holds the platform. During the measurement, manifest and flashes that pass release the early resets into SERVE, the last match
releases the rest into RUN, a mismatch withdraws everything and starts recovery; the serve timeout goes back to hashing alone; the end of writing has put the recovery images where the flashes differed and measures again; 100 ms after a restart PLT_PWR_EN rises. -/
def Obligations.PlatformSequenceResults : Prop :=
  ∀ (s : State) (man : Bytes) (fl : List (Nat × FlashObs)) (m : Manifest) (i : Nat) (r : Region), s.sc.mode = .running →
    (s.plat.pwrGood = false → s.plat.pwrEn = true → s.plat.recovering = false →
      (s.plat.cfg.enable = true → ∃ t, exec .pltPwrGoodRise s = .next t ∧ t.plat.pwrGood = true ∧ t.plat.measuring = true ∧ t.plat.phase = .boot ∧
        t.plat.goodAt = s.mono ∧ t.plat.rst = s.plat.rst) ∧
      (s.plat.cfg.enable = false → ∃ t, exec .pltPwrGoodRise s = .next t ∧ t.plat.phase = .disabled ∧ t.plat.rst = 0xFF ∧ t.plat.outEn = 0xF)) ∧
    (s.plat.pwrGood = true → s.plat.pwrEn = true → s.plat.recovering = false → ∃ t, exec .pltPwrGoodFall s = .next t ∧ t.plat.pwrGood = false ∧
      t.plat.rst = 0 ∧ t.plat.outEn = 0 ∧ t.plat.measuring = false ∧ ∃ e ∈ t.raised, e.2.code = St.platformPowerLost) ∧
    (s.plat.cfg.enable = true → s.plat.pwrEn = true → s.plat.risen = false → ∃ t, exec .platformPowerGoodWait s = .next t ∧ t.plat.pwrEn = false ∧
      t.plat.held = true ∧ t.plat.heldReason = 1 ∧ t.mono = max s.mono (s.plat.outAt + s.plat.cfg.waitNs)) ∧
    (s.plat.measuring = true → s.plat.pwrGood = true →
      (s.plat.phase = .boot → s.plat.alone = false →
        (s.badStart man fl = none → ∃ t, exec (.platformReleasedEarly man fl) s = .next t ∧ t.plat.phase = .serve ∧
          t.plat.rst = (parseManifest man).resetEarly ∧ t.plat.outEn = s.plat.outEn ∧ t.plat.manifest = some (parseManifest man)) ∧
        (flashesOk s.plat.cfg fl = false → s.plat.attempt = 0 → s.plat.set.state = 1 → ∃ t, exec (.platformReleasedEarly man fl) s = .next t ∧
          t.plat.recovering = true ∧ t.plat.rst = 0)) ∧
      (s.plat.manifest = some m → s.plat.phase = .serve →
        (∃ t, exec .platformVerified s = .next t ∧ t.plat.phase = .run ∧ t.plat.rst = m.resetUsed ∧ t.plat.outEn = m.outEnUsed.setWidth 4 ∧
          t.plat.measuring = false) ∧
        (m.regions[i]? = some r → measured r = true → getK i s.plat.results = some 0 → s.plat.attempt = 0 → s.plat.set.state = 1 → ∃ t, exec (.regionMismatch (.region man i)) s = .next t ∧
          t.plat.rst = 0 ∧ t.plat.outEn = 0 ∧ t.plat.recovering = true ∧ t.plat.attempt = s.plat.failures + 1))) ∧
    (s.plat.phase = .serve → ∃ t, exec .serveTimeout s = .next t ∧ t.plat.rst = 0 ∧ t.plat.outEn = 0 ∧ t.plat.measuring = true ∧ t.plat.alone = true ∧
      t.mono = max s.mono (s.plat.goodAt + s.plat.cfg.serveNs)) ∧
    (s.plat.recovering = true → s.plat.pwrGood = true → ∃ t, exec .platformRecoveryWritten s = .next t ∧ t.plat.recovering = false ∧
      t.plat.measuring = true ∧ t.plat.phase = .boot ∧ ∀ w ∈ s.recoveryWrites s.flashesHeld, Output.flashWrite w.1 w.2.1 w.2.2 ∈ t.outputs) ∧
    (s.plat.restartOff = true → ∃ t, exec .platformRestartPowerOffEnd s = .next t ∧ t.plat.pwrEn = true ∧ t.plat.restartOff = false ∧
      t.mono = max s.mono (s.plat.outAt + 10 ^ 8))

/-- For every state with the controller running: a host flash command in BOOT is refused, and with the filter disabled it passes while the platform has power; in SERVE or RUN one whose opcode the phase's list
of its channel does not allow is refused, and so is a program or a sector erase that touches a 4 KiB unit without the right; a read passes only
where every unit it touches has the read right, and otherwise answers 0xFF for exactly the units without it; an opcode that R443 classifies as
without an address, and a read of SFDP, passes when the list allows it. A channel outside the manifest's mask passes nothing. -/
def Obligations.FlashFilterResults : Prop :=
  ∀ (s : State) (ch : Nat) (cmd : FlashCmd) (m : Manifest), s.sc.mode = .running → ch < 2 →
    let answers := fun (pass : Bool) (ones : List Nat) =>
      ∃ t, exec (.hostFlashCommand ch cmd) s = .next t ∧ t.outputs = .flash ch pass ones :: s.outputs
    let refused := ∃ ones, answers false ones
    let run := s.plat.phase = .run
    let allowed := bit (leAt (m.allow.getD (2 * ch + (if s.plat.phase = .run then 1 else 0)) []) (cmd.opcode / 8) 1) (cmd.opcode % 8)
    let a := if fourByteOpcode cmd.opcode ∨ getD ch false s.plat.four then cmd.addr % 2 ^ 32 else cmd.addr % 2 ^ 24
    let lacks := fun (right a len : Nat) => ∃ j, j < cdiv (a % 4096 + len) 4096 ∧
      (unitRights m (s.plat.phase == .run) ch (a / 4096 + j)).getLsbD right = false
    (s.plat.phase = .boot → refused) ∧
    (s.plat.phase = .disabled → answers s.plat.pwrEn []) ∧
    (s.plat.phase = .serve ∨ run → s.plat.manifest = some m →
      (m.channelMask.getLsbD ch = false → refused) ∧
      (allowed = false → refused) ∧
      (m.channelMask.getLsbD ch = true → allowed = true → opcodeClass cmd.opcode = 0 →
        let ones := ((List.range (cdiv (a % 4096 + max 1 cmd.len) 4096)).map fun i => a / 4096 + i).filter fun u =>
          !(unitRights m (s.plat.phase == .run) ch u).getLsbD 0
        answers (decide (ones = [])) ones) ∧
      (opcodeClass cmd.opcode = 1 → lacks 1 a (max 1 cmd.len) → refused) ∧
      (∀ f n, opcodeClass cmd.opcode = 2 → getK ch s.plat.flash = some f → getK cmd.opcode f.eraseSizes = some n → lacks 2 (a / n * n) n → refused) ∧
      (m.channelMask.getLsbD ch = true → allowed = true → opcodeClass cmd.opcode = 4 ∨ opcodeClass cmd.opcode = 5 →
        answers true []))

/-- POWER_STATE of a well-formed body that nothing refuses sets the entry going and answers OK, else POWER_STATE_REFUSED; TAMPER_STATUS answers status, cause, count and time of the trip;
the idle timer begins S2; S2 is entered when every queue is empty and everything is gated, S3 when dispatched requests have completed, with no core left and the alarm set; a frame, doorbell or token wakes from S2 (to S1 where nothing
holds work);
returning power, PWR_WAKE_N and the alarm wake from S3 to S0, by the fast path where its conditions hold. -/
def Obligations.PowerAndSleepResults : Prop :=
  ∀ (s t : State) (q : Request) (w : WakeSource) (a : Nat),
    let b := q.body
    let n := leAt b 0 1
    let p := t.porter
    let woken := fun (x : Instr) (code : Nat) => ∃ v, exec x s = .next v ∧ v.porter.power = .s0 ∧ v.porter.wakeSource = code ∧ v.porter.alarm = none ∧
      ∃ e ∈ v.raised, e.2.code = St.powerWake ∧ e.2.args = [code]
    (scTakes s t 0x0D01 q → b.length = 8 → n = 2 ∨ n = 3 → allZero (slice b 1 3) = true → leAt b 4 4 ≤ 2592000 →
      (t.powerRefused n = false → exec .powerState s = .next (({ t with porter := { p with entering := some (n, leAt b 4 4) } } : State).answer q 0)) ∧
      (t.powerRefused n = true → exec .powerState s = .next (t.answer q St.powerStateRefused))) ∧
    (scTakes s t 0x0D02 q → b = [] → exec .tamperStatus s = .next (t.answer q 0 (leBytes 4 p.status ++ leBytes 4 p.cause ++ leBytes 4 p.tamperCount ++
      zeros 4 ++ leBytes 8 p.tripMono))) ∧
    (s.sc.mode = .running → s.cfg 0x0903 0 0 ≠ 0 → s.porter.entering = none → s.fabricRuns = true → s.disp.queued = [] → s.porter.unacked = false → s.rights = 0 →
      exec .s2IdleTimer s = .next { s with mono := max s.mono (s.porter.lastRequest + s.cfg 0x0903 0 0 * 10 ^ 9), porter := { s.porter with entering := some (2, 0) } }) ∧
    (s.porter.entering = some (2, a) → s.sc.mode = .running → s.disp.queued = [] → s.sc.queue = [] → s.sc.waiting = [] → s.egress = [] → s.allQuiet = true →
      ∃ v, exec .s2EntryDone s = .next v ∧ v.porter.power = .s2 ∧ v.porter.entering = none ∧ v.mono = s.mono ∧
        (∀ c ∈ v.clusters, c.2.power = .gated) ∧ ∃ e ∈ v.raised, e.2.code = St.powerStateEntered ∧ e.2.args = [2]) ∧
    (s.porter.power = .s2 → s.porter.held = false → w = .frame ∨ w = .doorbell ∨ w = .token → ∃ v, exec (.s2Wake w) s = .next v ∧
      v.porter.power = (if v.allQuiet then .s1 else .s0) ∧ v.porter.wakeSource = wakeCode w ∧ (∀ c ∈ v.clusters, c.1 < s.minAwake → c.2.power = .idle s.mono) ∧
      v.cores = s.cores ∧ ∃ e ∈ v.raised, e.2.code = St.powerWake ∧ e.2.args = [wakeCode w]) ∧
    (s.porter.entering = some (3, a) → s.sc.mode = .running → s.drained = true → s.porter.standby = true → ∃ v, exec .s3EntryDone s = .next v ∧
      v.porter.power = .s3 ∧ v.porter.entering = none ∧ v.porter.alarm = (if a = 0 then none else some (s.mono + a * 10 ^ 9)) ∧
      v.cores = [] ∧ v.sc.mode = .off ∧ v.porter.trunk = s.porter.trunk) ∧
    (s.porter.power = .s3 → s.porter.held = false →
      (s.porter.p12v = false → woken (.s3Wake .mainReturn) 6) ∧
      (s.porter.p12v = true → woken .pwrWakeN 4 ∧ (s.porter.alarm = some a → woken .porterAlarm 5)) ∧
      (∀ x i, s.porter.p12v = true → s.porter.latch = false → s.wakeMismatch = none → s.porter.s3 = some x → s.sc.slot x.slot = .image i →
        ∃ v, exec .pwrWakeN s = .next v ∧ v.sc.mode = .starting ∧ v.sc.running = x.slot ∧ v.sc.runImage = some i ∧ v.durable = s.durable ∧
          v.sc.coldCount = s.sc.coldCount))

/-- A trip with main power leaves no core, no volatile key, no trunk, no memory key, the latch, the cause and its time, and the main domain held; in S3 what
was retained is lost too; in S4 the porter alone records it. AON power-on after a loss of its state restarts MONO_NS and keeps the count. The release comes 100 ms later, and a wake from S3 that the reset held goes on. Loss of main power, or 12 V over its limit, leaves no core, keeps the trunk and the
latch, and ends in S3 with the standby rail, else in S4; in S3 the loss of that rail ends in S4. -/
def Obligations.TamperAndPowerLossResults : Prop :=
  ∀ (s : State) (x : Sensor), x ≠ .aonLost → x ≠ .glitch ∨ s.porter.p12v = true →
    let trip := exec (.tamperTrip x) s
    let lost := fun (i : Instr) => s.porter.p12v = true → ∃ t, exec i s = .next t ∧ t.porter.p12v = false ∧ t.porter.trunk = s.porter.trunk ∧
      t.porter.latch = s.porter.latch ∧ t.porter.cause = s.porter.cause ∧
      (s.mainUp = true → t.cores = [] ∧ t.sc.mode = .off ∧ t.porter.power = (if s.porter.standby then .s3 else .s4) ∧
        (s.porter.standby = false → t.sc.memKey = none)) ∧
      (s.mainUp = false → t.porter.power = s.porter.power)
    (∃ t, trip = .next t ∧ t.porter.latch = true ∧ t.porter.unacked = true ∧ t.porter.held = true ∧ t.porter.trunk = none ∧
      t.porter.cause = s.porter.cause ||| 2 ^ causeBit x ∧ t.porter.tripMono = s.mono ∧ t.porter.tamperCount = s.porter.tamperCount) ∧
    (s.mainUp = true → ∃ t, trip = .next t ∧ t.cores = [] ∧ t.store = {} ∧ t.net.sessions = [] ∧ t.custody = {} ∧ t.lneJobs = [] ∧ t.laneJobs = [] ∧
      t.sc.memKey = none ∧ t.sc.identity = none ∧ t.sc.mode = .off ∧ t.porter.power = .s0) ∧
    (s.porter.power = .s3 → ∃ t, trip = .next t ∧ t.sc.memKey = none ∧ t.sc.retained = [] ∧ t.porter.s3 = none ∧ t.porter.power = .s3) ∧
    (s.porter.power = .s4 → exec (.tamperTrip .aonLost) s = .next (s.signal { s with mono := 0, porter :=
      { tamperCount := s.porter.tamperCount, counted := s.porter.counted && s.porter.latch, p12v := s.porter.p12v, sensorActive := false } })) ∧
    (s.porter.held = true → s.porter.latch = true →
      let clear : State := { s with mono := s.mono + 10 ^ 8, porter := { s.porter with sensorActive := false, held := s.porter.power == .s4 } }
      (s.porter.wakeDue = none → exec .tamperResetRelease s = .next (s.signal clear)) ∧
      (∀ n, s.porter.wakeDue = some n → exec .tamperResetRelease s = .next (s.signal (clear.wakeS3 n)))) ∧
    lost .mainPowerLost ∧ lost .p12vOvervoltage ∧
    (∃ t, exec .standbyRailLost s = .next t ∧ t.porter.standby = false ∧ t.porter.trunk = s.porter.trunk ∧
      t.porter.power = (if s.porter.power = .s3 then .s4 else s.porter.power) ∧ t.cores = s.cores ∧ t.durable = s.durable)

/-- With the standby rail present, VBAT_ABSENT forms the event 0x0D0A when this episode has not been recorded and none when it has, bit 5 of PRT_STATUS reads 0 afterwards, and nothing else differs: the latch, the causes and the trunk of the
porter stay (it is no tamper). -/
def Obligations.VbatAbsentIsNoTamper : Prop :=
  ∀ (s : State), s.porter.standby = true → ∃ t, exec .vbatAbsent s = .next t ∧
    t = { s with porter := { s.porter with vbat := false, vbatRecorded := true }
                 raised := if s.porter.vbatRecorded then s.raised else s.raised ++ [(16, { code := 0x0D0A, mono := s.mono, args := [] })] } ∧
    t.porter.status.testBit 5 = false ∧ t.porter.latch = s.porter.latch ∧ t.porter.cause = s.porter.cause ∧ t.porter.trunk = s.porter.trunk ∧
    t.porter.unacked = s.porter.unacked

/-- With the command at the head of the queue, each Guestbook, clock, dump and tap command of a well-formed body answers what its table gives; GB_CLEAR raises CLEARED_BELOW, CLOCK_SET hands a one-item commit
of partition 0 to the sequencer or is too soon. An item that arrives while the staging register holds another is lost; else its words go to the end of the FIFO, at once or with the rest that follows, the oldest whole item making room and counted as lost. A Guestbook
read takes the items that it returns, counts the words that were there as a sample of metric 27, and works through them one after another: an event counts while its bucket has
a token under the limit, else as suppressed, a sample goes into its metric's histogram; a debug reader's read takes them too; a window's end writes a record or counts it dropped; a millisecond fills the buckets; a fatal error leaves no core and no volatile key but keeps trunk and memory key; it ends in a warm reset, the third in the halt. -/
def Obligations.GuestbookAndDumpResults : Prop :=
  ∀ (s t : State) (q : Request) (n c : Nat) (it x : TapItem) (e : Event) (l : List TapItem) (rest : List (Nat × Event))
      (formed more : List (Nat × TapItem)) (w : Bool) (r : WindowRecord),
    let b := q.body
    let g := t.guest
    let o := t.oldestSeq
    let d := t.dumpSlot (leAt b 0 1)
    let f := s.fifo n
    let i := eventIndex it.code
    let lvl := min (s.rateLimit i) (getD i (s.rateLimit i) s.guest.buckets)
    let k := sampleBucket it.value
    let k27 := sampleBucket f.occupancy
    let h := s.guest.windowEnd
    let wall := leAt b 0 8
    let work : List CItem := [.wallClock wall (g.epochFor wall t.mono)]
    (scTakes s t 0x0E01 q → b = [] → (g.held.head? = some r → o = (r.seq, t)) ∧ exec .gbStatus s = .next (o.2.answer q 0 (leBytes 4 g.held.length ++
      leBytes 4 819 ++ leBytes 8 g.nextSeq ++ leBytes 8 o.1 ++ leBytes 4 g.dropped ++ leBytes 1 (b2n g.full) ++ zeros 3 ++ leBytes 4 g.wallEpoch ++
      leBytes 1 (b2n !g.wallKnown) ++ zeros 3 ++ leBytes 8 (g.wallAt t.mono) ++ leBytes 8 t.mono))) ∧
    (scTakes s t 0x0E02 q → b.length = 16 → allZero (b.drop 9) = true → 1 ≤ leAt b 8 1 → leAt b 8 1 ≤ 3 →
      let a := (g.held.filter fun r => decide (wall ≤ r.seq)).take (leAt b 8 1)
      exec .gbRead s = .next (t.answer q 0 (leBytes 1 a.length ++ zeros 7 ++ a.flatMap windowBytes))) ∧
    (scTakes s t 0x0E03 q → b.length = 8 → wall ≤ g.nextSeq → exec .gbClear s = .next (s.signal ((t.clearBelow wall).answer q 0)) ∧
      (t.clearBelow wall).guest.cleared = max g.cleared wall) ∧
    (scTakes s t 0x0E04 q → b.length = 8 → t.serves = true →
      ((∀ m, g.lastSet = some m → m + 10 ^ 9 ≤ t.mono) →
        let p : PendingCommit := { src := .clock q, ticket := q.ticket, partition := 0, items := work, lines := recordLines work, arrived := t.mono }
        exec .clockSet s = .next ((({ t with guest := { g with lastSet := some t.mono } } : State).queueCommit p).await q .commit)) ∧
      (∀ m, g.lastSet = some m → t.mono < m + 10 ^ 9 → exec .clockSet s = .next (t.answer q St.clockSetTooSoon))) ∧
    (scTakes s t 0x0E05 q → b = [] → exec .dumpStatus s = .next (t.answer q 0 (leBytes 1 g.fatal.state ++ leBytes 1 g.diverged.state ++ zeros 6 ++
      leBytes 8 g.fatal.seq ++ leBytes 8 g.diverged.seq ++ leBytes 4 g.fatal.stream.length ++ leBytes 4 g.diverged.stream.length ++ fit 4096 g.summary))) ∧
    (scTakes s t 0x0E06 q → b.length = 16 → leAt b 0 1 ≤ 1 → allZero (slice b 1 3) = true → leAt b 4 4 % 4096 = 0 → leAt b 8 8 % 4096 = 0 →
      leAt b 4 4 ≤ 65536 → exec .dumpRead s = .next (if d.state = 0 then t.answer q St.dumpNotAvailable else t.answer q 0 (slice d.blocks (leAt b 8 8) (leAt b 4 4)))) ∧
    (scTakes s t 0x0E07 q → b.length = 8 → allZero (b.drop 1) = true → d.state ≠ 0 →
      (leAt b 0 1 = 0 → ∃ v, exec .dumpRelease s = .next v ∧ v.guest.fatal = { g.fatal with state := 2 } ∧ v.guest.diverged = g.diverged) ∧
      (leAt b 0 1 = 1 → ∃ v, exec .dumpRelease s = .next v ∧ v.guest.diverged = { g.diverged with state := 2 } ∧ v.guest.fatal = g.fatal)) ∧
    (scTakes s t 0x0E08 q → b.length = 8 → allZero (b.drop 1) = true → t.fifoExists (leAt b 0 1) = true →
      exec .tapFlush s = .next ((t.tapFlush (leAt b 0 1)).answer q 0) ∧ ((t.tapFlush (leAt b 0 1)).fifo (leAt b 0 1)).items = []) ∧
    (s.fifoExists n = true →
      (takeFormed n s.raised = some (e, rest) → exec (.tapItemWrite n .raised w) s = .next (({ s with raised := rest } : State).tapArrive n e.item w)) ∧
      (takeFormed n s.samples = some (it, formed) → exec (.tapItemWrite n .formed w) s = .next (({ s with samples := formed } : State).tapArrive n it w)) ∧
      (sampleFits n c = true → ∀ y, exec (.tapItemWrite n (.sample c y) w) s = .next (s.tapArrive n (sampleItem c ((s.periodic c).getD y) s.mono) w)) ∧
      (∀ y, f.staging = some y → exec (.tapItemWrite n .rest w) s = .next (s.tapWrite n y) ∧ s.tapArrive n it w = s.setFifo n (f.lose 1)) ∧
      (f.staging = none → (s.tapArrive n it false).fifo n = { f with staging := some it }) ∧
      (f.staging = none → f.flush = false → s.tapArrive n it true = s.tapWrite n it ∧
        (f.occupancy + it.words ≤ 256 → (s.tapWrite n it).fifo n = { f with items := f.items ++ [it] }) ∧
        (256 < f.occupancy + it.words → f.items = x :: l → ({ f with items := l } : TapFifo).occupancy + it.words ≤ 256 →
          (s.tapWrite n it).fifo n = ({ f with items := l ++ [it] } : TapFifo).lose 1))) ∧
    (s.jtagOpen = true → s.fifoExists n = true → exec (.guestbookRead n .debug) s = .next (s.setFifo n f.debugRead)) ∧
    (∀ m, s.guest.reading = (m, it) :: more → it.mono < h → exec (.guestbookRead n (.guestbook .clean)) s =
      .next (({ s with guest := { s.guest with reading := more } } : State).takeItem it)) ∧
    (s.guest.reading = [] → f.items = it :: l → it.mono < h → ∃ v, exec (.guestbookRead n (.guestbook .clean)) s = .next v ∧ v.fifo n = f.taken ∧
      (it.words ≤ 8 → it :: (v.guest.reading.map (·.2) ++ (v.fifo n).items) = it :: l) ∧
      (it.sample = true → it.truncated = false → it.code < 29 → it.code ≠ 27 → v.guest.window.counts = s.guest.window.counts ∧
        (getD k 0 (getD it.code {} s.guest.window.metrics).buckets = c → c < 2 ^ 32 - 1 →
          getD k 0 (getD it.code {} v.guest.window.metrics).buckets = c + 1) ∧
        (getD k27 0 (getD 27 {} s.guest.window.metrics).buckets = c → c < 2 ^ 32 - 1 → getD k27 0 (getD 27 {} v.guest.window.metrics).buckets = c + 1)) ∧
      (it.sample = false → 0 < lvl → getD i 0 s.guest.window.counts = c → c < 2 ^ 32 - 1 →
        getD i 0 v.guest.window.counts = c + 1 ∧ v.guest.window.suppressed = s.guest.window.suppressed) ∧
      (it.sample = false → lvl = 0 → getD i 0 s.guest.window.suppressed = c → c < 2 ^ 32 - 1 →
        getD i 0 v.guest.window.suppressed = c + 1 ∧ v.guest.window.counts = s.guest.window.counts)) ∧
    (s.sc.mode = .running → (∀ y ∈ s.guest.fifos, ∀ a, y.2.items.head? = some a → h ≤ a.mono) → s.guest.reading = [] → ∃ v, exec .guestbookWindowClose s = .next v ∧
      v.mono = max s.mono (h + 1000) ∧ v.guest.window = { start := h } ∧ v.guest.nextSeq = s.guest.nextSeq + 1 ∧
      (s.guest.slotTaken s.guest.writeSlot = false → v.guest.writeSlot = (s.guest.writeSlot + 1) % 819 ∧ ∃ y ∈ v.guest.records, y.seq = s.guest.nextSeq ∧
        y.slot = s.guest.writeSlot ∧ y.window = s.guest.window) ∧
      (s.guest.slotTaken s.guest.writeSlot = true → v.guest.records = s.guest.records ∧ v.guest.dropped = s.guest.dropped + 1 ∧ v.guest.full = true)) ∧
    (exec .gbRateRefill s = .next { s with guest := { s.guest with buckets := [] } }) ∧
    (s.guest.inFatal = none → s.sc.mode = .running → 1 ≤ n → n ≤ 6 → ∃ v, exec (.fatalError n) s = .next v ∧ v.cores = [] ∧ v.store = {} ∧
      v.net.sessions = [] ∧ v.lneJobs = [] ∧ v.laneJobs = [] ∧ v.sc.mode = .off ∧ v.sc.identity = none ∧ v.guest.inFatal = some n ∧ v.guest.fatal.state = 1 ∧
      v.sc.memKey = s.sc.memKey ∧ v.porter.trunk = s.porter.trunk) ∧
    (s.guest.inFatal = some n → (s.guest.thirdFatal = false → exec .fatalReset s = .next (s.signal ({ s with mono := s.mono + 21 * 10 ^ 6 } : State).mainReset)) ∧
      (s.guest.thirdFatal = true → ∃ v, exec .fatalReset s = .next v ∧ v.sc.mode = .fatalHalt ∧ (∀ p ∈ v.net.ports.toList, p.up = false) ∧
        v.net.sessions = [] ∧ v.plat.pwrEn = false ∧ v.plat.rst = 0 ∧ v.disp.queued = []))

/-- A received frame is counted, and dropped as oversize, failing, pause, in no supported form, stranger or replay; ARP, Neighbour Discovery and ICMP are
answered within their rates; a link goes up on the lanes of its mode, and down. A hello within its rate is refused while the unit does not serve or the versions differ, answered with a cookie in cookie mode, else given a slot and a
request of queue 15; once its engine jobs are done SERVER_HELLO leaves the session half-open, one whose jobs got no random bits is refused; CLIENT_FINISH, when its last fragment has come, raises
the check of its signature in queue 15 for a registered credential and ends the session for another; the check's job makes the session live or ends it, and so does a time-out. -/
def Obligations.LinkAndHandshakeResults : Prop :=
  ∀ (s : State) (p : Nat) (e : EthFrame) (src : Source) (data : Bytes) (bk : Bucket) (f : FrameIn) (x y : Session) (ho : Hello) (seed way : Bytes) (sid st : Nat) (c : FinishCheck) (j : LneJob),
    let a := (s.count p nFecCorrected e.fecCorrected).count p nFecUncorrected e.fecUncorrected
    let t := ((a.count p nRxFrames 1).count p nRxOctets e.octets).cancelSleep
    let rx := fun v : State => exec (.ethernetFrameReceived p e) s = .next (s.signal v)
    let len := (if src.v6 then 40 else 20) + 4 + data.length
    let b := f.body
    let w := s.helloArrived
    let pre := helloPrefix f.src
    let bucket := (getD pre { level := w.helloRate.2 * 10 ^ 9, at0 := w.mono } w.net.helloBuckets).take w.mono w.helloRate.1 w.helloRate.2
    let h : State := { w with net := { w.net with helloBuckets := setK pre bk w.net.helloBuckets } }
    let hello := fun v : State => exec (.clientHello f) s = .next v
    (s.netOn p = true →
      (9216 < e.octets → rx (a.count p nOversize 1)) ∧
      (e.octets ≤ 9216 → e.fcsOk = false → rx (a.count p nFcsErrors 1)) ∧
      (e.octets ≤ 9216 → e.fcsOk = true → e.l3 = .pause → rx (t.count p nPauseDrops 1)) ∧
      (e.octets ≤ 9216 → e.fcsOk = true → e.l3 ≠ .pause → 64 ≤ e.octets →
        (t.packetOf p e = none → rx (t.dropPacket p)) ∧
        (t.packetOf p e = some .echo ∨ t.packetOf p e = some .arpNd → rx (t.wakeBuffer p e.octets)) ∧
        (∀ c v, t.packetOf p e = some (.caravan c) → (t.caravanDrop p e.dst c = some v → rx v) ∧ (t.caravanDrop p e.dst c = none → rx (t.wakeBuffer p e.octets))))) ∧
    (s.netOn p = true → s.fabricRuns = true → s.portHasAddress p = true →
      ((s.port p).slowArp.take s.mono 10000 10000 = some bk → exec (.arpNdRequest p src) s = .next ((s.setPort p { s.port p with slowArp := bk }).answerOut p
        (.arpReply p src (s.arpNdReply p src)) (answerOctets src (if src.v6 then 72 else 28)))) ∧
      ((s.port p).slowIcmp.take s.mono 1000 1000 = some bk → s.cfg 0x0108 0 0 = 1 → len ≤ s.mtu p → exec (.icmpEchoRequest p src data) s =
        .next ((s.setPort p { s.port p with slowIcmp := bk }).answerOut p (.icmpReply p src data (s.echoReply p src data)) (answerOctets src len)))) ∧
    (s.portsOn = true →
      ((s.port p).up = true → exec (.linkDown p) s = .next ((s.setPort p { s.port p with up := false }).event (portTap p) St.linkDown [p])) ∧
      (s.portLanes p ≠ [] → (s.port p).up = false →
        exec (.linkUp p) s = .next ((s.setPort p { s.port p with up := true }).event (portTap p) St.linkUp [p])) ∧
      (∀ k, s.net.cookieMode = true → s.calmMark.net.cookieBelow = some k → ∃ v, exec .cookieModeExit s = .next v ∧ v.net.cookieMode = false ∧
        v.mono = max s.mono (max k s.arrivalsCalm + 10 ^ 9) ∧ v.net.sessions = s.net.sessions) ∧
      (s.canDraw 12 = true → ∃ v, exec .cookieKeyRefresh s = .next v ∧ v.net.cookieAt = v.mono ∧ v.mono = max s.mono (s.net.cookieAt + 60 * 10 ^ 9) ∧
        v.net.cookieKey = some (s.random 12 32).1)) ∧
    (s.caravanOn f.port = true → f.hdr.type = 0x01 → s.portHasAddress f.port = true →
      (helloOk f.hdr b = false → hello (s.stranger f.port)) ∧
      (helloOk f.hdr b = true →
        (bucket = none → hello ((w.count f.port nHelloRate 1).event (portTap f.port) St.handshakeRateLimited [f.port])) ∧
        (bucket = some bk →
          (h.serves = false → hello (h.refuseHello f.port f.src b St.pairStandby 100000)) ∧
          (h.serves = true → h.net.cookieMode = true → h.cookieOk f.src b = false → hello (h.sendCookie f.port f.src b)) ∧
          (h.serves = true → h.net.cookieMode = false ∨ h.cookieOk f.src b = true → h.helloAgain f = none →
            (1 < beAt b 0 1 ∨ beAt b 1 1 < 1 → hello (h.refuseHello f.port f.src b St.versionUnsupported 0)) ∧
            (beAt b 0 1 ≤ 1 → 1 ≤ beAt b 1 1 → h.sc.identity ≠ none →
            (h.slotFor (helloPartition b) = true → ∃ v, hello v ∧ v.net.hellos = h.net.hellos ++
              [{ sid := h.takeSlot.1, port := f.port, src := f.src, body := b, at0 := h.mono, last := h.mono }] ∧
              ∃ q ∈ v.disp.queued, q.partition = 0 ∧ q.queue = 15 ∧ q.origin = .internal ∧ q.body = leBytes 4 h.takeSlot.1) ∧
            (h.slotFor (helloPartition b) = false → hello (h.refuseHello f.port f.src b St.sessionLimit 1000000))))))) ∧
    (let u := s.helloWork
     s.portsOn = true → s.fabricRuns = true → u.net.hellos.find? (·.sid == sid) = some ho → u.sc.identity = some (seed, way) →
      (ho.starved = true → exec (.serverHelloReady sid) s = .next ((u.refuseHello ho.port ho.src ho.body St.rngStarved 100000).dropHello sid)) ∧
      (ho.starved = false → ho.done = false → exec (.serverHelloReady sid) s = .next u) ∧
      (ho.starved = false → ho.done = true → ho.random ≠ [] ∨ u.canDraw 12 = true → ∃ v z, exec (.serverHelloReady sid) s = .next v ∧ v.net.sessions = u.net.sessions ++ [z] ∧ z.id = sid ∧ z.live = false ∧
        z.partition = helloPartition ho.body ∧ z.hello = ho.body ∧ v.net.hellos = u.net.hellos.filter fun k => k.sid != sid)) ∧
    (s.caravanOn f.port = true → f.hdr.type = 0x04 → hdrFits f.hdr b = true → s.rxKind f.hdr = .ok x → hdrLawful f.hdr true = true →
      hdrFragIndex f.hdr ≤ hdrFragLast f.hdr →
      let u := (((s.updSess x.id (Session.enter f.hdr.frameSeq s.mono)).touchSession x.id).updSess x.id (Session.heard f)).flushHeld x.id f.port f.src
      u.sess? x.id = some y → y.live = false → y.check = none →
      let l := setK (hdrFragIndex f.hdr) b y.finish
      let v := u.updSess x.id fun z => { z with finish := l }
      let whole := (List.range (hdrFragLast f.hdr + 1)).all fun k => (getK k l).isSome
      let body := (List.range (hdrFragLast f.hdr + 1)).flatMap fun k => getD k [] l
      (whole = false → exec (.clientFinish f) s = .next v) ∧
      (∀ n k, whole = true → v.finishOk y body = some (n, k) → exec (.clientFinish f) s = .next ((v.updSess x.id fun z =>
        { z with finish := [], check := some { port := f.port, src := f.src, sig := body.drop 2, credential := n, key := k } }).stampRequest
          { partition := 0, queue := 15, body := leBytes 4 x.id, port := f.port, origin := .internal } none)) ∧
      (whole = true → v.finishOk y body = none → exec (.clientFinish f) s = .next ((v.refuseHello f.port f.src y.hello St.credentialInvalid 0).forgetSession x.id))) ∧
    (y.check = some c → c.job.bind s.lneJob? = some j → j.place = .done st →
      let t := s.dropLneJob j
      (st ≠ 0 → s.finishDone y = (t.refuseHello c.port c.src y.hello St.credentialInvalid 0).forgetSession y.id) ∧
      (st = 0 → (t.durable.credential y.partition y.credAlg y.credId).map (·.1) = some c.credential → t.admitsHandshake y.partition = true →
        t.sess? y.id = some y → y.early = [] → ∃ z, (s.finishDone y).sess? y.id = some z ∧ z.live = true ∧ z.credential = c.credential ∧ z.check = none)) ∧
    (s.portsOn = true → s.sess? sid = some y → y.live = false → exec (.handshakeTimeout sid) s =
      .next ((({ s with mono := max s.mono (y.openedAt + 10 ^ 8) } : State).event (portTap y.port) St.handshakeTimeout [sid]).forgetSession sid))

/-- A REQUEST frame of one new, lawful, admitted item puts one request in its queue under the next ticket and records its ID as in flight; a copy of an ID in flight is absorbed;
of one that is answered already brings the kept response again; a faulty item is answered. Good blocks of a message in reassembly join it; a frame
without one only counts. A BLOCK_ACK that covers a message ends it; the timers acknowledge, re-send, abandon and time out. -/
def Obligations.RequestAndBlockResults : Prop :=
  ∀ (s u : State) (f : FrameIn) (x y : Session) (i : Inbound) (o : Outbound) (z : Nat × Nat × Nat) (mid blk res n : Nat),
    let b := f.body
    let h := itemHeader b
    let w := u.updSess x.id (Session.sawId h.id)
    let taken := b.length = 24 + h.bodyLen + h.payloadLen ∧ h.error false = none ∧ w.sess? x.id = some y
    let ack := beAt b 8 4
    (frameTaken s u f 0x10 x →
      (taken → y.copyKind h.id = .fresh → w.takeNew y h = .taken res false → ∃ v, exec (.requestFrame f) s = .next v ∧
        v.disp.nextTicket = u.disp.nextTicket + 1 ∧ ∃ q ∈ v.disp.queued, q.partition = y.partition ∧ q.queue = h.queue ∧ q.verb = h.verb ∧
          q.body = slice b 24 h.bodyLen ∧ q.origin = .session x.id h.id ∧ q.charge = chargeOf h.bodyLen ∧
          (u.stampedNow = [] → v.disp.queued = u.disp.queued ++ [q] ∧ q.ticket = u.disp.nextTicket)) ∧
      (let v := w.updSess x.id (Session.lastCopy h.id f.port f.src)
       taken → (y.copyKind h.id = .inFlight →
          (v.earlierCopy x.id h.id f.port = none → exec (.requestFrame f) s = .next (s.signal (v.count f.port nDupAbsorbed 1))) ∧
          (∀ q, v.earlierCopy x.id h.id f.port = some q → exec (.requestFrame f) s =
            .next (s.signal ((v.takeCopy q f.port).count q.port nDupAbsorbed 1)))) ∧
        (∀ r, y.copyKind h.id = .again r → exec (.requestFrame f) s = .next (s.signal (v.sendResponse x.id h.id f.port f.src r true)))) ∧
      (taken → y.copyKind h.id = .stale → exec (.requestFrame f) s = .next (s.signal (w.refuseNow x.id h.id f.port f.src St.requestIdStale))) ∧
      (24 ≤ b.length → h.error false = some n → b.length = 24 + h.bodyLen + h.payloadLen → exec (.requestFrame f) s =
        .next (s.signal (u.refuseNow x.id h.id f.port f.src n)))) ∧
    (frameTaken s u f 0x12 x → blocksFormOk b = true →
      let v := u.updSess x.id (Session.sawId (beAt b 0 8))
      let l := frameBlocks b
      (∀ k, u.sess? x.id = some k → ((k.inbound? (beAt b 0 8)).getD { id := beAt b 0 8, port := f.port, src := f.src, lastAt := u.mono }).validBlocks l = [] →
        exec (.blocksFrame f) s = .next (s.signal (u.count f.port nBlockCrc l.length))) ∧
      let ok := i.validBlocks l
      let i1 := i.dropBadLast l
      let j := Inbound.addBlocks u.mono (y.windowFor i1) ok { i1 with port := f.port, src := f.src }
      ok ≠ [] → v.sess? x.id = some y → y.copyKind (beAt b 0 8) ≠ .stale → y.inbound? (beAt b 0 8) = some i → i.total ≠ 0 → exec (.blocksFrame f) s =
        .next (s.signal (((v.count f.port nBlockCrc (l.length - ok.length + (i.blocks.length - i1.blocks.length))).updSess y.id
          (Session.lastCopy i.id f.port f.src)).messageGrown f y j (ok.any fun e => e.1 + 1 == j.total)))) ∧
    (frameTaken s u f 0x13 x → ackFormOk b = true → u.sess? x.id = some y → y.outbound.find? (·.id == beAt b 0 8) = some o →
      (o.total ≤ max o.base (min ack o.next) ∨ bit (beAt b 12 1) 0 = true → exec (.blockAck f) s =
        .next (u.updSess x.id fun k => { k with outbound := k.outbound.filter fun e => e.id != beAt b 0 8 }))) ∧
    (s.portsOn = true → s.sess? x.id = some x →
      (x.inbound? mid = some i →
        (i.sinceAck ≠ 0 → exec (.blockAckTimer x.id mid) s = .next ((s.setInbound x.id { i with sinceAck := 0 }).sendAck x.id i.port i.src { i with sinceAck := 0 } false)) ∧
        (i.ticket = none → exec (.reassemblyTimeout x.id mid) s = .next ((({ s with mono := max s.mono (i.lastAt + 20 * 10 ^ 6) } : State).dropInbound x.id mid).event
          (portTap i.port) St.reassemblyTimeout [x.id, mid])) ∧
        (∀ c k, i.ticket = some n → s.coreOfTicket n = some (c, k) → (∀ a d, k.wait ≠ .commit a d) → (∀ a d, k.wait ≠ .verbCommit a d) →
          exec (.reassemblyTimeout x.id mid) s = .next ((({ s with mono := max s.mono (i.lastAt + 20 * 10 ^ 6) } : State).dropInbound
            x.id mid).endWith c k St.reassemblyTimeout [])) ∧
        (i.ticket = some n → s.coreOfTicket n = none → exec (.reassemblyTimeout x.id mid) s = .next ((({ s with mono := max s.mono (i.lastAt + 20 * 10 ^ 6) } : State).dropInbound
          x.id mid).cancelQueued (fun q => q.ticket == n) St.reassemblyTimeout))) ∧
      (x.outbound.find? (·.id == mid) = some o →
        (o.sent.find? (fun e => e.1 == blk && decide (e.2.1 < 12)) = some z → exec (.blockResendTimer x.id mid blk) s =
          .next (({ s with mono := max s.mono (z.2.2 + resendDelay (z.2.1 + 1)) } : State).resendBlocks x.id o [blk] true)) ∧
        (o.sent.find? (fun e => decide (12 ≤ e.2.1)) = some z → exec (.messageAbandoned x.id mid) s =
          .next ((({ s with mono := max s.mono (z.2.2 + 2 * 10 ^ 6) } : State).updSess x.id fun k => { k with outbound := k.outbound.filter fun e => e.id != mid }).event
            (portTap o.port) St.messageAbandoned [x.id, mid]))))

/-- A REKEY of the current epoch is answered and both directions move on, as on the acknowledgement of the module's own; the old keys end 2 ms later; a session near its limits rekeys, at them it closes; CLOSE ends it, KEEPALIVE is
answered, an idle session closes. A tagged frame without session, key or tag is counted as a stranger, one outside the window as a replay, and neither does anything else; one that breaks a rule only enters the window and is recorded. -/
def Obligations.SessionResults : Prop :=
  ∀ (s u : State) (f : FrameIn) (x y : Session),
    let free := fun (t : State) (st : Nat) => ({ t with freeCtr := t.freeCtr + 1 } : State).closeSession x.id st (Config.freeNat t.freeCtr % 256)
    let tagged := fun (i : Instr) (type : Nat) (sig : State → State) => s.caravanOn f.port = true → f.hdr.type = type →
      (hdrFits f.hdr f.body = false ∨ s.rxKind f.hdr = .stranger → exec i s = .next (sig (s.stranger f.port))) ∧
      (hdrFits f.hdr f.body = true → s.rxKind f.hdr = .replay → exec i s = .next (sig (s.replayed f.port))) ∧
      (hdrFits f.hdr f.body = true → s.rxKind f.hdr = .ok x → hdrLawful f.hdr false = false →
        exec i s = .next (sig (((s.updSess x.id (Session.enter f.hdr.frameSeq s.mono)).touchSession x.id).malformedFrame f.port x.id)))
    (frameTaken s u f 0x14 x → f.body = [] → u.sess? x.id = some y → hdrPhase f.hdr = y.epoch % 2 → exec (.rekey f) s =
      .next ((if y.rekeying then u else u.sendTagged x.id f.port f.src 0x15 []).updSess x.id (Session.nextEpoch u.mono))) ∧
    (frameTaken s u f 0x15 x → f.body = [] → exec (.rekeyAck f) s = .next (u.updSess x.id fun z =>
      if z.rekeying = true ∧ hdrPhase f.hdr = z.epoch % 2 then Session.nextEpoch u.mono z else z)) ∧
    (frameTaken s u f 0x17 x → f.body = [] → exec (.keepalive f) s = .next (u.sendTagged x.id f.port f.src 0x17 [])) ∧
    (s.caravanOn f.port = true → f.hdr.type = 0x16 → hdrFits f.hdr f.body = true → s.rxKind f.hdr = .ok x → hdrLawful f.hdr false = true →
      f.body = closeBody St.sessionClosed 1 → exec (.close f) s =
        .next ((((s.updSess x.id (Session.enter f.hdr.frameSeq s.mono)).touchSession x.id).updSess x.id (Session.heard f)).closeSession x.id St.sessionClosed 1)) ∧
    (s.sess? x.id = some x → x.oldPrk ≠ none → exec (.epochKeyErase x.id) s =
      .next (({ s with mono := max s.mono (x.switchedAt + 2 * 10 ^ 6) } : State).updSess x.id fun z => { z with oldPrk := none })) ∧
    (s.portsOn = true → s.sess? x.id = some x →
      (x.live = true → x.rekeying = false → 2 ^ 40 - 2 ^ 32 ≤ x.txEpoch ∨ 2 ^ 40 - 2 ^ 32 ≤ x.rxEpoch → exec (.rekeyStart x.id) s =
        .next ((s.sendTagged x.id x.port x.src 0x14 []).updSess x.id fun z => { z with rekeying := true })) ∧
      (2 ^ 40 ≤ x.txEpoch ∨ 2 ^ 40 ≤ x.rxEpoch ∨ 2 ^ 64 - 2 ≤ x.txSeq ∨ (∃ h, x.rxHigh = some h ∧ 2 ^ 64 - 2 ≤ h) → exec (.sessionExhausted x.id) s = .next (free s St.sessionExhausted)) ∧
      (x.live = true → s.sessionQuiet x = true → exec (.sessionIdle x.id) s =
        .next (free { s with mono := max s.mono (max x.lastRx x.quietAt + s.cfg 0x010C 0 600 * 10 ^ 9) } St.sessionIdle))) ∧
    tagged (.requestFrame f) 0x10 s.signal ∧ tagged (.blocksFrame f) 0x12 s.signal ∧ tagged (.blockAck f) 0x13 id ∧ tagged (.rekey f) 0x14 id ∧
    tagged (.rekeyAck f) 0x15 id ∧ tagged (.close f) 0x16 id ∧ tagged (.keepalive f) 0x17 id

/-- Where a core is free and the pick falls on a request: a verb or loaded program starts on a free core with its registers of R115 and the snapshot APPLIED_CSN (a verb with pc and version 0, the
model's choice of log 115), a command joins the controller's queue, a code without a program is answered PROGRAM_NOT_LOADED, the work of a handshake or a token's step leaves its queue, and a request whose session is gone only
leaves its queue; class 0 goes first while classes 2 and 3 are not starved. The first response that may leave is delivered.
On a fenced unit a response to a session is dropped, and what a core answers to a ring becomes PAIR_FENCED without data. An idle unit is gated after 10 µs, a lane only while it holds no job; a unit that has
resumed is idle, a lane with jobs active. -/
def Obligations.DispatchAndPowerResults : Prop :=
  ∀ (s : State) (cls p q n : Nat) (d : Dispatcher) (r : Request) (l : List Request) (a : Response) (rest : List Response) (e : Cluster) (la : Lane) (le : Lne) (t0 : Nat),
    let u := s.wakeClusters
    let r' : Request := { r with snapshot := s.seq.applied }
    let gone := fun v : State => ∀ y ∈ v.disp.queued, y.ticket ≠ r.ticket
    let later : State := { s with mono := max s.mono (t0 + 10000) }
    let starts := fun (world pc version : Nat) => ∃ v i j k, exec .dispatchSlot s = .next v ∧ gone v ∧ u.core? (.tx i j) = none ∧ v.core? (.tx i j) = some k ∧
      k.req = r' ∧ k.world = world ∧ k.snapshot = s.seq.applied ∧ k.g = startRegs r' s.seq.applied s.mono ∧ k.retired = 0 ∧ k.stage = [] ∧
      k.pc = BitVec.ofNat 64 pc ∧ k.progVersion = version ∧ k.dispatched = s.mono ∧ k.cls = cls ∧
      (∀ c, c ≠ .tx i j → v.core? c = u.core? c)
    (s.disp.since2 < 19 → s.disp.since3 < 49 → s.hasWork 0 = true → s.pickClass = some 0) ∧
    (s.sc.mode = .running → u.slotOpen = true → u.pickClass = some cls → u.pickQueue cls = some (p, q, d) → u.queuedIn p q = r :: l →
      (s.orphan r = true → ∃ v, exec .dispatchSlot s = .next v ∧ gone v ∧ v.cores = s.cores ∧ v.sc = s.sc ∧ v.egress = s.egress) ∧
      (s.orphan r = false → r.origin = .internal → ∃ v, exec .dispatchSlot s = .next v ∧ gone v ∧ v.cores = s.cores) ∧
      (s.orphan r = false → r.origin ≠ .internal →
        (isVerb r.verb = true → starts 1 0 0) ∧
        (∀ i c, s.programFor r' s.seq.applied = .tenant i c → starts 2 i.entry i.version) ∧
        (s.programFor r' s.seq.applied = .command → ∃ v, exec .dispatchSlot s = .next v ∧ gone v ∧ v.sc.queue = s.sc.queue ++ [r'] ∧ v.sc.irq = true ∧ v.cores = s.cores) ∧
        (s.programFor r' s.seq.applied = .nothing → ∃ v, exec .dispatchSlot s = .next v ∧ gone v ∧ v.cores = s.cores ∧
          v.egress = s.egress ++ [{ req := r', status := St.programNotLoaded, snapshot := s.seq.applied, at0 := s.mono }]))) ∧
    (takeFirst s.mayLeave s.egress = some (a, rest) →
      let out := ({ s with egress := rest } : State).holdSample a
      (∀ sid id, a.req.origin = .session sid id → s.pair.state ≠ .fenced → exec .responseEgress s = .next (out.deliver sid id a)) ∧
      (∀ i j, a.req.origin = .ring i j → exec .responseEgress s = .next (out.ringReady i j
        (if s.pair.state = .fenced ∧ (isVerb a.req.verb ∨ 0x8000 ≤ a.req.verb) then { req := a.req, status := St.pairFenced, streamPart := 3 } else a))) ∧
      (a.req.origin = .internal → exec .responseEgress s = .next out) ∧
      (∀ sid id, a.req.origin = .session sid id → s.pair.state = .fenced → exec .responseEgress s = .next out)) ∧
    (getK n s.clusters = some e →
      (e.power = .idle t0 → s.minAwake ≤ n → exec (.unitPowerGate (.cluster n)) s = .next (s.signal ((later.setClusterPower n .gated).wakeClusters.enterS1))) ∧
      (e.power = .resuming → exec (.unitResumeDone (.cluster n)) s =
        .next { s with clusters := setK n { e with power := .idle s.mono, epochs := s.currentEpochs } s.clusters })) ∧
    (getK n s.lanes = some la →
      (la.power = .idle t0 → s.laneHasJob n = true → exec (.unitPowerGate (.lane n)) s = .next (s.signal (s.wakeClusters.enterS1))) ∧
      (la.power = .idle t0 → s.laneHasJob n = false → exec (.unitPowerGate (.lane n)) s = .next (s.signal (({ later with lanes := setK n { la with power := .gated } s.lanes } : State).wakeClusters.enterS1))) ∧
      (la.power = .resuming → let v : State := { s with lanes := setK n { la with power := if s.laneHasJob n then .active else .idle s.mono } s.lanes }
        exec (.unitResumeDone (.lane n)) s = .next (v.assignWaiting v.laneJobs.length))) ∧
    (getK n s.lnes = some le →
      (le.power = .idle t0 → exec (.unitPowerGate (.lne n)) s = .next (s.signal (({ later with lnes := setK n { le with power := .gated, bank0 := {}, bank1 := {} } s.lnes } :
        State).wakeClusters.enterS1))) ∧
      (le.power = .resuming → exec (.unitResumeDone (.lne n)) s = .next { s with lnes := setK n { le with power := .idle s.mono } s.lnes }))

/-- A commit that is not held, has room, tokens and no failing item takes the next CSN, is written to the journal ring and leaves the waiting list, a failing one is refused, one whose records' IVs cannot be drawn waits; one not
admitted within 5 ms of its last hold is refused; a stage body record is taken once it is durable; the earliest record is read back; the lowest
durable commit is applied, APPLIED_CSN becomes its CSN and a core that waits in commit goes on with status 0 and the CSN; nothing is applied before it is durable; a paired commit without acknowledgement in 1 ms is refused; a checkpoint
brings the older copy up to date. -/
def Obligations.SequencerResults : Prop :=
  ∀ (s : State) (w : PendingCommit) (a : Accepted) (l : List Accepted) (c : CoreId) (k : Core) (d g : GReg) (n : Nat) (st : Status) (ix : Option Nat) (trunk : KeyMat),
    s.sc.mode = .running →
    let h := s.releaseHolds
    let u := h.drawTokens w
    let copy : DbCopy := DbCopy.sealed { csn := n, trunkId := trunkId trunk, keys := s.durable.copyKeys n }
    (s.serves = true → h.seq.waiting.find? (fun x => !h.held x && !(x.drawn && h.retireFull x)) = some w → w.drawn = false → w.src.holds = true →
      s.journalLines * 10 ≤ ringLines * 9 → s.hasTokens w = true →
      (∀ v, ivRecords w.items ≠ 0 → h.recordIvs (.commit w.ticket) (ivRecords w.items) = (none, v) → exec .commitAdmit s = .next v) ∧
      (ivRecords w.items = 0 → u.commitError w = none → u.retireFull w = false → ∃ v b, exec .commitAdmit s = .next v ∧ v.seq.next = s.seq.next + 1 ∧
        v.seq.waiting = h.seq.waiting.erase w ∧ v.seq.accepted = s.seq.accepted ++ [b] ∧ v.seq.journal = (s.seq.write b.record).journal ∧
        v.seq.ringAt = (s.seq.write b.record).ringAt ∧ b.record.csn = s.seq.next ∧ b.record.items = w.items ∧
        b.record.partition = w.partition ∧ b.record.ticket = w.ticket ∧ b.src = w.src ∧ v.durable = s.durable ∧ v.cores = s.cores) ∧
      (ivRecords w.items = 0 → u.commitError w = some (st, ix) → exec .commitAdmit s = .next (((u.giveTokens w).dropWaiting w).refuseCommit w.src st ix))) ∧
    (s.seq.waiting.find? (fun x => x.ticket == n && !x.drawn && !s.held x) = some w → exec (.commitBacklog n) s =
      .next ((({ s with mono := max s.mono (w.free.getD s.mono + 5 * 10 ^ 6) } : State).dropWaiting w).refuseCommit w.src St.commitBacklog none)) ∧
    (exec .commitJournaled s = .next ({ s with seq := { s.seq with accepted := markJournaled s.seq.accepted } } : State).raiseDurable) ∧
    (s.seq.accepted = a :: l →
      (a.record.csn = 0 → a.journaled = true → s.bodyMirrored a = true →
        exec .commitApply s = .next (s.signal (({ s with seq := { s.seq with accepted := l } } : State).commitDone a.src a.record a.total))) ∧
      (a.record.csn = 0 → (a.journaled = false ∨ s.bodyMirrored a = false) → exec .commitApply s = .next (s.signal s)) ∧
      (∀ ivs t, a.record.csn ≠ 0 → a.record.csn ≤ s.seq.durableBelow → s.recordIvs (.change a.record.csn) (recordCount (s.durable.rewraps a.record)) = (some ivs, t) → ∃ v, exec .commitApply s = .next v ∧ v.seq.applied = a.record.csn ∧ v.seq.accepted = l ∧
        (a.src = .core c → s.core? c = some k → k.wait = .commit d g → v.core? c = some
          (((({ k with commitCsn := a.record.csn, stage := [] } : Core).setG d 0).setG g (BitVec.ofNat 64 a.record.csn)).adv))) ∧
      (s.seq.durableBelow < a.record.csn → exec .commitApply s = .next (s.signal s))) ∧
    (s.seq.accepted.find? (fun x => x.record.csn == n) = some a → s.needsAcks = true → s.pair.acked < n → a.src = .core c → s.core? c = some k →
      k.wait = .commit d g → ∃ v, exec (.mirrorAckTimeout n) s = .next v ∧ v.mono = max s.mono (a.at0 + 10 ^ 6) ∧ (∀ x ∈ v.seq.accepted, x.record.csn ≠ n) ∧
        v.durable = s.durable ∧ v.core? c = some
          (((({ k with commitCsn := 0, stage := [] } : Core).setG d (BitVec.ofNat 64 St.mirrorUnavailable)).setG g 0).adv)) ∧
    (s.seq.checkpoint = none → ∃ v, exec .keyCheckpointStart s = .next v ∧ v.seq.checkpoint = some s.seq.applied ∧ v.seq.keyCommits = 0 ∧
      v.seq.lastCheckpoint = v.mono ∧ (s.checkpointDue = true → v.mono = s.mono) ∧ s.mono ≤ v.mono) ∧
    (∀ ivs t, s.seq.checkpoint = some n → s.porter.trunk = some trunk →
      let old := if s.seq.copy0.csn ≤ s.seq.copy1.csn then s.seq.copy0 else s.seq.copy1
      s.recordIvs .checkpoint (((s.durable.copyKeys n).filter fun e => !old.keys.contains e).map fun e => keyRecords e.2).sum = (some ivs, t) →
      ∃ v, exec .keyCheckpointWritten s = .next v ∧ v.seq.checkpoint = none ∧
      (if s.seq.copy0.csn ≤ s.seq.copy1.csn then v.seq.copy0 = copy ∧ v.seq.copy1 = s.seq.copy1 else v.seq.copy1 = copy ∧ v.seq.copy0 = s.seq.copy0) ∧
      ∃ e ∈ v.raised, e.2.code = St.keyCheckpointWritten ∧ e.2.args = [n])

/-- The head of the wait list is before no other job; it is loaded into the bank of R303, or displaces a preloaded job of lower rank, and draws where expander 16 serves it; one for which an engine resumes waits for that engine. At a yield
point a higher-ranked preloaded job takes over. The active job completes at its reported time with status, result and key of its outcome, and its bank is free; a job that waits 10 ms is ranked 0; one that could not draw in 1 ms fails with
RNG_STARVED, its bank wiped. -/
def Obligations.LneEventResults : Prop :=
  ∀ (s : State) (j w : LneJob) (e : Lne) (n b t : Nat),
    let o := j.outcome s
    let full := if j.micro then j.table else reportCycles (j.operation / 256) (j.operation % 256) o.status j.table
    let ready := j.woke = false ∨ (s.lnes.any fun e => e.2.power.awake && e.2.empty) = true ∨ (s.lnes.any fun e => e.2.power == .resuming) = false
    (s.lneNext = some j → ∀ x ∈ s.lneJobs, x.place = .waiting → lneBefore x j = false) ∧
    (s.lneNext = some j →
      (ready → s.lneTarget j.partition = some (n, b) → ∃ v, exec .lneJobLoad s = .next v ∧ (∀ x ∈ v.lneJobs, x.handle = j.handle → x.place = .loaded n b) ∧
        (s.lneJob? j.handle = some j → j.need = 0 ∨ s.canDraw 16 (cdiv j.need 64) = true → ∀ x ∈ v.lneJobs, x.handle = j.handle → x.drawn = true) ∧
        v.lneJobs.length = s.lneJobs.length ∧ v.cores = s.cores ∧ v.durable = s.durable) ∧
      (ready → s.lneTarget j.partition = none → s.lneDisplace j.rank = some (n, b, w) → w.handle ≠ j.handle → ∃ v, exec .lneJobLoad s = .next v ∧
        (∀ x ∈ v.lneJobs, x.handle = w.handle → x.place = .waiting) ∧ (∀ x ∈ v.lneJobs, x.handle = j.handle → x.place = .loaded n b)) ∧
      (ready → s.lneTarget j.partition = none → s.lneDisplace j.rank = none → exec .lneJobLoad s = .next s.wakeLne) ∧
      (¬ ready → exec .lneJobLoad s = .next s)) ∧
    (getK n s.lnes = some e → e.active = some b → e.suspended = none → (e.bank b).job.bind s.lneJob? = some j → (e.bank (1 - b)).job.bind s.lneJob? = some w →
      w.rank < j.rank → w.drawn = true → j.since = some t → exec (.lneYieldPoint n) s =
        .next ((({ s with lnes := setK n { e with active := some (1 - b), suspended := some b } s.lnes } : State).updLneJob j.handle fun x =>
          { x with ran := j.spent s.mono, since := none }).updLneJob w.handle fun x => { x with since := some s.mono })) ∧
    (getK n s.lnes = some e → e.active = some b → (e.bank b).job.bind s.lneJob? = some j → j.since = some t → ∃ v : State, exec (.lneJobComplete n) s = .next (s.signal v.handshakesGo) ∧
      v.mono = max s.mono (t + cdiv ((full - j.ran) * 5) 12) ∧
      (∀ x ∈ v.lneJobs, x.handle = j.handle → x.place = .done o.status ∧ x.result = o.result ∧ x.resultKey = o.secret.map fun k => j.keyOf k.1 k.2) ∧
      (∃ f, getK n v.lnes = some f ∧ (f.bank b).job = none) ∧ v.cores = s.cores) ∧
    (s.lneJob? n = some j → j.place = .waiting → exec (.lneAgePromotion n) s =
      .next ((({ s with mono := max s.mono (j.submitted + 10 ^ 7) } : State).updLneJob n fun x => { x with rank := 0 }).wakeLne)) ∧
    (s.lneJob? n = some j → j.place = .loaded t b → j.drawn = false → exec (.lneRngTimeout n) s =
      .next ((({ s with mono := max s.mono (j.loadedAt + 10 ^ 6) } : State).scEvent St.rngStarved [16]).lneFinish j t b true St.rngStarved [] none).handshakesGo)

/-- At a block boundary of an awake lane a ready job starts where none runs, its key in the lane's key register, with the IV its key gives where it asks for one; the running one gives way to a job of higher rank, or to an equal one at the end
of its quantum, is suspended without input, else goes on; a suspended job with its input is ready after 20 µs; a job whose input is in completes with its status and tag, its context zeroed, and leaves the lane; one that waits 1 ms for a
stalled or missing lane fails. A mask generator asks for a seed at three quarters of its limit, stands still at it, and starts afresh with the seed and the limit then in force. -/
def Obligations.LaneAndMaskResults : Prop :=
  ∀ (s : State) (l : Lane) (j : LaneJob) (m : MaskGen) (u : MaskUnit) (n t : Nat),
    let o := j.finish
    let w := s.sample (tapOf j.core) 13 (s.mono - j.submitted)
    let better := (s.laneReady n).any fun x => decide (x.rank < j.rank)
    let equal := (s.laneReady n).any fun x => x.rank == j.rank
    let left := j.position < j.dataLen ∨ 0 < j.headLeft
    let runs := fun (f : LaneJob → Prop) => ∃ v, exec (.laneJobStart n) s = .next v ∧ (∀ x ∈ v.laneJobs, x.handle = j.handle → x.place = .running n ∧ x.started = true ∧ f x) ∧
      (v.lane n).key = keyBytes j.key.key ∧ (v.lane n).power = .active ∧ v.cores = s.cores
    let yields : State := (s.updLaneJob j.handle fun x => { x with place := .ready n, blocksRun := 0 }).lanePick n
    (getK n s.lanes = some l → l.power.awake = true → l.mask.stalled = none →
      (s.laneRunning n = none → laneHead (s.laneReady n) = some j →
        (j.started = true ∨ j.ivFromKey = false → runs fun _ => True) ∧
        (j.started = false → j.ivFromKey = true →
          (∀ st, w.drawIv j = .fails st → exec (.laneJobStart n) s = .next (w.finishLane j.handle st [] [])) ∧
          (∀ v, w.drawIv j = .waits v → exec (.laneJobStart n) s = .next (v.updLaneJob j.handle fun x => { x with waitIv := true })) ∧
          (∀ iv v, w.drawIv j = .drawn iv v → runs fun x => x.iv = iv))) ∧
      (s.laneRunning n = some j → better = true → exec (.laneJobStart n) s = .next yields) ∧
      (s.laneRunning n = some j → better = false → left → j.quantum ≤ j.blocksRun → equal = true → exec (.laneJobStart n) s = .next yields) ∧
      (s.laneRunning n = some j → better = false → left → j.blocksRun < j.quantum ∨ equal = false → s.lanePresent j = false → exec (.laneJobStart n) s =
        .next ((s.updLaneJob j.handle fun x => { x with place := .suspended n s.mono, blocksRun := 0 }).lanePick n)) ∧
      (s.laneRunning n = some j → better = false → j.blocksRun < j.quantum ∨ equal = false → s.lanePresent j = true → ∃ v, exec (.laneJobStart n) s = .next v ∧
        (∀ x ∈ v.laneJobs, x.handle = j.handle → x.place = .running n ∧ j.position ≤ x.position))) ∧
    (∀ a, s.laneJob? t = some j → j.place = .suspended n a → s.lanePresent j = true → exec (.laneResumeTimer t) s =
      .next (({ s with mono := max s.mono (a + 20000) } : State).updLaneJob t fun x => { x with place := .ready n })) ∧
    (s.laneRunning n = some j → j.dataLen ≤ j.position → j.headLeft = 0 → (s.lane n).mask.stalled = none → ∃ v, exec (.laneJobComplete n) s = .next v ∧
      (∀ x ∈ v.laneJobs, x.handle = j.handle → x.place = .done o.1 ∧ x.output = (if o.1 = 0 then j.output else []) ∧ x.tag = o.2 ∧ x.slot = none ∧ x.key = noKey ∧
        x.chain = []) ∧ v.durable = s.durable) ∧
    (s.laneJob? t = some j → j.place = .unassigned → exec (.laneStallTimeout t) s =
      .next ((({ s with mono := max s.mono (j.submitted + 10 ^ 6) } : State).scEvent St.rngStarved [s.stalledExpander]).finishLane t St.rngStarved [] [])) ∧
    (∀ a, s.laneJob? t = some j → j.lane? = some n → (s.lane n).mask.stalled = some a → exec (.laneStallTimeout t) s =
      .next ((({ s with mono := max s.mono (max a j.assignedAt + 10 ^ 6) } : State).scEvent St.rngStarved [13 + n / 4]).finishLane t St.rngStarved [] [])) ∧
    (s.mask? u = some m →
      (m.asked = false → m.limit * 3 ≤ m.blocks * 4 → ∃ v, exec (.maskReseedRequest u) s = .next v ∧ v.mask? u = some { m with asked := true } ∧
        v.rng.masks = s.rng.masks ++ [u]) ∧
      (m.stalled = none → m.limit ≤ m.blocks → ∃ v, exec (.maskReseedStall u) s = .next v ∧ v.mask? u = some { m with asked := true, stalled := some s.mono } ∧
        ∃ e ∈ v.raised, e.2.code = St.maskReseedStall) ∧
      (m.asked = true → s.delivers (maskExpander u) 1 = true → ∃ v, exec (.maskSeedArrival u) s = .next v ∧ v.mask? u = some { limit := s.maskLimit } ∧
        v.rng.masks = s.rng.masks.filter (fun x => x != u)))

/-- A source's block is used only when its window passes every test. A window below two healthy sources seeds no expander and makes no trunk. Start-up in whose first four windows two sources pass a start-up test, with passing self-tests, starts the
generator with what its windows seeded; failing self-tests, or four windows without two such sources, stop it for the 1 s to the next try. RNG_TAP in TEST captures a source, and reads what a capture has taken; a full capture ends in a fresh start-up test, but a latched source
stays off. A core that waits for random bits 1 ms ends with RNG_STARVED. -/
def Obligations.RngResults : Prop :=
  ∀ (s t : State) (q : Request) (ws : List Bytes) (wss : List (List Bytes)) (w : Bytes) (i n m want : Nat) (k : Core) (ok : Bool),
    let b := q.body
    let tests := State.startWindows (wss.take 4) false s.rngReleased
    let all := State.startWindows wss false s.rngReleased
    let later : State := { s with mono := max s.mono (n + 10 ^ 9) }
    (i < 8 → (s.testWindow (s.source i) w).1 ≠ [] → (s.sourceWindow i w).2 = []) ∧
    (i < 8 → (s.sourceWindow i w).2 ≠ [] → (s.sourceWindow i w).2 = [sha256 w] ∧ (s.source i).health = .healthy) ∧
    (s.rng.healthy < 2 → ∃ v, exec (.rngWindowEnd ws) s = .next v ∧ v.expanders = s.expanders ∧ v.porter = s.porter) ∧
    (s.rng.started = true → exec (.rngWindowEnd ws) s =
      .next (State.shareSeeds 4 (s.sourceWindows 0 ws).2 (s.sourceWindows 0 ws).1).takeCutoffs.seedingMark) ∧
    (s.rngMayStart = true → s.rng.failedAt = none →
      (2 ≤ tests.rng.passed → ∃ v, exec (.rngStartup wss true) s = .next v ∧ v.rng.started = true ∧ v.rng.stopped = decide (all.rng.healthy < 2) ∧
        v.expanders = all.expanders ∧ v.porter = all.porter) ∧
      (ok = false ∨ (tests.rng.passed < 2 ∧ 4 ≤ wss.length) → ∃ v, exec (.rngStartup wss ok) s = .next v ∧ v.rng.failedAt = some s.mono ∧ v.rng.started = false ∧
        (∀ e ∈ v.expanders, e.2 = {}) ∧ v.porter = s.porter) ∧
      (tests.rng.passed < 2 → wss.length < 4 → exec (.rngStartup wss true) s = .next s)) ∧
    (s.rngMayStart = true → s.rng.failedAt = some n → exec (.rngStartupRetry wss ok) s = .next (later.rngStart wss ok)) ∧
    (s.rng.tap = some (n, want) → cdiv want 8 ≤ s.rng.capture.length → n < 8 → ∃ v, exec .rngTapEnd s = .next v ∧ v.rng.tap = none ∧
      v.source n = { s.source n with health := (s.source n).afterTap, passes := 0 } ∧ v.expanders = s.expanders) ∧
    (scTakes s t 0x0E09 q → tapBodyOk b = true → t.lifecycle = .test →
      (t.tapAllowed (leAt b 0 1) (leAt b 4 4) = true → exec .rngTap s = .next ((t.startTap (leAt b 0 1) (leAt b 4 4)).answer q 0)) ∧
      (t.tapAllowed (leAt b 0 1) (leAt b 4 4) = false → exec .rngTap s = .next (t.answer q St.rngTapRefused))) ∧
    (scTakes s t 0x0E09 q → b.length = 16 → t.lifecycle = .test → t.rng.tap = none → allZero (b.drop 12) = true → leAt b 8 4 ≤ 65536 →
      exec .rngTap s = .next (t.answer q 0 (slice t.rng.capture (leAt b 0 8) (leAt b 8 4)))) ∧
    (s.core? (.tx n m) = some k → k.wait = .random i → s.canDraw n = false → exec (.rngReaderTimeout (.tx n m)) s =
      .next ((({ s with mono := max s.mono (i + 10 ^ 6) } : State).event n St.rngStarved [n]).endWith (.tx n m) k St.rngStarved []))

/-- A mirror frame that fails its tag or epoch only counts, a repeated one does nothing, one that passes has its claim learned and marks taken before its content acts. The timers send heartbeats, acknowledgements, blocks, lantern frames and
announcements. A handshake with the partner opens the link in a new epoch under the keys of R358, another, or one over a channel of more than 10 µs, is refused; a silent path is degraded or, with the other one silent, the partner has failed; a unit that
behaves as unpaired takes no lantern frame. -/
def Obligations.PairFrameResults : Prop :=
  ∀ (s u : State) (h : MirHdr) (f : LanternIn) (peer : PeerInfo) (cb : ClaimBody) (n m base : Nat) (crcs : List Bool) (recs : List (Nat × Record)) (got : List Nat),
    let frame := fun (i : Instr) (body : Nat) (serial : Option Nat) (v : State → State) =>
      (mirrorTaken s u h body serial → exec i s = .next (s.signal (v u).joinActive)) ∧
      (h.magic ≠ 0x4D52 → exec i s = .next (s.signal s)) ∧
      (s.sc.mode = .running → s.pair.linkOpen = true → h.magic = 0x4D52 → h.tagOk = false ∨ h.linkEpoch ≠ s.pair.linkEpoch →
        exec i s = .next (s.signal (s.setPair fun p => p.count mTagDrops 1))) ∧
      (s.sc.mode = .running → s.pair.linkOpen = true → h.magic = 0x4D52 → h.tagOk = true → h.linkEpoch = s.pair.linkEpoch → seqWindow s.pair.rxHigh s.pair.rxSeen h.frameSeq = none →
        exec i s = .next (s.signal s))
    let lantern := fun (i : Instr) (v : State → State) =>
      (s.pair.state = .unpaired → exec i s = .next (s.signal s)) ∧
      (s.pair.state ≠ .unpaired → f.macOk = false ∨ s.pair.lanternKey = [] → exec i s = .next (s.signal (s.setPair fun p => p.count mLanternDrops 1))) ∧
      (s.pair.state ≠ .unpaired → f.macOk = true → s.pair.lanternKey ≠ [] → f.linkEpoch = s.pair.linkEpoch → f.reserved = 0 → 1 ≤ f.state → f.state ≤ 7 → (∀ x, s.pair.lanternRx = some x → x < f.seq) →
        exec i s = .next (s.signal (v ((((s.setPair fun p => { p with lanternRx := some f.seq }).heardLantern).seenBy f.state f.claim).learnClaim f.claim none))))
    frame (.mirrorHeartbeat h) 0 none id ∧ frame (.mirrorClaim h n) 0 (some n) id ∧ frame (.mirrorStandDown h) 0 none (·.partnerFailed false) ∧
    frame (.mirrorRecords h n crcs recs) (streamBytes crcs.length) none (·.recordsCame n crcs recs) ∧ frame (.mirrorSnapshot h n crcs) (streamBytes crcs.length) none (·.snapshotCame n crcs) ∧
    frame (.mirrorBlockAck h n base got) 40 none (·.blockAcked n base got) ∧
    frame (.resyncControl h n) 8 none (·.setPair fun p => if p.state = .resyncing then { p with joinAt := some n } else p) ∧
    (s.sc.mode = .running →
      (s.pair.linkOpen = true → exec .mirrorHeartbeatTimer s = .next (s.mirSend 0x10) ∧ (s.pair.txSeq ≠ 2 ^ 64 - 1 → (s.mirSend 0x10).pair.txSeq = s.pair.txSeq + 1)) ∧
      (s.pair.uncovered = true → ∃ v, exec .mirrorBlockAckTimer s = .next v ∧ v.pair.uncovered = false ∧ v.pair.sinceAck = 0) ∧
      (∀ b, s.pair.linkOpen = true → s.pair.sent.find? (fun b => b.stream == n && b.blk == m) = some b → exec (.mirrorBlockResendTimer n m) s =
        .next (({ s with mono := max s.mono (b.at0 + 1000 * min 64 (4 * 2 ^ b.resends)) } : State).resendBlock n m)) ∧
      (s.paired = true →
        (s.partnerSerial ≠ [] → s.sc.identity ≠ none → s.canDraw 12 = true → s.canDraw 16 (readRequests linkDraws) = true → ∃ v, exec .mirrorLinkLock s = .next v ∧
          v.pair.locked = true ∧ v.pair.linkOpen = false ∧ v.pair.handshaking = true ∧ v.pair.secret.length = 176 ∧
          v.pair.hello = s.linkHello (s.random 12 32).1 v.pair.secret ∧ (s.lower = true → .mirrorHandshake v.pair.hello ∈ v.outputs)) ∧
        (s.partnerSerial ≠ [] → s.sc.identity = none ∨ s.canDraw 12 = false ∨ s.canDraw 16 (readRequests linkDraws) = false → ∃ v, exec .mirrorLinkLock s = .next v ∧
          v.pair.linkOpen = false ∧ v.pair.handshaking = false ∧ ∃ e ∈ v.raised, e.2.code = St.pairLinkRefused) ∧
        (s.pair.state ≠ .unpaired → s.pair.locked = true → s.pair.linkOpen = false → s.pair.handshaking = false → exec .mirrorHandshakeRetry s =
          .next (s.signal ({ s with mono := s.mono + 10 ^ 9 } : State).linkStart)) ∧
        (s.pair.handshaking = true → s.linkHelloOk peer = true → peer.waybillOk = true → peer.sigsOk = true → peer.serial = s.partnerNumber → peer.pairId = s.pairId →
          peer.latencyNs ≤ 10000 →
          let v := (s.emit (.mirrorHandshake (s.linkProof peer))).openLink peer
          let prk := s.linkPrk peer
          let th := s.linkTh peer
          exec (.mirrorHandshakeDone peer) s = .next (s.signal (v.meet peer)) ∧ v.pair.linkEpoch = max s.pair.linkEpoch peer.linkEpoch + 1 ∧ v.pair.linkOpen = true ∧
          v.pair.txKey = linkKey (if ownSerial < s.partnerNumber then "lo2hi" else "hi2lo") prk th ∧
          v.pair.rxKey = linkKey (if ownSerial < s.partnerNumber then "hi2lo" else "lo2hi") prk th ∧
          v.pair.lanternKey = fit 32 (hkdfExpand prk (ascii "mirror v1 lantern" ++ th) 32)) ∧
        (s.pair.handshaking = true → s.linkHelloOk peer = false ∨ peer.waybillOk = false ∨ peer.sigsOk = false ∨ peer.serial ≠ s.partnerNumber ∨ peer.pairId ≠ s.pairId ∨
          10000 < peer.latencyNs → ∃ v,
          exec (.mirrorHandshakeDone peer) s = .next v ∧ v.pair.linkOpen = false ∧ v.pair.handshaking = false ∧ v.durable = s.durable ∧
          ∃ e ∈ v.raised, e.2.code = St.pairLinkRefused) ∧
        (exec .lanternFrameTimer s = .next (s.lanternSend 1) ∧ (s.pair.lanternKey ≠ [] → s.pair.state ≠ .unpaired →
          (s.lanternSend 1).pair.lanternTx = s.pair.lanternTx + 1 ∧ (s.lanternSend 1).outputs = .lantern 1 s.pair.state.code s.pair.linkEpoch
            (s.pair.lanternTx + 1) s.pair.seen (s.lanternBytes 1 (s.pair.lanternTx + 1)) :: s.outputs)) ∧
        (f.type = 1 ∨ f.type = 2 → lantern (.lanternFrame f) id) ∧ (f.type = 4 → lantern (.lanternFrame f) (·.partnerFailed false)) ∧
        (f.type = 3 → lantern (.lanternTamper f) fun t => (t.scEvent St.partnerTampered).partnerFailed false) ∧
        (s.pair.lanternKey ≠ [] → s.pair.state ≠ .unpaired → s.pair.linkSilent = false →
          let t := ({ s with mono := max s.mono (s.pair.linkHeard + 500000) } : State).setPair fun q => { q with linkSilent := true }
          exec (.pathSilent .link) s = .next (s.signal (if s.pair.lanternSilent then t.partnerFailed true else t.scEvent St.pairPathDegraded [0]))) ∧
        (s.pair.lanternKey ≠ [] → s.pair.state ≠ .unpaired → s.pair.lanternSilent = false →
          let t := ({ s with mono := max s.mono (s.pair.lanternHeard + 2000000) } : State).setPair fun q => { q with lanternSilent := true }
          exec (.pathSilent .lantern) s = .next (s.signal (if s.pair.linkSilent then t.partnerFailed true else t.scEvent St.pairPathDegraded [1]))) ∧
        (s.serves = true → s.pair.claim ≠ 0 →
          let now := max s.mono (s.pair.claimLast + s.pair.announceGap)
          exec .claimAnnounceTimer s = .next (({ s with mono := now } : State).setPair fun p => { p with claimLast := now }).announce) ∧
        (s.portUp n = true → cb.checksOk = true → cb.reserved = 0 → cb.pairId = s.pairId → cb.serial = s.partnerNumber → exec (.claimAnnounce n cb) s =
          .next (s.signal (s.learnClaim cb.claim (some cb.serial)))) ∧
        (s.portUp n = true → cb.checksOk = false ∨ cb.reserved ≠ 0 ∨ cb.pairId ≠ s.pairId ∨ cb.serial ≠ s.partnerNumber → exec (.claimAnnounce n cb) s =
          .next (s.signal ((s.count n nStranger 1).event (portTap n) St.frameUnauthenticated [n])))))

/-- An accepted announcement that beats the claim of a unit that serves leaves it fenced, with no session and no queued request. A standby that hears its partner stand down takes over as ACTIVE_ALONE under a claim one above the highest seen; an active
that hears nothing by either path is ISOLATED. The end of the start wait leaves a unit that was alone with the highest claim serving, another waiting. A snapshot is loaded at its CSN; a journal at 90 % before it restarts. -/
def Obligations.PairRoleResults : Prop :=
  ∀ (s : State) (cb : ClaimBody) (f : LanternIn) (x : Snapshot) (n : Nat), s.sc.mode = .running → s.paired = true →
    (s.portUp n = true → cb.checksOk = true → cb.reserved = 0 → cb.pairId = s.pairId → cb.serial = s.partnerNumber → beats cb.claim cb.serial s.pair.claim ownSerial = true →
      s.pair.state = .active ∨ s.pair.state = .activeAlone ∨ s.pair.state = .isolated → ∃ v, exec (.claimAnnounce n cb) s = .next v ∧
        v.pair.state = .fenced ∧ v.serves = false ∧ v.net.sessions = [] ∧ v.disp.queued = []) ∧
    (s.pair.state = .standby → s.pair.failed = false → f.type = 4 → f.macOk = true → s.pair.lanternKey ≠ [] → f.linkEpoch = s.pair.linkEpoch → f.reserved = 0 → 1 ≤ f.state → f.state ≤ 7 →
      (∀ y, s.pair.lanternRx = some y → y < f.seq) → f.claim ≤ s.pair.seen →
      let u := (((((s.setPair fun p => { p with lanternRx := some f.seq }).heardLantern).seenBy f.state f.claim).learnClaim f.claim none).setPair
        fun p => { p with failed := true }).scEvent St.partnerFailed
      (∀ r ∈ (State.applyUpTo s.pair.mark s.pair.received.length u).pair.received, s.pair.mark < r.csn) → ∃ v, exec (.lanternFrame f) s = .next v ∧ v.pair.state = .activeAlone ∧
        v.pair.claim = s.pair.seen + 1 ∧ v.pair.seen = v.pair.claim ∧ v.pair.received = []) ∧
    (s.pair.state = .active → s.pair.failed = false → s.pair.lanternKey ≠ [] → s.pair.linkSilent = false → s.pair.lanternSilent = true → ∃ v,
      exec (.pathSilent .link) s = .next v ∧ v.pair.state = .isolated ∧ v.pair.failed = true ∧ v.pair.claim = s.pair.claim ∧ v.cores = s.cores) ∧
    (s.pair.state = .waiting → s.pair.waitSince = some n →
      let alone := s.pair.wasAlone = true ∧ s.pair.claim = s.pair.seen ∧ (s.pair.claim = 0 ∨ s.pair.seenSerial = ownSerial)
      (alone → ∃ v, exec .mirStartWaitExpiry s = .next v ∧ v.pair.state = .activeAlone ∧ v.mono = max s.mono (n + s.cfg 0x0703 0 30 * 10 ^ 9)) ∧
      (¬ alone → ∃ v, exec .mirStartWaitExpiry s = .next v ∧ v.pair.state = .waiting ∧ ∃ e ∈ v.raised, e.2.code = St.pairWaiting)) ∧
    (s.pair.state = .resyncing → s.pair.snapS ≠ none →
      (s.pair.received = [] → s.pair.joinAt = none → ({ s with durable := snapDurable x s.durable } : State).areaIvs.1 ≠ none → ∃ v, exec (.resyncSnapshotLoaded x) s = .next v ∧ v.pair.snapS = none ∧ v.pair.acked = x.csn ∧ v.seq.applied = x.csn ∧
        v.durable = snapDurable x s.durable ∧ v.store.slots = []) ∧
      (ringLines * 9 ≤ s.journalLines * 10 → ∃ v, exec .resyncRestart s = .next v ∧ v.seq.journal = [] ∧ v.pair.snapS = some s.pair.mark ∧ v.pair.received = [] ∧ v.pair.wantFull = true ∧ v.pair.linkOpen = false ∧
        ∃ e ∈ v.raised, e.2.code = St.pairResyncRestarted))

/-- A doorbell within the ring moves its index, one beyond it stops the ring with error 1. Enabling a sound ring starts it at index 0, of an unsound one gives error 5. A sound entry is taken and its request joins queue 3 of partition 0; a bad one
stops the ring with 2, an unreadable one with 3. A completion is written with the phase, with no response for a request discarded by a fence, a failing write stops the ring with 4. FLR, hot reset, link down and PERST reset the registers and drop the ring stages whose commit is not accepted, and
nothing that was ticketed. The low word's read latches the high one. Interrupt status is cleared by ones. -/
def Obligations.ServicePortResults : Prop :=
  ∀ (s : State) (n off : Nat) (v : BitVec 32) (e : SqEntry) (item : Bytes) (res key x64 : Nat) (resp : Response) (l : List (Nat × Response)) (x : RingSlot),
    let r := s.ring n
    let h := itemHeader item
    let d := v.toNat
    let ends := fun i : Instr => s.svc.linkUp = true → ∃ t, exec i s = .next t ∧ t.svc = { linkUp := true, gen := s.svc.gen } ∧ t.disp = s.disp ∧
      t.cores = s.cores ∧ (∀ g ∈ t.seq.stages, g.session = none → s.applyAccepted g.id = true) ∧ (∀ g ∈ s.seq.stages,
        (∀ x ∈ s.seq.stages, x.id = g.id → x.session ≠ none) → g ∈ t.seq.stages) ∧ t.durable = s.durable
    ends .svcFlr ∧ ends .svcHotReset ∧ ends .svcLinkDown ∧ ends .svcPerstAssert ∧
    (s.ringOn n = true → r.enable = true →
      (d < r.sqSize → exec (.svcSqTailWrite n v) s = .next (s.signal (s.setRing n { r with sqTail := d }))) ∧
      (r.sqSize ≤ d → exec (.svcSqTailWrite n v) s = .next (s.signal (s.stopRing n 1))) ∧
      (d < r.cqSize → exec (.svcCqHeadWrite n v) s = .next (s.signal (s.setRing n { r with cqHead := d }))) ∧
      (r.cqSize ≤ d → exec (.svcCqHeadWrite n v) s = .next (s.signal (s.stopRing n 1)))) ∧
    (s.ringOn n = true →
      (d % 2 = 0 → ∃ t, exec (.svcRingEnableWrite n v) s = .next t ∧ (t.ring n).enable = false) ∧
      (d % 2 = 1 → r.enable = false → r.sound = true → ∃ t, exec (.svcRingEnableWrite n v) s = .next t ∧ (t.ring n).enable = true ∧ (t.ring n).error = 0 ∧
        (t.ring n).sqHead = 0 ∧ (t.ring n).cqTail = 0 ∧ (t.ring n).phase = true ∧ (t.ring n).vector = bits d 12 8) ∧
      (d % 2 = 1 → r.enable = false → r.sound = false → ∃ t, exec (.svcRingEnableWrite n v) s = .next t ∧ (t.ring n).enable = false ∧ (t.ring n).error = 5)) ∧
    (s.ringOn n = true → s.fabricRuns = true → r.enable = true → r.sqHead ≠ r.sqTail → r.load + 1 < r.cqSize →
      (∀ i, entryBad e = true → exec (.ringEntryFetched n e i) s = .next (s.signal (s.stopRing n 2))) ∧
      (entryBad e = false → exec (.ringEntryFetched n e none) s = .next (s.signal (s.stopRing n 3))) ∧
      (entryBad e = false → ringItemError h e = none → s.arrivalRefusal h.verb = none → ∀ sp, s.admitCharge 0 3 (chargeOf h.bodyLen) = .taken res sp →
        ∃ t q, exec (.ringEntryFetched n e (some item)) s = .next t ∧ (t.ring n).sqHead = (r.sqHead + 1) % r.sqSize ∧ (t.ring n).slots = r.slots ++
          [{ key := s.svc.gen, index := r.sqHead, addr := e.respAddr, max := e.respMax, reqId := beAt item 0 8 }] ∧ q ∈ t.disp.queued ∧
          (s.stampedNow = [] → t.disp.queued = s.disp.queued ++ [q] ∧ q.ticket = s.disp.nextTicket) ∧ q.partition = 0 ∧ q.queue = 3 ∧ q.verb = h.verb ∧ q.body = slice item 24 h.bodyLen ∧ q.origin = .ring n s.svc.gen)) ∧
    (s.ringOn n = true → r.ready = (key, resp) :: l → r.slots.find? (·.key == key) = some x →
      let out := if resp.streamPart = 3 then [] else responseHeader x.reqId resp false false ++ resp.body
      (∃ t, exec (.ringCompletion n true) s = .next t ∧ .completion n x.index out.length resp.status r.phase (decide (x.max < out.length)) x.addr (out.take x.max) ∈ t.outputs ∧
        (t.ring n).ready = l ∧ (t.ring n).slots = r.slots.filter (fun y => y.key != key) ∧
        (t.ring n).cqTail = (if r.cqTail + 1 < r.cqSize then r.cqTail + 1 else 0) ∧ (t.ring n).phase = (if r.cqTail + 1 < r.cqSize then r.phase else !r.phase)) ∧
      exec (.ringCompletion n false) s = .next (s.signal ((s.setRing n { r with slots := [], ready := [] }).stopRing n 4))) ∧
    (s.ringOn n = true → r.unsignalled ≠ 0 → exec (.ringCoalesceTimer n) s =
      .next (({ s with mono := max s.mono (r.firstUnsignalled + r.timeUs * 1000) } : State).signalRing n)) ∧
    (s.svc.linkUp = true → off % 4 = 0 → s.ready = true →
      (s.reg64 off = some x64 → exec (.reg64LowRead off) s = .next { s.emit (.register off (x64 % 2 ^ 32)) with svc := { s.svc with latch := x64 / 2 ^ 32 } }) ∧
      (s.reg64 off = none → s.isHigh off = true → exec (.reg64LowRead off) s = .next (s.emit (.register off s.svc.latch)))) ∧
    (s.svc.linkUp = true → s.ready = true →
      (exec (.registerWrite 0x0040 v) s = .next (s.signal (s.clearInt v)) ∧ (s.clearInt v).svc.intStatus = s.svc.intStatus &&& ~~~ v.truncate 6) ∧
      exec (.registerWrite 0x0044 v) s = .next (s.signal { s with svc := { s.svc with intEnable := v.truncate 6 } }) ∧
      exec (.registerWrite 0x0210 v) s = .next (s.signal (s.clearSlot 0 d)) ∧
      (∀ o, o ∈ [0x0000, 0x0010, 0x0020, 0x0024, 0x0028, 0x0030, 0x0200, 0x0220, 0x1000, 0x1400, 0x2004, 0x3000] →
        exec (.registerWrite o v) s = .next (s.signal s)))

/-- With the target on: identity, state and alert words are answered in two bytes, the serial in sixteen, the die temperature and the power as measured words; a written one clears its alert bit; the alert response is the target's address while any
bit is set. With it off nothing is answered. The warning is set at 101.0 °C with its alert bit, ends at 99.0 °C, and changes nothing between. -/
def Obligations.SmbusResults : Prop :=
  ∀ (s : State) (v : BitVec 16) (temp : Int),
    let w := fun (i : Instr) (x : Nat) => exec i s = .next (s.emit (.smb (leBytes 2 x)))
    let off := fun (i : Instr) => ∃ t, exec i s = .next t ∧ t.outputs = s.outputs
    let measured := fun (i : Instr) => ∃ x t, x < 65536 ∧ exec i s = .next t ∧ t.outputs = .smb (leBytes 2 x) :: s.outputs ∧ t.smb = s.smb ∧ t.cores = s.cores
    (s.smbOn = true →
      w .smbIdent (0x0100 + variantCode s.variant) ∧ w .smbState s.smbState ∧ w .smbAlertRead s.smb.alert.toNat ∧ measured .smbDieTemp ∧ measured .smbPower ∧
      exec (.smbAlertWrite v) s = .next { s with smb := { s.smb with alert := s.smb.alert &&& ~~~ v.truncate 3 } } ∧
      exec .smbSerial s = .next (s.emit (.smb (fit 16 Config.deviceSerial))) ∧
      (s.smb.alert ≠ 0 → exec .smbAlertResponse s = .next (s.emit (.smb [if s.smb.addrOpen then 0x9A else 0x98]))) ∧
      (s.smb.alert = 0 → exec .smbAlertResponse s = .next s)) ∧
    (s.smbOn = false → off .smbIdent ∧ off .smbState ∧ off .smbDieTemp ∧ off .smbPower ∧ off .smbAlertRead ∧ off (.smbAlertWrite v) ∧ off .smbSerial ∧ off .smbAlertResponse) ∧
    (s.smb.thermalWarn = false → 1010 ≤ temp → exec (.thermalWarnChange temp) s =
      .next { s with smb := { s.smb with thermalWarn := true, alert := s.smb.alert ||| 4 } }) ∧
    (s.smb.thermalWarn = true → temp ≤ 990 → exec (.thermalWarnChange temp) s = .next { s with smb := { s.smb with thermalWarn := false } }) ∧
    (990 < temp → temp < 1010 → exec (.thermalWarnChange temp) s = .next s)

/-- On a core that takes an instruction, in its form and with a key in the register it names: PINE of an unsealed source block, KDRV of sealed derivation data and KFORM with a sealed first or second block end the
invocation by the fault 0x0304, in which no key is formed and nothing is enciphered; the other blocks are as they may be. -/
def Obligations.SealViolationFaults : Prop :=
  ∀ (s : State) (c : CoreId) (k : Core) (kd kp : KReg) (d a b : BReg) (t : GReg) (alg : BitVec 8) (fmt : BitVec 3) (h : Handle), coreReady s c k →
    let faults := fun i : Instr => exec i s = .next (s.endFault c k 0x0304)
    (pinFormatOk fmt.toNat = true → k.world ≠ 4 → k.getK kp = some h → (k.getB a).sealed = false → faults (.pine c d a b kp fmt)) ∧
    (1 ≤ alg.toNat → alg.toNat ≤ 5 → k.getK kp = some h → (k.getB a).sealed = true → faults (.kdrv c kd kp a t alg)) ∧
    ((k.getB a).sealed = true ∨ (k.getB b).sealed = true → faults (.kform c kd a b t))

/-- For every state, every Ghedo instruction and every verb, on every core: every other core is as it was, and so are the commands that wait, the variant, life cycle and time, the ports and sessions, the pair, the token side, the porter (but for S1 once the last
core is idle), the controller, the generator, the
Guestbook, the service port, the SMBus side, the wires, and of the durable state partitions, configuration, tables, counters and programs; only WAYBILL changes the platform side, only CSRW a system register, and of the controller WFI alone its pending interrupt. -/
def Obligations.InvocationCommandsFrame : Prop :=
  ∀ (i : Instr) (c : CoreId) (s t : State), i.runsOn = some c → exec i s = .next t →
    (∀ e, e ≠ c → (∀ h, i ≠ .hashCompressionDone c h) → t.core? e = s.core? e) ∧
    t.pending = s.pending ∧ t.variant = s.variant ∧ t.lifecycle = s.lifecycle ∧ t.mono = s.mono ∧ t.cycle = s.cycle ∧ t.outputs = s.outputs ∧
    t.net = s.net ∧ t.pair = s.pair ∧ t.custody = s.custody ∧ (t.porter = s.porter ∨ (s.porter.power = .s0 ∧ t.porter = { s.porter with power := .s1 })) ∧ (i ≠ .wfi c → t.sc = s.sc) ∧ { t.sc with irq := s.sc.irq } = s.sc ∧ t.rng = s.rng ∧ t.guest = s.guest ∧ t.svc = s.svc ∧
    t.smb = s.smb ∧ t.microcode = s.microcode ∧
    t.durable.parts = s.durable.parts ∧ t.durable.config = s.durable.config ∧ t.durable.tab = s.durable.tab ∧ t.durable.ctrs = s.durable.ctrs ∧
    t.durable.progs = s.durable.progs ∧ t.durable.boughEpochs = s.durable.boughEpochs ∧ t.seq.applied = s.seq.applied ∧
    (i ≠ .waybill c → t.plat = s.plat) ∧ ((∀ n a, i ≠ .csrw c n a) → t.sysRegs = s.sysRegs)

/-- For every state: with a command in front, the step is that command on the state with the rest of the queue; with none, MONO_NS goes on by 2 and the fabric cycle count by 3 where its clock runs, and nothing else differs (the model's
choice, log 2). -/
def Obligations.StepRunsTheFrontCommand : Prop :=
  (∀ (s : State) (i : Instr) (rest : List Instr), s.pending = i :: rest → step s = exec i { s with pending := rest }) ∧
  (∀ (s : State), s.pending = [] → step s = .next { s with mono := s.mono + 2, cycle := if s.fabricRuns then s.cycle + 3 else s.cycle })

/-- State.reset: POWER_STATE 4, LATCH and UNACKNOWLEDGED set, AON_LOST the one cause, no sensor active, PRT_STATUS 0x0040000C; no lifecycle group set, so BLANK; both slots empty; no core, session, stage, commit, request or response; no interrupt
pending or enabled; every ring disabled; windows in canonical form. The variant, the values the spec leaves open and the empty histories are the model's choices (log 3, log 4). -/
def Obligations.ResetState : Prop :=
  let s := State.reset
  s.porter.power = .s4 ∧ s.porter.latch = true ∧ s.porter.unacked = true ∧ s.porter.cause = 0x2000 ∧ s.porter.sensorActive = false ∧ s.porter.status = 0x0040000C ∧
  s.porter.trunk = none ∧ highestSet s.sc.otp.done = 0 ∧ s.lifecycle = .blank ∧ s.sc.slotA = .empty ∧ s.sc.slotB = .empty ∧ s.sc.mode = .off ∧ s.cores = [] ∧
  s.net.sessions = [] ∧ s.seq.stages = [] ∧ s.seq.waiting = [] ∧ s.seq.accepted = [] ∧ s.disp.queued = [] ∧ s.egress = [] ∧ s.pending = [] ∧
  s.svc.intStatus = 0 ∧ s.svc.intEnable = 0 ∧ (∀ r ∈ s.svc.rings.toList, r.enable = false ∧ r.count = 1) ∧ s.durable.keys = [] ∧
  (∀ x ∈ s.rng.sources.toList, x.health = .off) ∧ windowsOk s ∧ runs s

/-- For every state whose windows are in canonical form (addresses strictly rising, no zero byte listed), and every command at the front of its queue or none: the step answers a next state, and its windows are in canonical form. No run leaves the form, and no command stops the block. -/
def Obligations.WindowsCanonicalKeptByEveryStep : Prop :=
  ∀ (s : State), windowsOk s → ∃ t, step s = .next t ∧ windowsOk t
end

