-- ==== Sys2Proof/Laws/Data.lean ====
section
/-! SUPPORT. What reading gives after writing: association lists, and windows memory with its canonical form. -/

namespace Sys2Proof.Machine

/-! ### Association lists -/

variable {α β : Type} [DecidableEq α]

@[simp] theorem getK_nil (k : α) : getK k ([] : List (α × β)) = none := rfl

@[simp] theorem getK_setK_same (k : α) (v : β) (l : List (α × β)) : getK k (setK k v l) = some v := by
  induction l with
  | nil => simp [setK, getK]
  | cons x l ih => obtain ⟨a, b⟩ := x; by_cases h : k = a <;> simp [setK, getK, h] at ih ⊢; exact ih

theorem getK_setK_other {k k' : α} (h : k' ≠ k) (v : β) (l : List (α × β)) : getK k' (setK k v l) = getK k' l := by
  induction l with
  | nil => simp [setK, getK, h]
  | cons x l ih =>
    obtain ⟨a, b⟩ := x
    by_cases ha : k = a
    · subst ha; simp [setK, getK, h]
    · by_cases hb : k' = a <;> simp [setK, getK, ha, hb] at ih ⊢; exact ih

@[simp] theorem getK_delK_same (k : α) (l : List (α × β)) : getK k (delK k l) = none := by
  induction l with
  | nil => rfl
  | cons x l ih => obtain ⟨a, b⟩ := x; by_cases h : k = a <;> simp [delK, getK, h] at ih ⊢ <;> exact ih

theorem getK_delK_other {k k' : α} (h : k' ≠ k) (l : List (α × β)) : getK k' (delK k l) = getK k' l := by
  induction l with
  | nil => rfl
  | cons x l ih =>
    obtain ⟨a, b⟩ := x
    by_cases ha : k = a
    · subst ha; simp [delK, getK, h, ih]
    · by_cases hb : k' = a <;> simp [delK, getK, ha, hb] at ih ⊢; exact ih

/-- A value found at a key stands in the list. -/
theorem mem_of_getK {k : α} {v : β} {l : List (α × β)} (h : getK k l = some v) : (k, v) ∈ l := by
  induction l with
  | nil => cases h
  | cons x l ih =>
    obtain ⟨a, b⟩ := x
    by_cases ha : k = a
    · subst ha; simp [getK] at h; simp [h]
    · simp [getK, ha] at h; exact List.mem_cons_of_mem _ (ih h)

/-- What stands in a list after a write is the written pair or stood there before. -/
theorem mem_setK {k : α} {v : β} {l : List (α × β)} {e : α × β} (h : e ∈ setK k v l) : e = (k, v) ∨ e ∈ l := by
  induction l with
  | nil => simpa [setK] using h
  | cons x l ih =>
    obtain ⟨a, b⟩ := x
    by_cases ha : k = a
    · rw [setK, if_pos ha] at h
      rcases List.mem_cons.mp h with h | h
      · exact .inl h
      · exact .inr (List.mem_cons_of_mem _ h)
    · rw [setK, if_neg ha] at h
      rcases List.mem_cons.mp h with h | h
      · exact .inr (by simp [h])
      · exact (ih h).imp id (List.mem_cons_of_mem _)

/-- What stands in a list without a key stood there before. -/
theorem mem_delK {k : α} {l : List (α × β)} {e : α × β} (h : e ∈ delK k l) : e ∈ l ∧ e.1 ≠ k := by
  induction l with
  | nil => cases h
  | cons x l ih =>
    obtain ⟨a, b⟩ := x
    by_cases ha : k = a
    · rw [delK, if_pos ha] at h; exact ⟨List.mem_cons_of_mem _ (ih h).1, (ih h).2⟩
    · rw [delK, if_neg ha] at h
      rcases List.mem_cons.mp h with h | h
      · subst h; exact ⟨by simp, fun e => ha e.symm⟩
      · exact ⟨List.mem_cons_of_mem _ (ih h).1, (ih h).2⟩

/-! ### Bytes -/

@[simp] theorem leBytes_length (n v : Nat) : (leBytes n v).length = n := by
  induction n generalizing v with
  | zero => rfl
  | succ n ih => simp [leBytes, ih]

theorem leNat_leBytes (n v : Nat) : leNat (leBytes n v) = v % 256 ^ n := by
  induction n generalizing v with
  | zero => simp [leBytes, leNat, Nat.mod_one]
  | succ n ih =>
    rw [leBytes, leNat, ih, BitVec.toNat_ofNat]
    rw [show (2 ^ 8 : Nat) = 256 from rfl, Nat.pow_succ, Nat.mul_comm (256 ^ n) 256, Nat.mod_mul]

@[simp] theorem fit_length (n : Nat) (l : Bytes) : (fit n l).length = n := by
  simp [fit]

/-! ### Memory: the canonical form -/

theorem memWf_tail {e : Nat × Byte} {m : Memory} (h : memWf (e :: m) = true) : memWf m = true := by
  cases m with
  | nil => rfl
  | cons x m => obtain ⟨a, b⟩ := e; obtain ⟨c, d⟩ := x; simp [memWf] at h; exact h.2

theorem memWf_cons {a : Nat} {v : Byte} {m : Memory} :
    memWf ((a, v) :: m) = true ↔ v ≠ 0 ∧ memWf m = true ∧ ∀ e ∈ m.head?, a < e.1 := by
  cases m with
  | nil => simp [memWf]
  | cons x m => obtain ⟨c, d⟩ := x; simp [memWf]; constructor <;> (intro h; simp_all)

/-- In canonical form an address below the first reads 0. -/
theorem readByte_below {a : Nat} {m : Memory} (h : memWf m = true) (hb : ∀ e ∈ m.head?, a < e.1) : readByte a m = 0 := by
  induction m with
  | nil => rfl
  | cons x m ih =>
    obtain ⟨c, d⟩ := x
    have hc : a < c := hb (c, d) rfl
    obtain ⟨_, hm, hh⟩ := memWf_cons.mp h
    have : c ≠ a := by omega
    simp only [readByte, this, if_false]
    exact ih hm fun e he => by have := hh e he; omega

/-- The first address after a store is the first before it or the one stored to. -/
theorem writeByte_head {a : Nat} {v : Byte} {m : Memory} {b : Nat} (h : memWf m = true) (hb : ∀ e ∈ m.head?, b < e.1) (ha : b < a) :
    ∀ e ∈ (writeByte a v m).head?, b < e.1 := by
  cases m with
  | nil => intro e; unfold writeByte; split <;> simp; rintro rfl; exact ha
  | cons x m =>
    obtain ⟨c, d⟩ := x
    have hc : b < c := hb (c, d) rfl
    obtain ⟨_, _, hh⟩ := memWf_cons.mp h
    intro e
    unfold writeByte
    split
    · split <;> (simp; rintro rfl; assumption)
    · split
      · split
        · intro he; have := hh e he; omega
        · simp; rintro rfl; exact ha
      · simp; rintro rfl; exact hc

/-- A store keeps the canonical form. -/
theorem writeByte_wf (a : Nat) (v : Byte) {m : Memory} (h : memWf m = true) : memWf (writeByte a v m) = true := by
  induction m with
  | nil => unfold writeByte; split <;> simp_all [memWf]
  | cons x m ih =>
    obtain ⟨c, d⟩ := x
    obtain ⟨hd, hm, hh⟩ := memWf_cons.mp h
    unfold writeByte
    split
    · split
      · exact h
      · exact memWf_cons.mpr ⟨‹_›, h, by simpa⟩
    · split
      · split
        · exact hm
        · rename_i he _; subst he; exact memWf_cons.mpr ⟨‹_›, hm, hh⟩
      · exact memWf_cons.mpr ⟨hd, ih hm, writeByte_head hm hh (by omega)⟩

/-- The byte stored is the byte read. -/
theorem readByte_writeByte_same (a : Nat) (v : Byte) {m : Memory} (h : memWf m = true) : readByte a (writeByte a v m) = v := by
  induction m with
  | nil => unfold writeByte; split <;> simp_all [readByte]
  | cons x m ih =>
    obtain ⟨c, d⟩ := x
    obtain ⟨hd, hm, hh⟩ := memWf_cons.mp h
    unfold writeByte
    split
    · split
      · subst v; exact readByte_below h (by simpa)
      · simp [readByte]
    · split
      · split
        · subst v; rename_i he; subst he; exact readByte_below hm hh
        · simp [readByte]
      · have : c ≠ a := fun e => ‹¬ a = c› e.symm
        simp [readByte, this, ih hm]

/-- A store changes no other byte. -/
theorem readByte_writeByte_other {a b : Nat} (v : Byte) (hab : b ≠ a) {m : Memory} (h : memWf m = true) :
    readByte b (writeByte a v m) = readByte b m := by
  induction m with
  | nil => unfold writeByte; split <;> simp [readByte, Ne.symm hab]
  | cons x m ih =>
    obtain ⟨c, d⟩ := x
    obtain ⟨hd, hm, hh⟩ := memWf_cons.mp h
    unfold writeByte
    split
    · split
      · rfl
      · simp [readByte, Ne.symm hab]
    · split
      · rename_i he; subst he
        split <;> simp [readByte, Ne.symm hab]
      · simp [readByte, ih hm]

/-- A store of a byte string keeps the canonical form. -/
theorem writeBytes_wf (l : Bytes) (a : Nat) {m : Memory} (h : memWf m = true) : memWf (writeBytes m a l) = true := by
  induction l generalizing a m with
  | nil => exact h
  | cons v l ih => exact ih (a + 1) (writeByte_wf a v h)

/-- A store of a byte string changes no byte outside it. -/
theorem readByte_writeBytes_outside {l : Bytes} {a b : Nat} (hb : b < a ∨ a + l.length ≤ b) {m : Memory} (h : memWf m = true) :
    readByte b (writeBytes m a l) = readByte b m := by
  induction l generalizing a m with
  | nil => rfl
  | cons v l ih =>
    simp only [List.length_cons] at hb
    rw [writeBytes, ih (by omega) (writeByte_wf a v h), readByte_writeByte_other v (by omega) h]

/-- The bytes read where a byte string was stored are that string. -/
theorem readBytes_writeBytes {l : Bytes} {a : Nat} {m : Memory} (h : memWf m = true) :
    readBytes (writeBytes m a l) a l.length = l := by
  induction l generalizing a m with
  | nil => rfl
  | cons v l ih =>
    simp only [List.length_cons, readBytes, writeBytes]
    rw [readByte_writeBytes_outside (by omega) (writeByte_wf a v h), readByte_writeByte_same a v h, ih (writeByte_wf a v h)]

end Sys2Proof.Machine
end

