-- ==== Sys2Proof/Laws/State.lean ====
section
/-! SUPPORT. What the named updates of the state and of a core leave in each field. -/

namespace Sys2Proof.Machine

/-! ### The state -/

@[simp] theorem State.setCore_pending (s : State) (c : CoreId) (k : Core) : (s.setCore c k).pending = s.pending := rfl
@[simp] theorem State.setCore_freeCtr (s : State) (c : CoreId) (k : Core) : (s.setCore c k).freeCtr = s.freeCtr := rfl
@[simp] theorem State.setCore_outputs (s : State) (c : CoreId) (k : Core) : (s.setCore c k).outputs = s.outputs := rfl
@[simp] theorem State.setCore_variant (s : State) (c : CoreId) (k : Core) : (s.setCore c k).variant = s.variant := rfl
@[simp] theorem State.setCore_mono (s : State) (c : CoreId) (k : Core) : (s.setCore c k).mono = s.mono := rfl
@[simp] theorem State.setCore_cycle (s : State) (c : CoreId) (k : Core) : (s.setCore c k).cycle = s.cycle := rfl
@[simp] theorem State.setCore_lifecycle (s : State) (c : CoreId) (k : Core) : (s.setCore c k).lifecycle = s.lifecycle := rfl
@[simp] theorem State.setCore_cores (s : State) (c : CoreId) (k : Core) : (s.setCore c k).cores = setK c k s.cores := rfl
@[simp] theorem State.setCore_clusters (s : State) (c : CoreId) (k : Core) : (s.setCore c k).clusters = s.clusters := rfl
@[simp] theorem State.setCore_expanders (s : State) (c : CoreId) (k : Core) : (s.setCore c k).expanders = s.expanders := rfl
@[simp] theorem State.setCore_durable (s : State) (c : CoreId) (k : Core) : (s.setCore c k).durable = s.durable := rfl
@[simp] theorem State.setCore_store (s : State) (c : CoreId) (k : Core) : (s.setCore c k).store = s.store := rfl
@[simp] theorem State.setCore_seq (s : State) (c : CoreId) (k : Core) : (s.setCore c k).seq = s.seq := rfl
@[simp] theorem State.setCore_raised (s : State) (c : CoreId) (k : Core) : (s.setCore c k).raised = s.raised := rfl
@[simp] theorem State.setCore_samples (s : State) (c : CoreId) (k : Core) : (s.setCore c k).samples = s.samples := rfl
@[simp] theorem State.setCore_microcode (s : State) (c : CoreId) (k : Core) : (s.setCore c k).microcode = s.microcode := rfl
@[simp] theorem State.setCore_lneJobs (s : State) (c : CoreId) (k : Core) : (s.setCore c k).lneJobs = s.lneJobs := rfl
@[simp] theorem State.setCore_lnes (s : State) (c : CoreId) (k : Core) : (s.setCore c k).lnes = s.lnes := rfl
@[simp] theorem State.setCore_laneJobs (s : State) (c : CoreId) (k : Core) : (s.setCore c k).laneJobs = s.laneJobs := rfl
@[simp] theorem State.setCore_lanes (s : State) (c : CoreId) (k : Core) : (s.setCore c k).lanes = s.lanes := rfl
@[simp] theorem State.setCore_bulk (s : State) (c : CoreId) (k : Core) : (s.setCore c k).bulk = s.bulk := rfl
@[simp] theorem State.setCore_nextHandle (s : State) (c : CoreId) (k : Core) : (s.setCore c k).nextHandle = s.nextHandle := rfl
@[simp] theorem State.setCore_sysRegs (s : State) (c : CoreId) (k : Core) : (s.setCore c k).sysRegs = s.sysRegs := rfl
@[simp] theorem State.setCore_disp (s : State) (c : CoreId) (k : Core) : (s.setCore c k).disp = s.disp := rfl
@[simp] theorem State.setCore_egress (s : State) (c : CoreId) (k : Core) : (s.setCore c k).egress = s.egress := rfl
@[simp] theorem State.setCore_sc (s : State) (c : CoreId) (k : Core) : (s.setCore c k).sc = s.sc := rfl
@[simp] theorem State.setCore_rng (s : State) (c : CoreId) (k : Core) : (s.setCore c k).rng = s.rng := rfl
@[simp] theorem State.setCore_net (s : State) (c : CoreId) (k : Core) : (s.setCore c k).net = s.net := rfl
@[simp] theorem State.setCore_pair (s : State) (c : CoreId) (k : Core) : (s.setCore c k).pair = s.pair := rfl
@[simp] theorem State.setCore_custody (s : State) (c : CoreId) (k : Core) : (s.setCore c k).custody = s.custody := rfl
@[simp] theorem State.setCore_porter (s : State) (c : CoreId) (k : Core) : (s.setCore c k).porter = s.porter := rfl
@[simp] theorem State.setCore_plat (s : State) (c : CoreId) (k : Core) : (s.setCore c k).plat = s.plat := rfl
@[simp] theorem State.setCore_guest (s : State) (c : CoreId) (k : Core) : (s.setCore c k).guest = s.guest := rfl
@[simp] theorem State.setCore_svc (s : State) (c : CoreId) (k : Core) : (s.setCore c k).svc = s.svc := rfl
@[simp] theorem State.setCore_smb (s : State) (c : CoreId) (k : Core) : (s.setCore c k).smb = s.smb := rfl

@[simp] theorem State.event_pending (s : State) (n : Nat) (code : Status) (l : List Nat) : (s.event n code l).pending = s.pending := rfl
@[simp] theorem State.event_freeCtr (s : State) (n : Nat) (code : Status) (l : List Nat) : (s.event n code l).freeCtr = s.freeCtr := rfl
@[simp] theorem State.event_outputs (s : State) (n : Nat) (code : Status) (l : List Nat) : (s.event n code l).outputs = s.outputs := rfl
@[simp] theorem State.event_variant (s : State) (n : Nat) (code : Status) (l : List Nat) : (s.event n code l).variant = s.variant := rfl
@[simp] theorem State.event_mono (s : State) (n : Nat) (code : Status) (l : List Nat) : (s.event n code l).mono = s.mono := rfl
@[simp] theorem State.event_cycle (s : State) (n : Nat) (code : Status) (l : List Nat) : (s.event n code l).cycle = s.cycle := rfl
@[simp] theorem State.event_lifecycle (s : State) (n : Nat) (code : Status) (l : List Nat) : (s.event n code l).lifecycle = s.lifecycle := rfl
@[simp] theorem State.event_cores (s : State) (n : Nat) (code : Status) (l : List Nat) : (s.event n code l).cores = s.cores := rfl
@[simp] theorem State.event_clusters (s : State) (n : Nat) (code : Status) (l : List Nat) : (s.event n code l).clusters = s.clusters := rfl
@[simp] theorem State.event_expanders (s : State) (n : Nat) (code : Status) (l : List Nat) : (s.event n code l).expanders = s.expanders := rfl
@[simp] theorem State.event_durable (s : State) (n : Nat) (code : Status) (l : List Nat) : (s.event n code l).durable = s.durable := rfl
@[simp] theorem State.event_store (s : State) (n : Nat) (code : Status) (l : List Nat) : (s.event n code l).store = s.store := rfl
@[simp] theorem State.event_seq (s : State) (n : Nat) (code : Status) (l : List Nat) : (s.event n code l).seq = s.seq := rfl
@[simp] theorem State.event_raised (s : State) (n : Nat) (code : Status) (l : List Nat) : (s.event n code l).raised = s.raised ++ [(n, { code := code, mono := s.mono, args := l })] := rfl
@[simp] theorem State.event_samples (s : State) (n : Nat) (code : Status) (l : List Nat) : (s.event n code l).samples = s.samples := rfl
@[simp] theorem State.event_microcode (s : State) (n : Nat) (code : Status) (l : List Nat) : (s.event n code l).microcode = s.microcode := rfl
@[simp] theorem State.event_lneJobs (s : State) (n : Nat) (code : Status) (l : List Nat) : (s.event n code l).lneJobs = s.lneJobs := rfl
@[simp] theorem State.event_lnes (s : State) (n : Nat) (code : Status) (l : List Nat) : (s.event n code l).lnes = s.lnes := rfl
@[simp] theorem State.event_laneJobs (s : State) (n : Nat) (code : Status) (l : List Nat) : (s.event n code l).laneJobs = s.laneJobs := rfl
@[simp] theorem State.event_lanes (s : State) (n : Nat) (code : Status) (l : List Nat) : (s.event n code l).lanes = s.lanes := rfl
@[simp] theorem State.event_bulk (s : State) (n : Nat) (code : Status) (l : List Nat) : (s.event n code l).bulk = s.bulk := rfl
@[simp] theorem State.event_nextHandle (s : State) (n : Nat) (code : Status) (l : List Nat) : (s.event n code l).nextHandle = s.nextHandle := rfl
@[simp] theorem State.event_sysRegs (s : State) (n : Nat) (code : Status) (l : List Nat) : (s.event n code l).sysRegs = s.sysRegs := rfl
@[simp] theorem State.event_disp (s : State) (n : Nat) (code : Status) (l : List Nat) : (s.event n code l).disp = s.disp := rfl
@[simp] theorem State.event_egress (s : State) (n : Nat) (code : Status) (l : List Nat) : (s.event n code l).egress = s.egress := rfl
@[simp] theorem State.event_sc (s : State) (n : Nat) (code : Status) (l : List Nat) : (s.event n code l).sc = s.sc := rfl
@[simp] theorem State.event_rng (s : State) (n : Nat) (code : Status) (l : List Nat) : (s.event n code l).rng = s.rng := rfl
@[simp] theorem State.event_net (s : State) (n : Nat) (code : Status) (l : List Nat) : (s.event n code l).net = s.net := rfl
@[simp] theorem State.event_pair (s : State) (n : Nat) (code : Status) (l : List Nat) : (s.event n code l).pair = s.pair := rfl
@[simp] theorem State.event_custody (s : State) (n : Nat) (code : Status) (l : List Nat) : (s.event n code l).custody = s.custody := rfl
@[simp] theorem State.event_porter (s : State) (n : Nat) (code : Status) (l : List Nat) : (s.event n code l).porter = s.porter := rfl
@[simp] theorem State.event_plat (s : State) (n : Nat) (code : Status) (l : List Nat) : (s.event n code l).plat = s.plat := rfl
@[simp] theorem State.event_guest (s : State) (n : Nat) (code : Status) (l : List Nat) : (s.event n code l).guest = s.guest := rfl
@[simp] theorem State.event_svc (s : State) (n : Nat) (code : Status) (l : List Nat) : (s.event n code l).svc = s.svc := rfl
@[simp] theorem State.event_smb (s : State) (n : Nat) (code : Status) (l : List Nat) : (s.event n code l).smb = s.smb := rfl

@[simp] theorem State.scEvent_pending (s : State) (code : Status) (l : List Nat) : (s.scEvent code l).pending = s.pending := rfl
@[simp] theorem State.scEvent_freeCtr (s : State) (code : Status) (l : List Nat) : (s.scEvent code l).freeCtr = s.freeCtr := rfl
@[simp] theorem State.scEvent_outputs (s : State) (code : Status) (l : List Nat) : (s.scEvent code l).outputs = s.outputs := rfl
@[simp] theorem State.scEvent_variant (s : State) (code : Status) (l : List Nat) : (s.scEvent code l).variant = s.variant := rfl
@[simp] theorem State.scEvent_mono (s : State) (code : Status) (l : List Nat) : (s.scEvent code l).mono = s.mono := rfl
@[simp] theorem State.scEvent_cycle (s : State) (code : Status) (l : List Nat) : (s.scEvent code l).cycle = s.cycle := rfl
@[simp] theorem State.scEvent_lifecycle (s : State) (code : Status) (l : List Nat) : (s.scEvent code l).lifecycle = s.lifecycle := rfl
@[simp] theorem State.scEvent_cores (s : State) (code : Status) (l : List Nat) : (s.scEvent code l).cores = s.cores := rfl
@[simp] theorem State.scEvent_clusters (s : State) (code : Status) (l : List Nat) : (s.scEvent code l).clusters = s.clusters := rfl
@[simp] theorem State.scEvent_expanders (s : State) (code : Status) (l : List Nat) : (s.scEvent code l).expanders = s.expanders := rfl
@[simp] theorem State.scEvent_durable (s : State) (code : Status) (l : List Nat) : (s.scEvent code l).durable = s.durable := rfl
@[simp] theorem State.scEvent_store (s : State) (code : Status) (l : List Nat) : (s.scEvent code l).store = s.store := rfl
@[simp] theorem State.scEvent_seq (s : State) (code : Status) (l : List Nat) : (s.scEvent code l).seq = s.seq := rfl
@[simp] theorem State.scEvent_raised (s : State) (code : Status) (l : List Nat) : (s.scEvent code l).raised = s.raised ++ [(16, { code := code, mono := s.mono, args := l })] := rfl
@[simp] theorem State.scEvent_samples (s : State) (code : Status) (l : List Nat) : (s.scEvent code l).samples = s.samples := rfl
@[simp] theorem State.scEvent_microcode (s : State) (code : Status) (l : List Nat) : (s.scEvent code l).microcode = s.microcode := rfl
@[simp] theorem State.scEvent_lneJobs (s : State) (code : Status) (l : List Nat) : (s.scEvent code l).lneJobs = s.lneJobs := rfl
@[simp] theorem State.scEvent_lnes (s : State) (code : Status) (l : List Nat) : (s.scEvent code l).lnes = s.lnes := rfl
@[simp] theorem State.scEvent_laneJobs (s : State) (code : Status) (l : List Nat) : (s.scEvent code l).laneJobs = s.laneJobs := rfl
@[simp] theorem State.scEvent_lanes (s : State) (code : Status) (l : List Nat) : (s.scEvent code l).lanes = s.lanes := rfl
@[simp] theorem State.scEvent_bulk (s : State) (code : Status) (l : List Nat) : (s.scEvent code l).bulk = s.bulk := rfl
@[simp] theorem State.scEvent_nextHandle (s : State) (code : Status) (l : List Nat) : (s.scEvent code l).nextHandle = s.nextHandle := rfl
@[simp] theorem State.scEvent_sysRegs (s : State) (code : Status) (l : List Nat) : (s.scEvent code l).sysRegs = s.sysRegs := rfl
@[simp] theorem State.scEvent_disp (s : State) (code : Status) (l : List Nat) : (s.scEvent code l).disp = s.disp := rfl
@[simp] theorem State.scEvent_egress (s : State) (code : Status) (l : List Nat) : (s.scEvent code l).egress = s.egress := rfl
@[simp] theorem State.scEvent_sc (s : State) (code : Status) (l : List Nat) : (s.scEvent code l).sc = s.sc := rfl
@[simp] theorem State.scEvent_rng (s : State) (code : Status) (l : List Nat) : (s.scEvent code l).rng = s.rng := rfl
@[simp] theorem State.scEvent_net (s : State) (code : Status) (l : List Nat) : (s.scEvent code l).net = s.net := rfl
@[simp] theorem State.scEvent_pair (s : State) (code : Status) (l : List Nat) : (s.scEvent code l).pair = s.pair := rfl
@[simp] theorem State.scEvent_custody (s : State) (code : Status) (l : List Nat) : (s.scEvent code l).custody = s.custody := rfl
@[simp] theorem State.scEvent_porter (s : State) (code : Status) (l : List Nat) : (s.scEvent code l).porter = s.porter := rfl
@[simp] theorem State.scEvent_plat (s : State) (code : Status) (l : List Nat) : (s.scEvent code l).plat = s.plat := rfl
@[simp] theorem State.scEvent_guest (s : State) (code : Status) (l : List Nat) : (s.scEvent code l).guest = s.guest := rfl
@[simp] theorem State.scEvent_svc (s : State) (code : Status) (l : List Nat) : (s.scEvent code l).svc = s.svc := rfl
@[simp] theorem State.scEvent_smb (s : State) (code : Status) (l : List Nat) : (s.scEvent code l).smb = s.smb := rfl

@[simp] theorem State.respond_pending (s : State) (r : Response) : (s.respond r).pending = s.pending := rfl
@[simp] theorem State.respond_freeCtr (s : State) (r : Response) : (s.respond r).freeCtr = s.freeCtr := rfl
@[simp] theorem State.respond_outputs (s : State) (r : Response) : (s.respond r).outputs = s.outputs := rfl
@[simp] theorem State.respond_variant (s : State) (r : Response) : (s.respond r).variant = s.variant := rfl
@[simp] theorem State.respond_mono (s : State) (r : Response) : (s.respond r).mono = s.mono := rfl
@[simp] theorem State.respond_cycle (s : State) (r : Response) : (s.respond r).cycle = s.cycle := rfl
@[simp] theorem State.respond_lifecycle (s : State) (r : Response) : (s.respond r).lifecycle = s.lifecycle := rfl
@[simp] theorem State.respond_cores (s : State) (r : Response) : (s.respond r).cores = s.cores := rfl
@[simp] theorem State.respond_clusters (s : State) (r : Response) : (s.respond r).clusters = s.clusters := rfl
@[simp] theorem State.respond_expanders (s : State) (r : Response) : (s.respond r).expanders = s.expanders := rfl
@[simp] theorem State.respond_durable (s : State) (r : Response) : (s.respond r).durable = s.durable := rfl
@[simp] theorem State.respond_store (s : State) (r : Response) : (s.respond r).store = s.store := rfl
@[simp] theorem State.respond_seq (s : State) (r : Response) : (s.respond r).seq = s.seq := rfl
@[simp] theorem State.respond_raised (s : State) (r : Response) : (s.respond r).raised = s.raised := rfl
@[simp] theorem State.respond_samples (s : State) (r : Response) : (s.respond r).samples = s.samples := rfl
@[simp] theorem State.respond_microcode (s : State) (r : Response) : (s.respond r).microcode = s.microcode := rfl
@[simp] theorem State.respond_lneJobs (s : State) (r : Response) : (s.respond r).lneJobs = s.lneJobs := rfl
@[simp] theorem State.respond_lnes (s : State) (r : Response) : (s.respond r).lnes = s.lnes := rfl
@[simp] theorem State.respond_laneJobs (s : State) (r : Response) : (s.respond r).laneJobs = s.laneJobs := rfl
@[simp] theorem State.respond_lanes (s : State) (r : Response) : (s.respond r).lanes = s.lanes := rfl
@[simp] theorem State.respond_bulk (s : State) (r : Response) : (s.respond r).bulk = s.bulk := rfl
@[simp] theorem State.respond_nextHandle (s : State) (r : Response) : (s.respond r).nextHandle = s.nextHandle := rfl
@[simp] theorem State.respond_sysRegs (s : State) (r : Response) : (s.respond r).sysRegs = s.sysRegs := rfl
@[simp] theorem State.respond_disp (s : State) (r : Response) : (s.respond r).disp = s.disp := rfl
@[simp] theorem State.respond_egress (s : State) (r : Response) : (s.respond r).egress = s.egress ++ [{ r with at0 := s.mono }] := rfl
@[simp] theorem State.respond_sc (s : State) (r : Response) : (s.respond r).sc = s.sc := rfl
@[simp] theorem State.respond_rng (s : State) (r : Response) : (s.respond r).rng = s.rng := rfl
@[simp] theorem State.respond_net (s : State) (r : Response) : (s.respond r).net = s.net := rfl
@[simp] theorem State.respond_pair (s : State) (r : Response) : (s.respond r).pair = s.pair := rfl
@[simp] theorem State.respond_custody (s : State) (r : Response) : (s.respond r).custody = s.custody := rfl
@[simp] theorem State.respond_porter (s : State) (r : Response) : (s.respond r).porter = s.porter := rfl
@[simp] theorem State.respond_plat (s : State) (r : Response) : (s.respond r).plat = s.plat := rfl
@[simp] theorem State.respond_guest (s : State) (r : Response) : (s.respond r).guest = s.guest := rfl
@[simp] theorem State.respond_svc (s : State) (r : Response) : (s.respond r).svc = s.svc := rfl
@[simp] theorem State.respond_smb (s : State) (r : Response) : (s.respond r).smb = s.smb := rfl

@[simp] theorem State.answer_pending (s : State) (q : Request) (st : Status) (l : Bytes) : (s.answer q st l).pending = s.pending := rfl
@[simp] theorem State.answer_freeCtr (s : State) (q : Request) (st : Status) (l : Bytes) : (s.answer q st l).freeCtr = s.freeCtr := rfl
@[simp] theorem State.answer_outputs (s : State) (q : Request) (st : Status) (l : Bytes) : (s.answer q st l).outputs = s.outputs := rfl
@[simp] theorem State.answer_variant (s : State) (q : Request) (st : Status) (l : Bytes) : (s.answer q st l).variant = s.variant := rfl
@[simp] theorem State.answer_mono (s : State) (q : Request) (st : Status) (l : Bytes) : (s.answer q st l).mono = s.mono := rfl
@[simp] theorem State.answer_cycle (s : State) (q : Request) (st : Status) (l : Bytes) : (s.answer q st l).cycle = s.cycle := rfl
@[simp] theorem State.answer_lifecycle (s : State) (q : Request) (st : Status) (l : Bytes) : (s.answer q st l).lifecycle = s.lifecycle := rfl
@[simp] theorem State.answer_cores (s : State) (q : Request) (st : Status) (l : Bytes) : (s.answer q st l).cores = s.cores := rfl
@[simp] theorem State.answer_clusters (s : State) (q : Request) (st : Status) (l : Bytes) : (s.answer q st l).clusters = s.clusters := rfl
@[simp] theorem State.answer_expanders (s : State) (q : Request) (st : Status) (l : Bytes) : (s.answer q st l).expanders = s.expanders := rfl
@[simp] theorem State.answer_durable (s : State) (q : Request) (st : Status) (l : Bytes) : (s.answer q st l).durable = s.durable := rfl
@[simp] theorem State.answer_store (s : State) (q : Request) (st : Status) (l : Bytes) : (s.answer q st l).store = s.store := rfl
@[simp] theorem State.answer_seq (s : State) (q : Request) (st : Status) (l : Bytes) : (s.answer q st l).seq = s.seq := rfl
@[simp] theorem State.answer_raised (s : State) (q : Request) (st : Status) (l : Bytes) : (s.answer q st l).raised = s.raised := rfl
@[simp] theorem State.answer_samples (s : State) (q : Request) (st : Status) (l : Bytes) : (s.answer q st l).samples = s.samples := rfl
@[simp] theorem State.answer_microcode (s : State) (q : Request) (st : Status) (l : Bytes) : (s.answer q st l).microcode = s.microcode := rfl
@[simp] theorem State.answer_lneJobs (s : State) (q : Request) (st : Status) (l : Bytes) : (s.answer q st l).lneJobs = s.lneJobs := rfl
@[simp] theorem State.answer_lnes (s : State) (q : Request) (st : Status) (l : Bytes) : (s.answer q st l).lnes = s.lnes := rfl
@[simp] theorem State.answer_laneJobs (s : State) (q : Request) (st : Status) (l : Bytes) : (s.answer q st l).laneJobs = s.laneJobs := rfl
@[simp] theorem State.answer_lanes (s : State) (q : Request) (st : Status) (l : Bytes) : (s.answer q st l).lanes = s.lanes := rfl
@[simp] theorem State.answer_bulk (s : State) (q : Request) (st : Status) (l : Bytes) : (s.answer q st l).bulk = s.bulk := rfl
@[simp] theorem State.answer_nextHandle (s : State) (q : Request) (st : Status) (l : Bytes) : (s.answer q st l).nextHandle = s.nextHandle := rfl
@[simp] theorem State.answer_sysRegs (s : State) (q : Request) (st : Status) (l : Bytes) : (s.answer q st l).sysRegs = s.sysRegs := rfl
@[simp] theorem State.answer_disp (s : State) (q : Request) (st : Status) (l : Bytes) : (s.answer q st l).disp = s.disp := rfl
@[simp] theorem State.answer_egress (s : State) (q : Request) (st : Status) (l : Bytes) : (s.answer q st l).egress = s.egress ++ [{ req := q, status := st, body := l, snapshot := q.snapshot, at0 := s.mono }] := rfl
@[simp] theorem State.answer_sc (s : State) (q : Request) (st : Status) (l : Bytes) : (s.answer q st l).sc = s.sc := rfl
@[simp] theorem State.answer_rng (s : State) (q : Request) (st : Status) (l : Bytes) : (s.answer q st l).rng = s.rng := rfl
@[simp] theorem State.answer_net (s : State) (q : Request) (st : Status) (l : Bytes) : (s.answer q st l).net = s.net := rfl
@[simp] theorem State.answer_pair (s : State) (q : Request) (st : Status) (l : Bytes) : (s.answer q st l).pair = s.pair := rfl
@[simp] theorem State.answer_custody (s : State) (q : Request) (st : Status) (l : Bytes) : (s.answer q st l).custody = s.custody := rfl
@[simp] theorem State.answer_porter (s : State) (q : Request) (st : Status) (l : Bytes) : (s.answer q st l).porter = s.porter := rfl
@[simp] theorem State.answer_plat (s : State) (q : Request) (st : Status) (l : Bytes) : (s.answer q st l).plat = s.plat := rfl
@[simp] theorem State.answer_guest (s : State) (q : Request) (st : Status) (l : Bytes) : (s.answer q st l).guest = s.guest := rfl
@[simp] theorem State.answer_svc (s : State) (q : Request) (st : Status) (l : Bytes) : (s.answer q st l).svc = s.svc := rfl
@[simp] theorem State.answer_smb (s : State) (q : Request) (st : Status) (l : Bytes) : (s.answer q st l).smb = s.smb := rfl

@[simp] theorem State.setPart_pending (s : State) (p : Nat) (r : PartRun) : (s.setPart p r).pending = s.pending := rfl
@[simp] theorem State.setPart_freeCtr (s : State) (p : Nat) (r : PartRun) : (s.setPart p r).freeCtr = s.freeCtr := rfl
@[simp] theorem State.setPart_outputs (s : State) (p : Nat) (r : PartRun) : (s.setPart p r).outputs = s.outputs := rfl
@[simp] theorem State.setPart_variant (s : State) (p : Nat) (r : PartRun) : (s.setPart p r).variant = s.variant := rfl
@[simp] theorem State.setPart_mono (s : State) (p : Nat) (r : PartRun) : (s.setPart p r).mono = s.mono := rfl
@[simp] theorem State.setPart_cycle (s : State) (p : Nat) (r : PartRun) : (s.setPart p r).cycle = s.cycle := rfl
@[simp] theorem State.setPart_lifecycle (s : State) (p : Nat) (r : PartRun) : (s.setPart p r).lifecycle = s.lifecycle := rfl
@[simp] theorem State.setPart_cores (s : State) (p : Nat) (r : PartRun) : (s.setPart p r).cores = s.cores := rfl
@[simp] theorem State.setPart_clusters (s : State) (p : Nat) (r : PartRun) : (s.setPart p r).clusters = s.clusters := rfl
@[simp] theorem State.setPart_expanders (s : State) (p : Nat) (r : PartRun) : (s.setPart p r).expanders = s.expanders := rfl
@[simp] theorem State.setPart_durable (s : State) (p : Nat) (r : PartRun) : (s.setPart p r).durable = s.durable := rfl
@[simp] theorem State.setPart_store (s : State) (p : Nat) (r : PartRun) : (s.setPart p r).store = s.store := rfl
@[simp] theorem State.setPart_seq (s : State) (p : Nat) (r : PartRun) : (s.setPart p r).seq = s.seq := rfl
@[simp] theorem State.setPart_raised (s : State) (p : Nat) (r : PartRun) : (s.setPart p r).raised = s.raised := rfl
@[simp] theorem State.setPart_samples (s : State) (p : Nat) (r : PartRun) : (s.setPart p r).samples = s.samples := rfl
@[simp] theorem State.setPart_microcode (s : State) (p : Nat) (r : PartRun) : (s.setPart p r).microcode = s.microcode := rfl
@[simp] theorem State.setPart_lneJobs (s : State) (p : Nat) (r : PartRun) : (s.setPart p r).lneJobs = s.lneJobs := rfl
@[simp] theorem State.setPart_lnes (s : State) (p : Nat) (r : PartRun) : (s.setPart p r).lnes = s.lnes := rfl
@[simp] theorem State.setPart_laneJobs (s : State) (p : Nat) (r : PartRun) : (s.setPart p r).laneJobs = s.laneJobs := rfl
@[simp] theorem State.setPart_lanes (s : State) (p : Nat) (r : PartRun) : (s.setPart p r).lanes = s.lanes := rfl
@[simp] theorem State.setPart_bulk (s : State) (p : Nat) (r : PartRun) : (s.setPart p r).bulk = s.bulk := rfl
@[simp] theorem State.setPart_nextHandle (s : State) (p : Nat) (r : PartRun) : (s.setPart p r).nextHandle = s.nextHandle := rfl
@[simp] theorem State.setPart_sysRegs (s : State) (p : Nat) (r : PartRun) : (s.setPart p r).sysRegs = s.sysRegs := rfl
@[simp] theorem State.setPart_disp (s : State) (p : Nat) (r : PartRun) : (s.setPart p r).disp = { s.disp with parts := setK p r s.disp.parts } := rfl
@[simp] theorem State.setPart_egress (s : State) (p : Nat) (r : PartRun) : (s.setPart p r).egress = s.egress := rfl
@[simp] theorem State.setPart_sc (s : State) (p : Nat) (r : PartRun) : (s.setPart p r).sc = s.sc := rfl
@[simp] theorem State.setPart_rng (s : State) (p : Nat) (r : PartRun) : (s.setPart p r).rng = s.rng := rfl
@[simp] theorem State.setPart_net (s : State) (p : Nat) (r : PartRun) : (s.setPart p r).net = s.net := rfl
@[simp] theorem State.setPart_pair (s : State) (p : Nat) (r : PartRun) : (s.setPart p r).pair = s.pair := rfl
@[simp] theorem State.setPart_custody (s : State) (p : Nat) (r : PartRun) : (s.setPart p r).custody = s.custody := rfl
@[simp] theorem State.setPart_porter (s : State) (p : Nat) (r : PartRun) : (s.setPart p r).porter = s.porter := rfl
@[simp] theorem State.setPart_plat (s : State) (p : Nat) (r : PartRun) : (s.setPart p r).plat = s.plat := rfl
@[simp] theorem State.setPart_guest (s : State) (p : Nat) (r : PartRun) : (s.setPart p r).guest = s.guest := rfl
@[simp] theorem State.setPart_svc (s : State) (p : Nat) (r : PartRun) : (s.setPart p r).svc = s.svc := rfl
@[simp] theorem State.setPart_smb (s : State) (p : Nat) (r : PartRun) : (s.setPart p r).smb = s.smb := rfl

@[simp] theorem State.setPair_pending (s : State) (f : Pair → Pair) : (s.setPair f).pending = s.pending := rfl
@[simp] theorem State.setPair_freeCtr (s : State) (f : Pair → Pair) : (s.setPair f).freeCtr = s.freeCtr := rfl
@[simp] theorem State.setPair_outputs (s : State) (f : Pair → Pair) : (s.setPair f).outputs = s.outputs := rfl
@[simp] theorem State.setPair_variant (s : State) (f : Pair → Pair) : (s.setPair f).variant = s.variant := rfl
@[simp] theorem State.setPair_mono (s : State) (f : Pair → Pair) : (s.setPair f).mono = s.mono := rfl
@[simp] theorem State.setPair_cycle (s : State) (f : Pair → Pair) : (s.setPair f).cycle = s.cycle := rfl
@[simp] theorem State.setPair_lifecycle (s : State) (f : Pair → Pair) : (s.setPair f).lifecycle = s.lifecycle := rfl
@[simp] theorem State.setPair_cores (s : State) (f : Pair → Pair) : (s.setPair f).cores = s.cores := rfl
@[simp] theorem State.setPair_clusters (s : State) (f : Pair → Pair) : (s.setPair f).clusters = s.clusters := rfl
@[simp] theorem State.setPair_expanders (s : State) (f : Pair → Pair) : (s.setPair f).expanders = s.expanders := rfl
@[simp] theorem State.setPair_durable (s : State) (f : Pair → Pair) : (s.setPair f).durable = s.durable := rfl
@[simp] theorem State.setPair_store (s : State) (f : Pair → Pair) : (s.setPair f).store = s.store := rfl
@[simp] theorem State.setPair_seq (s : State) (f : Pair → Pair) : (s.setPair f).seq = s.seq := rfl
@[simp] theorem State.setPair_raised (s : State) (f : Pair → Pair) : (s.setPair f).raised = s.raised := rfl
@[simp] theorem State.setPair_samples (s : State) (f : Pair → Pair) : (s.setPair f).samples = s.samples := rfl
@[simp] theorem State.setPair_microcode (s : State) (f : Pair → Pair) : (s.setPair f).microcode = s.microcode := rfl
@[simp] theorem State.setPair_lneJobs (s : State) (f : Pair → Pair) : (s.setPair f).lneJobs = s.lneJobs := rfl
@[simp] theorem State.setPair_lnes (s : State) (f : Pair → Pair) : (s.setPair f).lnes = s.lnes := rfl
@[simp] theorem State.setPair_laneJobs (s : State) (f : Pair → Pair) : (s.setPair f).laneJobs = s.laneJobs := rfl
@[simp] theorem State.setPair_lanes (s : State) (f : Pair → Pair) : (s.setPair f).lanes = s.lanes := rfl
@[simp] theorem State.setPair_bulk (s : State) (f : Pair → Pair) : (s.setPair f).bulk = s.bulk := rfl
@[simp] theorem State.setPair_nextHandle (s : State) (f : Pair → Pair) : (s.setPair f).nextHandle = s.nextHandle := rfl
@[simp] theorem State.setPair_sysRegs (s : State) (f : Pair → Pair) : (s.setPair f).sysRegs = s.sysRegs := rfl
@[simp] theorem State.setPair_disp (s : State) (f : Pair → Pair) : (s.setPair f).disp = s.disp := rfl
@[simp] theorem State.setPair_egress (s : State) (f : Pair → Pair) : (s.setPair f).egress = s.egress := rfl
@[simp] theorem State.setPair_sc (s : State) (f : Pair → Pair) : (s.setPair f).sc = s.sc := rfl
@[simp] theorem State.setPair_rng (s : State) (f : Pair → Pair) : (s.setPair f).rng = s.rng := rfl
@[simp] theorem State.setPair_net (s : State) (f : Pair → Pair) : (s.setPair f).net = s.net := rfl
@[simp] theorem State.setPair_pair (s : State) (f : Pair → Pair) : (s.setPair f).pair = f s.pair := rfl
@[simp] theorem State.setPair_custody (s : State) (f : Pair → Pair) : (s.setPair f).custody = s.custody := rfl
@[simp] theorem State.setPair_porter (s : State) (f : Pair → Pair) : (s.setPair f).porter = s.porter := rfl
@[simp] theorem State.setPair_plat (s : State) (f : Pair → Pair) : (s.setPair f).plat = s.plat := rfl
@[simp] theorem State.setPair_guest (s : State) (f : Pair → Pair) : (s.setPair f).guest = s.guest := rfl
@[simp] theorem State.setPair_svc (s : State) (f : Pair → Pair) : (s.setPair f).svc = s.svc := rfl
@[simp] theorem State.setPair_smb (s : State) (f : Pair → Pair) : (s.setPair f).smb = s.smb := rfl

@[simp] theorem State.setPlat_pending (s : State) (f : Platform → Platform) : (s.setPlat f).pending = s.pending := rfl
@[simp] theorem State.setPlat_freeCtr (s : State) (f : Platform → Platform) : (s.setPlat f).freeCtr = s.freeCtr := rfl
@[simp] theorem State.setPlat_outputs (s : State) (f : Platform → Platform) : (s.setPlat f).outputs = s.outputs := rfl
@[simp] theorem State.setPlat_variant (s : State) (f : Platform → Platform) : (s.setPlat f).variant = s.variant := rfl
@[simp] theorem State.setPlat_mono (s : State) (f : Platform → Platform) : (s.setPlat f).mono = s.mono := rfl
@[simp] theorem State.setPlat_cycle (s : State) (f : Platform → Platform) : (s.setPlat f).cycle = s.cycle := rfl
@[simp] theorem State.setPlat_lifecycle (s : State) (f : Platform → Platform) : (s.setPlat f).lifecycle = s.lifecycle := rfl
@[simp] theorem State.setPlat_cores (s : State) (f : Platform → Platform) : (s.setPlat f).cores = s.cores := rfl
@[simp] theorem State.setPlat_clusters (s : State) (f : Platform → Platform) : (s.setPlat f).clusters = s.clusters := rfl
@[simp] theorem State.setPlat_expanders (s : State) (f : Platform → Platform) : (s.setPlat f).expanders = s.expanders := rfl
@[simp] theorem State.setPlat_durable (s : State) (f : Platform → Platform) : (s.setPlat f).durable = s.durable := rfl
@[simp] theorem State.setPlat_store (s : State) (f : Platform → Platform) : (s.setPlat f).store = s.store := rfl
@[simp] theorem State.setPlat_seq (s : State) (f : Platform → Platform) : (s.setPlat f).seq = s.seq := rfl
@[simp] theorem State.setPlat_raised (s : State) (f : Platform → Platform) : (s.setPlat f).raised = s.raised := rfl
@[simp] theorem State.setPlat_samples (s : State) (f : Platform → Platform) : (s.setPlat f).samples = s.samples := rfl
@[simp] theorem State.setPlat_microcode (s : State) (f : Platform → Platform) : (s.setPlat f).microcode = s.microcode := rfl
@[simp] theorem State.setPlat_lneJobs (s : State) (f : Platform → Platform) : (s.setPlat f).lneJobs = s.lneJobs := rfl
@[simp] theorem State.setPlat_lnes (s : State) (f : Platform → Platform) : (s.setPlat f).lnes = s.lnes := rfl
@[simp] theorem State.setPlat_laneJobs (s : State) (f : Platform → Platform) : (s.setPlat f).laneJobs = s.laneJobs := rfl
@[simp] theorem State.setPlat_lanes (s : State) (f : Platform → Platform) : (s.setPlat f).lanes = s.lanes := rfl
@[simp] theorem State.setPlat_bulk (s : State) (f : Platform → Platform) : (s.setPlat f).bulk = s.bulk := rfl
@[simp] theorem State.setPlat_nextHandle (s : State) (f : Platform → Platform) : (s.setPlat f).nextHandle = s.nextHandle := rfl
@[simp] theorem State.setPlat_sysRegs (s : State) (f : Platform → Platform) : (s.setPlat f).sysRegs = s.sysRegs := rfl
@[simp] theorem State.setPlat_disp (s : State) (f : Platform → Platform) : (s.setPlat f).disp = s.disp := rfl
@[simp] theorem State.setPlat_egress (s : State) (f : Platform → Platform) : (s.setPlat f).egress = s.egress := rfl
@[simp] theorem State.setPlat_sc (s : State) (f : Platform → Platform) : (s.setPlat f).sc = s.sc := rfl
@[simp] theorem State.setPlat_rng (s : State) (f : Platform → Platform) : (s.setPlat f).rng = s.rng := rfl
@[simp] theorem State.setPlat_net (s : State) (f : Platform → Platform) : (s.setPlat f).net = s.net := rfl
@[simp] theorem State.setPlat_pair (s : State) (f : Platform → Platform) : (s.setPlat f).pair = s.pair := rfl
@[simp] theorem State.setPlat_custody (s : State) (f : Platform → Platform) : (s.setPlat f).custody = s.custody := rfl
@[simp] theorem State.setPlat_porter (s : State) (f : Platform → Platform) : (s.setPlat f).porter = s.porter := rfl
@[simp] theorem State.setPlat_plat (s : State) (f : Platform → Platform) : (s.setPlat f).plat = f s.plat := rfl
@[simp] theorem State.setPlat_guest (s : State) (f : Platform → Platform) : (s.setPlat f).guest = s.guest := rfl
@[simp] theorem State.setPlat_svc (s : State) (f : Platform → Platform) : (s.setPlat f).svc = s.svc := rfl
@[simp] theorem State.setPlat_smb (s : State) (f : Platform → Platform) : (s.setPlat f).smb = s.smb := rfl

@[simp] theorem State.emit_pending (s : State) (o : Output) : (s.emit o).pending = s.pending := rfl
@[simp] theorem State.emit_freeCtr (s : State) (o : Output) : (s.emit o).freeCtr = s.freeCtr := rfl
@[simp] theorem State.emit_outputs (s : State) (o : Output) : (s.emit o).outputs = o :: s.outputs := rfl
@[simp] theorem State.emit_variant (s : State) (o : Output) : (s.emit o).variant = s.variant := rfl
@[simp] theorem State.emit_mono (s : State) (o : Output) : (s.emit o).mono = s.mono := rfl
@[simp] theorem State.emit_cycle (s : State) (o : Output) : (s.emit o).cycle = s.cycle := rfl
@[simp] theorem State.emit_lifecycle (s : State) (o : Output) : (s.emit o).lifecycle = s.lifecycle := rfl
@[simp] theorem State.emit_cores (s : State) (o : Output) : (s.emit o).cores = s.cores := rfl
@[simp] theorem State.emit_clusters (s : State) (o : Output) : (s.emit o).clusters = s.clusters := rfl
@[simp] theorem State.emit_expanders (s : State) (o : Output) : (s.emit o).expanders = s.expanders := rfl
@[simp] theorem State.emit_durable (s : State) (o : Output) : (s.emit o).durable = s.durable := rfl
@[simp] theorem State.emit_store (s : State) (o : Output) : (s.emit o).store = s.store := rfl
@[simp] theorem State.emit_seq (s : State) (o : Output) : (s.emit o).seq = s.seq := rfl
@[simp] theorem State.emit_raised (s : State) (o : Output) : (s.emit o).raised = s.raised := rfl
@[simp] theorem State.emit_samples (s : State) (o : Output) : (s.emit o).samples = s.samples := rfl
@[simp] theorem State.emit_microcode (s : State) (o : Output) : (s.emit o).microcode = s.microcode := rfl
@[simp] theorem State.emit_lneJobs (s : State) (o : Output) : (s.emit o).lneJobs = s.lneJobs := rfl
@[simp] theorem State.emit_lnes (s : State) (o : Output) : (s.emit o).lnes = s.lnes := rfl
@[simp] theorem State.emit_laneJobs (s : State) (o : Output) : (s.emit o).laneJobs = s.laneJobs := rfl
@[simp] theorem State.emit_lanes (s : State) (o : Output) : (s.emit o).lanes = s.lanes := rfl
@[simp] theorem State.emit_bulk (s : State) (o : Output) : (s.emit o).bulk = s.bulk := rfl
@[simp] theorem State.emit_nextHandle (s : State) (o : Output) : (s.emit o).nextHandle = s.nextHandle := rfl
@[simp] theorem State.emit_sysRegs (s : State) (o : Output) : (s.emit o).sysRegs = s.sysRegs := rfl
@[simp] theorem State.emit_disp (s : State) (o : Output) : (s.emit o).disp = s.disp := rfl
@[simp] theorem State.emit_egress (s : State) (o : Output) : (s.emit o).egress = s.egress := rfl
@[simp] theorem State.emit_sc (s : State) (o : Output) : (s.emit o).sc = s.sc := rfl
@[simp] theorem State.emit_rng (s : State) (o : Output) : (s.emit o).rng = s.rng := rfl
@[simp] theorem State.emit_net (s : State) (o : Output) : (s.emit o).net = s.net := rfl
@[simp] theorem State.emit_pair (s : State) (o : Output) : (s.emit o).pair = s.pair := rfl
@[simp] theorem State.emit_custody (s : State) (o : Output) : (s.emit o).custody = s.custody := rfl
@[simp] theorem State.emit_porter (s : State) (o : Output) : (s.emit o).porter = s.porter := rfl
@[simp] theorem State.emit_plat (s : State) (o : Output) : (s.emit o).plat = s.plat := rfl
@[simp] theorem State.emit_guest (s : State) (o : Output) : (s.emit o).guest = s.guest := rfl
@[simp] theorem State.emit_svc (s : State) (o : Output) : (s.emit o).svc = s.svc := rfl
@[simp] theorem State.emit_smb (s : State) (o : Output) : (s.emit o).smb = s.smb := rfl

@[simp] theorem State.updLneJob_pending (s : State) (n : Nat) (f : LneJob → LneJob) : (s.updLneJob n f).pending = s.pending := rfl
@[simp] theorem State.updLneJob_freeCtr (s : State) (n : Nat) (f : LneJob → LneJob) : (s.updLneJob n f).freeCtr = s.freeCtr := rfl
@[simp] theorem State.updLneJob_outputs (s : State) (n : Nat) (f : LneJob → LneJob) : (s.updLneJob n f).outputs = s.outputs := rfl
@[simp] theorem State.updLneJob_variant (s : State) (n : Nat) (f : LneJob → LneJob) : (s.updLneJob n f).variant = s.variant := rfl
@[simp] theorem State.updLneJob_mono (s : State) (n : Nat) (f : LneJob → LneJob) : (s.updLneJob n f).mono = s.mono := rfl
@[simp] theorem State.updLneJob_cycle (s : State) (n : Nat) (f : LneJob → LneJob) : (s.updLneJob n f).cycle = s.cycle := rfl
@[simp] theorem State.updLneJob_lifecycle (s : State) (n : Nat) (f : LneJob → LneJob) : (s.updLneJob n f).lifecycle = s.lifecycle := rfl
@[simp] theorem State.updLneJob_cores (s : State) (n : Nat) (f : LneJob → LneJob) : (s.updLneJob n f).cores = s.cores := rfl
@[simp] theorem State.updLneJob_clusters (s : State) (n : Nat) (f : LneJob → LneJob) : (s.updLneJob n f).clusters = s.clusters := rfl
@[simp] theorem State.updLneJob_expanders (s : State) (n : Nat) (f : LneJob → LneJob) : (s.updLneJob n f).expanders = s.expanders := rfl
@[simp] theorem State.updLneJob_durable (s : State) (n : Nat) (f : LneJob → LneJob) : (s.updLneJob n f).durable = s.durable := rfl
@[simp] theorem State.updLneJob_store (s : State) (n : Nat) (f : LneJob → LneJob) : (s.updLneJob n f).store = s.store := rfl
@[simp] theorem State.updLneJob_seq (s : State) (n : Nat) (f : LneJob → LneJob) : (s.updLneJob n f).seq = s.seq := rfl
@[simp] theorem State.updLneJob_raised (s : State) (n : Nat) (f : LneJob → LneJob) : (s.updLneJob n f).raised = s.raised := rfl
@[simp] theorem State.updLneJob_samples (s : State) (n : Nat) (f : LneJob → LneJob) : (s.updLneJob n f).samples = s.samples := rfl
@[simp] theorem State.updLneJob_microcode (s : State) (n : Nat) (f : LneJob → LneJob) : (s.updLneJob n f).microcode = s.microcode := rfl
@[simp] theorem State.updLneJob_lneJobs (s : State) (n : Nat) (f : LneJob → LneJob) : (s.updLneJob n f).lneJobs = s.lneJobs.map fun j => if j.handle = n then f j else j := rfl
@[simp] theorem State.updLneJob_lnes (s : State) (n : Nat) (f : LneJob → LneJob) : (s.updLneJob n f).lnes = s.lnes := rfl
@[simp] theorem State.updLneJob_laneJobs (s : State) (n : Nat) (f : LneJob → LneJob) : (s.updLneJob n f).laneJobs = s.laneJobs := rfl
@[simp] theorem State.updLneJob_lanes (s : State) (n : Nat) (f : LneJob → LneJob) : (s.updLneJob n f).lanes = s.lanes := rfl
@[simp] theorem State.updLneJob_bulk (s : State) (n : Nat) (f : LneJob → LneJob) : (s.updLneJob n f).bulk = s.bulk := rfl
@[simp] theorem State.updLneJob_nextHandle (s : State) (n : Nat) (f : LneJob → LneJob) : (s.updLneJob n f).nextHandle = s.nextHandle := rfl
@[simp] theorem State.updLneJob_sysRegs (s : State) (n : Nat) (f : LneJob → LneJob) : (s.updLneJob n f).sysRegs = s.sysRegs := rfl
@[simp] theorem State.updLneJob_disp (s : State) (n : Nat) (f : LneJob → LneJob) : (s.updLneJob n f).disp = s.disp := rfl
@[simp] theorem State.updLneJob_egress (s : State) (n : Nat) (f : LneJob → LneJob) : (s.updLneJob n f).egress = s.egress := rfl
@[simp] theorem State.updLneJob_sc (s : State) (n : Nat) (f : LneJob → LneJob) : (s.updLneJob n f).sc = s.sc := rfl
@[simp] theorem State.updLneJob_rng (s : State) (n : Nat) (f : LneJob → LneJob) : (s.updLneJob n f).rng = s.rng := rfl
@[simp] theorem State.updLneJob_net (s : State) (n : Nat) (f : LneJob → LneJob) : (s.updLneJob n f).net = s.net := rfl
@[simp] theorem State.updLneJob_pair (s : State) (n : Nat) (f : LneJob → LneJob) : (s.updLneJob n f).pair = s.pair := rfl
@[simp] theorem State.updLneJob_custody (s : State) (n : Nat) (f : LneJob → LneJob) : (s.updLneJob n f).custody = s.custody := rfl
@[simp] theorem State.updLneJob_porter (s : State) (n : Nat) (f : LneJob → LneJob) : (s.updLneJob n f).porter = s.porter := rfl
@[simp] theorem State.updLneJob_plat (s : State) (n : Nat) (f : LneJob → LneJob) : (s.updLneJob n f).plat = s.plat := rfl
@[simp] theorem State.updLneJob_guest (s : State) (n : Nat) (f : LneJob → LneJob) : (s.updLneJob n f).guest = s.guest := rfl
@[simp] theorem State.updLneJob_svc (s : State) (n : Nat) (f : LneJob → LneJob) : (s.updLneJob n f).svc = s.svc := rfl
@[simp] theorem State.updLneJob_smb (s : State) (n : Nat) (f : LneJob → LneJob) : (s.updLneJob n f).smb = s.smb := rfl

@[simp] theorem State.updLaneJob_pending (s : State) (n : Nat) (f : LaneJob → LaneJob) : (s.updLaneJob n f).pending = s.pending := rfl
@[simp] theorem State.updLaneJob_freeCtr (s : State) (n : Nat) (f : LaneJob → LaneJob) : (s.updLaneJob n f).freeCtr = s.freeCtr := rfl
@[simp] theorem State.updLaneJob_outputs (s : State) (n : Nat) (f : LaneJob → LaneJob) : (s.updLaneJob n f).outputs = s.outputs := rfl
@[simp] theorem State.updLaneJob_variant (s : State) (n : Nat) (f : LaneJob → LaneJob) : (s.updLaneJob n f).variant = s.variant := rfl
@[simp] theorem State.updLaneJob_mono (s : State) (n : Nat) (f : LaneJob → LaneJob) : (s.updLaneJob n f).mono = s.mono := rfl
@[simp] theorem State.updLaneJob_cycle (s : State) (n : Nat) (f : LaneJob → LaneJob) : (s.updLaneJob n f).cycle = s.cycle := rfl
@[simp] theorem State.updLaneJob_lifecycle (s : State) (n : Nat) (f : LaneJob → LaneJob) : (s.updLaneJob n f).lifecycle = s.lifecycle := rfl
@[simp] theorem State.updLaneJob_cores (s : State) (n : Nat) (f : LaneJob → LaneJob) : (s.updLaneJob n f).cores = s.cores := rfl
@[simp] theorem State.updLaneJob_clusters (s : State) (n : Nat) (f : LaneJob → LaneJob) : (s.updLaneJob n f).clusters = s.clusters := rfl
@[simp] theorem State.updLaneJob_expanders (s : State) (n : Nat) (f : LaneJob → LaneJob) : (s.updLaneJob n f).expanders = s.expanders := rfl
@[simp] theorem State.updLaneJob_durable (s : State) (n : Nat) (f : LaneJob → LaneJob) : (s.updLaneJob n f).durable = s.durable := rfl
@[simp] theorem State.updLaneJob_store (s : State) (n : Nat) (f : LaneJob → LaneJob) : (s.updLaneJob n f).store = s.store := rfl
@[simp] theorem State.updLaneJob_seq (s : State) (n : Nat) (f : LaneJob → LaneJob) : (s.updLaneJob n f).seq = s.seq := rfl
@[simp] theorem State.updLaneJob_raised (s : State) (n : Nat) (f : LaneJob → LaneJob) : (s.updLaneJob n f).raised = s.raised := rfl
@[simp] theorem State.updLaneJob_samples (s : State) (n : Nat) (f : LaneJob → LaneJob) : (s.updLaneJob n f).samples = s.samples := rfl
@[simp] theorem State.updLaneJob_microcode (s : State) (n : Nat) (f : LaneJob → LaneJob) : (s.updLaneJob n f).microcode = s.microcode := rfl
@[simp] theorem State.updLaneJob_lneJobs (s : State) (n : Nat) (f : LaneJob → LaneJob) : (s.updLaneJob n f).lneJobs = s.lneJobs := rfl
@[simp] theorem State.updLaneJob_lnes (s : State) (n : Nat) (f : LaneJob → LaneJob) : (s.updLaneJob n f).lnes = s.lnes := rfl
@[simp] theorem State.updLaneJob_laneJobs (s : State) (n : Nat) (f : LaneJob → LaneJob) : (s.updLaneJob n f).laneJobs = s.laneJobs.map fun j => if j.handle = n then f j else j := rfl
@[simp] theorem State.updLaneJob_lanes (s : State) (n : Nat) (f : LaneJob → LaneJob) : (s.updLaneJob n f).lanes = s.lanes := rfl
@[simp] theorem State.updLaneJob_bulk (s : State) (n : Nat) (f : LaneJob → LaneJob) : (s.updLaneJob n f).bulk = s.bulk := rfl
@[simp] theorem State.updLaneJob_nextHandle (s : State) (n : Nat) (f : LaneJob → LaneJob) : (s.updLaneJob n f).nextHandle = s.nextHandle := rfl
@[simp] theorem State.updLaneJob_sysRegs (s : State) (n : Nat) (f : LaneJob → LaneJob) : (s.updLaneJob n f).sysRegs = s.sysRegs := rfl
@[simp] theorem State.updLaneJob_disp (s : State) (n : Nat) (f : LaneJob → LaneJob) : (s.updLaneJob n f).disp = s.disp := rfl
@[simp] theorem State.updLaneJob_egress (s : State) (n : Nat) (f : LaneJob → LaneJob) : (s.updLaneJob n f).egress = s.egress := rfl
@[simp] theorem State.updLaneJob_sc (s : State) (n : Nat) (f : LaneJob → LaneJob) : (s.updLaneJob n f).sc = s.sc := rfl
@[simp] theorem State.updLaneJob_rng (s : State) (n : Nat) (f : LaneJob → LaneJob) : (s.updLaneJob n f).rng = s.rng := rfl
@[simp] theorem State.updLaneJob_net (s : State) (n : Nat) (f : LaneJob → LaneJob) : (s.updLaneJob n f).net = s.net := rfl
@[simp] theorem State.updLaneJob_pair (s : State) (n : Nat) (f : LaneJob → LaneJob) : (s.updLaneJob n f).pair = s.pair := rfl
@[simp] theorem State.updLaneJob_custody (s : State) (n : Nat) (f : LaneJob → LaneJob) : (s.updLaneJob n f).custody = s.custody := rfl
@[simp] theorem State.updLaneJob_porter (s : State) (n : Nat) (f : LaneJob → LaneJob) : (s.updLaneJob n f).porter = s.porter := rfl
@[simp] theorem State.updLaneJob_plat (s : State) (n : Nat) (f : LaneJob → LaneJob) : (s.updLaneJob n f).plat = s.plat := rfl
@[simp] theorem State.updLaneJob_guest (s : State) (n : Nat) (f : LaneJob → LaneJob) : (s.updLaneJob n f).guest = s.guest := rfl
@[simp] theorem State.updLaneJob_svc (s : State) (n : Nat) (f : LaneJob → LaneJob) : (s.updLaneJob n f).svc = s.svc := rfl
@[simp] theorem State.updLaneJob_smb (s : State) (n : Nat) (f : LaneJob → LaneJob) : (s.updLaneJob n f).smb = s.smb := rfl

@[simp] theorem State.setLane_pending (s : State) (n : Nat) (l : Lane) : (s.setLane n l).pending = s.pending := rfl
@[simp] theorem State.setLane_freeCtr (s : State) (n : Nat) (l : Lane) : (s.setLane n l).freeCtr = s.freeCtr := rfl
@[simp] theorem State.setLane_outputs (s : State) (n : Nat) (l : Lane) : (s.setLane n l).outputs = s.outputs := rfl
@[simp] theorem State.setLane_variant (s : State) (n : Nat) (l : Lane) : (s.setLane n l).variant = s.variant := rfl
@[simp] theorem State.setLane_mono (s : State) (n : Nat) (l : Lane) : (s.setLane n l).mono = s.mono := rfl
@[simp] theorem State.setLane_cycle (s : State) (n : Nat) (l : Lane) : (s.setLane n l).cycle = s.cycle := rfl
@[simp] theorem State.setLane_lifecycle (s : State) (n : Nat) (l : Lane) : (s.setLane n l).lifecycle = s.lifecycle := rfl
@[simp] theorem State.setLane_cores (s : State) (n : Nat) (l : Lane) : (s.setLane n l).cores = s.cores := rfl
@[simp] theorem State.setLane_clusters (s : State) (n : Nat) (l : Lane) : (s.setLane n l).clusters = s.clusters := rfl
@[simp] theorem State.setLane_expanders (s : State) (n : Nat) (l : Lane) : (s.setLane n l).expanders = s.expanders := rfl
@[simp] theorem State.setLane_durable (s : State) (n : Nat) (l : Lane) : (s.setLane n l).durable = s.durable := rfl
@[simp] theorem State.setLane_store (s : State) (n : Nat) (l : Lane) : (s.setLane n l).store = s.store := rfl
@[simp] theorem State.setLane_seq (s : State) (n : Nat) (l : Lane) : (s.setLane n l).seq = s.seq := rfl
@[simp] theorem State.setLane_raised (s : State) (n : Nat) (l : Lane) : (s.setLane n l).raised = s.raised := rfl
@[simp] theorem State.setLane_samples (s : State) (n : Nat) (l : Lane) : (s.setLane n l).samples = s.samples := rfl
@[simp] theorem State.setLane_microcode (s : State) (n : Nat) (l : Lane) : (s.setLane n l).microcode = s.microcode := rfl
@[simp] theorem State.setLane_lneJobs (s : State) (n : Nat) (l : Lane) : (s.setLane n l).lneJobs = s.lneJobs := rfl
@[simp] theorem State.setLane_lnes (s : State) (n : Nat) (l : Lane) : (s.setLane n l).lnes = s.lnes := rfl
@[simp] theorem State.setLane_laneJobs (s : State) (n : Nat) (l : Lane) : (s.setLane n l).laneJobs = s.laneJobs := rfl
@[simp] theorem State.setLane_lanes (s : State) (n : Nat) (l : Lane) : (s.setLane n l).lanes = setK n l s.lanes := rfl
@[simp] theorem State.setLane_bulk (s : State) (n : Nat) (l : Lane) : (s.setLane n l).bulk = s.bulk := rfl
@[simp] theorem State.setLane_nextHandle (s : State) (n : Nat) (l : Lane) : (s.setLane n l).nextHandle = s.nextHandle := rfl
@[simp] theorem State.setLane_sysRegs (s : State) (n : Nat) (l : Lane) : (s.setLane n l).sysRegs = s.sysRegs := rfl
@[simp] theorem State.setLane_disp (s : State) (n : Nat) (l : Lane) : (s.setLane n l).disp = s.disp := rfl
@[simp] theorem State.setLane_egress (s : State) (n : Nat) (l : Lane) : (s.setLane n l).egress = s.egress := rfl
@[simp] theorem State.setLane_sc (s : State) (n : Nat) (l : Lane) : (s.setLane n l).sc = s.sc := rfl
@[simp] theorem State.setLane_rng (s : State) (n : Nat) (l : Lane) : (s.setLane n l).rng = s.rng := rfl
@[simp] theorem State.setLane_net (s : State) (n : Nat) (l : Lane) : (s.setLane n l).net = s.net := rfl
@[simp] theorem State.setLane_pair (s : State) (n : Nat) (l : Lane) : (s.setLane n l).pair = s.pair := rfl
@[simp] theorem State.setLane_custody (s : State) (n : Nat) (l : Lane) : (s.setLane n l).custody = s.custody := rfl
@[simp] theorem State.setLane_porter (s : State) (n : Nat) (l : Lane) : (s.setLane n l).porter = s.porter := rfl
@[simp] theorem State.setLane_plat (s : State) (n : Nat) (l : Lane) : (s.setLane n l).plat = s.plat := rfl
@[simp] theorem State.setLane_guest (s : State) (n : Nat) (l : Lane) : (s.setLane n l).guest = s.guest := rfl
@[simp] theorem State.setLane_svc (s : State) (n : Nat) (l : Lane) : (s.setLane n l).svc = s.svc := rfl
@[simp] theorem State.setLane_smb (s : State) (n : Nat) (l : Lane) : (s.setLane n l).smb = s.smb := rfl

@[simp] theorem State.setFifo_pending (s : State) (n : Nat) (f : TapFifo) : (s.setFifo n f).pending = s.pending := rfl
@[simp] theorem State.setFifo_freeCtr (s : State) (n : Nat) (f : TapFifo) : (s.setFifo n f).freeCtr = s.freeCtr := rfl
@[simp] theorem State.setFifo_outputs (s : State) (n : Nat) (f : TapFifo) : (s.setFifo n f).outputs = s.outputs := rfl
@[simp] theorem State.setFifo_variant (s : State) (n : Nat) (f : TapFifo) : (s.setFifo n f).variant = s.variant := rfl
@[simp] theorem State.setFifo_mono (s : State) (n : Nat) (f : TapFifo) : (s.setFifo n f).mono = s.mono := rfl
@[simp] theorem State.setFifo_cycle (s : State) (n : Nat) (f : TapFifo) : (s.setFifo n f).cycle = s.cycle := rfl
@[simp] theorem State.setFifo_lifecycle (s : State) (n : Nat) (f : TapFifo) : (s.setFifo n f).lifecycle = s.lifecycle := rfl
@[simp] theorem State.setFifo_cores (s : State) (n : Nat) (f : TapFifo) : (s.setFifo n f).cores = s.cores := rfl
@[simp] theorem State.setFifo_clusters (s : State) (n : Nat) (f : TapFifo) : (s.setFifo n f).clusters = s.clusters := rfl
@[simp] theorem State.setFifo_expanders (s : State) (n : Nat) (f : TapFifo) : (s.setFifo n f).expanders = s.expanders := rfl
@[simp] theorem State.setFifo_durable (s : State) (n : Nat) (f : TapFifo) : (s.setFifo n f).durable = s.durable := rfl
@[simp] theorem State.setFifo_store (s : State) (n : Nat) (f : TapFifo) : (s.setFifo n f).store = s.store := rfl
@[simp] theorem State.setFifo_seq (s : State) (n : Nat) (f : TapFifo) : (s.setFifo n f).seq = s.seq := rfl
@[simp] theorem State.setFifo_raised (s : State) (n : Nat) (f : TapFifo) : (s.setFifo n f).raised = s.raised := rfl
@[simp] theorem State.setFifo_samples (s : State) (n : Nat) (f : TapFifo) : (s.setFifo n f).samples = s.samples := rfl
@[simp] theorem State.setFifo_microcode (s : State) (n : Nat) (f : TapFifo) : (s.setFifo n f).microcode = s.microcode := rfl
@[simp] theorem State.setFifo_lneJobs (s : State) (n : Nat) (f : TapFifo) : (s.setFifo n f).lneJobs = s.lneJobs := rfl
@[simp] theorem State.setFifo_lnes (s : State) (n : Nat) (f : TapFifo) : (s.setFifo n f).lnes = s.lnes := rfl
@[simp] theorem State.setFifo_laneJobs (s : State) (n : Nat) (f : TapFifo) : (s.setFifo n f).laneJobs = s.laneJobs := rfl
@[simp] theorem State.setFifo_lanes (s : State) (n : Nat) (f : TapFifo) : (s.setFifo n f).lanes = s.lanes := rfl
@[simp] theorem State.setFifo_bulk (s : State) (n : Nat) (f : TapFifo) : (s.setFifo n f).bulk = s.bulk := rfl
@[simp] theorem State.setFifo_nextHandle (s : State) (n : Nat) (f : TapFifo) : (s.setFifo n f).nextHandle = s.nextHandle := rfl
@[simp] theorem State.setFifo_sysRegs (s : State) (n : Nat) (f : TapFifo) : (s.setFifo n f).sysRegs = s.sysRegs := rfl
@[simp] theorem State.setFifo_disp (s : State) (n : Nat) (f : TapFifo) : (s.setFifo n f).disp = s.disp := rfl
@[simp] theorem State.setFifo_egress (s : State) (n : Nat) (f : TapFifo) : (s.setFifo n f).egress = s.egress := rfl
@[simp] theorem State.setFifo_sc (s : State) (n : Nat) (f : TapFifo) : (s.setFifo n f).sc = s.sc := rfl
@[simp] theorem State.setFifo_rng (s : State) (n : Nat) (f : TapFifo) : (s.setFifo n f).rng = s.rng := rfl
@[simp] theorem State.setFifo_net (s : State) (n : Nat) (f : TapFifo) : (s.setFifo n f).net = s.net := rfl
@[simp] theorem State.setFifo_pair (s : State) (n : Nat) (f : TapFifo) : (s.setFifo n f).pair = s.pair := rfl
@[simp] theorem State.setFifo_custody (s : State) (n : Nat) (f : TapFifo) : (s.setFifo n f).custody = s.custody := rfl
@[simp] theorem State.setFifo_porter (s : State) (n : Nat) (f : TapFifo) : (s.setFifo n f).porter = s.porter := rfl
@[simp] theorem State.setFifo_plat (s : State) (n : Nat) (f : TapFifo) : (s.setFifo n f).plat = s.plat := rfl
@[simp] theorem State.setFifo_guest (s : State) (n : Nat) (f : TapFifo) : (s.setFifo n f).guest = { s.guest with fifos := setK n f s.guest.fifos } := rfl
@[simp] theorem State.setFifo_svc (s : State) (n : Nat) (f : TapFifo) : (s.setFifo n f).svc = s.svc := rfl
@[simp] theorem State.setFifo_smb (s : State) (n : Nat) (f : TapFifo) : (s.setFifo n f).smb = s.smb := rfl

@[simp] theorem State.setWindow_pending (s : State) (w : Window) : (s.setWindow w).pending = s.pending := rfl
@[simp] theorem State.setWindow_freeCtr (s : State) (w : Window) : (s.setWindow w).freeCtr = s.freeCtr := rfl
@[simp] theorem State.setWindow_outputs (s : State) (w : Window) : (s.setWindow w).outputs = s.outputs := rfl
@[simp] theorem State.setWindow_variant (s : State) (w : Window) : (s.setWindow w).variant = s.variant := rfl
@[simp] theorem State.setWindow_mono (s : State) (w : Window) : (s.setWindow w).mono = s.mono := rfl
@[simp] theorem State.setWindow_cycle (s : State) (w : Window) : (s.setWindow w).cycle = s.cycle := rfl
@[simp] theorem State.setWindow_lifecycle (s : State) (w : Window) : (s.setWindow w).lifecycle = s.lifecycle := rfl
@[simp] theorem State.setWindow_cores (s : State) (w : Window) : (s.setWindow w).cores = s.cores := rfl
@[simp] theorem State.setWindow_clusters (s : State) (w : Window) : (s.setWindow w).clusters = s.clusters := rfl
@[simp] theorem State.setWindow_expanders (s : State) (w : Window) : (s.setWindow w).expanders = s.expanders := rfl
@[simp] theorem State.setWindow_durable (s : State) (w : Window) : (s.setWindow w).durable = s.durable := rfl
@[simp] theorem State.setWindow_store (s : State) (w : Window) : (s.setWindow w).store = s.store := rfl
@[simp] theorem State.setWindow_seq (s : State) (w : Window) : (s.setWindow w).seq = s.seq := rfl
@[simp] theorem State.setWindow_raised (s : State) (w : Window) : (s.setWindow w).raised = s.raised := rfl
@[simp] theorem State.setWindow_samples (s : State) (w : Window) : (s.setWindow w).samples = s.samples := rfl
@[simp] theorem State.setWindow_microcode (s : State) (w : Window) : (s.setWindow w).microcode = s.microcode := rfl
@[simp] theorem State.setWindow_lneJobs (s : State) (w : Window) : (s.setWindow w).lneJobs = s.lneJobs := rfl
@[simp] theorem State.setWindow_lnes (s : State) (w : Window) : (s.setWindow w).lnes = s.lnes := rfl
@[simp] theorem State.setWindow_laneJobs (s : State) (w : Window) : (s.setWindow w).laneJobs = s.laneJobs := rfl
@[simp] theorem State.setWindow_lanes (s : State) (w : Window) : (s.setWindow w).lanes = s.lanes := rfl
@[simp] theorem State.setWindow_bulk (s : State) (w : Window) : (s.setWindow w).bulk = s.bulk := rfl
@[simp] theorem State.setWindow_nextHandle (s : State) (w : Window) : (s.setWindow w).nextHandle = s.nextHandle := rfl
@[simp] theorem State.setWindow_sysRegs (s : State) (w : Window) : (s.setWindow w).sysRegs = s.sysRegs := rfl
@[simp] theorem State.setWindow_disp (s : State) (w : Window) : (s.setWindow w).disp = s.disp := rfl
@[simp] theorem State.setWindow_egress (s : State) (w : Window) : (s.setWindow w).egress = s.egress := rfl
@[simp] theorem State.setWindow_sc (s : State) (w : Window) : (s.setWindow w).sc = s.sc := rfl
@[simp] theorem State.setWindow_rng (s : State) (w : Window) : (s.setWindow w).rng = s.rng := rfl
@[simp] theorem State.setWindow_net (s : State) (w : Window) : (s.setWindow w).net = s.net := rfl
@[simp] theorem State.setWindow_pair (s : State) (w : Window) : (s.setWindow w).pair = s.pair := rfl
@[simp] theorem State.setWindow_custody (s : State) (w : Window) : (s.setWindow w).custody = s.custody := rfl
@[simp] theorem State.setWindow_porter (s : State) (w : Window) : (s.setWindow w).porter = s.porter := rfl
@[simp] theorem State.setWindow_plat (s : State) (w : Window) : (s.setWindow w).plat = s.plat := rfl
@[simp] theorem State.setWindow_guest (s : State) (w : Window) : (s.setWindow w).guest = { s.guest with window := w } := rfl
@[simp] theorem State.setWindow_svc (s : State) (w : Window) : (s.setWindow w).svc = s.svc := rfl
@[simp] theorem State.setWindow_smb (s : State) (w : Window) : (s.setWindow w).smb = s.smb := rfl

@[simp] theorem State.setCeremony_pending (s : State) (c : Option Ceremony) : (s.setCeremony c).pending = s.pending := rfl
@[simp] theorem State.setCeremony_freeCtr (s : State) (c : Option Ceremony) : (s.setCeremony c).freeCtr = s.freeCtr := rfl
@[simp] theorem State.setCeremony_outputs (s : State) (c : Option Ceremony) : (s.setCeremony c).outputs = s.outputs := rfl
@[simp] theorem State.setCeremony_variant (s : State) (c : Option Ceremony) : (s.setCeremony c).variant = s.variant := rfl
@[simp] theorem State.setCeremony_mono (s : State) (c : Option Ceremony) : (s.setCeremony c).mono = s.mono := rfl
@[simp] theorem State.setCeremony_cycle (s : State) (c : Option Ceremony) : (s.setCeremony c).cycle = s.cycle := rfl
@[simp] theorem State.setCeremony_lifecycle (s : State) (c : Option Ceremony) : (s.setCeremony c).lifecycle = s.lifecycle := rfl
@[simp] theorem State.setCeremony_cores (s : State) (c : Option Ceremony) : (s.setCeremony c).cores = s.cores := rfl
@[simp] theorem State.setCeremony_clusters (s : State) (c : Option Ceremony) : (s.setCeremony c).clusters = s.clusters := rfl
@[simp] theorem State.setCeremony_expanders (s : State) (c : Option Ceremony) : (s.setCeremony c).expanders = s.expanders := rfl
@[simp] theorem State.setCeremony_durable (s : State) (c : Option Ceremony) : (s.setCeremony c).durable = s.durable := rfl
@[simp] theorem State.setCeremony_store (s : State) (c : Option Ceremony) : (s.setCeremony c).store = s.store := rfl
@[simp] theorem State.setCeremony_seq (s : State) (c : Option Ceremony) : (s.setCeremony c).seq = s.seq := rfl
@[simp] theorem State.setCeremony_raised (s : State) (c : Option Ceremony) : (s.setCeremony c).raised = s.raised := rfl
@[simp] theorem State.setCeremony_samples (s : State) (c : Option Ceremony) : (s.setCeremony c).samples = s.samples := rfl
@[simp] theorem State.setCeremony_microcode (s : State) (c : Option Ceremony) : (s.setCeremony c).microcode = s.microcode := rfl
@[simp] theorem State.setCeremony_lneJobs (s : State) (c : Option Ceremony) : (s.setCeremony c).lneJobs = s.lneJobs := rfl
@[simp] theorem State.setCeremony_lnes (s : State) (c : Option Ceremony) : (s.setCeremony c).lnes = s.lnes := rfl
@[simp] theorem State.setCeremony_laneJobs (s : State) (c : Option Ceremony) : (s.setCeremony c).laneJobs = s.laneJobs := rfl
@[simp] theorem State.setCeremony_lanes (s : State) (c : Option Ceremony) : (s.setCeremony c).lanes = s.lanes := rfl
@[simp] theorem State.setCeremony_bulk (s : State) (c : Option Ceremony) : (s.setCeremony c).bulk = s.bulk := rfl
@[simp] theorem State.setCeremony_nextHandle (s : State) (c : Option Ceremony) : (s.setCeremony c).nextHandle = s.nextHandle := rfl
@[simp] theorem State.setCeremony_sysRegs (s : State) (c : Option Ceremony) : (s.setCeremony c).sysRegs = s.sysRegs := rfl
@[simp] theorem State.setCeremony_disp (s : State) (c : Option Ceremony) : (s.setCeremony c).disp = s.disp := rfl
@[simp] theorem State.setCeremony_egress (s : State) (c : Option Ceremony) : (s.setCeremony c).egress = s.egress := rfl
@[simp] theorem State.setCeremony_sc (s : State) (c : Option Ceremony) : (s.setCeremony c).sc = s.sc := rfl
@[simp] theorem State.setCeremony_rng (s : State) (c : Option Ceremony) : (s.setCeremony c).rng = s.rng := rfl
@[simp] theorem State.setCeremony_net (s : State) (c : Option Ceremony) : (s.setCeremony c).net = s.net := rfl
@[simp] theorem State.setCeremony_pair (s : State) (c : Option Ceremony) : (s.setCeremony c).pair = s.pair := rfl
@[simp] theorem State.setCeremony_custody (s : State) (c : Option Ceremony) : (s.setCeremony c).custody = { s.custody with ceremony := c } := rfl
@[simp] theorem State.setCeremony_porter (s : State) (c : Option Ceremony) : (s.setCeremony c).porter = s.porter := rfl
@[simp] theorem State.setCeremony_plat (s : State) (c : Option Ceremony) : (s.setCeremony c).plat = s.plat := rfl
@[simp] theorem State.setCeremony_guest (s : State) (c : Option Ceremony) : (s.setCeremony c).guest = s.guest := rfl
@[simp] theorem State.setCeremony_svc (s : State) (c : Option Ceremony) : (s.setCeremony c).svc = s.svc := rfl
@[simp] theorem State.setCeremony_smb (s : State) (c : Option Ceremony) : (s.setCeremony c).smb = s.smb := rfl

@[simp] theorem State.updStage_pending (s : State) (n : Nat) (f : Stage → Stage) : (s.updStage n f).pending = s.pending := rfl
@[simp] theorem State.updStage_freeCtr (s : State) (n : Nat) (f : Stage → Stage) : (s.updStage n f).freeCtr = s.freeCtr := rfl
@[simp] theorem State.updStage_outputs (s : State) (n : Nat) (f : Stage → Stage) : (s.updStage n f).outputs = s.outputs := rfl
@[simp] theorem State.updStage_variant (s : State) (n : Nat) (f : Stage → Stage) : (s.updStage n f).variant = s.variant := rfl
@[simp] theorem State.updStage_mono (s : State) (n : Nat) (f : Stage → Stage) : (s.updStage n f).mono = s.mono := rfl
@[simp] theorem State.updStage_cycle (s : State) (n : Nat) (f : Stage → Stage) : (s.updStage n f).cycle = s.cycle := rfl
@[simp] theorem State.updStage_lifecycle (s : State) (n : Nat) (f : Stage → Stage) : (s.updStage n f).lifecycle = s.lifecycle := rfl
@[simp] theorem State.updStage_cores (s : State) (n : Nat) (f : Stage → Stage) : (s.updStage n f).cores = s.cores := rfl
@[simp] theorem State.updStage_clusters (s : State) (n : Nat) (f : Stage → Stage) : (s.updStage n f).clusters = s.clusters := rfl
@[simp] theorem State.updStage_expanders (s : State) (n : Nat) (f : Stage → Stage) : (s.updStage n f).expanders = s.expanders := rfl
@[simp] theorem State.updStage_durable (s : State) (n : Nat) (f : Stage → Stage) : (s.updStage n f).durable = s.durable := rfl
@[simp] theorem State.updStage_store (s : State) (n : Nat) (f : Stage → Stage) : (s.updStage n f).store = s.store := rfl
@[simp] theorem State.updStage_seq (s : State) (n : Nat) (f : Stage → Stage) : (s.updStage n f).seq = { s.seq with stages := s.seq.stages.map fun g => if g.id = n then f g else g } := rfl
@[simp] theorem State.updStage_raised (s : State) (n : Nat) (f : Stage → Stage) : (s.updStage n f).raised = s.raised := rfl
@[simp] theorem State.updStage_samples (s : State) (n : Nat) (f : Stage → Stage) : (s.updStage n f).samples = s.samples := rfl
@[simp] theorem State.updStage_microcode (s : State) (n : Nat) (f : Stage → Stage) : (s.updStage n f).microcode = s.microcode := rfl
@[simp] theorem State.updStage_lneJobs (s : State) (n : Nat) (f : Stage → Stage) : (s.updStage n f).lneJobs = s.lneJobs := rfl
@[simp] theorem State.updStage_lnes (s : State) (n : Nat) (f : Stage → Stage) : (s.updStage n f).lnes = s.lnes := rfl
@[simp] theorem State.updStage_laneJobs (s : State) (n : Nat) (f : Stage → Stage) : (s.updStage n f).laneJobs = s.laneJobs := rfl
@[simp] theorem State.updStage_lanes (s : State) (n : Nat) (f : Stage → Stage) : (s.updStage n f).lanes = s.lanes := rfl
@[simp] theorem State.updStage_bulk (s : State) (n : Nat) (f : Stage → Stage) : (s.updStage n f).bulk = s.bulk := rfl
@[simp] theorem State.updStage_nextHandle (s : State) (n : Nat) (f : Stage → Stage) : (s.updStage n f).nextHandle = s.nextHandle := rfl
@[simp] theorem State.updStage_sysRegs (s : State) (n : Nat) (f : Stage → Stage) : (s.updStage n f).sysRegs = s.sysRegs := rfl
@[simp] theorem State.updStage_disp (s : State) (n : Nat) (f : Stage → Stage) : (s.updStage n f).disp = s.disp := rfl
@[simp] theorem State.updStage_egress (s : State) (n : Nat) (f : Stage → Stage) : (s.updStage n f).egress = s.egress := rfl
@[simp] theorem State.updStage_sc (s : State) (n : Nat) (f : Stage → Stage) : (s.updStage n f).sc = s.sc := rfl
@[simp] theorem State.updStage_rng (s : State) (n : Nat) (f : Stage → Stage) : (s.updStage n f).rng = s.rng := rfl
@[simp] theorem State.updStage_net (s : State) (n : Nat) (f : Stage → Stage) : (s.updStage n f).net = s.net := rfl
@[simp] theorem State.updStage_pair (s : State) (n : Nat) (f : Stage → Stage) : (s.updStage n f).pair = s.pair := rfl
@[simp] theorem State.updStage_custody (s : State) (n : Nat) (f : Stage → Stage) : (s.updStage n f).custody = s.custody := rfl
@[simp] theorem State.updStage_porter (s : State) (n : Nat) (f : Stage → Stage) : (s.updStage n f).porter = s.porter := rfl
@[simp] theorem State.updStage_plat (s : State) (n : Nat) (f : Stage → Stage) : (s.updStage n f).plat = s.plat := rfl
@[simp] theorem State.updStage_guest (s : State) (n : Nat) (f : Stage → Stage) : (s.updStage n f).guest = s.guest := rfl
@[simp] theorem State.updStage_svc (s : State) (n : Nat) (f : Stage → Stage) : (s.updStage n f).svc = s.svc := rfl
@[simp] theorem State.updStage_smb (s : State) (n : Nat) (f : Stage → Stage) : (s.updStage n f).smb = s.smb := rfl

@[simp] theorem State.queueCommit_pending (s : State) (w : PendingCommit) : (s.queueCommit w).pending = s.pending := rfl
@[simp] theorem State.queueCommit_freeCtr (s : State) (w : PendingCommit) : (s.queueCommit w).freeCtr = s.freeCtr := rfl
@[simp] theorem State.queueCommit_outputs (s : State) (w : PendingCommit) : (s.queueCommit w).outputs = s.outputs := rfl
@[simp] theorem State.queueCommit_variant (s : State) (w : PendingCommit) : (s.queueCommit w).variant = s.variant := rfl
@[simp] theorem State.queueCommit_mono (s : State) (w : PendingCommit) : (s.queueCommit w).mono = s.mono := rfl
@[simp] theorem State.queueCommit_cycle (s : State) (w : PendingCommit) : (s.queueCommit w).cycle = s.cycle := rfl
@[simp] theorem State.queueCommit_lifecycle (s : State) (w : PendingCommit) : (s.queueCommit w).lifecycle = s.lifecycle := rfl
@[simp] theorem State.queueCommit_cores (s : State) (w : PendingCommit) : (s.queueCommit w).cores = s.cores := rfl
@[simp] theorem State.queueCommit_clusters (s : State) (w : PendingCommit) : (s.queueCommit w).clusters = s.clusters := rfl
@[simp] theorem State.queueCommit_expanders (s : State) (w : PendingCommit) : (s.queueCommit w).expanders = s.expanders := rfl
@[simp] theorem State.queueCommit_durable (s : State) (w : PendingCommit) : (s.queueCommit w).durable = s.durable := rfl
@[simp] theorem State.queueCommit_store (s : State) (w : PendingCommit) : (s.queueCommit w).store = s.store := rfl
@[simp] theorem State.queueCommit_seq (s : State) (w : PendingCommit) : (s.queueCommit w).seq = { s.seq with waiting := s.seq.waiting ++ [{ w with free := if s.held w then none else some s.mono }] } := rfl
@[simp] theorem State.queueCommit_raised (s : State) (w : PendingCommit) : (s.queueCommit w).raised = s.raised := rfl
@[simp] theorem State.queueCommit_samples (s : State) (w : PendingCommit) : (s.queueCommit w).samples = s.samples := rfl
@[simp] theorem State.queueCommit_microcode (s : State) (w : PendingCommit) : (s.queueCommit w).microcode = s.microcode := rfl
@[simp] theorem State.queueCommit_lneJobs (s : State) (w : PendingCommit) : (s.queueCommit w).lneJobs = s.lneJobs := rfl
@[simp] theorem State.queueCommit_lnes (s : State) (w : PendingCommit) : (s.queueCommit w).lnes = s.lnes := rfl
@[simp] theorem State.queueCommit_laneJobs (s : State) (w : PendingCommit) : (s.queueCommit w).laneJobs = s.laneJobs := rfl
@[simp] theorem State.queueCommit_lanes (s : State) (w : PendingCommit) : (s.queueCommit w).lanes = s.lanes := rfl
@[simp] theorem State.queueCommit_bulk (s : State) (w : PendingCommit) : (s.queueCommit w).bulk = s.bulk := rfl
@[simp] theorem State.queueCommit_nextHandle (s : State) (w : PendingCommit) : (s.queueCommit w).nextHandle = s.nextHandle := rfl
@[simp] theorem State.queueCommit_sysRegs (s : State) (w : PendingCommit) : (s.queueCommit w).sysRegs = s.sysRegs := rfl
@[simp] theorem State.queueCommit_disp (s : State) (w : PendingCommit) : (s.queueCommit w).disp = s.disp := rfl
@[simp] theorem State.queueCommit_egress (s : State) (w : PendingCommit) : (s.queueCommit w).egress = s.egress := rfl
@[simp] theorem State.queueCommit_sc (s : State) (w : PendingCommit) : (s.queueCommit w).sc = s.sc := rfl
@[simp] theorem State.queueCommit_rng (s : State) (w : PendingCommit) : (s.queueCommit w).rng = s.rng := rfl
@[simp] theorem State.queueCommit_net (s : State) (w : PendingCommit) : (s.queueCommit w).net = s.net := rfl
@[simp] theorem State.queueCommit_pair (s : State) (w : PendingCommit) : (s.queueCommit w).pair = s.pair := rfl
@[simp] theorem State.queueCommit_custody (s : State) (w : PendingCommit) : (s.queueCommit w).custody = s.custody := rfl
@[simp] theorem State.queueCommit_porter (s : State) (w : PendingCommit) : (s.queueCommit w).porter = s.porter := rfl
@[simp] theorem State.queueCommit_plat (s : State) (w : PendingCommit) : (s.queueCommit w).plat = s.plat := rfl
@[simp] theorem State.queueCommit_guest (s : State) (w : PendingCommit) : (s.queueCommit w).guest = s.guest := rfl
@[simp] theorem State.queueCommit_svc (s : State) (w : PendingCommit) : (s.queueCommit w).svc = s.svc := rfl
@[simp] theorem State.queueCommit_smb (s : State) (w : PendingCommit) : (s.queueCommit w).smb = s.smb := rfl

@[simp] theorem State.await_pending (s : State) (q : Request) (w : ScWait) : (s.await q w).pending = s.pending := rfl
@[simp] theorem State.await_freeCtr (s : State) (q : Request) (w : ScWait) : (s.await q w).freeCtr = s.freeCtr := rfl
@[simp] theorem State.await_outputs (s : State) (q : Request) (w : ScWait) : (s.await q w).outputs = s.outputs := rfl
@[simp] theorem State.await_variant (s : State) (q : Request) (w : ScWait) : (s.await q w).variant = s.variant := rfl
@[simp] theorem State.await_mono (s : State) (q : Request) (w : ScWait) : (s.await q w).mono = s.mono := rfl
@[simp] theorem State.await_cycle (s : State) (q : Request) (w : ScWait) : (s.await q w).cycle = s.cycle := rfl
@[simp] theorem State.await_lifecycle (s : State) (q : Request) (w : ScWait) : (s.await q w).lifecycle = s.lifecycle := rfl
@[simp] theorem State.await_cores (s : State) (q : Request) (w : ScWait) : (s.await q w).cores = s.cores := rfl
@[simp] theorem State.await_clusters (s : State) (q : Request) (w : ScWait) : (s.await q w).clusters = s.clusters := rfl
@[simp] theorem State.await_expanders (s : State) (q : Request) (w : ScWait) : (s.await q w).expanders = s.expanders := rfl
@[simp] theorem State.await_durable (s : State) (q : Request) (w : ScWait) : (s.await q w).durable = s.durable := rfl
@[simp] theorem State.await_store (s : State) (q : Request) (w : ScWait) : (s.await q w).store = s.store := rfl
@[simp] theorem State.await_seq (s : State) (q : Request) (w : ScWait) : (s.await q w).seq = s.seq := rfl
@[simp] theorem State.await_raised (s : State) (q : Request) (w : ScWait) : (s.await q w).raised = s.raised := rfl
@[simp] theorem State.await_samples (s : State) (q : Request) (w : ScWait) : (s.await q w).samples = s.samples := rfl
@[simp] theorem State.await_microcode (s : State) (q : Request) (w : ScWait) : (s.await q w).microcode = s.microcode := rfl
@[simp] theorem State.await_lneJobs (s : State) (q : Request) (w : ScWait) : (s.await q w).lneJobs = s.lneJobs := rfl
@[simp] theorem State.await_lnes (s : State) (q : Request) (w : ScWait) : (s.await q w).lnes = s.lnes := rfl
@[simp] theorem State.await_laneJobs (s : State) (q : Request) (w : ScWait) : (s.await q w).laneJobs = s.laneJobs := rfl
@[simp] theorem State.await_lanes (s : State) (q : Request) (w : ScWait) : (s.await q w).lanes = s.lanes := rfl
@[simp] theorem State.await_bulk (s : State) (q : Request) (w : ScWait) : (s.await q w).bulk = s.bulk := rfl
@[simp] theorem State.await_nextHandle (s : State) (q : Request) (w : ScWait) : (s.await q w).nextHandle = s.nextHandle := rfl
@[simp] theorem State.await_sysRegs (s : State) (q : Request) (w : ScWait) : (s.await q w).sysRegs = s.sysRegs := rfl
@[simp] theorem State.await_disp (s : State) (q : Request) (w : ScWait) : (s.await q w).disp = s.disp := rfl
@[simp] theorem State.await_egress (s : State) (q : Request) (w : ScWait) : (s.await q w).egress = s.egress := rfl
@[simp] theorem State.await_sc (s : State) (q : Request) (w : ScWait) : (s.await q w).sc = { s.sc with waiting := s.sc.waiting ++ [{ req := q, wait := w }] } := rfl
@[simp] theorem State.await_rng (s : State) (q : Request) (w : ScWait) : (s.await q w).rng = s.rng := rfl
@[simp] theorem State.await_net (s : State) (q : Request) (w : ScWait) : (s.await q w).net = s.net := rfl
@[simp] theorem State.await_pair (s : State) (q : Request) (w : ScWait) : (s.await q w).pair = s.pair := rfl
@[simp] theorem State.await_custody (s : State) (q : Request) (w : ScWait) : (s.await q w).custody = s.custody := rfl
@[simp] theorem State.await_porter (s : State) (q : Request) (w : ScWait) : (s.await q w).porter = s.porter := rfl
@[simp] theorem State.await_plat (s : State) (q : Request) (w : ScWait) : (s.await q w).plat = s.plat := rfl
@[simp] theorem State.await_guest (s : State) (q : Request) (w : ScWait) : (s.await q w).guest = s.guest := rfl
@[simp] theorem State.await_svc (s : State) (q : Request) (w : ScWait) : (s.await q w).svc = s.svc := rfl
@[simp] theorem State.await_smb (s : State) (q : Request) (w : ScWait) : (s.await q w).smb = s.smb := rfl

@[simp] theorem State.updSess_pending (s : State) (n : Nat) (f : Session → Session) : (s.updSess n f).pending = s.pending := rfl
@[simp] theorem State.updSess_freeCtr (s : State) (n : Nat) (f : Session → Session) : (s.updSess n f).freeCtr = s.freeCtr := rfl
@[simp] theorem State.updSess_outputs (s : State) (n : Nat) (f : Session → Session) : (s.updSess n f).outputs = s.outputs := rfl
@[simp] theorem State.updSess_variant (s : State) (n : Nat) (f : Session → Session) : (s.updSess n f).variant = s.variant := rfl
@[simp] theorem State.updSess_mono (s : State) (n : Nat) (f : Session → Session) : (s.updSess n f).mono = s.mono := rfl
@[simp] theorem State.updSess_cycle (s : State) (n : Nat) (f : Session → Session) : (s.updSess n f).cycle = s.cycle := rfl
@[simp] theorem State.updSess_lifecycle (s : State) (n : Nat) (f : Session → Session) : (s.updSess n f).lifecycle = s.lifecycle := rfl
@[simp] theorem State.updSess_cores (s : State) (n : Nat) (f : Session → Session) : (s.updSess n f).cores = s.cores := rfl
@[simp] theorem State.updSess_clusters (s : State) (n : Nat) (f : Session → Session) : (s.updSess n f).clusters = s.clusters := rfl
@[simp] theorem State.updSess_expanders (s : State) (n : Nat) (f : Session → Session) : (s.updSess n f).expanders = s.expanders := rfl
@[simp] theorem State.updSess_durable (s : State) (n : Nat) (f : Session → Session) : (s.updSess n f).durable = s.durable := rfl
@[simp] theorem State.updSess_store (s : State) (n : Nat) (f : Session → Session) : (s.updSess n f).store = s.store := rfl
@[simp] theorem State.updSess_seq (s : State) (n : Nat) (f : Session → Session) : (s.updSess n f).seq = s.seq := rfl
@[simp] theorem State.updSess_raised (s : State) (n : Nat) (f : Session → Session) : (s.updSess n f).raised = s.raised := rfl
@[simp] theorem State.updSess_samples (s : State) (n : Nat) (f : Session → Session) : (s.updSess n f).samples = s.samples := rfl
@[simp] theorem State.updSess_microcode (s : State) (n : Nat) (f : Session → Session) : (s.updSess n f).microcode = s.microcode := rfl
@[simp] theorem State.updSess_lneJobs (s : State) (n : Nat) (f : Session → Session) : (s.updSess n f).lneJobs = s.lneJobs := rfl
@[simp] theorem State.updSess_lnes (s : State) (n : Nat) (f : Session → Session) : (s.updSess n f).lnes = s.lnes := rfl
@[simp] theorem State.updSess_laneJobs (s : State) (n : Nat) (f : Session → Session) : (s.updSess n f).laneJobs = s.laneJobs := rfl
@[simp] theorem State.updSess_lanes (s : State) (n : Nat) (f : Session → Session) : (s.updSess n f).lanes = s.lanes := rfl
@[simp] theorem State.updSess_bulk (s : State) (n : Nat) (f : Session → Session) : (s.updSess n f).bulk = s.bulk := rfl
@[simp] theorem State.updSess_nextHandle (s : State) (n : Nat) (f : Session → Session) : (s.updSess n f).nextHandle = s.nextHandle := rfl
@[simp] theorem State.updSess_sysRegs (s : State) (n : Nat) (f : Session → Session) : (s.updSess n f).sysRegs = s.sysRegs := rfl
@[simp] theorem State.updSess_disp (s : State) (n : Nat) (f : Session → Session) : (s.updSess n f).disp = s.disp := rfl
@[simp] theorem State.updSess_egress (s : State) (n : Nat) (f : Session → Session) : (s.updSess n f).egress = s.egress := rfl
@[simp] theorem State.updSess_sc (s : State) (n : Nat) (f : Session → Session) : (s.updSess n f).sc = s.sc := rfl
@[simp] theorem State.updSess_rng (s : State) (n : Nat) (f : Session → Session) : (s.updSess n f).rng = s.rng := rfl
@[simp] theorem State.updSess_net (s : State) (n : Nat) (f : Session → Session) : (s.updSess n f).net = { s.net with sessions := s.net.sessions.map fun x => if x.id = n then f x else x } := rfl
@[simp] theorem State.updSess_pair (s : State) (n : Nat) (f : Session → Session) : (s.updSess n f).pair = s.pair := rfl
@[simp] theorem State.updSess_custody (s : State) (n : Nat) (f : Session → Session) : (s.updSess n f).custody = s.custody := rfl
@[simp] theorem State.updSess_porter (s : State) (n : Nat) (f : Session → Session) : (s.updSess n f).porter = s.porter := rfl
@[simp] theorem State.updSess_plat (s : State) (n : Nat) (f : Session → Session) : (s.updSess n f).plat = s.plat := rfl
@[simp] theorem State.updSess_guest (s : State) (n : Nat) (f : Session → Session) : (s.updSess n f).guest = s.guest := rfl
@[simp] theorem State.updSess_svc (s : State) (n : Nat) (f : Session → Session) : (s.updSess n f).svc = s.svc := rfl
@[simp] theorem State.updSess_smb (s : State) (n : Nat) (f : Session → Session) : (s.updSess n f).smb = s.smb := rfl

@[simp] theorem State.core?_setCore_same (s : State) (c : CoreId) (k : Core) : (s.setCore c k).core? c = some k := by
  simp [State.core?]
theorem State.core?_setCore_other (s : State) {c c' : CoreId} (h : c' ≠ c) (k : Core) : (s.setCore c k).core? c' = s.core? c' := by
  simp only [State.core?, State.setCore_cores, State.setCore_sc, getK_setK_other h]; rfl

/-! ### A core -/

@[simp] theorem Core.setB_world (k : Core) (d : BReg) (v : SealedBlock) : (k.setB d v).world = k.world := rfl
@[simp] theorem Core.setB_req (k : Core) (d : BReg) (v : SealedBlock) : (k.setB d v).req = k.req := rfl
@[simp] theorem Core.setB_progVersion (k : Core) (d : BReg) (v : SealedBlock) : (k.setB d v).progVersion = k.progVersion := rfl
@[simp] theorem Core.setB_nominal (k : Core) (d : BReg) (v : SealedBlock) : (k.setB d v).nominal = k.nominal := rfl
@[simp] theorem Core.setB_snapshot (k : Core) (d : BReg) (v : SealedBlock) : (k.setB d v).snapshot = k.snapshot := rfl
@[simp] theorem Core.setB_dispatched (k : Core) (d : BReg) (v : SealedBlock) : (k.setB d v).dispatched = k.dispatched := rfl
@[simp] theorem Core.setB_cls (k : Core) (d : BReg) (v : SealedBlock) : (k.setB d v).cls = k.cls := rfl
@[simp] theorem Core.setB_g (k : Core) (d : BReg) (v : SealedBlock) : (k.setB d v).g = k.g := rfl
@[simp] theorem Core.setB_b (k : Core) (d : BReg) (v : SealedBlock) : (k.setB d v).b = k.b.set d v := rfl
@[simp] theorem Core.setB_k (k : Core) (d : BReg) (v : SealedBlock) : (k.setB d v).k = k.k := rfl
@[simp] theorem Core.setB_rstack (k : Core) (d : BReg) (v : SealedBlock) : (k.setB d v).rstack = k.rstack := rfl
@[simp] theorem Core.setB_pc (k : Core) (d : BReg) (v : SealedBlock) : (k.setB d v).pc = k.pc := rfl
@[simp] theorem Core.setB_out (k : Core) (d : BReg) (v : SealedBlock) : (k.setB d v).out = k.out := rfl
@[simp] theorem Core.setB_outFrozen (k : Core) (d : BReg) (v : SealedBlock) : (k.setB d v).outFrozen = k.outFrozen := rfl
@[simp] theorem Core.setB_outTop (k : Core) (d : BReg) (v : SealedBlock) : (k.setB d v).outTop = k.outTop := rfl
@[simp] theorem Core.setB_scr (k : Core) (d : BReg) (v : SealedBlock) : (k.setB d v).scr = k.scr := rfl
@[simp] theorem Core.setB_retired (k : Core) (d : BReg) (v : SealedBlock) : (k.setB d v).retired = k.retired := rfl
@[simp] theorem Core.setB_hash (k : Core) (d : BReg) (v : SealedBlock) : (k.setB d v).hash = k.hash := rfl
@[simp] theorem Core.setB_stage (k : Core) (d : BReg) (v : SealedBlock) : (k.setB d v).stage = k.stage := rfl
@[simp] theorem Core.setB_commitMade (k : Core) (d : BReg) (v : SealedBlock) : (k.setB d v).commitMade = k.commitMade := rfl
@[simp] theorem Core.setB_commitCsn (k : Core) (d : BReg) (v : SealedBlock) : (k.setB d v).commitCsn = k.commitCsn := rfl
@[simp] theorem Core.setB_jobs (k : Core) (d : BReg) (v : SealedBlock) : (k.setB d v).jobs = k.jobs := rfl
@[simp] theorem Core.setB_streamJob (k : Core) (d : BReg) (v : SealedBlock) : (k.setB d v).streamJob = k.streamJob := rfl
@[simp] theorem Core.setB_sealedCompares (k : Core) (d : BReg) (v : SealedBlock) : (k.setB d v).sealedCompares = k.sealedCompares := rfl
@[simp] theorem Core.setB_wait (k : Core) (d : BReg) (v : SealedBlock) : (k.setB d v).wait = k.wait := rfl
@[simp] theorem Core.setB_insn (k : Core) (d : BReg) (v : SealedBlock) : (k.setB d v).insn = k.insn := rfl
@[simp] theorem Core.setB_decided (k : Core) (d : BReg) (v : SealedBlock) : (k.setB d v).decided = k.decided := rfl

@[simp] theorem Core.setK_world (k : Core) (d : KReg) (v : Option Handle) : (k.setK d v).world = k.world := rfl
@[simp] theorem Core.setK_req (k : Core) (d : KReg) (v : Option Handle) : (k.setK d v).req = k.req := rfl
@[simp] theorem Core.setK_progVersion (k : Core) (d : KReg) (v : Option Handle) : (k.setK d v).progVersion = k.progVersion := rfl
@[simp] theorem Core.setK_nominal (k : Core) (d : KReg) (v : Option Handle) : (k.setK d v).nominal = k.nominal := rfl
@[simp] theorem Core.setK_snapshot (k : Core) (d : KReg) (v : Option Handle) : (k.setK d v).snapshot = k.snapshot := rfl
@[simp] theorem Core.setK_dispatched (k : Core) (d : KReg) (v : Option Handle) : (k.setK d v).dispatched = k.dispatched := rfl
@[simp] theorem Core.setK_cls (k : Core) (d : KReg) (v : Option Handle) : (k.setK d v).cls = k.cls := rfl
@[simp] theorem Core.setK_g (k : Core) (d : KReg) (v : Option Handle) : (k.setK d v).g = k.g := rfl
@[simp] theorem Core.setK_b (k : Core) (d : KReg) (v : Option Handle) : (k.setK d v).b = k.b := rfl
@[simp] theorem Core.setK_k (k : Core) (d : KReg) (v : Option Handle) : (k.setK d v).k = k.k.set d v := rfl
@[simp] theorem Core.setK_rstack (k : Core) (d : KReg) (v : Option Handle) : (k.setK d v).rstack = k.rstack := rfl
@[simp] theorem Core.setK_pc (k : Core) (d : KReg) (v : Option Handle) : (k.setK d v).pc = k.pc := rfl
@[simp] theorem Core.setK_out (k : Core) (d : KReg) (v : Option Handle) : (k.setK d v).out = k.out := rfl
@[simp] theorem Core.setK_outFrozen (k : Core) (d : KReg) (v : Option Handle) : (k.setK d v).outFrozen = k.outFrozen := rfl
@[simp] theorem Core.setK_outTop (k : Core) (d : KReg) (v : Option Handle) : (k.setK d v).outTop = k.outTop := rfl
@[simp] theorem Core.setK_scr (k : Core) (d : KReg) (v : Option Handle) : (k.setK d v).scr = k.scr := rfl
@[simp] theorem Core.setK_retired (k : Core) (d : KReg) (v : Option Handle) : (k.setK d v).retired = k.retired := rfl
@[simp] theorem Core.setK_hash (k : Core) (d : KReg) (v : Option Handle) : (k.setK d v).hash = k.hash := rfl
@[simp] theorem Core.setK_stage (k : Core) (d : KReg) (v : Option Handle) : (k.setK d v).stage = k.stage := rfl
@[simp] theorem Core.setK_commitMade (k : Core) (d : KReg) (v : Option Handle) : (k.setK d v).commitMade = k.commitMade := rfl
@[simp] theorem Core.setK_commitCsn (k : Core) (d : KReg) (v : Option Handle) : (k.setK d v).commitCsn = k.commitCsn := rfl
@[simp] theorem Core.setK_jobs (k : Core) (d : KReg) (v : Option Handle) : (k.setK d v).jobs = k.jobs := rfl
@[simp] theorem Core.setK_streamJob (k : Core) (d : KReg) (v : Option Handle) : (k.setK d v).streamJob = k.streamJob := rfl
@[simp] theorem Core.setK_sealedCompares (k : Core) (d : KReg) (v : Option Handle) : (k.setK d v).sealedCompares = k.sealedCompares := rfl
@[simp] theorem Core.setK_wait (k : Core) (d : KReg) (v : Option Handle) : (k.setK d v).wait = k.wait := rfl
@[simp] theorem Core.setK_insn (k : Core) (d : KReg) (v : Option Handle) : (k.setK d v).insn = k.insn := rfl
@[simp] theorem Core.setK_decided (k : Core) (d : KReg) (v : Option Handle) : (k.setK d v).decided = k.decided := rfl

@[simp] theorem Core.setHash_world (k : Core) (h : Fin 2) (x : HashCtx) : (k.setHash h x).world = k.world := rfl
@[simp] theorem Core.setHash_req (k : Core) (h : Fin 2) (x : HashCtx) : (k.setHash h x).req = k.req := rfl
@[simp] theorem Core.setHash_progVersion (k : Core) (h : Fin 2) (x : HashCtx) : (k.setHash h x).progVersion = k.progVersion := rfl
@[simp] theorem Core.setHash_nominal (k : Core) (h : Fin 2) (x : HashCtx) : (k.setHash h x).nominal = k.nominal := rfl
@[simp] theorem Core.setHash_snapshot (k : Core) (h : Fin 2) (x : HashCtx) : (k.setHash h x).snapshot = k.snapshot := rfl
@[simp] theorem Core.setHash_dispatched (k : Core) (h : Fin 2) (x : HashCtx) : (k.setHash h x).dispatched = k.dispatched := rfl
@[simp] theorem Core.setHash_cls (k : Core) (h : Fin 2) (x : HashCtx) : (k.setHash h x).cls = k.cls := rfl
@[simp] theorem Core.setHash_g (k : Core) (h : Fin 2) (x : HashCtx) : (k.setHash h x).g = k.g := rfl
@[simp] theorem Core.setHash_b (k : Core) (h : Fin 2) (x : HashCtx) : (k.setHash h x).b = k.b := rfl
@[simp] theorem Core.setHash_k (k : Core) (h : Fin 2) (x : HashCtx) : (k.setHash h x).k = k.k := rfl
@[simp] theorem Core.setHash_rstack (k : Core) (h : Fin 2) (x : HashCtx) : (k.setHash h x).rstack = k.rstack := rfl
@[simp] theorem Core.setHash_pc (k : Core) (h : Fin 2) (x : HashCtx) : (k.setHash h x).pc = k.pc := rfl
@[simp] theorem Core.setHash_out (k : Core) (h : Fin 2) (x : HashCtx) : (k.setHash h x).out = k.out := rfl
@[simp] theorem Core.setHash_outFrozen (k : Core) (h : Fin 2) (x : HashCtx) : (k.setHash h x).outFrozen = k.outFrozen := rfl
@[simp] theorem Core.setHash_outTop (k : Core) (h : Fin 2) (x : HashCtx) : (k.setHash h x).outTop = k.outTop := rfl
@[simp] theorem Core.setHash_scr (k : Core) (h : Fin 2) (x : HashCtx) : (k.setHash h x).scr = k.scr := rfl
@[simp] theorem Core.setHash_retired (k : Core) (h : Fin 2) (x : HashCtx) : (k.setHash h x).retired = k.retired := rfl
@[simp] theorem Core.setHash_hash (k : Core) (h : Fin 2) (x : HashCtx) : (k.setHash h x).hash = k.hash.set h x := rfl
@[simp] theorem Core.setHash_stage (k : Core) (h : Fin 2) (x : HashCtx) : (k.setHash h x).stage = k.stage := rfl
@[simp] theorem Core.setHash_commitMade (k : Core) (h : Fin 2) (x : HashCtx) : (k.setHash h x).commitMade = k.commitMade := rfl
@[simp] theorem Core.setHash_commitCsn (k : Core) (h : Fin 2) (x : HashCtx) : (k.setHash h x).commitCsn = k.commitCsn := rfl
@[simp] theorem Core.setHash_jobs (k : Core) (h : Fin 2) (x : HashCtx) : (k.setHash h x).jobs = k.jobs := rfl
@[simp] theorem Core.setHash_streamJob (k : Core) (h : Fin 2) (x : HashCtx) : (k.setHash h x).streamJob = k.streamJob := rfl
@[simp] theorem Core.setHash_sealedCompares (k : Core) (h : Fin 2) (x : HashCtx) : (k.setHash h x).sealedCompares = k.sealedCompares := rfl
@[simp] theorem Core.setHash_wait (k : Core) (h : Fin 2) (x : HashCtx) : (k.setHash h x).wait = k.wait := rfl
@[simp] theorem Core.setHash_insn (k : Core) (h : Fin 2) (x : HashCtx) : (k.setHash h x).insn = k.insn := rfl
@[simp] theorem Core.setHash_decided (k : Core) (h : Fin 2) (x : HashCtx) : (k.setHash h x).decided = k.decided := rfl

@[simp] theorem Core.adv_world (k : Core) : (k.adv).world = k.world := rfl
@[simp] theorem Core.adv_req (k : Core) : (k.adv).req = k.req := rfl
@[simp] theorem Core.adv_progVersion (k : Core) : (k.adv).progVersion = k.progVersion := rfl
@[simp] theorem Core.adv_nominal (k : Core) : (k.adv).nominal = k.nominal := rfl
@[simp] theorem Core.adv_snapshot (k : Core) : (k.adv).snapshot = k.snapshot := rfl
@[simp] theorem Core.adv_dispatched (k : Core) : (k.adv).dispatched = k.dispatched := rfl
@[simp] theorem Core.adv_cls (k : Core) : (k.adv).cls = k.cls := rfl
@[simp] theorem Core.adv_g (k : Core) : (k.adv).g = k.g := rfl
@[simp] theorem Core.adv_b (k : Core) : (k.adv).b = k.b := rfl
@[simp] theorem Core.adv_k (k : Core) : (k.adv).k = k.k := rfl
@[simp] theorem Core.adv_rstack (k : Core) : (k.adv).rstack = k.rstack := rfl
@[simp] theorem Core.adv_pc (k : Core) : (k.adv).pc = k.pc + 4 := rfl
@[simp] theorem Core.adv_out (k : Core) : (k.adv).out = k.out := rfl
@[simp] theorem Core.adv_outFrozen (k : Core) : (k.adv).outFrozen = k.outFrozen := rfl
@[simp] theorem Core.adv_outTop (k : Core) : (k.adv).outTop = k.outTop := rfl
@[simp] theorem Core.adv_scr (k : Core) : (k.adv).scr = k.scr := rfl
@[simp] theorem Core.adv_retired (k : Core) : (k.adv).retired = k.retired := rfl
@[simp] theorem Core.adv_hash (k : Core) : (k.adv).hash = k.hash := rfl
@[simp] theorem Core.adv_stage (k : Core) : (k.adv).stage = k.stage := rfl
@[simp] theorem Core.adv_commitMade (k : Core) : (k.adv).commitMade = k.commitMade := rfl
@[simp] theorem Core.adv_commitCsn (k : Core) : (k.adv).commitCsn = k.commitCsn := rfl
@[simp] theorem Core.adv_jobs (k : Core) : (k.adv).jobs = k.jobs := rfl
@[simp] theorem Core.adv_streamJob (k : Core) : (k.adv).streamJob = k.streamJob := rfl
@[simp] theorem Core.adv_sealedCompares (k : Core) : (k.adv).sealedCompares = k.sealedCompares := rfl
@[simp] theorem Core.adv_wait (k : Core) : (k.adv).wait = .none := rfl
@[simp] theorem Core.adv_insn (k : Core) : (k.adv).insn = none := rfl
@[simp] theorem Core.adv_decided (k : Core) : (k.adv).decided = k.decided := rfl

@[simp] theorem Core.stepped_world (k : Core) : (k.stepped).world = k.world := rfl
@[simp] theorem Core.stepped_req (k : Core) : (k.stepped).req = k.req := rfl
@[simp] theorem Core.stepped_progVersion (k : Core) : (k.stepped).progVersion = k.progVersion := rfl
@[simp] theorem Core.stepped_nominal (k : Core) : (k.stepped).nominal = k.nominal := rfl
@[simp] theorem Core.stepped_snapshot (k : Core) : (k.stepped).snapshot = k.snapshot := rfl
@[simp] theorem Core.stepped_dispatched (k : Core) : (k.stepped).dispatched = k.dispatched := rfl
@[simp] theorem Core.stepped_cls (k : Core) : (k.stepped).cls = k.cls := rfl
@[simp] theorem Core.stepped_g (k : Core) : (k.stepped).g = k.g := rfl
@[simp] theorem Core.stepped_b (k : Core) : (k.stepped).b = k.b := rfl
@[simp] theorem Core.stepped_k (k : Core) : (k.stepped).k = k.k := rfl
@[simp] theorem Core.stepped_rstack (k : Core) : (k.stepped).rstack = k.rstack := rfl
@[simp] theorem Core.stepped_pc (k : Core) : (k.stepped).pc = k.pc + 4 := rfl
@[simp] theorem Core.stepped_out (k : Core) : (k.stepped).out = k.out := rfl
@[simp] theorem Core.stepped_outFrozen (k : Core) : (k.stepped).outFrozen = k.outFrozen := rfl
@[simp] theorem Core.stepped_outTop (k : Core) : (k.stepped).outTop = k.outTop := rfl
@[simp] theorem Core.stepped_scr (k : Core) : (k.stepped).scr = k.scr := rfl
@[simp] theorem Core.stepped_retired (k : Core) : (k.stepped).retired = k.retired + 1 := rfl
@[simp] theorem Core.stepped_hash (k : Core) : (k.stepped).hash = k.hash := rfl
@[simp] theorem Core.stepped_stage (k : Core) : (k.stepped).stage = k.stage := rfl
@[simp] theorem Core.stepped_commitMade (k : Core) : (k.stepped).commitMade = k.commitMade := rfl
@[simp] theorem Core.stepped_commitCsn (k : Core) : (k.stepped).commitCsn = k.commitCsn := rfl
@[simp] theorem Core.stepped_jobs (k : Core) : (k.stepped).jobs = k.jobs := rfl
@[simp] theorem Core.stepped_streamJob (k : Core) : (k.stepped).streamJob = k.streamJob := rfl
@[simp] theorem Core.stepped_sealedCompares (k : Core) : (k.stepped).sealedCompares = k.sealedCompares := rfl
@[simp] theorem Core.stepped_wait (k : Core) : (k.stepped).wait = .none := rfl
@[simp] theorem Core.stepped_insn (k : Core) : (k.stepped).insn = none := rfl
@[simp] theorem Core.stepped_decided (k : Core) : (k.stepped).decided = k.decided := rfl

@[simp] theorem Core.jumped_world (k : Core) (p : Word) : (k.jumped p).world = k.world := rfl
@[simp] theorem Core.jumped_req (k : Core) (p : Word) : (k.jumped p).req = k.req := rfl
@[simp] theorem Core.jumped_progVersion (k : Core) (p : Word) : (k.jumped p).progVersion = k.progVersion := rfl
@[simp] theorem Core.jumped_nominal (k : Core) (p : Word) : (k.jumped p).nominal = k.nominal := rfl
@[simp] theorem Core.jumped_snapshot (k : Core) (p : Word) : (k.jumped p).snapshot = k.snapshot := rfl
@[simp] theorem Core.jumped_dispatched (k : Core) (p : Word) : (k.jumped p).dispatched = k.dispatched := rfl
@[simp] theorem Core.jumped_cls (k : Core) (p : Word) : (k.jumped p).cls = k.cls := rfl
@[simp] theorem Core.jumped_g (k : Core) (p : Word) : (k.jumped p).g = k.g := rfl
@[simp] theorem Core.jumped_b (k : Core) (p : Word) : (k.jumped p).b = k.b := rfl
@[simp] theorem Core.jumped_k (k : Core) (p : Word) : (k.jumped p).k = k.k := rfl
@[simp] theorem Core.jumped_rstack (k : Core) (p : Word) : (k.jumped p).rstack = k.rstack := rfl
@[simp] theorem Core.jumped_pc (k : Core) (p : Word) : (k.jumped p).pc = p := rfl
@[simp] theorem Core.jumped_out (k : Core) (p : Word) : (k.jumped p).out = k.out := rfl
@[simp] theorem Core.jumped_outFrozen (k : Core) (p : Word) : (k.jumped p).outFrozen = k.outFrozen := rfl
@[simp] theorem Core.jumped_outTop (k : Core) (p : Word) : (k.jumped p).outTop = k.outTop := rfl
@[simp] theorem Core.jumped_scr (k : Core) (p : Word) : (k.jumped p).scr = k.scr := rfl
@[simp] theorem Core.jumped_retired (k : Core) (p : Word) : (k.jumped p).retired = k.retired + 1 := rfl
@[simp] theorem Core.jumped_hash (k : Core) (p : Word) : (k.jumped p).hash = k.hash := rfl
@[simp] theorem Core.jumped_stage (k : Core) (p : Word) : (k.jumped p).stage = k.stage := rfl
@[simp] theorem Core.jumped_commitMade (k : Core) (p : Word) : (k.jumped p).commitMade = k.commitMade := rfl
@[simp] theorem Core.jumped_commitCsn (k : Core) (p : Word) : (k.jumped p).commitCsn = k.commitCsn := rfl
@[simp] theorem Core.jumped_jobs (k : Core) (p : Word) : (k.jumped p).jobs = k.jobs := rfl
@[simp] theorem Core.jumped_streamJob (k : Core) (p : Word) : (k.jumped p).streamJob = k.streamJob := rfl
@[simp] theorem Core.jumped_sealedCompares (k : Core) (p : Word) : (k.jumped p).sealedCompares = k.sealedCompares := rfl
@[simp] theorem Core.jumped_wait (k : Core) (p : Word) : (k.jumped p).wait = k.wait := rfl
@[simp] theorem Core.jumped_insn (k : Core) (p : Word) : (k.jumped p).insn = none := rfl
@[simp] theorem Core.jumped_decided (k : Core) (p : Word) : (k.jumped p).decided = k.decided := rfl

@[simp] theorem Core.setG_world (k : Core) (d : GReg) (v : Word) : (k.setG d v).world = k.world := by unfold Core.setG; split <;> rfl
@[simp] theorem Core.setG_req (k : Core) (d : GReg) (v : Word) : (k.setG d v).req = k.req := by unfold Core.setG; split <;> rfl
@[simp] theorem Core.setG_progVersion (k : Core) (d : GReg) (v : Word) : (k.setG d v).progVersion = k.progVersion := by unfold Core.setG; split <;> rfl
@[simp] theorem Core.setG_nominal (k : Core) (d : GReg) (v : Word) : (k.setG d v).nominal = k.nominal := by unfold Core.setG; split <;> rfl
@[simp] theorem Core.setG_snapshot (k : Core) (d : GReg) (v : Word) : (k.setG d v).snapshot = k.snapshot := by unfold Core.setG; split <;> rfl
@[simp] theorem Core.setG_dispatched (k : Core) (d : GReg) (v : Word) : (k.setG d v).dispatched = k.dispatched := by unfold Core.setG; split <;> rfl
@[simp] theorem Core.setG_cls (k : Core) (d : GReg) (v : Word) : (k.setG d v).cls = k.cls := by unfold Core.setG; split <;> rfl
@[simp] theorem Core.setG_b (k : Core) (d : GReg) (v : Word) : (k.setG d v).b = k.b := by unfold Core.setG; split <;> rfl
@[simp] theorem Core.setG_k (k : Core) (d : GReg) (v : Word) : (k.setG d v).k = k.k := by unfold Core.setG; split <;> rfl
@[simp] theorem Core.setG_rstack (k : Core) (d : GReg) (v : Word) : (k.setG d v).rstack = k.rstack := by unfold Core.setG; split <;> rfl
@[simp] theorem Core.setG_pc (k : Core) (d : GReg) (v : Word) : (k.setG d v).pc = k.pc := by unfold Core.setG; split <;> rfl
@[simp] theorem Core.setG_out (k : Core) (d : GReg) (v : Word) : (k.setG d v).out = k.out := by unfold Core.setG; split <;> rfl
@[simp] theorem Core.setG_outFrozen (k : Core) (d : GReg) (v : Word) : (k.setG d v).outFrozen = k.outFrozen := by unfold Core.setG; split <;> rfl
@[simp] theorem Core.setG_outTop (k : Core) (d : GReg) (v : Word) : (k.setG d v).outTop = k.outTop := by unfold Core.setG; split <;> rfl
@[simp] theorem Core.setG_scr (k : Core) (d : GReg) (v : Word) : (k.setG d v).scr = k.scr := by unfold Core.setG; split <;> rfl
@[simp] theorem Core.setG_retired (k : Core) (d : GReg) (v : Word) : (k.setG d v).retired = k.retired := by unfold Core.setG; split <;> rfl
@[simp] theorem Core.setG_hash (k : Core) (d : GReg) (v : Word) : (k.setG d v).hash = k.hash := by unfold Core.setG; split <;> rfl
@[simp] theorem Core.setG_stage (k : Core) (d : GReg) (v : Word) : (k.setG d v).stage = k.stage := by unfold Core.setG; split <;> rfl
@[simp] theorem Core.setG_commitMade (k : Core) (d : GReg) (v : Word) : (k.setG d v).commitMade = k.commitMade := by unfold Core.setG; split <;> rfl
@[simp] theorem Core.setG_commitCsn (k : Core) (d : GReg) (v : Word) : (k.setG d v).commitCsn = k.commitCsn := by unfold Core.setG; split <;> rfl
@[simp] theorem Core.setG_jobs (k : Core) (d : GReg) (v : Word) : (k.setG d v).jobs = k.jobs := by unfold Core.setG; split <;> rfl
@[simp] theorem Core.setG_streamJob (k : Core) (d : GReg) (v : Word) : (k.setG d v).streamJob = k.streamJob := by unfold Core.setG; split <;> rfl
@[simp] theorem Core.setG_sealedCompares (k : Core) (d : GReg) (v : Word) : (k.setG d v).sealedCompares = k.sealedCompares := by unfold Core.setG; split <;> rfl
@[simp] theorem Core.setG_wait (k : Core) (d : GReg) (v : Word) : (k.setG d v).wait = k.wait := by unfold Core.setG; split <;> rfl
@[simp] theorem Core.setG_insn (k : Core) (d : GReg) (v : Word) : (k.setG d v).insn = k.insn := by unfold Core.setG; split <;> rfl
@[simp] theorem Core.setG_decided (k : Core) (d : GReg) (v : Word) : (k.setG d v).decided = k.decided := by unfold Core.setG; split <;> rfl
@[simp] theorem Core.storeBytes_world (k : Core) (w : Win) (x : Nat) (l : Bytes) : (k.storeBytes w x l).world = k.world := by cases w <;> rfl
@[simp] theorem Core.storeBytes_req (k : Core) (w : Win) (x : Nat) (l : Bytes) : (k.storeBytes w x l).req = k.req := by cases w <;> rfl
@[simp] theorem Core.storeBytes_progVersion (k : Core) (w : Win) (x : Nat) (l : Bytes) : (k.storeBytes w x l).progVersion = k.progVersion := by cases w <;> rfl
@[simp] theorem Core.storeBytes_nominal (k : Core) (w : Win) (x : Nat) (l : Bytes) : (k.storeBytes w x l).nominal = k.nominal := by cases w <;> rfl
@[simp] theorem Core.storeBytes_snapshot (k : Core) (w : Win) (x : Nat) (l : Bytes) : (k.storeBytes w x l).snapshot = k.snapshot := by cases w <;> rfl
@[simp] theorem Core.storeBytes_dispatched (k : Core) (w : Win) (x : Nat) (l : Bytes) : (k.storeBytes w x l).dispatched = k.dispatched := by cases w <;> rfl
@[simp] theorem Core.storeBytes_cls (k : Core) (w : Win) (x : Nat) (l : Bytes) : (k.storeBytes w x l).cls = k.cls := by cases w <;> rfl
@[simp] theorem Core.storeBytes_g (k : Core) (w : Win) (x : Nat) (l : Bytes) : (k.storeBytes w x l).g = k.g := by cases w <;> rfl
@[simp] theorem Core.storeBytes_b (k : Core) (w : Win) (x : Nat) (l : Bytes) : (k.storeBytes w x l).b = k.b := by cases w <;> rfl
@[simp] theorem Core.storeBytes_k (k : Core) (w : Win) (x : Nat) (l : Bytes) : (k.storeBytes w x l).k = k.k := by cases w <;> rfl
@[simp] theorem Core.storeBytes_rstack (k : Core) (w : Win) (x : Nat) (l : Bytes) : (k.storeBytes w x l).rstack = k.rstack := by cases w <;> rfl
@[simp] theorem Core.storeBytes_pc (k : Core) (w : Win) (x : Nat) (l : Bytes) : (k.storeBytes w x l).pc = k.pc := by cases w <;> rfl
@[simp] theorem Core.storeBytes_outFrozen (k : Core) (w : Win) (x : Nat) (l : Bytes) : (k.storeBytes w x l).outFrozen = k.outFrozen := by cases w <;> rfl
@[simp] theorem Core.storeBytes_retired (k : Core) (w : Win) (x : Nat) (l : Bytes) : (k.storeBytes w x l).retired = k.retired := by cases w <;> rfl
@[simp] theorem Core.storeBytes_hash (k : Core) (w : Win) (x : Nat) (l : Bytes) : (k.storeBytes w x l).hash = k.hash := by cases w <;> rfl
@[simp] theorem Core.storeBytes_stage (k : Core) (w : Win) (x : Nat) (l : Bytes) : (k.storeBytes w x l).stage = k.stage := by cases w <;> rfl
@[simp] theorem Core.storeBytes_commitMade (k : Core) (w : Win) (x : Nat) (l : Bytes) : (k.storeBytes w x l).commitMade = k.commitMade := by cases w <;> rfl
@[simp] theorem Core.storeBytes_commitCsn (k : Core) (w : Win) (x : Nat) (l : Bytes) : (k.storeBytes w x l).commitCsn = k.commitCsn := by cases w <;> rfl
@[simp] theorem Core.storeBytes_jobs (k : Core) (w : Win) (x : Nat) (l : Bytes) : (k.storeBytes w x l).jobs = k.jobs := by cases w <;> rfl
@[simp] theorem Core.storeBytes_streamJob (k : Core) (w : Win) (x : Nat) (l : Bytes) : (k.storeBytes w x l).streamJob = k.streamJob := by cases w <;> rfl
@[simp] theorem Core.storeBytes_sealedCompares (k : Core) (w : Win) (x : Nat) (l : Bytes) : (k.storeBytes w x l).sealedCompares = k.sealedCompares := by cases w <;> rfl
@[simp] theorem Core.storeBytes_wait (k : Core) (w : Win) (x : Nat) (l : Bytes) : (k.storeBytes w x l).wait = k.wait := by cases w <;> rfl
@[simp] theorem Core.storeBytes_insn (k : Core) (w : Win) (x : Nat) (l : Bytes) : (k.storeBytes w x l).insn = k.insn := by cases w <;> rfl
@[simp] theorem Core.storeBytes_decided (k : Core) (w : Win) (x : Nat) (l : Bytes) : (k.storeBytes w x l).decided = k.decided := by cases w <;> rfl

@[simp] theorem Core.getG_zero (k : Core) : k.getG 0 = 0 := rfl
@[simp] theorem Core.setG_zero (k : Core) (v : Word) : k.setG 0 v = k := rfl
theorem Core.getG_setG_same (k : Core) {d : GReg} (h : d ≠ 0) (v : Word) : (k.setG d v).getG d = v := by
  simp [Core.setG, Core.getG, h]
theorem Core.getG_setG_other (k : Core) {d a : GReg} (h : a ≠ d) (v : Word) : (k.setG d v).getG a = k.getG a := by
  have h' : ¬ (d.val = a.val) := fun e => h (Fin.ext e.symm)
  by_cases hd : d = 0
  · simp [Core.setG, hd]
  · by_cases ha : a = 0
    · simp [Core.getG, ha]
    · simp [Core.setG, Core.getG, hd, ha, h']
@[simp] theorem Core.getB_setB_same (k : Core) (d : BReg) (v : SealedBlock) : (k.setB d v).getB d = v := by
  simp [Core.setB, Core.getB]
theorem Core.getB_setB_other (k : Core) {d a : BReg} (h : a ≠ d) (v : SealedBlock) : (k.setB d v).getB a = k.getB a := by
  have h' : ¬ (d.val = a.val) := fun e => h (Fin.ext e.symm)
  simp [Core.setB, Core.getB, h']
@[simp] theorem Core.getK_setK_same (k : Core) (d : KReg) (v : Option Handle) : (k.setK d v).getK d = v := by
  simp [Core.setK, Core.getK]
theorem Core.getK_setK_other (k : Core) {d a : KReg} (h : a ≠ d) (v : Option Handle) : (k.setK d v).getK a = k.getK a := by
  have h' : ¬ (d.val = a.val) := fun e => h (Fin.ext e.symm)
  simp [Core.setK, Core.getK, h']

end Sys2Proof.Machine
end

