-- ==== Sys2Proof/Laws/Commands.lean ====
section
/-! SUPPORT. What the frames of a verb and of a security controller command answer, and what a step does with the front of the queue. -/

namespace Sys2Proof.Machine

variable {s t u : State} {n i code : Nat} {k k' : Core} {f : Core → VerbAct} {st : Status} {body : Bytes} {w : Wait} {q : Request}

/-! ### Verbs (R187 to R195) -/

/-- A verb that ends: its response carries the body only with OK (R18). -/
theorem verb_ends (h : verbRuns s n i k code) (hf : f k = .ends t st body) :
    s.verb (.tx n i) code f = t.endInvocation (.tx n i) { k with wait := .none } st (if st = 0 then body else []) := by
  obtain ⟨h1, h2, h3, h4⟩ := h
  simp [State.verb, h1, h2, h3, h4, hf, State.endWith]
theorem verb_waits (h : verbRuns s n i k code) (hf : f k = .waits t w) :
    s.verb (.tx n i) code f = t.setCore (.tx n i) { k with wait := w } := by
  obtain ⟨h1, h2, h3, h4⟩ := h
  simp [State.verb, h1, h2, h3, h4, hf]
theorem verb_holds (h : verbRuns s n i k code) (hf : f k = .holds t k') :
    s.verb (.tx n i) code f = t.setCore (.tx n i) k' := by
  obtain ⟨h1, h2, h3, h4⟩ := h
  simp [State.verb, h1, h2, h3, h4, hf]
/-- Everything the frame can do. -/
theorem verb_cases (s : State) (c : CoreId) (code : Nat) (f : Core → VerbAct) :
    s.verb c code f = s ∨ ∃ n i k, c = .tx n i ∧ verbRuns s n i k code ∧
      ((∃ t st body, f k = .ends t st body ∧ s.verb c code f =
          t.endInvocation c { k with wait := .none } st (if st = 0 then body else [])) ∨
       (∃ t w, f k = .waits t w ∧ s.verb c code f = t.setCore c { k with wait := w }) ∨
       (∃ t k', f k = .holds t k' ∧ s.verb c code f = t.setCore c k')) := by
  cases c with
  | sc => exact .inl rfl
  | tx n i =>
    rcases hc : s.core? (.tx n i) with _ | k
    · exact .inl (by simp [State.verb, hc])
    · by_cases hr : k.world ≠ 1 ∨ k.req.verb ≠ code ∨ k.verbTakes = false
      · exact .inl (by simp only [State.verb, hc, if_pos hr])
      · have h : verbRuns s n i k code := by
          simp only [not_or, Decidable.not_not, Bool.not_eq_false, ne_eq] at hr
          exact ⟨hc, hr.1, hr.2.1, hr.2.2⟩
        refine .inr ⟨n, i, k, rfl, h, ?_⟩
        rcases hf : f k with ⟨t, st, body⟩ | ⟨t, w⟩ | ⟨t, k'⟩
        · exact .inl ⟨t, st, body, rfl, verb_ends h hf⟩
        · exact .inr (.inl ⟨t, w, rfl, verb_waits h hf⟩)
        · exact .inr (.inr ⟨t, k', rfl, verb_holds h hf⟩)

/-! ### Commands of the security controller (R548) -/

/-- The command at the head of the queue is taken and handled. -/
theorem command_taken {g : State → Request → State} (h : scTakes s t code q) : s.command code g = g t q := by
  obtain ⟨h1, h2, l, h3, rfl⟩ := h
  simp [State.command, h3, h2, State.scHandles, h1]
/-- Everything the frame can do. -/
theorem command_cases (s : State) (code : Nat) (g : State → Request → State) :
    s.command code g = s ∨ ∃ q l, s.sc.queue = q :: l ∧ q.verb = code ∧ s.scHandles code = true ∧
      s.command code g = g { s with sc := { s.sc with queue := l } } q := by
  rcases hq : s.sc.queue with _ | ⟨q, l⟩
  · exact .inl (by simp [State.command, hq])
  · by_cases h : q.verb = code ∧ s.scHandles code
    · exact .inr ⟨q, l, rfl, h.1, h.2, by simp only [State.command, hq, if_pos h]⟩
    · exact .inl (by simp only [State.command, hq, if_neg h])

/-! ### A step -/

theorem step_front {c : Instr} {l : List Instr} (h : s.pending = c :: l) : step s = exec c { s with pending := l } := by
  simp [step, h]
theorem step_idle (h : s.pending = []) : step s = .next s.tick := by simp [step, h]

end Sys2Proof.Machine
end

