-- ==== Sys2Proof/Laws/Ghedo.lean ====
section
/-! SUPPORT. What the frame of a Ghedo instruction answers, once for each outcome of an instruction, and which states it leaves alone. -/

namespace Sys2Proof.Machine

variable {s t : State} {c : CoreId} {k k' : Core} {i : Option Instr} {f : Core → Act} {w : Wait} {code st : Status} {body : Bytes}

/-! ### A core that takes an instruction -/

theorem takes_idle (h : k.wait = .none) : k.takes i = true := by simp [Core.takes, Wait.idle, h]
/-- The budget does not end what a ready core does. -/
theorem ready_budget (h : coreReady s c k) : ¬ (c ≠ .sc ∧ instructionBudget ≤ k.retired) := fun ⟨h1, h2⟩ =>
  h.2.2.elim h1 fun h3 => absurd h3 (Nat.not_lt.mpr h2)
theorem ghedoFor_done (h : coreReady s c k) (hf : f k = .done t k') :
    s.ghedoFor c i f = t.setCore c { k' with retired := k.retired + 1, insn := none } := by
  simp only [State.ghedoFor, h.1, takes_idle h.2.1, if_neg (ready_budget h), hf, Bool.true_eq_false, if_false]
theorem ghedoFor_stall (h : coreReady s c k) (hf : f k = .stall t w) :
    s.ghedoFor c i f = t.setCore c { k with wait := w, insn := i } := by
  simp only [State.ghedoFor, h.1, takes_idle h.2.1, if_neg (ready_budget h), hf, Bool.true_eq_false, if_false]
theorem ghedoFor_fault (h : coreReady s c k) (hf : f k = .fault code) : s.ghedoFor c i f = s.endFault c k code := by
  simp only [State.ghedoFor, h.1, takes_idle h.2.1, if_neg (ready_budget h), hf, Bool.true_eq_false, if_false]
theorem ghedoFor_refuse (h : coreReady s c k) (hf : f k = .refuse code) : s.ghedoFor c i f = s.endWith c k code [] := by
  simp only [State.ghedoFor, h.1, takes_idle h.2.1, if_neg (ready_budget h), hf, Bool.true_eq_false, if_false]
theorem ghedoFor_finish (h : coreReady s c k) (hf : f k = .finish st body) :
    s.ghedoFor c i f = s.endWith c { k with retired := k.retired + 1 } st body := by
  simp only [State.ghedoFor, h.1, takes_idle h.2.1, if_neg (ready_budget h), hf, Bool.true_eq_false, if_false]

/-! ### The same, whatever the core waits for -/

/-- A core without an invocation takes no instruction. -/
theorem ghedoFor_absent (h : s.core? c = none) : s.ghedoFor c i f = s := by simp [State.ghedoFor, h]
/-- A core that waits for something else takes no instruction. -/
theorem ghedoFor_waiting (h : s.core? c = some k) (hw : k.takes i = false) : s.ghedoFor c i f = s := by simp [State.ghedoFor, h, hw]
/-- The budget of an invocation is spent before the instruction does anything (R140, R155). -/
theorem ghedoFor_budget (h : s.core? c = some k) (hw : k.takes i = true) (hc : c ≠ .sc) (hb : instructionBudget ≤ k.retired) :
    s.ghedoFor c i f = s.endFault c k St.budgetExceeded := by simp [State.ghedoFor, h, hw, hb, hc]
/-- Everything the frame can do. -/
theorem ghedoFor_cases (s : State) (c : CoreId) (i : Option Instr) (f : Core → Act) :
    s.ghedoFor c i f = s ∨ ∃ k, s.core? c = some k ∧ k.takes i = true ∧
      ((c ≠ .sc ∧ instructionBudget ≤ k.retired ∧ s.ghedoFor c i f = s.endFault c k St.budgetExceeded) ∨
       (∃ t k', f k = .done t k' ∧ s.ghedoFor c i f = t.setCore c { k' with retired := k.retired + 1, insn := none }) ∨
       (∃ t w, f k = .stall t w ∧ s.ghedoFor c i f = t.setCore c { k with wait := w, insn := i }) ∨
       (∃ e, f k = .fault e ∧ s.ghedoFor c i f = s.endFault c k e) ∨
       (∃ e, f k = .refuse e ∧ s.ghedoFor c i f = s.endWith c k e []) ∨
       (∃ e l, f k = .finish e l ∧ s.ghedoFor c i f = s.endWith c { k with retired := k.retired + 1 } e l)) := by
  rcases hc : s.core? c with _ | k
  · exact .inl (ghedoFor_absent hc)
  · rcases hw : k.takes i with _ | _
    · exact .inl (ghedoFor_waiting hc hw)
    · refine .inr ⟨k, rfl, hw, ?_⟩
      by_cases hb : c ≠ .sc ∧ instructionBudget ≤ k.retired
      · exact .inl ⟨hb.1, hb.2, ghedoFor_budget hc hw hb.1 hb.2⟩
      · refine .inr ?_
        simp only [State.ghedoFor, hc, hw, if_neg hb, Bool.true_eq_false, if_false]
        rcases f k with ⟨t, k'⟩ | ⟨t, w⟩ | e | e | ⟨e, l⟩
        · exact .inl ⟨t, k', rfl, rfl⟩
        · exact .inr (.inl ⟨t, w, rfl, rfl⟩)
        · exact .inr (.inr (.inl ⟨e, rfl, rfl⟩))
        · exact .inr (.inr (.inr (.inl ⟨e, rfl, rfl⟩)))
        · exact .inr (.inr (.inr (.inr ⟨e, l, rfl, rfl⟩)))

/-! ### Register instructions -/

theorem ghedoPure_ready {g : Core → Core} (h : coreReady s c k) (hr : (g k).retired = k.retired) :
    s.ghedoPure c g = s.setCore c (g k).stepped := by
  unfold State.ghedoPure State.ghedo
  refine (ghedoFor_done (t := s) (k' := (g k).adv) h (by rfl)).trans ?_
  simp [Core.stepped, Core.adv, hr]
theorem alu_ready {d a b : GReg} {g : Word → Word → Word} (h : coreReady s c k) :
    s.alu c d a b g = s.setCore c (k.setG d (g (k.getG a) (k.getG b))).stepped := by
  unfold State.alu; exact ghedoPure_ready h (Core.setG_retired ..)
theorem aluImm_ready {d a : GReg} {g : Word → Word} (h : coreReady s c k) :
    s.aluImm c d a g = s.setCore c (k.setG d (g (k.getG a))).stepped := by
  unfold State.aluImm; exact ghedoPure_ready h (Core.setG_retired ..)

/-! ### Endings -/

@[simp] theorem endFault_sc : s.endFault .sc k code = s.scTrap k := rfl
@[simp] theorem endWith_sc : s.endWith .sc k st body = s.scTrap k := rfl
@[simp] theorem endWith_tx (n i : Nat) : s.endWith (.tx n i) k st body = s.endInvocation (.tx n i) k st body := rfl

end Sys2Proof.Machine
end

