-- ==== Sys2Proof/WellFormed.lean ====
section
/-! DEFINITION. Which commands the environment of a YM8-4096 can send: the numbers of R1, R24, R312, R384, R432, R480 and
R519 in range, and operands that carry one value per source or window of R312. A command outside these ranges names
nothing, and exec leaves the state as it is (log 1). -/

namespace Sys2Proof

/-- A core that exists (R24). -/
def CoreId.ok : CoreId → Bool
  | .sc => true
  | .tx n k => decide (n < 12) && decide (k < 16)

/-- A gated block that exists (R1). -/
def PUnit.ok : PUnit → Bool
  | .cluster n => decide (n < 12)
  | .lane n => decide (n < 12)
  | .lne n => decide (n < 32)

/-- A unit with a mask generator that exists (R278). -/
def MaskUnit.ok : MaskUnit → Bool
  | .sbu c u => decide (c < 12) && decide (u < 4)
  | .lane n => decide (n < 12)

/-- One window of 1,024 raw bits from each source (R312). -/
def windowsOk (l : List Bytes) : Bool := l.length == 8 && l.all fun w => w.length == 128

/-- What the environment can send. -/
def Instr.wellFormed : Instr → Bool
  | .add c _ _ _ => c.ok
  | .sub c _ _ _ => c.ok
  | .and c _ _ _ => c.ok
  | .or c _ _ _ => c.ok
  | .xor c _ _ _ => c.ok
  | .andn c _ _ _ => c.ok
  | .sll c _ _ _ => c.ok
  | .srl c _ _ _ => c.ok
  | .sra c _ _ _ => c.ok
  | .rol c _ _ _ => c.ok
  | .mul c _ _ _ => c.ok
  | .mulhu c _ _ _ => c.ok
  | .divu c _ _ _ => c.ok
  | .remu c _ _ _ => c.ok
  | .slt c _ _ _ => c.ok
  | .sltu c _ _ _ => c.ok
  | .seq c _ _ _ => c.ok
  | .sel c _ _ _ _ => c.ok
  | .bswap c _ _ => c.ok
  | .addi c _ _ _ => c.ok
  | .andi c _ _ _ => c.ok
  | .ori c _ _ _ => c.ok
  | .xori c _ _ _ => c.ok
  | .shiftImm c _ _ _ _ => c.ok
  | .slti c _ _ _ => c.ok
  | .sltiu c _ _ _ => c.ok
  | .li c _ _ => c.ok
  | .lih c _ _ _ => c.ok
  | .beq c _ _ _ => c.ok
  | .bne c _ _ _ => c.ok
  | .blt c _ _ _ => c.ok
  | .bge c _ _ _ => c.ok
  | .bltu c _ _ _ => c.ok
  | .bgeu c _ _ _ => c.ok
  | .jmp c _ => c.ok
  | .call c _ => c.ok
  | .nop c => c.ok
  | .ret c => c.ok
  | .endInv c _ => c.ok
  | .fail c _ => c.ok
  | .mono c _ => c.ok
  | .csrr c _ _ => c.ok
  | .csrw c _ _ => c.ok
  | .eret c => c.ok
  | .wfi c => c.ok
  | .fence c => c.ok
  | .ld1 c _ _ _ _ => c.ok
  | .ld2 c _ _ _ _ => c.ok
  | .ld4 c _ _ _ _ => c.ok
  | .ld8 c _ _ _ _ => c.ok
  | .ld1s c _ _ _ _ => c.ok
  | .ld2s c _ _ _ _ => c.ok
  | .ld4s c _ _ _ _ => c.ok
  | .ldb c _ _ _ _ => c.ok
  | .st1 c _ _ _ _ => c.ok
  | .st2 c _ _ _ _ => c.ok
  | .st4 c _ _ _ _ => c.ok
  | .st8 c _ _ _ _ => c.ok
  | .stb c _ _ _ _ => c.ok
  | .ldctr c _ _ => c.ok
  | .bmov c _ _ => c.ok
  | .bxor c _ _ _ => c.ok
  | .band c _ _ _ => c.ok
  | .bor c _ _ _ => c.ok
  | .bnot c _ _ => c.ok
  | .bsel c _ _ _ _ => c.ok
  | .bget c _ _ _ => c.ok
  | .bshl c _ _ _ => c.ok
  | .bshr c _ _ _ => c.ok
  | .bli c _ _ => c.ok
  | .bins c _ _ _ _ => c.ok
  | .rnd c _ => c.ok
  | .rndg c _ => c.ok
  | .aese c _ _ _ => c.ok
  | .aesd c _ _ _ => c.ok
  | .tdese c _ _ _ => c.ok
  | .tdesd c _ _ _ => c.ok
  | .cmacu c _ _ _ _ => c.ok
  | .cmac1 c _ _ _ _ => c.ok
  | .cbcmac c _ _ _ => c.ok
  | .cbcmac3 c _ _ _ _ => c.ok
  | .hashuStart c _ _ _ _ => c.ok
  | .hashuAbsorb c _ _ _ => c.ok
  | .hashuOut c _ _ _ => c.ok
  | .hashuDiscard c _ => c.ok
  | .hashCompressionDone c _ => c.ok
  | .pinfmt c _ _ _ _ _ => c.ok
  | .pine c _ _ _ _ _ => c.ok
  | .bwrap c _ _ _ => c.ok
  | .bopen c _ _ _ _ _ => c.ok
  | .ctcmp c _ _ _ _ => c.ok
  | .kld c _ _ => c.ok
  | .kclr c _ => c.ok
  | .kmov c _ _ => c.ok
  | .kattr c _ _ _ => c.ok
  | .kgen c _ _ => c.ok
  | .kdrv c _ _ _ _ _ => c.ok
  | .kform c _ _ _ _ => c.ok
  | .kunw c _ _ _ _ _ => c.ok
  | .kexp c _ _ _ _ _ => c.ok
  | .lsub c _ _ => c.ok
  | .xsub c _ _ => c.ok
  | .jwait c _ _ => c.ok
  | .jtest c _ _ => c.ok
  | .skput c _ _ => c.ok
  | .skinv c _ => c.ok
  | .sctr c _ _ => c.ok
  | .stab c _ _ => c.ok
  | .sitem c _ _ => c.ok
  | .commit c _ _ => c.ok
  | .keyGenerate c => c.ok
  | .keyImport c => c.ok
  | .keyExport c => c.ok
  | .keyTranslate c => c.ok
  | .keyInvalidate c => c.ok
  | .keyInfo c => c.ok
  | .pinTranslate c => c.ok
  | .pinMakeReference c => c.ok
  | .pinVerifyReference c => c.ok
  | .pinCompare c => c.ok
  | .arqcVerify c => c.ok
  | .arpcGenerate c => c.ok
  | .scriptMac c => c.ok
  | .dukptAesPinTranslate c => c.ok
  | .dukptAesDecrypt c => c.ok
  | .dukptAesMacVerify c => c.ok
  | .dukptTdesPinTranslate c => c.ok
  | .dukptTdesDecrypt c => c.ok
  | .dukptTdesMacVerify c => c.ok
  | .dukptInitialKey c => c.ok
  | .macGenerate c => c.ok
  | .macVerify c => c.ok
  | .dataEncrypt c => c.ok
  | .dataDecrypt c => c.ok
  | .bulkEncrypt c => c.ok
  | .bulkDecrypt c => c.ok
  | .tokenise c => c.ok
  | .detokenise c => c.ok
  | .dataWrap c => c.ok
  | .dataUnwrap c => c.ok
  | .sign c => c.ok
  | .verify c => c.ok
  | .keyAgree c => c.ok
  | .kemEncapsulate c => c.ok
  | .kemDecapsulate c => c.ok
  | .keypairGenerate c => c.ok
  | .rsaDecrypt c => c.ok
  | .waybill c => c.ok
  | .random c => c.ok
  | .queueFlush c => c.ok
  | .partitionStatus c => c.ok
  | .partitionReset => true
  | .partitionQueueFlush => true
  | .sessionClose => true
  | .partitionResetCancel p => decide (p < 4096)
  | .partitionResetWipe p => decide (p < 4096)
  | .stageOpen => true
  | .stageAdd => true
  | .stageValidate => true
  | .stageApply => true
  | .stageDiscard => true
  | .stageStatus => true
  | .scCommandResume => true
  | .ceremonyOpen => true
  | .ceremonyPassword => true
  | .ceremonyStatus => true
  | .ceremonyData => true
  | .ceremonyResult => true
  | .ceremonyCancel => true
  | .tokenSetPassword => true
  | .tokenErase => true
  | .ceremonyTimeout => true
  | .tokenCountExpiry n => decide (n < 16)
  | .tokenDetectClosed n identity _ _ => decide (n < 2) && identity.length == 256
  | .tokenRemoved n => decide (n < 2)
  | .tokenOvercurrent n => decide (n < 2)
  | .tokenResponse n _ => decide (n < 2)
  | .tokenBusyEnd n => decide (n < 2)
  | .firmwareBegin => true
  | .firmwareData => true
  | .firmwareEnd => true
  | .bootStatus => true
  | .debugChallenge => true
  | .debugGrantExpiry => true
  | .platformStatus => true
  | .recoveryBegin => true
  | .recoveryData => true
  | .recoveryEnd => true
  | .platformRecover => true
  | .platformRestart => true
  | .deviceCertificate => true
  | .powerState => true
  | .tamperStatus => true
  | .rngTap => true
  | .gbStatus => true
  | .gbRead => true
  | .gbClear => true
  | .clockSet => true
  | .dumpStatus => true
  | .dumpRead => true
  | .dumpRelease => true
  | .tapFlush => true
  | .ethernetFrameReceived p f => decide (p < 8) && decide (64 ≤ f.octets)
  | .arpNdRequest p _ => decide (p < 8)
  | .icmpEchoRequest p _ _ => decide (p < 8)
  | .clientHello f => decide (f.port < 8)
  | .cookieModeExit => true
  | .serverHelloReady _ => true
  | .clientFinish f => decide (f.port < 8)
  | .handshakeTimeout _ => true
  | .cookieKeyRefresh => true
  | .requestFrame f => decide (f.port < 8)
  | .blocksFrame f => decide (f.port < 8)
  | .blockAck f => decide (f.port < 8)
  | .blockAckTimer _ _ => true
  | .blockResendTimer _ _ _ => true
  | .messageAbandoned _ _ => true
  | .reassemblyTimeout _ _ => true
  | .rekey f => decide (f.port < 8)
  | .rekeyAck f => decide (f.port < 8)
  | .rekeyStart _ => true
  | .epochKeyErase _ => true
  | .sessionExhausted _ => true
  | .close f => decide (f.port < 8)
  | .keepalive f => decide (f.port < 8)
  | .sessionIdle _ => true
  | .linkDown p => decide (p < 8)
  | .linkUp p => decide (p < 8)
  | .responseEgress => true
  | .dispatchSlot => true
  | .unitPowerGate u => u.ok
  | .unitResumeDone u => u.ok
  | .commitAdmit => true
  | .commitBacklog _ => true
  | .commitJournaled => true
  | .commitApply => true
  | .mirrorAckTimeout _ => true
  | .keyCheckpointStart => true
  | .keyCheckpointWritten => true
  | .lneJobLoad => true
  | .lneYieldPoint n => decide (n < 32)
  | .lneJobComplete n => decide (n < 32)
  | .lneAgePromotion _ => true
  | .lneRngTimeout _ => true
  | .laneJobStart n => decide (n < 12)
  | .laneResumeTimer _ => true
  | .laneJobComplete n => decide (n < 12)
  | .laneStallTimeout _ => true
  | .maskReseedRequest u => u.ok
  | .maskReseedStall u => u.ok
  | .maskSeedArrival u => u.ok
  | .rngWindowEnd w => windowsOk w
  | .rngStartup w _ => decide (1 ≤ w.length ∧ w.length ≤ 4) && w.all windowsOk
  | .rngStartupRetry w _ => decide (1 ≤ w.length ∧ w.length ≤ 4) && w.all windowsOk
  | .rngReaderTimeout c => c.ok
  | .rngTapEnd => true
  | .mirrorLinkLock => true
  | .mirrorHandshakeDone _ => true
  | .mirrorHandshakeRetry => true
  | .mirrorHeartbeatTimer => true
  | .mirrorHeartbeat _ => true
  | .mirrorRecords _ _ _ _ => true
  | .mirrorBlockAck _ _ _ _ => true
  | .mirrorBlockResendTimer _ _ => true
  | .mirrorClaim _ _ => true
  | .mirrorSnapshot _ _ _ => true
  | .mirrorStandDown _ => true
  | .resyncControl _ _ => true
  | .lanternFrameTimer => true
  | .lanternFrame _ => true
  | .lanternTamper _ => true
  | .pathSilent _ => true
  | .claimAnnounceTimer => true
  | .claimAnnounce p _ => decide (p < 8)
  | .mirStartWaitExpiry => true
  | .resyncSnapshotLoaded _ => true
  | .resyncRestart => true
  | .coldStart => true
  | .warmReset => true
  | .moduleStarted => true
  | .s3Wake _ => true
  | .waysideLoadImage _ _ => true
  | .waysideRevoke _ => true
  | .waysideToTest _ => true
  | .tamperTrip _ => true
  | .tamperResetRelease => true
  | .vbatAbsent => true
  | .mainPowerLost => true
  | .p12vOvervoltage => true
  | .s2EntryDone => true
  | .s2Wake _ => true
  | .s2IdleTimer => true
  | .s3EntryDone => true
  | .pwrWakeN => true
  | .porterAlarm => true
  | .pltPwrGoodRise => true
  | .pltPwrGoodFall => true
  | .platformPowerGoodWait => true
  | .platformReleasedEarly _ _ => true
  | .platformVerified => true
  | .regionMismatch _ => true
  | .serveTimeout => true
  | .platformRecoveryWritten => true
  | .hostFlashCommand c _ => decide (c < 2)
  | .identityTreeBuilt => true
  | .tapItemWrite n _ _ => decide (n < 18)
  | .guestbookRead n _ => decide (n < 18)
  | .guestbookWindowClose => true
  | .gbRateRefill => true
  | .fatalError c => decide (1 ≤ c ∧ c ≤ 6)
  | .fatalReset => true
  | .svcSqTailWrite r _ => decide (r < 8)
  | .svcCqHeadWrite r _ => decide (r < 8)
  | .svcRingEnableWrite r _ => decide (r < 8)
  | .ringEntryFetched r _ _ => decide (r < 8)
  | .ringCompletion r _ => decide (r < 8)
  | .ringCoalesceTimer r => decide (r < 8)
  | .svcFlr => true
  | .svcHotReset => true
  | .svcLinkDown => true
  | .svcPerstAssert => true
  | .reg64LowRead off => decide (off < 65536) && off % 4 == 0
  | .registerWrite off _ => decide (off < 65536) && off % 4 == 0
  | .smbIdent => true
  | .smbState => true
  | .smbDieTemp => true
  | .smbPower => true
  | .smbAlertRead => true
  | .smbAlertWrite _ => true
  | .smbSerial => true
  | .smbAlertResponse => true
  | .thermalWarnChange _ => true
  | .mirrorBlockAckTimer => true
  | .tokenBusyTimeout n => decide (n < 2)
  | .standbyRailLost => true
  | .platformRestartPowerOffEnd => true

end Sys2Proof
end

