-- ==== Sys2Proof/Tests/Slice0.lean ====
section
/-! SUPPORT. The model's own tests, with expected values worked from the spec, and for each statement with hypotheses concrete states
and operands that meet them. -/

open Sys2Proof.Machine

/-- A short-block unit takes `n` blocks for core 0 of cluster 0. -/
def Sys2Proof.Machine.State.served (s : State) (n : Nat) : Option State :=
  (s.core? (.tx 0 0)).bind fun k => match s.sbu (.tx 0 0) k n with | .ok t => some t | .stands _ _ => none

namespace Sys2Proof.Tests

-- One theorem at a time: each kernel evaluation waits for the ones before it, and a waiting thread holds its stack.
set_option Elab.async false

/-! ## States of the tests -/

/-- Core 0 of cluster 0. -/
def tx : CoreId := .tx 0 0
/-- A module in service whose core 0 of cluster 0 runs `k`, with its expanders up. -/
def onCore (k : Core) : State :=
  { State.reset with
    lifecycle := .deployed, sc := { mode := .running }, cores := [(tx, k)], clusters := [(0, { power := .active })],
    expanders := [(0, { ready := true }), (12, { ready := true }), (16, { ready := true })],
    porter := { power := .s0, unacked := false, latch := false, cause := 0, held := false, p12v := true, trunk := some (treeKey 0 0 []) },
    rng := { started := true, stopped := false } }
/-- The same without a core. -/
def idle : State := { onCore {} with cores := [] }
/-- The core after an instruction on it. -/
def after (i : Instr) (k : Core) : Option Core :=
  match exec i (onCore k) with
  | .next t => t.core? tx
  | _ => none
/-- What a register of the core holds after an instruction on it. -/
def gAfter (d : GReg) (i : Instr) (k : Core) : Option Word := (after i k).map (·.getG d)
/-- The status and body with which an instruction ended the invocation. -/
def answerOf (i : Instr) (k : Core) : List (Status × Bytes) :=
  match exec i (onCore k) with
  | .next t => if (t.core? tx).isNone then t.egress.map fun r => (r.status, r.body) else []
  | _ => []
/-- The status and body of the responses made by a command. -/
def replies (i : Instr) (s : State) : List (Status × Bytes) :=
  match exec i s with
  | .next t => t.egress.map fun r => (r.status, r.body)
  | _ => []
/-- A state with one command at the head of the security controller's queue. -/
def asked (s : State) (q : Request) : State := { s with sc := { s.sc with queue := [q] } }
/-- General registers by number. -/
def regs (l : List (Nat × Word)) : Vector Word 32 := Vector.ofFn fun i => getD i.val 0 l
/-- Block registers by number. -/
def blocks (l : List (Nat × SealedBlock)) : Vector SealedBlock 16 := Vector.ofFn fun i => getD i.val {} l
/-- One key register. -/
def keyIn (h : Handle) : Vector (Option Handle) 8 := (Vector.replicate 8 none).set 0 (some h)
/-- A key of a type with a usage, valid everywhere, owned by partition 0. -/
def keyOf (t : Nat) (u : BitVec 16) (material : Bytes) : Handle :=
  { ref := none, key := { attrs := { keyType := t, usage := u, worldMask := 0xFF, lcMask := 0xFF }, material := material } }
/-- A core with two registers set. -/
def at2 (x y : Word) : Core := { g := regs [(1, x), (2, y)] }
/-- A key that every check accepts. -/
def mat (t : Nat) (u : BitVec 16) (flags : BitVec 8 := 0) (material : Bytes := []) : KeyMat :=
  { attrs := { keyType := t, usage := u, worldMask := 0xFF, lcMask := 0xFF, flags := flags }, material := material }
/-- A module whose core runs `k`, with keys stored from CSN 0. -/
def holding (k : Core) (keys : List (Nat × KeyMat)) : State :=
  { onCore k with durable := { keys := keys.map fun e => (e.1, [(0, some e.2)]) } }
/-- A little-endian field in a body. -/
def le (n v : Nat) : Bytes := leBytes n v

/-- A body of `n` bytes with fields at offsets, zeros elsewhere. -/
def body (n : Nat) (l : List (Nat × Bytes)) : Bytes := l.foldl (fun b e => b.take e.1 ++ e.2 ++ b.drop (e.1 + e.2.length)) (zeros n)
/-- A template of an AES-128 key for encryption in worlds V and T. -/
def tmpl : Bytes := [3, 0, 1, 0, 0, 0, 6, 7] ++ zeros 24
/-- A PAN field of 12 digits. -/
def pan : Bytes := [12, 0x12, 0x34, 0x56, 0x78, 0x90, 0x12, 0xFF, 0xFF, 0xFF, 0xFF] ++ zeros 5

/-! ## Well-formed commands: each check refuses a term -/

theorem test_ill_core : (Instr.nop (.tx 12 0)).wellFormed = false ∧ (Instr.nop (.tx 0 16)).wellFormed = false ∧
    (Instr.sign (.tx 12 0)).wellFormed = false ∧ (Instr.nop (.tx 11 15)).wellFormed = true ∧ (Instr.nop .sc).wellFormed = true := by decide
theorem test_ill_unit : (Instr.unitPowerGate (.cluster 12)).wellFormed = false ∧ (Instr.unitPowerGate (.lane 12)).wellFormed = false ∧
    (Instr.unitPowerGate (.lne 32)).wellFormed = false ∧ (Instr.unitResumeDone (.lne 31)).wellFormed = true := by decide
theorem test_ill_mask : (Instr.maskReseedStall (.sbu 12 0)).wellFormed = false ∧ (Instr.maskReseedStall (.sbu 0 4)).wellFormed = false ∧
    (Instr.maskReseedStall (.lane 12)).wellFormed = false ∧ (Instr.maskReseedStall (.sbu 11 3)).wellFormed = true := by decide
theorem test_ill_window : (Instr.rngWindowEnd []).wellFormed = false ∧ (Instr.rngWindowEnd (List.replicate 8 [0])).wellFormed = false ∧
    (Instr.rngStartup [] true).wellFormed = false ∧ (Instr.rngStartupRetry [[]] true).wellFormed = false ∧
    (Instr.rngWindowEnd (List.replicate 8 (List.replicate 128 0))).wellFormed = true := by decide +kernel
theorem test_ill_partition : (Instr.partitionResetCancel 4096).wellFormed = false ∧ (Instr.partitionResetWipe 4096).wellFormed = false ∧
    (Instr.partitionResetWipe 4095).wellFormed = true := by decide
theorem test_ill_token : (Instr.tokenCountExpiry 16).wellFormed = false ∧
    (Instr.tokenDetectClosed 2 (zeros 256) true none).wellFormed = false ∧
    (Instr.tokenRemoved 2).wellFormed = false ∧ (Instr.tokenBusyTimeout 2).wellFormed = false ∧
    (Instr.tokenDetectClosed 1 [] true none).wellFormed = false ∧ (Instr.tokenDetectClosed 1 (zeros 256) true none).wellFormed = true := by decide +kernel
theorem test_ill_port : (Instr.linkUp 8).wellFormed = false ∧ (Instr.keepalive ⟨8, {}, { type := 0x17 }, []⟩).wellFormed = false ∧
    (Instr.ethernetFrameReceived 0 { octets := 63, l3 := .other }).wellFormed = false ∧
    (Instr.ethernetFrameReceived 7 { octets := 64, l3 := .other }).wellFormed = true := by decide
theorem test_ill_number : (Instr.lneYieldPoint 32).wellFormed = false ∧ (Instr.laneJobStart 12).wellFormed = false ∧
    (Instr.hostFlashCommand 2 ⟨0, 0, 0⟩).wellFormed = false ∧ (Instr.guestbookRead 18 .debug).wellFormed = false ∧
    (Instr.fatalError 0).wellFormed = false ∧ (Instr.fatalError 7).wellFormed = false ∧ (Instr.ringCoalesceTimer 8).wellFormed = false ∧
    (Instr.registerWrite 65536 0).wellFormed = false ∧ (Instr.reg64LowRead 2).wellFormed = false := by decide

/-! ## Words -/

/-- The opcode table gives no row bits, so no word spells a command. -/
theorem test_no_word_spells_a_command : decodeTableWord 32 0 = none ∧ decodeTableWord 0 0 = none ∧
    (State.reset.withFetchWord 32 0).pending = [] := by decide

/-! ## Integer instructions (R158, R159) -/

theorem test_add_wraps : gAfter 3 (.add tx 3 1 2) { g := regs [(1, -1), (2, 1)] } = some 0 := by decide
theorem test_write_to_g0_is_discarded : gAfter 0 (.add tx 0 1 2) { g := regs [(1, 7), (2, 1)] } = some 0 ∧
    (after (.add tx 0 1 2) { g := regs [(1, 7), (2, 1)] }).map (·.pc) = some 4 := by decide
theorem test_sub_andn : gAfter 1 (.sub tx 1 1 2) { g := regs [(1, 3), (2, 5)] } = some 0xFFFFFFFFFFFFFFFE ∧
    gAfter 1 (.andn tx 1 1 2) { g := regs [(1, 0xFF), (2, 0x0F)] } = some 0xF0 := by decide
theorem test_logic : gAfter 1 (.and tx 1 1 2) { g := regs [(1, 12), (2, 10)] } = some 8 ∧ gAfter 1 (.or tx 1 1 2) { g := regs [(1, 12), (2, 10)] } = some 14 ∧
    gAfter 1 (.xor tx 1 1 2) { g := regs [(1, 12), (2, 10)] } = some 6 := by decide
theorem test_shift_count_is_six_bits : gAfter 3 (.sll tx 3 1 2) { g := regs [(1, 1), (2, 65)] } = some 2 ∧
    gAfter 3 (.srl tx 3 1 2) { g := regs [(1, 0x8000000000000000), (2, 63)] } = some 1 ∧
    gAfter 3 (.sra tx 3 1 2) { g := regs [(1, -8), (2, 1)] } = some (-4) ∧
    gAfter 3 (.rol tx 3 1 2) { g := regs [(1, 0x8000000000000001), (2, 1)] } = some 3 := by decide
theorem test_multiply_divide : gAfter 3 (.mul tx 3 1 2) { g := regs [(1, -1), (2, -1)] } = some 1 ∧
    gAfter 3 (.mulhu tx 3 1 2) { g := regs [(1, 0x8000000000000000), (2, 4)] } = some 2 ∧
    gAfter 3 (.divu tx 3 1 2) { g := regs [(1, 17), (2, 5)] } = some 3 ∧ gAfter 3 (.remu tx 3 1 2) { g := regs [(1, 17), (2, 5)] } = some 2 := by decide
theorem test_divide_by_zero : gAfter 3 (.divu tx 3 1 2) { g := regs [(1, 17)] } = some (-1) ∧
    gAfter 3 (.remu tx 3 1 2) { g := regs [(1, 17)] } = some 17 := by decide
theorem test_compare_signs : gAfter 3 (.slt tx 3 1 2) { g := regs [(1, -1), (2, 1)] } = some 1 ∧
    gAfter 3 (.sltu tx 3 1 2) { g := regs [(1, -1), (2, 1)] } = some 0 ∧ gAfter 3 (.seq tx 3 1 1) { g := regs [(1, 9)] } = some 1 := by decide
theorem test_select_and_swap : gAfter 3 (.sel tx 3 1 2 4) { g := regs [(1, 5), (2, 6)] } = some 6 ∧
    gAfter 3 (.bswap tx 3 1) { g := regs [(1, 0x0102030405060708)] } = some 0x0807060504030201 := by decide
theorem test_immediate_extension : gAfter 1 (.addi tx 1 0 0xFFFF) {} = some (-1) ∧ gAfter 1 (.andi tx 1 1 0xFFFF) { g := regs [(1, -1)] } = some 0xFFFF ∧
    gAfter 1 (.ori tx 1 0 0x8000) {} = some 0x8000 ∧ gAfter 1 (.xori tx 1 1 1) { g := regs [(1, 3)] } = some 2 ∧
    gAfter 1 (.sltiu tx 1 1 0xFFFF) { g := regs [(1, 0x10000)] } = some 1 ∧ gAfter 1 (.slti tx 1 1 0xFFFF) { g := regs [(1, 0)] } = some 0 := by decide
theorem test_load_immediate : gAfter 1 (.li tx 1 0x1FFFFF) {} = some (-1) ∧
    gAfter 1 (.lih tx 1 3 0xABCD) { g := regs [(1, 0x1111222233334444)] } = some 0xABCD222233334444 ∧
    gAfter 1 (.shiftImm tx 1 1 .sra 4) { g := regs [(1, -32)] } = some (-2) := by decide

/-! ## Control and system instructions (R160, R161, R186) -/

theorem test_branch : (after (.beq tx 1 2 0xFFFF) { pc := 8, g := regs [(1, 4), (2, 4)] }).map (·.pc) = some 4 ∧
    (after (.bne tx 1 2 0xFFFF) { pc := 8, g := regs [(1, 4), (2, 4)] }).map (·.pc) = some 12 ∧
    (after (.blt tx 1 2 2) { g := regs [(1, -1)] }).map (·.pc) = some 8 ∧ (after (.bltu tx 1 2 2) { g := regs [(1, -1)] }).map (·.pc) = some 4 ∧
    (after (.bge tx 1 2 2) { g := regs [(1, -1)] }).map (·.pc) = some 4 ∧ (after (.bgeu tx 1 2 2) { g := regs [(1, -1)] }).map (·.pc) = some 8 := by decide
theorem test_call_and_return : (after (.call tx 4) { pc := 8 }).map (fun k => (k.pc, k.rstack)) = some (24, [12]) ∧
    (after (.ret tx) { rstack := [12, 0] }).map (fun k => (k.pc, k.rstack)) = some (12, [0]) ∧ (after (.jmp tx (-1)) { pc := 8 }).map (·.pc) = some 4 := by decide
theorem test_return_stack_fault : answerOf (.call tx 4) { rstack := List.replicate 8 0 } = [(0x0306, [])] ∧
    answerOf (.ret tx) {} = [(0x0306, [])] := by decide
theorem test_end_and_fail : answerOf (.endInv tx 1) { g := regs [(1, 3)], out := [(1, 7)] } = [(0, [0, 7, 0])] ∧
    answerOf (.endInv tx 1) { g := regs [(1, 65537)] } = [(0x030E, [])] ∧ answerOf (.fail tx 1) { g := regs [(1, 0x0402)] } = [(0x0402, [])] := by decide
theorem test_privileged_on_a_transaction_core : answerOf (.csrw tx 0 1) {} = [(0x0301, [])] ∧ answerOf (.wfi tx) {} = [(0x0301, [])] ∧
    answerOf (.eret tx) {} = [(0x0301, [])] ∧ answerOf (.fence tx) {} = [(0x0301, [])] ∧ answerOf (.csrr tx 1 0) {} = [(0x0301, [])] := by decide
theorem test_budget : answerOf (.nop tx) { retired := 1000000 } = [(0x0305, [])] ∧ (after (.nop tx) { retired := 999999 }).map (·.retired) = some 1000000 := by decide

/-! ## Memory instructions (R162 to R164) -/

theorem test_store_little_endian : (after (.st4 tx 1 .scr 2 4) { g := regs [(1, 0x11223344), (2, 8)] }).map (·.scr) =
    some [(12, 0x44), (13, 0x33), (14, 0x22), (15, 0x11)] := by decide
theorem test_store_of_zero_leaves_nothing_listed : (after (.st2 tx 0 .scr 2 0) { scr := [(0, 5), (1, 6), (2, 7)] }).map (·.scr) = some [(2, 7)] := by decide
theorem test_load_sign : gAfter 1 (.ld2 tx 1 .scr 0 0) { scr := [(0, 0x34), (1, 0x92)] } = some 0x9234 ∧
    gAfter 1 (.ld2s tx 1 .scr 0 0) { scr := [(0, 0x34), (1, 0x92)] } = some 0xFFFFFFFFFFFF9234 ∧
    gAfter 1 (.ld1s tx 1 .scr 0 1) { scr := [(0, 0x34), (1, 0x92)] } = some 0xFFFFFFFFFFFFFF92 := by decide
theorem test_access_faults : answerOf (.ld4 tx 1 .scr 0 2) {} = [(0x0303, [])] ∧ answerOf (.ld1 tx 1 .out 0 0) {} = [(0x0302, [])] ∧
    answerOf (.st8 tx 1 .inW 0 0) {} = [(0x0302, [])] ∧ answerOf (.st1 tx 1 .scr 2 0) { g := regs [(2, 16384)] } = [(0x0302, [])] ∧
    answerOf (.stb tx 1 .scr 0 1) { b := blocks [(1, ⟨5, true⟩)] } = [(0x0304, [])] := by decide

/-! ## Block instructions (R165) -/

theorem test_seal_follows_the_sources : (after (.bxor tx 3 1 2) { b := blocks [(1, ⟨12, true⟩), (2, ⟨10, false⟩)] }).map (·.getB 3) = some ⟨6, true⟩ ∧
    (after (.bsel tx 3 1 2 1) { b := blocks [(1, ⟨12, true⟩), (2, ⟨10, false⟩)] }).map (·.getB 3) = some ⟨10, true⟩ ∧
    (after (.bnot tx 3 2) { b := blocks [(2, ⟨0, false⟩)] }).map (·.getB 3) = some ⟨-1, false⟩ := by decide
theorem test_block_halves : gAfter 1 (.bget tx 1 2 1) { b := blocks [(2, ⟨0x2000000000000000F, false⟩)] } = some 2 ∧
    answerOf (.bget tx 1 2 1) { b := blocks [(2, ⟨1, true⟩)] } = [(0x0304, [])] := by decide
theorem test_block_immediate : (after (.bli tx 1 0x8001) {}).map (·.getB 1) = some ⟨0xFF0000000000000000000000000000FF, false⟩ ∧
    (after (.bshl tx 1 1 8) { b := blocks [(1, ⟨3, false⟩)] }).map (·.getB 1) = some ⟨0x300, false⟩ := by decide
theorem test_insert : (after (.bins tx 1 2 3 1) { g := regs [(2, 0xBBAA)] }).map (·.getB 1) = some ⟨0xBBAA000000, false⟩ ∧
    answerOf (.bins tx 1 2 15 1) {} = [(0x0301, [])] := by decide

/-! ## Keys, PINs, jobs, stage (R167 to R183, R138) -/

theorem test_key_checks : answerOf (.aese tx 1 1 0) {} = [(0x0307, [])] ∧ answerOf (.aese tx 1 1 0) { k := keyIn (keyOf 1 0xFFFF []) } = [(0x040A, [])] ∧
    answerOf (.aese tx 1 1 0) { k := keyIn (keyOf 3 0 []) } = [(0x0409, [])] := by decide
theorem test_key_load_order : answerOf (.kld tx 0 1) {} = [(0x0401, [])] ∧ answerOf (.kld tx 0 1) { g := regs [(1, 1)] } = [(0x0402, [])] ∧
    answerOf (.kld tx 0 1) { g := regs [(1, 1)], world := 2, req := { partition := 1 } } = [(0x0405, [])] := by decide
theorem test_hash_context : (after (.hashuStart tx 0 .sha256 1 3) { b := blocks [(1, ⟨0x44332211, true⟩)] }).map (·.hash[0]) =
    some { alg := .sha256, absorbed := [0x11, 0x22, 0x33], sealed := true } := by decide
theorem test_compare : gAfter 1 (.ctcmp tx 1 1 2 0x0001) { b := blocks [(1, ⟨0x105, false⟩), (2, ⟨0x205, false⟩)] } = some 1 ∧
    gAfter 1 (.ctcmp tx 1 1 2 0x0003) { b := blocks [(1, ⟨0x105, false⟩), (2, ⟨0x205, false⟩)] } = some 0 ∧
    answerOf (.ctcmp tx 1 1 2 1) { b := blocks [(1, ⟨1, true⟩)], sealedCompares := 4 } = [(0x030C, [])] := by decide
theorem test_empty_commit : (after (.commit tx 1 2) { g := regs [(1, 9), (2, 9)] }).map (fun k => (k.getG 1, k.getG 2, k.commitMade)) = some (0, 0, true) ∧
    answerOf (.commit tx 1 2) { commitMade := true } = [(0x030B, [])] := by decide
theorem test_stage : (after (.sctr tx 1 2) { g := regs [(1, 5), (2, -2)] }).map (·.stage) = some [.ctrAdd 5 (-2)] ∧
    answerOf (.sitem tx 1 2) { world := 2 } = [(0x0301, [])] := by decide
theorem test_job_handle : answerOf (.jwait tx 1 1) { g := regs [(1, 7)] } = [(0x0308, [])] := by decide

/-! ## States and operands that meet the hypotheses of the statements: instructions -/

/-- The security controller's core. -/
def onSc (k : Core) : State := { onCore k with cores := [(.sc, k)] }

theorem witness_IntegerRegisterResults : coreReady (onCore (at2 0x0102030405060708 0)) tx (at2 0x0102030405060708 0) ∧
    ∀ i : Fin 8, (0x0807060504030201 : Word).extractLsb' (8 * i.val) 8 =
      ((at2 0x0102030405060708 0).getG 1).extractLsb' (8 * (7 - i.val)) 8 := by decide
theorem witness_IntegerImmediateResults : coreReady (onCore {}) tx {} ∧
    ∀ i : Fin 64, (0xABCD000000000000 : Word).getLsbD i.val =
      if 16 * (3 : Fin 4).val ≤ i.val ∧ i.val < 16 * (3 : Fin 4).val + 16 then (0xABCD : BitVec 16).getLsbD (i.val - 16 * (3 : Fin 4).val)
      else (({} : Core).getG 0).getLsbD i.val := by decide
theorem witness_ControlTransferResults : coreReady (onCore { rstack := List.replicate 7 0 }) tx { rstack := List.replicate 7 0 } ∧
    (List.replicate 7 (0 : Word)).length < 8 ∧ coreReady (onCore { rstack := List.replicate 8 0 }) tx { rstack := List.replicate 8 0 } ∧
    8 ≤ (List.replicate 8 (0 : Word)).length ∧ coreReady (onCore { rstack := [] }) tx { rstack := [] } := by decide
theorem witness_ControlAndSystemResults : coreReady (onCore (at2 65536 65537)) tx (at2 65536 65537) ∧ tx ≠ .sc ∧
    ((at2 65536 65537).getG 1).toNat ≤ 65536 ∧ (at2 65536 65537).outFrozen = false ∧ 65536 < ((at2 65536 65537).getG 2).toNat ∧
    St.failValid 0x0E07 = true ∧ St.failValid 0x0301 = false ∧ coreReady (onSc {}) .sc {} := by decide
theorem witness_LoadResults : coreReady (onCore (at2 16368 65535)) tx (at2 16368 65535) ∧
    (∀ n ∈ [1, 2, 4, 8, 16], Win.scr ≠ .out ∧ (at2 16368 65535).addr 1 0 % n = 0 ∧ (at2 16368 65535).addr 1 0 + n ≤ (at2 16368 65535).winSize .scr) ∧
    ((at2 16368 65535).getG 2).toNat < 65536 := by decide
theorem witness_StoreResults : coreReady (onCore (at2 65520 0)) tx (at2 65520 0) ∧ (at2 65520 0).outFrozen = false ∧
    (∀ n ∈ [1, 2, 4, 8, 16], (at2 65520 0).addr 1 0 % n = 0 ∧ (at2 65520 0).addr 1 0 + n ≤ (at2 65520 0).winSize .out) ∧
    ((at2 65520 0).getB 0).sealed = false := by decide
theorem witness_AccessFaults : coreReady (onCore (at2 1 65536)) tx (at2 1 65536) ∧ (∀ n ∈ [2, 4, 8, 16], (at2 1 65536).addr 1 0 % n ≠ 0) ∧
    (∀ n ∈ [1, 2, 4, 8, 16], (at2 1 65536).addr 2 0 % n = 0 ∧ (at2 1 65536).winSize .scr < (at2 1 65536).addr 2 0 + n) ∧
    65536 ≤ ((at2 1 65536).getG 2).toNat ∧
    coreReady (onCore { b := blocks [(1, ⟨0, true⟩)] }) tx { b := blocks [(1, ⟨0, true⟩)] } ∧
    (({ b := blocks [(1, ⟨0, true⟩)] } : Core).getB 1).sealed = true := by decide
theorem witness_StoreFrame : memWf ([] : Memory) = true ∧ ∃ t k', (onCore {}).core? tx = some {} ∧ exec (.st1 tx 1 .scr 0 0) (onCore {}) = .next t ∧
    t.core? tx = some k' := ⟨by decide, _, _, by decide, rfl, rfl⟩
theorem witness_BlockRegisterResults :
    let k : Core := { b := blocks [(1, ⟨5, true⟩)] }
    coreReady (onCore k) tx k ∧ (k.getB 0).sealed = false ∧ (k.getB 1).sealed = true ∧
    (∀ i : Fin 16, (0xFF0000000000000000000000000000FF : Block).extractLsb' (8 * i.val) 8 = if (0x8001 : BitVec 16).getLsbD i.val then 0xFF else 0) ∧
    (8 : BitVec 4).toNat + (7 : BitVec 3).toNat + 1 ≤ 16 ∧ 16 < (9 : BitVec 4).toNat + (7 : BitVec 3).toNat + 1 ∧
    ∀ i : Fin 16, (5 : Block).extractLsb' (8 * i.val) 8 = if (8 : BitVec 4).toNat ≤ i.val ∧ i.val < (8 : BitVec 4).toNat + (7 : BitVec 3).toNat + 1
      then (k.getG 0).extractLsb' (8 * (i.val - (8 : BitVec 4).toNat)) 8 else (k.getB 1).val.extractLsb' (8 * i.val) 8 := by decide
theorem witness_RandomInstructionResults : coreReady (onCore {}) tx {} ∧ (onCore {}).canDraw (expanderOf tx) = true ∧
    coreReady { onCore {} with expanders := [] } tx {} ∧ ({ onCore {} with expanders := [] } : State).canDraw (expanderOf tx) = false := by decide

/-- A core that holds one key. -/
def withKey (h : Handle) : Core := { k := keyIn h }
theorem witness_CipherResults :
    let a := keyOf 3 0xFFFF []
    let d := keyOf 1 0xFFFF []
    coreReady (onCore (withKey a)) tx (withKey a) ∧ coreReady (onCore (withKey d)) tx (withKey d) ∧ ((onCore (withKey a)).served 1).isSome = true ∧
    ((onCore (withKey d)).served 1).isSome = true ∧ keyServes (withKey a) 0 a isAes uEnc ∧ keyServes (withKey a) 0 a isAes (uDec ||| uDecClear) ∧
    keyServes (withKey d) 0 d isTdes uEnc ∧ keyServes (withKey d) 0 d isTdes (uDec ||| uDecClear) ∧ keyServes (withKey d) 0 d isTdes (uMacGen ||| uMacVer) ∧
    keyServes (withKey d) 0 d isSym (uMacGen ||| uMacVer) ∧ keyServes (withKey a) 0 a isSym (uMacGen ||| uMacVer) ∧
    (16 : BitVec 5).toNat ≤ blockLen 3 ∧ (8 : BitVec 5).toNat ≤ blockLen 1 := by decide +kernel
theorem witness_CipherKeyChecks :
    let x := keyOf 6 0 []
    coreReady (onCore {}) tx {} ∧ ({} : Core).getK 0 = none ∧ coreReady (onCore (withKey x)) tx (withKey x) ∧ (withKey x).getK 0 = some x ∧
    isAes x.key.attrs.keyType = false ∧ isTdes x.key.attrs.keyType = false ∧ isSym x.key.attrs.keyType = false ∧
    isAes 3 = true ∧ isTdes 1 = true ∧ isSym 1 = true ∧ (0 : BitVec 16) &&& (uEnc ||| uDec ||| uDecClear ||| uMacGen ||| uMacVer) = 0 ∧
    16 < (17 : BitVec 5).toNat ∧ 1 < (2 : BitVec 5).toNat := by decide +kernel
theorem witness_HashResults :
    let run : Core := { hash := Vector.replicate 2 { running := true } }
    coreReady (onCore {}) tx {} ∧ ({} : Core).hash[(1 : Fin 2)].running = false ∧ (16 : BitVec 5).toNat ≤ 16 ∧ (onCore {}).hashBusy tx < 2 ∧
    coreReady (onCore run) tx run ∧ run.hash[(1 : Fin 2)].running = true ∧ 16 < (17 : BitVec 5).toNat := by decide +kernel
theorem witness_PinWrapCompareResults :
    let k : Core := { g := regs [(1, 16336)], b := blocks [(1, ⟨0, true⟩)], k := keyIn (keyOf 5 0xFFFF []) }
    let d : Core := { b := blocks [(1, ⟨0, true⟩)], k := keyIn (keyOf 1 0xFFFF []) }
    let five : Core := { k with sealedCompares := 4 }
    coreReady (onCore k) tx k ∧ coreReady (onCore d) tx d ∧ coreReady (onCore five) tx five ∧
    pinFormatOk (0 : BitVec 3).toNat = true ∧ k.world ≠ 4 ∧ k.sealedCompares < 4 ∧ 4 ≤ five.sealedCompares ∧ (five.getB 1).sealed = true ∧
    keyServes d 0 (keyOf 1 0xFFFF []) isTdes uPinEnc ∧ (d.getB 1).sealed = true ∧ ((onCore d).served 1).isSome = true ∧
    keyServes k 0 (keyOf 5 0xFFFF []) (· == 5) uWrap ∧ keyServes k 0 (keyOf 5 0xFFFF []) (· == 5) uUnwrap ∧
    (k.getG 1).toNat % 16 = 0 ∧ (k.getG 1).toNat + 48 ≤ 16384 ∧ (k.getG 1).toNat + 48 ≤ k.winSize .scr ∧
    (((onCore k).served 2).map fun t => t.canDraw (expanderOf tx)) = some true ∧ (0xFFFF : BitVec 16) ≠ 0 := by decide +kernel
/-- Both fields of a PIN occur: one that is well-formed and one that is not. -/
theorem witness_PinFields : pinFieldOk 0 (0x04 :: 0x12 :: 0x34 :: List.replicate 5 0xFF) = true ∧ pinFieldOk 0 (zeros 8) = false := by decide

/-! ## States and operands that meet the hypotheses of the statements: keys, jobs, the stage -/


/-- Each check of a key load decides for some stored key. -/
theorem witness_KeyLoadResults :
    let k : Core := at2 1 0x1000000001
    let denied := fun (a : Attrs) => (holding k [(1, { attrs := a, material := [] })]).durable.keyAt 1 0 = some { attrs := a, material := [] }
    coreReady (holding k []) tx k ∧ refOk (({} : Core).getG 1).toNat = false ∧ refOk (k.getG 1).toNat = true ∧ refOk (k.getG 2).toNat = true ∧
    refPartition (k.getG 2).toNat ≠ k.partition ∧ refPartition (k.getG 1).toNat = k.partition ∧
    (holding k []).durable.keyAt (k.getG 1).toNat k.snapshot = none ∧
    denied { flags := fTombstone } ∧ isTombstone { flags := fTombstone } = true ∧
    denied { lcMask := 4 } ∧ isTombstone {} = false ∧ ({} : Attrs).worldMask.getLsbD k.world = false ∧
    denied { worldMask := 2 } ∧ (2 : BitVec 8).getLsbD k.world = true ∧ ({} : Attrs).lcMask &&& lcBit .deployed = 0 ∧
    denied { worldMask := 2, lcMask := 4, expiryS := 1 } ∧ (4 : BitVec 8) &&& lcBit .deployed ≠ 0 ∧ 1 * 10 ^ 9 ≤ ({ k with dispatched := 10 ^ 9 } : Core).dispatched ∧
    denied { worldMask := 2, lcMask := 4, parentSlot := 5 } ∧ refKind 1 ≠ 1 ∧
    (holding k []).durable.ancestryOk k.partition k.snapshot { parentSlot := 5 } = false ∧
    denied (mat 3 1).attrs ∧ (holding k []).durable.ancestryOk k.partition k.snapshot (mat 3 1).attrs = true := by decide +kernel

/-- A core with a template at the start of SCR and a key in k0. -/
def templated (h : Handle) : Core := { k := keyIn h, scr := writeBytes [] 0 tmpl }
theorem witness_KeyRegisterResults :
    let h := keyOf 3 uDerive []
    let k := templated h
    let tm := parseAttrs tmpl
    coreReady (onCore k) tx k ∧ k.getK 0 = some h ∧ k.getK 1 = none ∧ isSym h.key.attrs.keyType = true ∧ ((onCore k).served 1).isSome = true ∧
    (5 : BitVec 5).toNat ≤ 5 ∧ 5 < (6 : BitVec 5).toNat ∧ k.template (k.getG 1).toNat = some tm ∧ isSym tm.keyType = true ∧
    templateError k.world k.partition false tm = none ∧ (onCore k).canDraw (expanderOf tx) = true ∧
    within tm.usage (uEnc ||| uDec ||| uDecClear ||| uMacGen ||| uMacVer) = true ∧ (k.getB 0).sealed = false ∧
    1 ≤ (5 : BitVec 8).toNat ∧ (5 : BitVec 8).toNat ≤ 5 ∧ ((onCore k).served (cdiv (symLen tm.keyType) 8)).isSome = true := by decide +kernel
theorem witness_KeyRegisterResults_derive : ∃ h', derive 1 0 (keyOf 3 uDerive []) (zeros 16) (parseAttrs tmpl) 5 0 = .ok h' := ⟨_, rfl⟩

/-- A key block of D0 B with an AES key; whether its MAC verifies is the opaque cipher's, the one hypothesis of `opens`. -/
def keyBlock : Bytes := ascii "D0032D0AB00E0000" ++ List.replicate 16 48
theorem opens (h : Config.x9143Unwrap (zeros 16) keyBlock = some (zeros 16)) :
    ∃ c m, openBlock (mat 3 0xFFFF) keyBlock = .ok c ∧ importKey 1 0 0 none c = .ok m ∧ m.attrs.keyType = 3 := by
  have hk : keyBytes (mat 3 0xFFFF) = zeros 16 := by decide +kernel
  have h1 : ¬(keyBlock.length < 16 ∨ parseDec (slice keyBlock 1 4) ≠ some keyBlock.length) := by decide +kernel
  have ht : blockKeyType (keyBlock.getD 7 0).toNat (zeros 16) = 3 := by decide +kernel
  have ho : openBlock (mat 3 0xFFFF) keyBlock =
      .ok { row := ⟨"D0", 66, uEnc ||| uDecClear, 0⟩, exportable := true, keyType := 3, material := zeros 16, ext := none } := by
    unfold openBlock
    rw [if_neg h1, if_neg (by decide +kernel), hk, h]
    simp only [ht]
    rfl
  have hm : ∃ m, importKey 1 0 0 none { row := ⟨"D0", 66, uEnc ||| uDecClear, 0⟩, exportable := true, keyType := 3, material := zeros 16, ext := none } = .ok m ∧
      m.attrs.keyType = 3 := by
    unfold importKey
    dsimp only
    rw [if_neg (by decide +kernel), if_neg (by decide +kernel), if_neg (by decide +kernel), if_neg (by decide +kernel), if_neg (by decide +kernel)]
    exact ⟨_, rfl, rfl⟩
  obtain ⟨m, h2, h3⟩ := hm
  exact ⟨_, m, ho, h2, h3⟩
theorem witness_KeyBlockResults :
    let h := keyOf 3 0xFFFF []
    let k : Core := { g := regs [(1, 0), (2, 32)], k := keyIn h, scr := writeBytes [] 0 keyBlock }
    let s : State := { onCore k with clusters := [] }
    coreReady s tx k ∧ keyServes k 0 h isSym uUnwrap ∧ keyServes k 0 h isSym uWrap ∧ Win.scr ≠ .out ∧
    (k.getG 1).toNat + (k.getG 2).toNat ≤ k.winSize .scr ∧ s.readWin k .scr (k.getG 1).toNat (k.getG 2).toNat = keyBlock ∧
    h.key = mat 3 0xFFFF ∧ sourceParent h = 0 ∧ k.world = 1 ∧ k.partition = 0 := by decide +kernel
theorem witness_KeyBlockResults_export : ∃ l, sealBlock (mat 3 0xFFFF) (mat 3 (uEnc ||| uExport)) [] = .ok l := ⟨_, rfl⟩

theorem witness_StageAndCommitResults :
    let k : Core := { g := regs [(1, 255), (2, 12288), (3, 65536)], k := keyIn (keyOf 3 0xFFFF []), stage := List.replicate 255 (.keyInvalidate 1) }
    let full : Core := { stage := List.replicate 256 (.keyInvalidate 1) }
    coreReady (onCore k) tx k ∧ k.commitMade = false ∧ k.stage.length < 256 ∧ (k.stage.map tabBytesOf).sum ≤ 65536 ∧
    k.getK 0 = some (keyOf 3 0xFFFF []) ∧ k.getK 1 = none ∧ isEphemeral (keyOf 3 0xFFFF []).key.attrs = false ∧ (k.getG 1).toNat ≤ 255 ∧
    (k.getG 2).toNat % 16 = 0 ∧ (k.getG 2).toNat + 4096 ≤ 16384 ∧ (k.stage.map tabBytesOf).sum + 4096 ≤ 65536 ∧ k.world = 1 ∧
    k.inWin .scr (k.getG 2).toNat (k.itemBodyLen (k.getG 1).toNat (k.getG 2).toNat) = true ∧ (k.getG 1).toNat ≠ 4 ∧
    itemNumberBad (k.getG 1).toNat (readBytes k.scr (k.getG 2).toNat 16) = false ∧
    (k.stage.map tabBytesOf).sum + tabBytesOf (decodeItem (k.getG 1).toNat (readBytes k.scr (k.getG 2).toNat
      (k.itemBodyLen (k.getG 1).toNat (k.getG 2).toNat))) ≤ 65536 ∧
    ({ world := 2 } : Core).world ≠ 1 ∧ ({ world := 2 } : Core).world ≠ 4 ∧ 65536 ≤ (k.getG 3).toNat ∧ k.stage ≠ [] ∧ coreReady (onCore full) tx full ∧ 256 ≤ full.stage.length ∧
    coreReady (onCore { commitMade := true }) tx { commitMade := true } ∧ coreReady (onCore { world := 2 }) tx { world := 2 } := by decide +kernel

/-- The descriptor of VERIFY with Ed25519 (table of R291), its operands in SCR: message of 5 bytes, signature of 64, public key of 32. -/
def lneDs : Bytes := le 2 0x0208 ++ [0, 0xFF] ++ le 2 0 ++ [0xFF, 0] ++ (le 4 64 ++ le 3 5 ++ [2]) ++ (le 4 128 ++ le 3 64 ++ [2]) ++
  (le 4 192 ++ le 3 32 ++ [2]) ++ (le 4 0 ++ le 3 0 ++ [2]) ++ le 4 256 ++ le 4 0 ++ le 4 0 ++ zeros 12
/-- The descriptor of AES-CBC over 16 bytes of SCR with the key in k0. -/
def laneDs : Bytes := [1, 0, 0, 0, 16, 0, 0, 0] ++ le 4 64 ++ le 4 0 ++ (le 4 0 ++ le 3 0 ++ [2]) ++ (le 4 128 ++ le 3 16 ++ [2]) ++
  le 4 256 ++ zeros 28
def withDs (d : Bytes) : Core := { k := keyIn (keyOf 3 0xFFFF []), scr := writeBytes [] 0 d }
def lneJob0 (place : LnePlace) : LneJob :=
  { handle := 7, core := tx, ticket := 0, partition := 0, rank := 0, submitted := 0, operation := 0x0208, opBits := 0, micro := false, key := none,
    operands := [], resultKeyReg := 255, resultOffset := 0, template := [], units := 1, table := 100, place := place, result := [] }
def laneJob0 (place : LanePlace) : LaneJob :=
  { handle := 8, core := tx, ticket := 0, partition := 0, rank := 0, submitted := 0, mode := 1, stream := false, ivFromKey := false,
    key := keyOf 3 0xFFFF [], tagBytes := 0, iv := zeros 16, expected := [], aad := [], source := zeros 16, dataLen := 16, destOffset := 0,
    tagOffset := 0, ivOffset := 0, place := place }

theorem witness_EngineJobResults_submit : (∃ t k', exec (.lsub tx 1 0) (onCore (withDs lneDs)) = .next t ∧ t.core? tx = some k' ∧
      k'.pc = 0 + 4 ∧ k'.wait = .none ∧ tx ≠ .sc) ∧
    ∃ t k', exec (.xsub tx 1 0) (onCore (withDs laneDs)) = .next t ∧ t.core? tx = some k' ∧ k'.pc = 0 + 4 ∧ k'.wait = .none :=
  ⟨⟨_, _, rfl, rfl, by decide +kernel, by decide +kernel, by decide⟩, ⟨_, _, rfl, rfl, by decide +kernel, by decide +kernel⟩⟩
theorem witness_EngineJobResults :
    let k : Core := { g := regs [(1, 7), (2, 8)], jobs := [(7, false), (8, true)] }
    let s : State := { onCore k with lneJobs := [lneJob0 (.done 0)], laneJobs := [laneJob0 (.done 0)] }
    let w : State := { onCore k with lneJobs := [lneJob0 .waiting] }
    ({ laneJob0 (.done 0) with stream := true } : LaneJob).stream = true ∧
    coreReady s tx k ∧ coreReady w tx k ∧ getK (k.getG 1).toNat k.jobs = some false ∧ s.lneJob? (k.getG 1).toNat = some (lneJob0 (.done 0)) ∧
    w.lneJob? (k.getG 1).toNat = some (lneJob0 .waiting) ∧ getK (k.getG 2).toNat k.jobs = some true ∧
    s.laneJob? (k.getG 2).toNat = some (laneJob0 (.done 0)) ∧ (laneJob0 (.done 0)).stream = false ∧ getK (k.getG 3).toNat k.jobs = none := by decide +kernel
/-- A microcode program of one operand of up to 8 bytes and no key, and its descriptor. -/
def micro1 : MicroProgram := { number := 0x0011, resultMax := 8, keyTypes := [], usage := 0, cycles := [(64, 1000)], layout := [(0, 8)], resultKey := false }
def microDs : Bytes := le 2 0x0011 ++ [1, 0xFF] ++ le 2 64 ++ [0xFF, 0] ++ (le 4 64 ++ le 3 5 ++ [2]) ++ List.flatten (List.replicate 3 (le 4 0 ++ le 3 0 ++ [2])) ++
  le 4 256 ++ le 4 8 ++ le 4 0 ++ zeros 12
/-- The descriptor of KEYGEN of Ed25519 with its template in SCR: the new key goes to k1. -/
def keygenDs : Bytes := le 2 0x0608 ++ [0, 0xFF] ++ le 2 0 ++ [1, 0] ++ List.flatten (List.replicate 4 (le 4 0 ++ le 3 0 ++ [2])) ++ le 4 256 ++ le 4 32 ++ le 4 512 ++ zeros 12
theorem witness_JobSubmissionCompletes_lsub :
    let k := withDs lneDs
    let ds := lneDs
    let refs := [parseRef (slice ds 8 8), parseRef (slice ds 16 8), parseRef (slice ds 24 8), parseRef (slice ds 32 8)]
    coreReady (onCore k) tx k ∧ (k.descriptor 0).toOption = some ds ∧ leAt ds 3 1 = 255 ∧ leAt ds 0 2 / 256 ≠ 6 ∧ bit (leAt ds 2 1) 0 = false ∧
    refs.all k.refOk = true ∧ k.inWin .scr (leAt ds 40 4) (8 + leAt ds 44 4) = true ∧ (onCore k).lneOutstanding tx k < lneJobLimit tx ∧
    (lneKeyError k (leAt ds 0 2 / 256) (leAt ds 0 2 % 256) none (parseAttrs [])).isNone = true ∧
    lneDescriptorOk ds (leAt ds 0 2 / 256) (leAt ds 0 2 % 256) (leAt ds 4 2) none 255 (leAt ds 6 1) refs = true ∧
    (onCore k).lneUnits + stagingUnits (refs.map ((onCore k).readRef k)) (resultLen (leAt ds 0 2 / 256) (leAt ds 0 2 % 256) (opBitsOf (leAt ds 4 2) none)) ≤ 2048 := by
  decide +kernel
theorem witness_JobSubmissionCompletes_micro :
    let k := withDs microDs
    let s : State := { onCore k with microcode := [micro1] }
    let refs := [parseRef (slice microDs 8 8), parseRef (slice microDs 16 8), parseRef (slice microDs 24 8), parseRef (slice microDs 32 8)]
    coreReady s tx k ∧ (k.descriptor 0).toOption = some microDs ∧ bit (leAt microDs 2 1) 0 = true ∧ refs.all k.refOk = true ∧
    k.inWin .scr (leAt microDs 40 4) (8 + leAt microDs 44 4) = true ∧ s.microProgram (leAt microDs 0 2) = some micro1 ∧
    (s.microKeyError (leAt microDs 0 2) none).isNone = true ∧ (s.microFails k microDs 0x0011 64 255 255 refs).isNone = true ∧
    s.lneUnits + stagingUnits (refs.map (s.readRef k)) micro1.resultMax ≤ 2048 := by decide +kernel
theorem witness_JobSubmissionCompletes_keygen :
    let t : Bytes := [0x48, 0] ++ le 2 uSign.toNat ++ [0, 0, 6, 7] ++ zeros 24
    let k : Core := { withDs keygenDs with scr := writeBytes (withDs keygenDs).scr 512 t }
    leAt keygenDs 0 2 / 256 = 6 ∧ k.inWin .scr (leAt keygenDs 48 4) 32 = true ∧ (lneKeyError k 6 8 none (parseAttrs (readBytes k.scr 512 32))).isNone = true ∧
    lneDescriptorOk keygenDs 6 8 0 none 255 1 (List.replicate 4 (parseRef (slice keygenDs 8 8))) = true := by decide +kernel
theorem witness_JobSubmissionCompletes_xsub :
    let k := withDs laneDs
    let ds := laneDs
    coreReady (onCore k) tx k ∧ (k.descriptor 0).toOption = some ds ∧ leAt ds 0 1 = 1 ∧ leAt ds 1 1 = 0 ∧ (keyRegOf (leAt ds 2 1)).bind k.getK = some (keyOf 3 0xFFFF []) ∧
    (laneUsageError (keyOf 3 0xFFFF []) 1).isNone = true ∧
    k.refOk (parseRef (slice ds 16 8)) = true ∧ k.refOk (parseRef (slice ds 24 8)) = true ∧ k.inWin .scr (leAt ds 12 4) (leAt ds 3 1) = true ∧
    k.inWin .scr (leAt ds 8 4) (leAt ds 4 1) = true ∧ k.inWin .scr (leAt ds 32 4) (parseRef (slice ds 24 8)).len = true ∧
    (k.jobs.filter (·.2)).length < 2 ∧
    laneFieldsOk ds 1 (leAt ds 3 1) (leAt ds 4 1) false (parseRef (slice ds 16 8)).len (parseRef (slice ds 24 8)).len false = true ∧
    laneLengthOk 1 (parseRef (slice ds 24 8)).len (leAt ds 4 1) (readBytes k.scr (leAt ds 8 4) (leAt ds 4 1)) = true := by decide +kernel
/-- AES-CBC over the 32 bytes of the request's payload. -/
theorem witness_JobSubmissionCompletes_stream :
    let ds : Bytes := [1, 1, 0, 0, 16, 0, 0, 0] ++ le 4 64 ++ le 4 0 ++ (le 4 0 ++ le 3 0 ++ [2]) ++ zeros 8 ++ le 4 0 ++ zeros 28
    let k : Core := { withDs ds with req := { bulk := true, payloadLen := 32 } }
    (k.descriptor 0).toOption = some ds ∧ bit (leAt ds 1 1) 0 = true ∧ k.req.bulk = true ∧ k.streamJob = none ∧
    laneFieldsOk ds 1 0 16 false 0 (parseRef (slice ds 24 8)).len true = true ∧ laneLengthOk 1 32 16 (readBytes k.scr 64 16) = true := by decide +kernel
theorem witness_EndingAnswersOnce : (onCore {}).core? (.tx 0 0) = some {} ∧ ({} : Core).streamJob = none ∧ ({} : Core).commitCsn = 0 ∧
    (onCore { commitCsn := 5 }).core? (.tx 0 0) = some { commitCsn := 5 } := by decide

/-! ## States and operands that meet the hypotheses of the statements: verbs

Where a clause has one case for each answer of an opaque cipher, the cases exclude each other and one of them holds. -/

/-- A core that runs a verb. -/
def verbCore (code : Nat) (b : Bytes) : Core := { req := { verb := code, body := b } }
/-- A module whose core runs a verb, with keys stored at references 1 and 2. -/
def verbOn (code : Nat) (b : Bytes) (m1 m2 : KeyMat) : State := holding (verbCore code b) [(1, m1), (2, m2)]
/-- The key that a reference loads as, when it serves, with the state after. -/
def loadsAs (s : State) (k : Core) (ref : Nat) (typeOk : Nat → Bool) (all : BitVec 16) : Option (Handle × State) :=
  match s.kld tx k ref with
  | .ok (h, t) => if typeOk h.key.attrs.keyType = true ∧ h.key.attrs.usage &&& all = all then some (h, t) else none
  | .error _ => none
theorem loadsAs_keyLoads {s t : State} {k : Core} {ref : Nat} {typeOk : Nat → Bool} {all : BitVec 16} {h : Handle}
    (e : loadsAs s k ref typeOk all = some (h, t)) : keyLoads s tx k ref typeOk all h t := by
  unfold loadsAs at e
  split at e
  · split at e
    · cases e; exact ⟨by assumption, by simp_all, by simp_all⟩
    · cases e
  · cases e
/-- Both keys load in turn. -/
def loadsTwo (s : State) (k : Core) (t1 : Nat → Bool) (u1 : BitVec 16) (t2 : Nat → Bool) (u2 : BitVec 16) : Option State :=
  (loadsAs s k 1 t1 u1).bind fun x => (loadsAs x.2 k 2 t2 u2).map (·.2)

theorem witness_KeyVerbResults :
    let gen := body 48 [(0, le 8 1), (16, tmpl)]
    let imp := body 64 [(0, le 8 1), (8, le 8 2), (16, le 4 32), (32, (ascii "D0032D0AB00E0000" ++ List.replicate 16 48))]
    let exp := body 16 [(0, le 8 1), (8, le 8 2)]
    let s := verbOn 0x0101 gen (mat 3 0) (mat 3 0)
    let i := verbOn 0x0102 imp (mat 3 uUnwrap) (mat 3 uWrap)
    let e := verbOn 0x0103 exp (mat 3 (uEnc ||| uExport)) (mat 3 uWrap)
    (verbRuns s 0 0 (verbCore 0x0101 gen) 0x0101 ∧ gen.length = 48 ∧ leAt gen 0 8 ≠ 0 ∧ leAt gen 8 8 = 0 ∧
      templateError 1 0 false (parseAttrs (slice gen 16 32)) = none ∧ isSym (parseAttrs (slice gen 16 32)).keyType = true ∧ s.canDraw 0 = true ∧
      ((s.random 0 16).2.served 1).isSome = true) ∧
    (verbRuns i 0 0 (verbCore 0x0102 imp) 0x0102 ∧ 48 ≤ imp.length ∧ imp.length ≤ 4128 ∧ leAt imp 16 4 = imp.length - 32 ∧ res imp 20 12 = true ∧
      leAt imp 0 8 ≠ 0 ∧ leAt imp 8 8 ≠ 0 ∧ imp.drop 32 = (ascii "D0032D0AB00E0000" ++ List.replicate 16 48) ∧
      ((loadsAs i (verbCore 0x0102 imp) 1 isSym uUnwrap).bind fun x => x.2.served (cdiv 32 16)).isSome = true ∧
      ((loadsTwo i (verbCore 0x0102 imp) isSym uUnwrap isSym uWrap).bind fun x => x.served 1).isSome = true) ∧
    (verbRuns e 0 0 (verbCore 0x0103 exp) 0x0103 ∧ exp.length = 16 ∧ (loadsTwo e (verbCore 0x0103 exp) (fun _ => true) uExport isSym uWrap).isSome = true) ∧
    (verbRuns (verbOn 0x0105 (le 8 1) (mat 3 0) (mat 3 0)) 0 0 (verbCore 0x0105 (le 8 1)) 0x0105 ∧ refOk (leAt (le 8 1) 0 8) = true ∧
      refPartition (leAt (le 8 1) 0 8) = (verbCore 0x0105 (le 8 1)).partition) ∧
    ((loadsAs (verbOn 0x0106 (le 8 1) (mat 3 0) (mat 3 0)) (verbCore 0x0106 (le 8 1)) 1 isSym 0).bind fun x => x.2.served 1).isSome = true := by
  decide +kernel
theorem witness_PinVerbResults :
    let tr := body 56 [(0, le 8 1), (8, le 8 2), (32, pan)]
    let vr := body 112 [(0, le 8 1), (8, le 8 2), (32, pan)]
    let cm := body 72 [(0, le 8 1), (8, le 8 2), (48, pan)]
    let d := mat 1 (uPinEnc ||| uDec)
    let s := verbOn 0x0201 tr d d
    let m := verbOn 0x0202 tr d (mat 5 (uWrap ||| uUnwrap))
    let v := verbOn 0x0203 vr d (mat 5 (uWrap ||| uUnwrap))
    let p := verbOn 0x0204 cm d d
    (verbRuns s 0 0 (verbCore 0x0201 tr) 0x0201 ∧ tr.length = 56 ∧ res tr 50 6 = true ∧ leAt tr 0 8 ≠ 0 ∧ leAt tr 8 8 ≠ 0 ∧
      pinBlockOk (leAt tr 48 1) (slice tr 16 16) = true ∧ leAt tr 49 1 = 0 ∧ leAt tr 48 1 ≠ 4 ∧ panOk (slice tr 32 16) true = true ∧
      (((loadsTwo s (verbCore 0x0201 tr) isTdes uPinRead isTdes uPinEnc).bind fun x => x.served 1).bind fun x => x.served 1).isSome = true) ∧
    (verbRuns m 0 0 (verbCore 0x0202 tr) 0x0202 ∧ res tr 49 7 = true ∧
      (((loadsTwo m (verbCore 0x0202 tr) (pinKeyType 0) uPinRead (· == 5) uWrap).bind fun x => x.served (pinBlocks 0 + 2)).map (·.canDraw 0)) = some true) ∧
    (verbRuns v 0 0 (verbCore 0x0203 vr) 0x0203 ∧ vr.length = 112 ∧ res vr 49 15 = true ∧ panOk (slice vr 32 16) true = true ∧
      ((loadsTwo v (verbCore 0x0203 vr) (pinKeyType 0) uPinRead (· == 5) uUnwrap).bind fun x => x.served (pinBlocks 0 + 2)).isSome = true) ∧
    (verbRuns p 0 0 (verbCore 0x0204 cm) 0x0204 ∧ cm.length = 72 ∧ res cm 66 6 = true ∧ pinBlockOk 0 (slice cm 32 16) = true ∧
      panOk (slice cm 48 16) true = true ∧
      ((loadsTwo p (verbCore 0x0204 cm) (pinKeyType 0) uPinRead (pinKeyType 0) uPinRead).bind fun x => x.served 2).isSome = true) := by decide +kernel
theorem witness_CardAndMacVerbResults :
    let ar := body 65 [(0, le 8 1), (16, pan), (38, [1]), (56, le 2 1)]
    let ap := body 64 [(0, le 8 1), (16, pan), (33, [1]), (38, [1])]
    let sm := body 49 [(0, le 8 1), (16, pan), (33, [1]), (40, le 2 1)]
    let mg := body 16 [(0, le 8 1), (8, [4, 0, 16])]
    let mv := body 32 [(0, le 8 1), (8, [4, 0, 16])]
    let card := fun (code : Nat) (b : Bytes) (n : Nat) => verbRuns (verbOn code b (mat 1 uDerive 3) (mat 1 0)) 0 0 (verbCore code b) code ∧
      ((loadsAs (verbOn code b (mat 1 uDerive 3) (mat 1 0)) (verbCore code b) 1 (padKeyType 1) uDerive).bind fun x => x.2.served (cardBlocks 1 n)).isSome = true
    deriveClass (mat 1 uDerive 3).attrs = 3 ∧
    (card 0x0301 ar 1 ∧ arqcOk ar (fun n => decide (1 ≤ n ∧ n ≤ 256)) (fun m => decide (m ≤ 2)) = true ∧ leAt ar 38 1 = 1) ∧
    (card 0x0302 ap 20 ∧ arqcOk ap (fun n => n == 0) (fun m => m == 1 || m == 2) = true ∧ leAt ap 38 1 = 1) ∧
    (card 0x0303 sm 1 ∧ sm.length = 48 + leAt sm 40 2 ∧ 1 ≤ leAt sm 40 2 ∧ leAt sm 40 2 ≤ 1024 ∧ res sm 8 8 = true ∧ cardPanOk (slice sm 16 16) = true ∧
      leAt sm 33 1 = 1 ∧ res sm 36 4 = true ∧ res sm 42 6 = true) ∧
    (verbRuns (verbOn 0x0501 mg (mat 3 uMacGen) (mat 3 0)) 0 0 (verbCore 0x0501 mg) 0x0501 ∧ mg.length = 16 + leAt mg 12 4 ∧ res mg 11 1 = true ∧
      macFieldsOk 4 0 16 0 65520 = true ∧
      ((loadsAs (verbOn 0x0501 mg (mat 3 uMacGen) (mat 3 0)) (verbCore 0x0501 mg) 1 (macKeyType 4) uMacGen).bind fun x => x.2.served 1).isSome = true) ∧
    (verbRuns (verbOn 0x0502 mv (mat 3 uMacVer) (mat 3 0)) 0 0 (verbCore 0x0502 mv) 0x0502 ∧ mv.length = 32 + leAt mv 12 4 ∧ res mv 11 1 = true ∧
      macFieldsOk 4 0 16 0 65504 = true ∧
      ((loadsAs (verbOn 0x0502 mv (mat 3 uMacVer) (mat 3 0)) (verbCore 0x0502 mv) 1 (macKeyType 4) uMacVer).bind fun x => x.2.served 1).isSome = true) := by
  decide +kernel
/-- A verb runs with one key for `n` blocks, and with two keys. -/
abbrev one (code : Nat) (b : Bytes) (m : KeyMat) (t : Nat → Bool) (n : Nat) : Prop :=
  verbRuns (verbOn code b m (mat 3 0)) 0 0 (verbCore code b) code ∧
  ((loadsAs (verbOn code b m (mat 3 0)) (verbCore code b) 1 t uDerive).bind fun x => x.2.served n).isSome = true
abbrev two (code : Nat) (b : Bytes) (m w : KeyMat) (t v : Nat → Bool) (u : BitVec 16) (n : Nat) : Prop :=
  verbRuns (verbOn code b m w) 0 0 (verbCore code b) code ∧
  (((loadsTwo (verbOn code b m w) (verbCore code b) t uDerive v u).bind fun x => x.served n).map (·.canDraw 0)) = some true
theorem witness_DukptVerbResults_aes :
    let ksn := body 12 [(11, [1])]
    let ap := body 64 [(0, le 8 1), (8, le 8 2), (32, pan), (48, ksn), (60, [3, 4])]
    let ad := body 64 [(0, le 8 1), (8, ksn), (20, [3]), (24, le 4 16)]
    let am := body 49 [(0, le 8 1), (8, ksn), (20, [3, 4]), (24, le 4 1)]
    deriveClass (mat 3 uDerive 1).attrs = 1 ∧ aesKsnOk ksn = true ∧
    (two 0x0401 ap (mat 3 uDerive 1) (mat 3 uPinEnc) isAes isAes uPinEnc (dukptAesBlocks ksn + 2) ∧ ap.length = 64 ∧ res ap 62 2 = true ∧
      slice ap 48 12 = ksn ∧ isAes (leAt ap 60 1) = true ∧ leAt ap 61 1 = 4 ∧ panOk (slice ap 32 16) true = true) ∧
    (one 0x0402 ad (mat 3 uDerive 1) isAes (dukptAesBlocks ksn + 1) ∧ ad.length = 48 + leAt ad 24 4 ∧ isSym (leAt ad 20 1) = true ∧ leAt ad 21 1 ≤ 2 ∧
      res ad 22 2 = true ∧ res ad 28 4 = true ∧ cbcLenOk (leAt ad 24 4) (blockLen (leAt ad 20 1)) = true ∧ slice ad 8 12 = ksn) ∧
    (one 0x0403 am (mat 3 uDerive 1) isAes (dukptAesBlocks ksn + 1) ∧ am.length = 48 + leAt am 24 4 ∧ isAes (leAt am 20 1) = true ∧ leAt am 21 1 = 4 ∧
      res am 22 2 = true ∧ res am 28 4 = true ∧ leAt am 24 4 = 1 ∧ slice am 8 12 = ksn) := by decide +kernel
theorem witness_DukptVerbResults_tdes :
    let tksn := body 10 [(9, [1])]
    let tp := body 64 [(0, le 8 1), (8, le 8 2), (32, pan), (48, tksn)]
    let td := body 56 [(0, le 8 1), (8, tksn), (24, le 4 8)]
    let tm := body 49 [(0, le 8 1), (8, tksn), (19, [8]), (24, le 4 1)]
    tdesKsnOk tksn = true ∧
    (two 0x0404 tp (mat 1 uDerive 2) (mat 1 uPinEnc) isTdes2 isTdes uPinEnc (dukptTdesBlocks tksn + 1) ∧ tp.length = 64 ∧ res tp 59 5 = true ∧
      slice tp 48 10 = tksn ∧ pinBlockOk 0 (slice tp 16 16) = true ∧ leAt tp 58 1 = 0) ∧
    (one 0x0405 td (mat 1 uDerive 2) isTdes2 (dukptTdesBlocks tksn + 1) ∧ td.length = 48 + leAt td 24 4 ∧ leAt td 18 1 ≤ 1 ∧ res td 19 5 = true ∧
      res td 28 4 = true ∧ res td 40 8 = true ∧ cbcLenOk (leAt td 24 4) 8 = true ∧ slice td 8 10 = tksn) ∧
    (one 0x0406 tm (mat 1 uDerive 2) isTdes2 (dukptTdesBlocks tksn + 1) ∧ tm.length = 48 + leAt tm 24 4 ∧ leAt tm 18 1 ≤ 1 ∧ leAt tm 19 1 = 8 ∧
      res tm 20 4 = true ∧ res tm 28 4 = true ∧ res tm 40 8 = true ∧ slice tm 8 10 = tksn) := by decide +kernel
theorem witness_DukptVerbResults_initial :
    let ksn := body 12 [(11, [1])]
    let ik := body 32 [(0, le 8 1), (8, le 8 2), (16, ksn), (28, [1, 3])]
    (two 0x0407 ik (mat 3 uDerive 1) (mat 3 uWrap) isAes isSym uWrap 2 ∧ ik.length = 32 ∧ res ik 30 2 = true ∧ leAt ik 28 1 = 1 ∧
      isAes (leAt ik 29 1) = true ∧ slice ik 16 12 = ksn) := by decide +kernel

/-! ## States and operands that meet the hypotheses of the statements: data, asymmetric and module verbs -/

/-- The lane job of a verb has ended, or none was made. -/
theorem witness_DataVerbResults :
    let en := body 80 [(0, le 8 1), (8, [1]), (12, le 4 16)]
    let s := verbOn 0x0601 en (mat 3 uEnc) (mat 3 0)
    let d := verbOn 0x0602 en (mat 3 uDecClear) (mat 3 0)
    (verbRuns s 0 0 (verbCore 0x0601 en) 0x0601 ∧ dataOk en true = true ∧ leAt en 8 1 = 1 ∧ leAt en 12 4 ≤ 256 ∧ leAt en 12 4 % blockLen 3 = 0 ∧
      (s.laneJobs.find? (·.core == tx)).isNone = true ∧ ((loadsAs s (verbCore 0x0601 en) 1 isSym uEnc).bind fun x => x.2.served 1).isSome = true) ∧
    (verbRuns d 0 0 (verbCore 0x0602 en) 0x0602 ∧ dataOk en false = true ∧
      ((loadsAs d (verbCore 0x0602 en) 1 isSym uDecClear).bind fun x => x.2.served 1).isSome = true) ∧
    (let big := body 400 [(0, le 8 1), (8, [1]), (12, le 4 336)]
     let g := verbOn 0x0601 big (mat 3 uEnc) (mat 3 0)
     verbRuns g 0 0 (verbCore 0x0601 big) 0x0601 ∧ dataOk big true = true ∧ 256 < leAt big 12 4 ∧ leAt big 12 4 % blockLen 3 = 0 ∧ isTdes 3 = false ∧
      (loadsAs g (verbCore 0x0601 big) 1 isSym (modeUsage 1 true)).isSome = true) ∧
    ({ s with laneJobs := [laneJob0 (.ready 0)] } : State).laneJobs.find? (·.core == tx) = some (laneJob0 (.ready 0)) ∧
    ({ s with laneJobs := [laneJob0 (.done 0)] } : State).laneJobs.find? (·.core == tx) = some (laneJob0 (.done 0)) ∧
    ({ d with laneJobs := [laneJob0 (.done 0x0503)] } : State).laneJobs.find? (·.core == tx) = some (laneJob0 (.done 0x0503)) := by decide +kernel
theorem witness_DataVerbResults_bulk :
    let b := body 48 [(0, le 8 1), (8, [1, 0, 0, 16])]
    let k := fun (code : Nat) => ({ req := { verb := code, body := b, bulk := true, payloadLen := 16 } } : Core)
    let s := fun (code : Nat) (u : BitVec 16) => holding (k code) [(1, mat 3 u)]
    (verbRuns (s 0x0603 uEnc) 0 0 (k 0x0603) 0x0603 ∧ bulkOk (k 0x0603).req true = true ∧
      (loadsAs (s 0x0603 uEnc) (k 0x0603) 1 isAes (modeUsage 1 true)).isSome = true) ∧
    (verbRuns (s 0x0604 uDecClear) 0 0 (k 0x0604) 0x0604 ∧ bulkOk (k 0x0604).req false = true ∧
      (loadsAs (s 0x0604 uDecClear) (k 0x0604) 1 isAes (modeUsage 1 false)).isSome = true) ∧
    ((s 0x0603 uEnc).laneJobs.find? (·.core == tx)).isNone = true := by decide +kernel
theorem witness_DataVerbResults_token :
    let tk := body 112 [(0, le 8 1), (8, [10, 0, 0, 0, 6]), (48, List.replicate 6 48)]
    let wr := body 17 [(0, le 8 1), (8, le 4 1)]
    let un := body 32 [(0, le 8 1), (8, le 4 16)]
    let s := fun (code : Nat) (b : Bytes) => verbOn code b (mat 3 (uEnc ||| uDecClear)) (mat 3 0)
    tokenOk tk = true ∧ wrapBodyOk wr = true ∧ wrapBodyOk un = true ∧ leAt wr 8 4 = 1 ∧ leAt un 8 4 = 16 ∧
    (verbRuns (s 0x0605 tk) 0 0 (verbCore 0x0605 tk) 0x0605 ∧
      ((loadsAs (s 0x0605 tk) (verbCore 0x0605 tk) 1 isAes uEnc).bind fun x => x.2.served (ff1Blocks 10 6 0)).isSome = true) ∧
    (verbRuns (s 0x0606 tk) 0 0 (verbCore 0x0606 tk) 0x0606 ∧
      ((loadsAs (s 0x0606 tk) (verbCore 0x0606 tk) 1 isAes uDecClear).bind fun x => x.2.served (ff1Blocks 10 6 0)).isSome = true) ∧
    (verbRuns (s 0x0607 wr) 0 0 (verbCore 0x0607 wr) 0x0607 ∧
      ((loadsAs (s 0x0607 wr) (verbCore 0x0607 wr) 1 isAes uEnc).bind fun x => x.2.served (kwpBlocks 1)).isSome = true) ∧
    (verbRuns (s 0x0608 un) 0 0 (verbCore 0x0608 un) 0x0608 ∧
      ((loadsAs (s 0x0608 un) (verbCore 0x0608 un) 1 isAes uDecClear).bind fun x => x.2.served (kwpBlocks 16)).isSome = true) := by decide +kernel

/-- A verb whose LNE job has ended. -/
def lneDone (code : Nat) (b : Bytes) (j : LneJob) : State := { onCore (verbCore code b) with lneJobs := [j] }
/-- A job of the core with that place is the one found. -/
abbrev hasJob (code : Nat) (b : Bytes) (j : LneJob) : Prop := (lneDone code b j).lneJobs.find? (·.core == tx) = some j
/-- What `lneStarts` asks of a job's operands and of the staging memory. -/
abbrev starts (u : State) (k : Core) (op p bits : Nat) (key : Option Handle) (ops : List Bytes) (tm : Bytes) : Prop :=
  let len := fun a => (ops.getD a []).length
  operandsOk op p (opBitsOf bits key) key.isSome (len 0) (len 1) (len 2) (len 3) = true ∧ opBitsOk op p bits key = true ∧
  u.lneUnits + (u.wholeJob (k.submitter tx) op p bits key ops tm).units ≤ 2048
theorem witness_AsymmetricVerbResults :
    let sg := body 21 [(0, le 8 1), (8, [8]), (12, le 4 5)]
    let vf := body 133 [(8, [8]), (12, le 4 5), (16, le 4 64), (20, le 4 32)]
    let kg := body 48 [(0, le 8 1), (8, [8])]
    let rd := body 272 [(0, le 8 1), (8, [1]), (12, le 4 256)]
    let j := lneJob0 (.done 0)
    let bad := lneJob0 (.done St.invalidSignature)
    let keyed : LneJob := { j with resultKey := some (keyOf 0x48 uSign []) }
    hasJob 0x0701 sg j ∧ hasJob 0x0701 sg (lneJob0 .waiting) ∧ hasJob 0x0702 vf bad ∧ hasJob 0x0706 kg keyed ∧
    (bad.place = .done St.invalidSignature) ∧ (∀ st, (lneJob0 .waiting).place ≠ .done st) ∧
    (verbRuns (lneDone 0x0701 sg j) 0 0 (verbCore 0x0701 sg) 0x0701 ∧ sg.length = 16 + leAt sg 12 4 ∧ leAt sg 0 8 ≠ 0 ∧ paramOk 1 8 = true ∧
      signFlagsOk 8 (leAt sg 9 1) = true ∧ res sg 10 2 = true ∧ msgLenOk 8 0 5 = true) ∧
    (verbRuns (lneDone 0x0702 vf j) 0 0 (verbCore 0x0702 vf) 0x0702 ∧ vf.length = 32 + pad8 (leAt vf 20 4) + pad8 (leAt vf 16 4) + leAt vf 12 4 ∧ paramOk 2 8 = true ∧
      res vf 10 2 = true ∧ res vf 24 8 = true ∧ verifyLenOk 8 (leAt vf 20 4) (leAt vf 16 4) (leAt vf 0 8 != 0) = true) ∧
    (verbRuns (lneDone 0x0706 kg keyed) 0 0 (verbCore 0x0706 kg) 0x0706 ∧ kg.length = 48 ∧ leAt kg 0 8 ≠ 0 ∧ res kg 9 1 = true ∧ res kg 12 4 = true ∧
      keypairOk (leAt kg 8 1) (leAt kg 10 2) = true) ∧
    (verbRuns (lneDone 0x0707 rd j) 0 0 (verbCore 0x0707 rd) 0x0707 ∧ rd.length = 16 + pad8 (leAt rd 10 2) + leAt rd 12 4 ∧ leAt rd 0 8 ≠ 0 ∧
      oaepHash (leAt rd 8 1) ≠ 0 ∧ res rd 9 1 = true ∧ leAt rd 10 2 ≤ 256) := by
  refine ⟨by decide +kernel, by decide +kernel, by decide +kernel, by decide +kernel, by decide +kernel, fun _ => nofun, by decide +kernel, by decide +kernel,
    by decide +kernel, by decide +kernel⟩
/-- The same verbs with no job yet: their keys load and their jobs start. -/
theorem witness_AsymmetricVerbResults_starts :
    let sg := body 21 [(0, le 8 1), (8, [8]), (12, le 4 5)]
    let vf := body 133 [(8, [8]), (12, le 4 5), (16, le 4 64), (20, le 4 32)]
    let kt : Bytes := [0x48, 0] ++ le 2 uSign.toNat ++ [0, 0, 6, 7] ++ zeros 24
    let s := verbOn 0x0701 sg (mat 0x48 uSign) (mat 0 0)
    let h : Handle := { keyOf 0x48 uSign [] with ref := some 1 }
    s.lneJobs.find? (·.core == tx) = none ∧ (loadsAs s (verbCore 0x0701 sg) 1 (· == algPrivate 8) uSign).isSome = true ∧
    starts s (verbCore 0x0701 sg) 1 8 0 (some h) [sg.drop 16, [], [], []] [] ∧
    starts s (verbCore 0x0702 vf) 2 8 (pubBits 8 32) none [vf.drop 128, slice vf 64 64, slice vf 32 32, []] [] ∧
    starts s (verbCore 0x0706 []) 6 8 0 none [[], [], [], []] kt ∧ templateError 1 0 false (parseAttrs kt) = none ∧ (parseAttrs kt).keyType = algPrivate 8 ∧
    starts s (verbCore 0x0703 []) 3 0x10 0 (some { h with key := mat (algPrivate 0x10) uDerive 0 (zeros 32) }) [zeros 32, [], [], []] [] ∧
    starts s (verbCore 0x0704 []) 4 0x20 0 none [zeros 800, [], [], []] tmpl ∧
    starts s (verbCore 0x0707 []) 7 1 0 (some { h with key := mat 0x41 uDecClear 0 (zeros 904) }) [zeros 256, [], [], []] [] := by decide +kernel
/-- The keys that the shared secrets of KEY_AGREE, KEM_DECAPSULATE and KEM_ENCAPSULATE become. -/
def secret : Handle := keyOf 5 uDerive []
theorem witness_AsymmetricVerbResults_secret :
    let ka := body 112 [(0, le 8 1), (8, le 8 2), (24, [0x10]), (28, le 4 32), (32, tmpl)]
    let kd := body 848 [(0, le 8 1), (8, le 8 2), (24, [0x20]), (28, le 4 768), (32, tmpl)]
    let ke := body 880 [(0, le 8 1), (16, [0x20]), (20, le 4 800), (32, tmpl)]
    let j : LneJob := { lneJob0 (.done 0) with resultKey := some secret }
    let s := fun (code : Nat) (b : Bytes) => lneDone code b j
    (verbRuns (s 0x0703 ka) 0 0 (verbCore 0x0703 ka) 0x0703 ∧ ka.length = 80 + leAt ka 28 4 ∧ leAt ka 0 8 ≠ 0 ∧ leAt ka 8 8 ≠ 0 ∧ leAt ka 16 8 = 0 ∧
      paramOk 3 (leAt ka 24 1) = true ∧ res ka 25 3 = true ∧ leAt ka 28 4 = valueLen (algPrivate (leAt ka 24 1)) 0) ∧
    (verbRuns (s 0x0705 kd) 0 0 (verbCore 0x0705 kd) 0x0705 ∧ kd.length = 80 + leAt kd 28 4 ∧ leAt kd 16 8 = 0 ∧ paramOk 5 (leAt kd 24 1) = true ∧
      leAt kd 28 4 = kemCtLen (leAt kd 24 1)) ∧
    (verbRuns (s 0x0704 ke) 0 0 (verbCore 0x0704 ke) 0x0704 ∧ ke.length = 80 + leAt ke 20 4 ∧ leAt ke 0 8 ≠ 0 ∧ leAt ke 8 8 = 0 ∧ paramOk 4 (leAt ke 16 1) = true ∧
      res ke 17 3 = true ∧ res ke 24 8 = true ∧ leAt ke 20 4 = valueLen (algPrivate (leAt ke 16 1)) 0 ∧
      templateError 1 0 false (parseAttrs (slice ke 32 32)) = none) ∧
    slice ka 32 32 = tmpl ∧ slice kd 32 32 = tmpl ∧ slice ke 32 32 = tmpl ∧
    ((((s 0x0703 ka).dropLneJob j).served (cdiv (symLen 3) 8)).bind fun x => x.served 1).isSome = true := by decide +kernel
theorem witness_AsymmetricVerbResults_derive (f : Nat) : ∃ h', derive 1 0 secret (zeros 16) (parseAttrs tmpl) 5 f = .ok h' ∧
    isSym h'.key.attrs.keyType = true := ⟨_, rfl, rfl⟩
theorem witness_ModuleVerbResults :
    let rn := le 4 4096 ++ le 4 0
    let wb := body 40 []
    let s := onCore (verbCore 0x0802 rn)
    let w := onCore (verbCore 0x0801 wb)
    let full : State := { w with plat := { w.plat with index := keptTree } }
    let d : Core := { verbCore 0x0803 [] with decided := some (0, [1]) }
    (verbRuns s 0 0 (verbCore 0x0802 rn) 0x0802 ∧ rn.length = 8 ∧ res rn 4 4 = true ∧ leAt rn 0 4 = 4096 ∧ s.drawPart 0 (.invocation 0) = [] ∧ s.canDraw 0 (cdiv 4096 64) = true ∧
      (s.tryReads 0 (.invocation 0) [16]).1.isSome = true) ∧
    (verbRuns w 0 0 (verbCore 0x0801 wb) 0x0801 ∧ wb.length = 40 ∧ leAt wb 32 1 ≤ 1 ∧ res wb 33 7 = true ∧ w.plat.index < keptTree ∧ w.plat.cacheOk = true ∧
      w.plat.index = 0) ∧
    (verbRuns full 0 0 (verbCore 0x0801 wb) 0x0801 ∧ keptTree ≤ full.plat.index) ∧
    (verbRuns (onCore d) 0 0 d 0x0803 ∧ d.decided = some (0, [1])) ∧
    verbRuns (onCore { d with req := { verb := 0x0804 } }) 0 0 { d with req := { verb := 0x0804 } } 0x0804 := by decide +kernel

/-! ## States and operands that meet the hypotheses of the statements: commands of the controller -/

/-- The state once the command at the head of the queue is taken. -/
def taken (s : State) : State := { s with sc := { s.sc with queue := [] } }
/-- A command of a code with a body. -/
def cmd (code : Nat) (b : Bytes) : Request := { verb := code, body := b, ticket := 9 }
/-- On a running controller the command at the head of the queue is taken, whatever else the state holds. -/
theorem takes (s : State) (code : Nat) (b : Bytes) (h : s.sc.mode = .running) :
    scTakes (asked s (cmd code b)) (taken (asked s (cmd code b))) code (cmd code b) := ⟨h, rfl, [], rfl, rfl⟩
theorem idle_runs : idle.sc.mode = .running := by decide

theorem witness_PartitionCommandResults :
    let q := cmd 0x0F01 (le 2 3)
    let t := taken (asked idle q)
    let busy := t.setPart 3 { reset := some { at0 := 0 } }
    let refused : State := { t with sc := { t.sc with points := [(9, 0x0205, [])] } }
    (t.point q).1 = 0 ∧ leAt q.body 0 2 = 3 ∧ (t.part 3).reset = none ∧ (busy.part 3).reset = some { at0 := 0 } ∧ (busy.point q).1 = 0 ∧
    (refused.point q).1 ≠ 0 ∧ busy.sc.mode = .running ∧ refused.sc.mode = .running := by decide +kernel
/-- A stage of the service port session. -/
def stage1 : Stage := { id := 1, session := none, partition := 0, name := [65], items := [.keyInvalidate 1], sizes := [8], image := [0] }
def withStage (g : Stage) : State := { idle with seq := { nextStage := 2, stages := [g] } }
theorem witness_StageCommandResults :
    let s := withStage stage1
    let q := cmd 0x0901 ([65] ++ zeros 15)
    let own := cmd 0x0903 (le 4 1 ++ zeros 4)
    let add := cmd 0x0902 (le 4 1 ++ le 2 1 ++ le 2 0 ++ le 2 2 ++ le 2 0 ++ le 4 16 ++ le 8 1 ++ zeros 8)
    let four : State := { idle with seq := { stages := List.replicate 4 stage1 } }
    let three : State := { idle with seq := { stages := List.replicate 3 stage1 } }
    s.serves = true ∧ nameOk q.body = true ∧ three.serves = true ∧ (three.seq.stages.filter fun g => g.session == q.session).length < 4 ∧
    three.seq.stages.length < 64 ∧ four.serves = true ∧ 4 ≤ (four.seq.stages.filter fun g => g.session == q.session).length ∧
    own.body.length = 8 ∧ allZero (own.body.drop 4) = true ∧ s.stageOf own (leAt own.body 0 4) = some stage1 ∧ stage1.validated = false ∧
    (withStage { stage1 with validated := true }).stageOf own 1 = some { stage1 with validated := true } ∧
    (s.itemsError s.head .stage 0 [.configSet 0x0903 0 (le 4 10)] = none) ∧ (s.itemsError s.head .stage 0 [.malformed 1]).isSome = true ∧
    stage1.items.any (itemQuorum s.lifecycle s.durable) = false ∧ drawsKeys stage1.items = false ∧ stage1.applying = none ∧
    ([CItem.partitionDelete 3].any (itemQuorum s.lifecycle s.durable)) = true ∧ s.quorumMet 1 = false ∧
    8 ≤ add.body.length ∧ leAt add.body 4 2 = 1 ∧ leAt add.body 6 2 = 0 ∧ s.addFits stage1 1 16 = true ∧ (s.stageCeremony 1).isNone = true := by decide +kernel
theorem witness_StageCommandResults_add : ∃ it, rawItems 1 (le 2 2 ++ le 2 0 ++ le 4 16 ++ le 8 1 ++ zeros 8) = some ([it], []) ∧ it.body.length = 16 ∧ addError 0 it = none :=
  ⟨{ kind := 2, flags := 0, body := le 8 1 ++ zeros 8, padOk := true }, by decide +kernel, by decide +kernel, by decide +kernel⟩
theorem witness_StageCommandResults_install : ∃ items u keys, idle.installDraws 9 [.keyInvalidate 1] = (some keys, u) ∧
    installItems 0 none keys 0 [.keyInvalidate 1] = .ok items := ⟨_, _, _, rfl, rfl⟩
/-- A unit of a pair that stands by answers PAIR_STANDBY; a command in wait goes on. -/
theorem witness_StageCommandResults_wait :
    let s : State := { idle with pair := { state := .standby } }
    let w : ScCommand := { req := cmd 0x0904 [], wait := .decided 0 [] }
    let x : ScCommand := { req := cmd 0x0904 [], wait := .install 1 0 }
    s.serves = false ∧ idle.custody.ceremony.isNone = true ∧
    ({ idle with sc := { idle.sc with waiting := [w] } } : State).sc.waiting.find? ({ idle with sc := { idle.sc with waiting := [w] } } : State).resumable = some w ∧
    ({ withStage stage1 with sc := { idle.sc with waiting := [x] } } : State).sc.waiting.find?
      ({ withStage stage1 with sc := { idle.sc with waiting := [x] } } : State).resumable = some x := by decide +kernel
theorem witness_PartitionResetSteps :
    let r : ResetState := { at0 := 0, askers := [cmd 0x0F01 (le 2 3)] }
    ((idle.setPart 3 { reset := some r }).part 3).reset = some r ∧ r.cancelledAt = none ∧
    ((idle.setPart 3 { reset := some { r with cancelledAt := some 1000000 } }).part 3).reset = some { r with cancelledAt := some 1000000 } ∧
    (idle.setPart 3 { reset := some { r with cancelledAt := some 1000000 } }).partInFlight 3 = false := by decide +kernel
/-- A unit that stands by, and a stage with a ceremony of its own. -/
theorem witness_StageCommandResults_closed :
    let s : State := asked { idle with pair := { state := .standby } } (cmd 0x0902 [])
    let c : Ceremony :=
      { id := 1, op := 1, partition := 0, origin := cmd 0x0A01 [], stage := 1, digest := zeros 32, opened := 0, lastStep := 0, result := [] }
    let o : State := { withStage stage1 with custody := { ceremony := some c } }
    (taken s).serves = false ∧ (o.stageCeremony 1).isSome = true := by decide +kernel

/-! ## States and operands that meet the hypotheses of the statements: ceremonies, tokens, firmware, start -/

/-- A ceremony of a stage of partition 0, opened at time 0, and a token in slot 0. -/
def ceremony1 : Ceremony := { id := 1, op := 1, partition := 0, origin := cmd 0x0A01 [], stage := 1, digest := zeros 32, opened := 0, lastStep := 0,
                              result := zeros 16 }
def token1 : Slot := { present := true, powered := true, mode := 3, tokenId := zeros 16, pub := zeros 97 }
def custody (c : Option Ceremony) (x : Slot) : State := { withStage stage1 with custody := { slot0 := x, ceremony := c } }
theorem witness_CeremonyCommandResults :
    let op := cmd 0x0A01 (body 16 [(0, le 2 1), (4, le 4 1)])
    let pw := cmd 0x0A02 (body 40 [(0, le 4 1), (5, [8])])
    let st := cmd 0x0A03 (le 4 1 ++ zeros 4)
    let s := custody (some ceremony1) token1
    op.body.length = 16 ∧ leAt op.body 0 2 = 1 ∧ leAt op.body 2 2 = 0 ∧ leAt op.body 8 4 = 0 ∧ leAt op.body 12 4 = 0 ∧ s.porter.unacked = false ∧
    s.lifecycle ≠ .analysis ∧ s.custody.ceremony = some ceremony1 ∧ (custody none {}).custody.ceremony.isNone = true ∧
    (custody none {}).stageOf op (leAt op.body 4 4) = some stage1 ∧
    passwordMalformed pw.body = false ∧ s.ceremonyFor pw (leAt pw.body 0 4) true = some ceremony1 ∧ (s.slot (leAt pw.body 4 1)).lockedOut = false ∧
    ((custody (some ceremony1) {}).slot (leAt pw.body 4 1)).present = false ∧ (s.slot (leAt pw.body 4 1)).present = true ∧
    (s.slot (leAt pw.body 4 1)).free = true ∧ s.canDraw 12 = true ∧
    ({ token1 with step := some (0, { why := .lock, index := 9 }) } : Slot).step = some (0, { why := .lock, index := 9 }) ∧
    st.body.length = 8 ∧ allZero (st.body.drop 4) = true ∧ s.ceremonyFor st (leAt st.body 0 4) false = some ceremony1 := by decide +kernel
/-- The token whose identity is the digest of an enrolled key is on the roster. -/
theorem witness_CeremonyCommandResults_roster :
    let g : Stage := { stage1 with items := [.partitionDelete 3] }
    let d : Durable := { parts := [(0, { roster := { m := 1, n := 1, keys := [zeros 97] } })] }
    let s : State := { custody (some ceremony1) { token1 with tokenId := tokenIdOf (zeros 97) } with durable := d, seq := { stages := [g] } }
    (s.rosterKey ceremony1 (s.slot 0).tokenId).isSome = true := by
  simp only [State.rosterKey]
  have : ∀ s : State, s.ceremonyRosters ceremony1 = [0] → (s.roster 0).keys = [zeros 97] →
      (((s.ceremonyRosters ceremony1).flatMap fun p => (s.roster p).keys).find? fun k => tokenIdOf k == tokenIdOf (zeros 97)).isSome = true := by
    intro s h1 h2; simp [h1, h2]
  exact this _ (by decide +kernel) (by decide +kernel)
theorem witness_CeremonyCommandResults_data :
    let g : Stage := { stage1 with items := [.partitionRestore 4 (zeros 32) [] []] }
    let s : State := { custody (some ceremony1) token1 with seq := { stages := [g] } }
    let da := cmd 0x0A04 (body 20 [(0, le 4 1)])
    let re := cmd 0x0A05 (body 16 [(0, le 4 1), (4, le 4 65536), (8, le 8 16)])
    let r : State := { custody none {} with custody := { last := some ceremony1 } }
    (16 ≤ da.body.length ∧ leAt da.body 4 4 = 0 ∧ s.ceremonyFor da (leAt da.body 0 4) false = some ceremony1 ∧ leAt da.body 8 8 = ceremony1.upload.length ∧
      s.blobBytes ceremony1 = some 4 ∧ ceremony1.upload.length + (da.body.length - 16) ≤ 4) ∧
    (re.body.length = 16 ∧ r.custody.last = some ceremony1 ∧ ceremony1.id = leAt re.body 0 4 ∧ ceremony1.partition = re.partition ∧
      leAt re.body 4 4 ≤ 65536 ∧ leAt re.body 8 8 ≤ ceremony1.result.length) := by decide +kernel
theorem witness_CeremonyCommandResults_token :
    let sp := cmd 0x0A07 (body 72 [(1, [0, 8])])
    let er := cmd 0x0A08 (zeros 8)
    let s := custody none token1
    setPasswordMalformed sp.body = false ∧ (s.slot (leAt sp.body 0 1)).lockedOut = false ∧ ((custody none {}).slot (leAt sp.body 0 1)).present = false ∧
    (s.slot (leAt sp.body 0 1)).present = true ∧ (s.slot (leAt sp.body 0 1)).free = true ∧ er.body.length = 8 ∧ leAt er.body 0 1 ≤ 1 ∧
    allZero (er.body.drop 1) = true ∧ er.partition = 0 := by decide +kernel
/-- The token events: each has a slot, an answer and an outstanding command that it happens to. -/
theorem witness_TokenEventResults :
    let un : TokenCmd := { why := .unlock (zeros 48), index := 10, data := zeros 48 }
    let lk : TokenCmd := { why := .lock, index := 9 }
    let r : TokenResp := { frame := tokenFrame 10 0 }
    let rl : TokenResp := { frame := tokenFrame 9 0 }
    let good := fun (x : Slot) (k : TokenCmd) (r : TokenResp) => k.held = none ∧ r.missing = false ∧ respCrcOk r = true ∧ respIndex r = k.index ∧
      respStatus r = 0 ∧ (x.answerBlock k r).isSome = true ∧ (k.data = [] ∨ r.blockStatus = 2)
    let c : Ceremony := { ceremony1 with counts := [(zeros 16, 5)] }
    idle.sc.mode = .running ∧ (idle.slot 1).present = false ∧ ((custody none token1).slot 0).present = true ∧ ((custody none token1).slot 0).powered = true ∧
    ((custody none { token1 with cmd := some un }).slot 0).cmd = some un ∧ good { token1 with cmd := some un } un r ∧ un.why = .unlock (zeros 48) ∧
    ((custody none { token1 with cmd := some lk }).slot 0).cmd = some lk ∧ good { token1 with cmd := some lk } lk rl ∧ lk.why = .lock ∧
    ((custody none { token1 with cmd := some { un with held := some r } }).slot 0).cmd = some { un with held := some r } ∧
    ({ un with held := some r } : TokenCmd).held = some r ∧ un.why ≠ .readCheck ∧ un.resent = false ∧
    ({ r with missing := true } : TokenResp).missing = true ∧ respCrcOk { frame := 0 } = false ∧ (custody (some c) token1).custody.ceremony = some c ∧
    c.counts[0]? = some (zeros 16, 5) := by decide +kernel
/-! The identity block: a block of zeros on one line. -/

theorem crc16_zeros (n : Nat) : crc16 (List.replicate n false) = 0 := by
  induction n with
  | zero => rfl
  | succ n ih => simpa [crc16, List.replicate_succ] using ih
theorem bits_zeros (n : Nat) : ((zeros n).flatMap fun b => lineBits 8 b.toNat) = List.replicate (8 * n) false := by
  induction n with
  | zero => rfl
  | succ n ih =>
    rw [zeros, List.replicate_succ, List.flatMap_cons]
    rw [zeros] at ih
    rw [ih, show lineBits 8 (BitVec.toNat (0 : Byte)) = List.replicate 8 false by decide, List.replicate_append_replicate]
    congr 1; omega
/-- A block of zeros on one line. -/
theorem respBlock_zeros (n : Nat) (hn : 0 < n) (r : TokenResp) (h : r.lines = [List.replicate (8 * n + 17) false ++ [true]]) :
    respBlock r false n = some (zeros n) := by
  have hb : linesBytes false n r.lines = zeros n := by
    rw [h, zeros, List.eq_replicate_iff]
    refine ⟨by simp [linesBytes], ?_⟩
    intro b hb
    simp only [linesBytes, List.mem_map, List.mem_range] at hb
    obtain ⟨k, hk, rfl⟩ := hb
    have : ∀ i ∈ List.range 8, b2n ((List.replicate (8 * n + 17) false ++ [true]).getD (8 * k + i + 1) false) * 2 ^ (7 - i) = 0 := by
      intro i hi
      have hi := List.mem_range.mp hi
      rw [List.getD_eq_getElem?_getD, List.getElem?_append_left (by simp; omega), List.getElem?_replicate]
      simp only [show 8 * k + i + 1 < 8 * n + 17 by omega, if_true, Option.getD_some, b2n]
      simp
    simp only [Bool.false_eq_true, if_false, List.getD_cons_zero]
    rw [List.map_congr_left this]; decide
  have hl : tokenLines false (zeros n) = r.lines := by
    have hz : zeros n ≠ [] := by simp [zeros]; omega
    simp only [tokenLines, if_neg hz, Bool.false_eq_true, if_false, bits_zeros, crc16_zeros, h]
    rw [show lineBits 16 0 = List.replicate 16 false by decide, List.replicate_append_replicate, ← List.cons_append,
      ← List.replicate_succ]
  simp [respBlock, hb, hl]
theorem witness_TokenEventResults_identify :
    let k : TokenCmd := { why := .identify, index := 16 }
    let x : Slot := { token1 with mode := 1, cmd := some k }
    let r : TokenResp := { frame := tokenFrame 16 0, lines := [List.replicate (8 * 256 + 17) false ++ [true]] }
    ((custody none x).slot 0).cmd = some k ∧ k.held = none ∧ r.missing = false ∧ respCrcOk r = true ∧ respIndex r = k.index ∧ respStatus r = 0 ∧
    x.answerBlock k r = some (zeros 256) ∧ k.data = [] ∧ k.why = .identify :=
  ⟨rfl, rfl, rfl, by decide +kernel, by decide +kernel, by decide +kernel, respBlock_zeros 256 (by decide) _ rfl, rfl, rfl⟩
/-- The header checks that need no digest pass; whether the root's digest and the signature match is the opaque constants'. -/
def header : Bytes := body 512 [(0, le 4 0x57464D59), (4, le 2 1), (12, le 2 4), (32, le 4 512), (112, le 2 1), (160, le 2 2), (208, le 2 3), (256, le 2 4)]
theorem witness_FirmwareAndDebugResults :
    let u : FwUpload := { slot := 1, header := header }
    let up : State := { idle with sc := { idle.sc with upload := some u } }
    let d := cmd 0x0B02 (body 17 [(8, le 4 1)])
    let i := parseFwImage (u.header ++ u.data)
    let g : State := { idle with sc := { idle.sc with grant := some (3, 5) } }
    header.length = 512 ∧ idle.sc.upload.isNone = true ∧ fwFieldsOk (parseFwImage header) false = true ∧ up.sc.upload = some u ∧
    d.body.length = 16 + leAt d.body 8 4 ∧ leAt d.body 12 4 = 0 ∧ 1 ≤ leAt d.body 8 4 ∧ leAt d.body 8 4 ≤ 65520 ∧ leAt d.body 0 8 = u.data.length ∧
    u.data.length + 512 = i.imageBytes ∧ ({ u with data := [0] } : FwUpload).data.length + 512 ≠ (parseFwImage (header ++ [0])).imageBytes ∧
    idle.canDraw 12 = true ∧ g.sc.grant = some (3, 5) := by decide +kernel
theorem witness_StartResults :
    let cold : State := { State.reset with porter := { State.reset.porter with sensorActive := true } }
    let warm : State := { State.reset with porter := { State.reset.porter with power := .s0, p12v := true, held := false } }
    cold.porter.power = .s4 ∧ cold.porter.sensorActive = true ∧ State.reset.porter.power = .s4 ∧ State.reset.porter.sensorActive = false ∧
    idle.porter.power ≠ .s4 ∧ warm.sc.mode = .off ∧ warm.guest.inFatal.isNone = true ∧ warm.porter.p12v = true ∧ warm.porter.held = false ∧
    warm.porter.power = .s0 ∧ idle.sc.mode ≠ .off := by decide +kernel
theorem witness_StartedAndWaysideResults :
    let s : State := { idle with sc := { mode := .starting } }
    let w : State := { idle with sc := { mode := .wayside } }
    let b : State := { idle with sc := { mode := .romBlank } }
    let go := fun op : Nat => (0x80000000 : BitVec 32) ||| BitVec.ofNat 32 op
    let img : FwImage := { (parseFwImage header) with imageData := [] }
    s.sc.mode = .starting ∧ s.rng.started = true ∧ s.rng.trunkWanted = false ∧ s.plat.canSign = true ∧
    s.dropStale.deriveKeys.areaIvs.1 = some [] ∧ s.dropStale.deriveKeys.areaIvs.2.canDraw 12 2 = true ∧
    w.waysideOn = true ∧ b.waysideOn = true ∧ (∀ op ∈ [1, 2, 3], bit (go op).toNat 31 = true ∧ (go op).toNat % 16 = op) ∧ w.svc.wayState ≠ 1 ∧
    w.sc.mode ≠ .romBlank ∧ b.sc.mode = .romBlank ∧ bits (go 1).toNat 7 6 ≤ 2 ∧ w.svc.wayAddr % 4096 = 0 ∧ w.svc.wayLen ≤ 268435456 ∧
    img.imageData.length = w.svc.wayLen ∧ (parseFwImage header).imageData.length ≠ w.svc.wayLen ∧ bits (go 2).toNat 11 8 < 4 ∧
    4 ≤ bits ((go 2).toNat + 1024) 11 8 := by decide +kernel

/-- CEREMONY_OPEN of an operation without a stage, and a firmware image that is not ambiguous. -/
theorem witness_CeremonyCommandResults_other :
    let op := cmd 0x0A01 (body 16 [(0, le 2 2)])
    op.body.length = 16 ∧ leAt op.body 0 2 = 2 ∧ op.partition = 0 ∧ idle.porter.unacked = false ∧ idle.custody.ceremony.isNone = true ∧
    opPermitted idle.lifecycle 2 = true ∧ idle.openError 2 [] = none := by decide +kernel

/-! ## States and operands that meet the hypotheses of the statements: platform, power, Guestbook -/

/-- A module in service with platform state `p`. -/
def platform (p : Platform) : State := { idle with plat := p }
theorem witness_PlatformCommandResults :
    let be := cmd 0x0C02 (body 8 [(0, [1]), (4, le 4 4096)])
    let da := cmd 0x0C03 (body 17 [(4, le 4 1)])
    let up : State := platform { set := { state := 2, channel := 0, lens := [(0, 4096)], images := [(0, [])] } }
    let ok : State := platform { set := { state := 1 } }
    be.body.length = 8 ∧ leAt be.body 0 1 ≤ 1 ∧ allZero (slice be.body 1 3) = true ∧ leAt be.body 4 4 % 4096 = 0 ∧ leAt be.body 4 4 ≤ 67108864 ∧
    idle.plat.busy = false ∧ da.body.length = 16 + leAt da.body 4 4 ∧ allZero (slice da.body 1 3) = true ∧ 1 ≤ leAt da.body 4 4 ∧ leAt da.body 4 4 ≤ 65520 ∧
    up.plat.set.state = 2 ∧ up.plat.set.channel = leAt da.body 0 1 ∧ leAt da.body 8 8 = (getD 0 [] up.plat.set.images).length ∧
    (getD 0 [] up.plat.set.images).length + 1 ≤ getD 0 0 up.plat.set.lens ∧ up.setOk = false ∧ ok.plat.set.state = 1 ∧ ok.plat.recovering = false ∧
    idle.sc.mode = .running ∧ idle.plat.cacheOk = true ∧ (platform { cacheOk := false }).plat.cacheOk = false ∧
    (platform { build := some { tree := 0, left := 0, jobs := [5] } }).lneJob? 5 = none ∧ (platform { build := some { tree := 0 } }).plat.build = some { tree := 0 } ∧
    ({ tree := 0 } : TreeBuild).left ≠ 0 := by decide +kernel
/-- A manifest of one measured region, and a start with both channels unused. -/
def region1 : Region := { channel := 0, flags := 1, serveRights := 1, runRights := 1, start := 0, units := 1, digest := zeros 32 }
def manifest1 : Manifest := { (parseManifest []) with digest := zeros 32, channelMask := 1, allow := [zeros 32, zeros 32, zeros 32, zeros 32], regions := [region1] }
theorem witness_PlatformSequenceResults :
    let on : Platform := { pwrEn := true, pwrGood := true, measuring := true }
    let serve : Platform := { on with phase := .serve, manifest := some manifest1, set := { state := 1 }, results := [(0, 0)] }
    (platform { pwrEn := true }).sc.mode = .running ∧ (platform { pwrEn := true }).plat.pwrGood = false ∧ (platform { pwrEn := true }).plat.pwrEn = true ∧
    (platform { pwrEn := true }).plat.recovering = false ∧ (platform { pwrEn := true, cfg := { enable := false } }).plat.cfg.enable = false ∧
    (platform on).plat.pwrGood = true ∧
    (platform { pwrEn := true, cfg := { enable := true } }).plat.cfg.enable = true ∧ (platform { pwrEn := true }).plat.risen = false ∧
    (platform on).plat.measuring = true ∧ (platform on).plat.phase = .boot ∧ (platform on).plat.alone = false ∧
    flashesOk { mode0 := 1 } [] = false ∧ (platform serve).plat.attempt = 0 ∧ (platform serve).plat.set.state = 1 ∧
    (platform serve).plat.manifest = some manifest1 ∧ (platform serve).plat.phase = .serve ∧ manifest1.regions[0]? = some region1 ∧ measured region1 = true ∧ getK 0 (platform serve).plat.results = some 0 ∧
    (platform { on with recovering := true }).plat.recovering = true ∧ (platform { on with recovering := true }).plat.pwrGood = true ∧ (platform { restartOff := true }).plat.restartOff = true := by decide +kernel
theorem witness_FlashFilterResults :
    let m1 : Manifest := { manifest1 with allow := List.replicate 4 (List.replicate 32 0xFF) }
    let s := platform { phase := .run, manifest := some m1, flash := [(0, ⟨true, 0x100000, [(0x20, 4096)], false⟩)] }
    let b := platform {}
    s.sc.mode = .running ∧ b.plat.phase = .boot ∧ s.plat.phase = .run ∧ (platform { phase := .serve }).plat.phase = .serve ∧ s.plat.manifest = some m1 ∧
    m1.channelMask.getLsbD 1 = false ∧ m1.channelMask.getLsbD 0 = true ∧ bit (leAt (manifest1.allow.getD 1 []) 0 1) 3 = false ∧
    bit (leAt (m1.allow.getD 1 []) 0 1) 3 = true ∧ opcodeClass 0x03 = 0 ∧ opcodeClass 0x02 = 1 ∧ opcodeClass 0x20 = 2 ∧ opcodeClass 0x9F = 4 ∧ opcodeClass 0x5A = 5 ∧
    (∃ j, j < cdiv (4095 + 2) 4096 ∧ (unitRights m1 true 0 (0 + j)).getLsbD 0 = false) ∧ (unitRights m1 true 0 0).getLsbD 1 = false ∧
    (getK 0 s.plat.flash).isSome = true ∧ getK 0x20 [(0x20, 4096)] = some 4096 ∧ (unitRights m1 true 0 0).getLsbD 2 = false := by decide +kernel
theorem witness_PowerAndSleepResults :
    let q := cmd 0x0D01 (body 8 [(0, [3]), (4, le 4 2592000)])
    let porter := fun (p : Porter) => ({ idle with porter := p } : State)
    let busy : State := { idle with sc := { idle.sc with grant := none, upload := some { slot := 0, header := [] } } }
    let idleOn : State := { porter { unacked := false, power := .s0, p12v := true, held := false } with durable := { config := [((0x0903, 0), [10])] } }
    let s2 : State := { porter { entering := some (2, 0), power := .s1, p12v := true } with clusters := [(0, { power := .idle 0 }), (1, {})] }
    q.body.length = 8 ∧ leAt q.body 0 1 = 3 ∧ allZero (slice q.body 1 3) = true ∧ leAt q.body 4 4 ≤ 2592000 ∧ idle.powerRefused 3 = false ∧
    busy.powerRefused 3 = true ∧ idleOn.sc.mode = .running ∧ idleOn.cfg 0x0903 0 0 ≠ 0 ∧ idleOn.porter.entering.isNone = true ∧ idleOn.fabricRuns = true ∧
    idleOn.disp.queued = [] ∧ idleOn.porter.unacked = false ∧ idleOn.rights = 0 ∧ s2.porter.entering = some (2, 0) ∧ s2.sc.queue = [] ∧ s2.sc.waiting = [] ∧ s2.egress = [] ∧
    s2.allQuiet = true ∧ (porter { power := .s2, held := false }).porter.held = false ∧ (porter { entering := some (3, 5), standby := true }).drained = true ∧
    (porter { power := .s3, held := false }).porter.p12v = false ∧ (porter { power := .s3, held := false, p12v := true, alarm := some 5 }).porter.alarm = some 5 := by
  decide +kernel
/-- The fast path is open when what S3 stored is what the preferred slot holds. -/
theorem witness_PowerAndSleepResults_fast (i : FwImage) (r : Bytes) :
    let x : S3Store := { slot := 0, digest := fwDigest i, regions := [sha256 r] }
    let s : State := { idle with sc := { slotA := .image i, retained := [r] }, porter := { power := .s3, held := false, p12v := true, latch := false, s3 := some x } }
    s.wakeMismatch = none ∧ s.porter.s3 = some x ∧ s.sc.slot x.slot = .image i ∧ s.porter.latch = false := by
  simp [State.wakeMismatch, Sc.slot]
theorem witness_TamperAndPowerLossResults :
    let s3 : State := { idle with porter := { power := .s3 } }
    Sensor.mesh 0 ≠ .aonLost ∧ Sensor.mesh 0 ≠ .glitch ∧ idle.porter.p12v = true ∧ idle.mainUp = true ∧ s3.mainUp = false ∧ s3.porter.power = .s3 ∧
    State.reset.porter.power = .s4 ∧ State.reset.porter.held = true ∧ State.reset.porter.latch = true ∧ ({ s3 with porter := { p12v := true, power := .s3 } } : State).mainUp = false ∧
    idle.porter.standby = false ∧ ({ idle with porter := { idle.porter with standby := true } } : State).porter.standby = true ∧
    State.reset.porter.wakeDue = none ∧ ({ State.reset with porter := { State.reset.porter with power := .s3, wakeDue := some 1 } } : State).porter.wakeDue = some 1 := by
  decide +kernel
theorem witness_VbatAbsentIsNoTamper : ({ idle with porter := { idle.porter with standby := true } } : State).porter.standby = true := by decide
def event1 : Event := { code := 0x0113, mono := 0, args := [0] }
def item1 : TapItem := { code := 0x0113, mono := 0, args := [0], words := 4 }
theorem witness_GuestbookAndDumpResults :
    let rd := cmd 0x0E02 (body 16 [(8, [3])])
    let dr := cmd 0x0E06 (body 16 [(0, [1]), (4, le 4 65536)])
    let re := cmd 0x0E07 (body 8 [(0, [1])])
    let fl := cmd 0x0E08 (body 8 [(0, [16])])
    let guest := fun (g : Guest) => ({ idle with guest := g } : State)
    let full : TapFifo := { items := List.replicate 64 item1 }
    rd.body.length = 16 ∧ allZero (rd.body.drop 9) = true ∧ 1 ≤ leAt rd.body 8 1 ∧ leAt rd.body 8 1 ≤ 3 ∧ (le 8 0).length = 8 ∧
    leAt (le 8 0) 0 8 ≤ idle.guest.nextSeq ∧ idle.serves = true ∧ idle.guest.lastSet.isNone = true ∧ (guest { lastSet := some 0 }).mono < 0 + 10 ^ 9 ∧
    dr.body.length = 16 ∧ leAt dr.body 0 1 ≤ 1 ∧ leAt dr.body 4 4 % 4096 = 0 ∧ leAt dr.body 8 8 % 4096 = 0 ∧ leAt dr.body 4 4 ≤ 65536 ∧
    (idle.dumpSlot 1).state = 0 ∧ re.body.length = 8 ∧ allZero (re.body.drop 1) = true ∧ ((guest { diverged := { state := 1 } }).dumpSlot (leAt re.body 0 1)).state ≠ 0 ∧
    ((guest { fatal := { state := 1 } }).dumpSlot 0).state ≠ 0 ∧ allZero (fl.body.drop 1) = true ∧ idle.fifoExists (leAt fl.body 0 1) = true ∧ (idle.fifo 16).flush = false ∧
    takeFormed 16 [(16, event1)] = some (event1, []) ∧ takeFormed 16 [(16, item1)] = some (item1, []) ∧ sampleFits 16 19 = true ∧
    ((guest { fifos := [(16, { staging := some item1 })] }).fifo 16).staging = some item1 ∧ (idle.fifo 16).staging = none ∧
    (idle.fifo 16).occupancy + event1.item.words ≤ 256 ∧ 256 < ((guest { fifos := [(16, full)] }).fifo 16).occupancy + event1.item.words ∧ full.items = item1 :: List.replicate 63 item1 ∧
    ({ full with items := List.replicate 63 item1 } : TapFifo).occupancy + event1.item.words ≤ 256 := by decide +kernel
theorem witness_GuestbookAndDumpResults_windows :
    let guest := fun (g : Guest) => ({ idle with guest := g } : State)
    let f : TapFifo := { items := [item1] }
    let i := eventIndex item1.code
    ((guest { fifos := [(16, f)] }).fifo 16).items = [item1] ∧ (guest { reading := [(16, item1)] }).guest.reading = [(16, item1)] ∧ item1.words ≤ 8 ∧
    ({ idle with lifecycle := .test } : State).jtagOpen = true ∧ item1.mono < (guest {}).guest.windowEnd ∧ item1.sample = false ∧
    0 < getD i (idle.rateLimit i) idle.guest.buckets ∧ getD i 0 idle.guest.window.counts = 0 ∧ getD i (idle.rateLimit i) (guest { buckets := [(i, 0)] }).guest.buckets = 0 ∧
    getD i 0 idle.guest.window.suppressed = 0 ∧ idle.sc.mode = .running ∧ idle.guest.fifos = [] ∧ idle.guest.slotTaken idle.guest.writeSlot = false ∧
    (guest { records := [⟨0, 0, false, false, 0, 0, 0, 0, [], {}⟩] }).guest.slotTaken 0 = true ∧ idle.guest.inFatal.isNone = true ∧
    (guest { inFatal := some 1 }).guest.inFatal = some 1 ∧ (guest { inFatal := some 1 }).guest.thirdFatal = false ∧
    (guest { inFatal := some 1, fatalTimes := [3, 2, 1] }).guest.thirdFatal = true := by decide +kernel

/-- A sample item, and a guestbook record that is held. -/
theorem witness_GuestbookAndDumpResults_sample :
    let it : TapItem := { code := 5, mono := 0, args := [7], words := 4, sample := true }
    let s : State := { idle with guest := { idle.guest with fifos := [(16, { items := [it] })] } }
    (s.fifo 16).items = it :: [] ∧ it.mono < s.guest.windowEnd ∧ it.sample = true ∧ it.truncated = false ∧ it.code < 29 ∧
    getD (sampleBucket it.value) 0 (getD it.code {} s.guest.window.metrics).buckets = 0 := by decide +kernel

/-! ## Witnesses: the network

The tags of frames come with the frames. -/

/-- A client. -/
def src1 : Source := { ip := 0x0A000001, udp := 7000 }
/-- A module whose port 0 is up and has an address. -/
def linked (n : Net) : State :=
  { idle with
    net := { n with ports := n.ports.set 0 { up := true } }
    durable := { idle.durable with config := [((0x0104, 0), [10, 0, 0, 2])] }
    sc := { idle.sc with identity := some ([], []) }
    expanders := [(0, { ready := true }), (12, { ready := true }), (16, { ready := true })] }
/-- A live session of partition 0. -/
def sess1 : Session := { id := 0x100000, partition := 0, live := true }
/-- A frame of a type on that session. -/
def frameOf (type : Nat) (b : Bytes) : FrameIn := { port := 0, src := src1, hdr := { type := type, sessionId := 0x100000, frameSeq := 5, bodyBytes := b.length }, body := b }
/-- A module with that session. -/
def live1 (x : Session) : State := linked { sessions := [x] }
/-- A hello of partition 0. -/
def hello1 : FrameIn :=
  { port := 0, src := src1, hdr := { type := 1, bodyBytes := 1320 }, body := [1, 1, 0, 0] ++ beBytes 2 1500 ++ zeros 1314 }
/-- The state in which a frame's own effect happens. -/
def entered (s : State) (f : FrameIn) : State :=
  (((s.updSess 0x100000 (Session.enter f.hdr.frameSeq s.mono)).touchSession 0x100000).updSess 0x100000 (Session.heard f)).flushHeld 0x100000 f.port f.src

theorem witness_LinkAndHandshakeResults_frames :
    let s := linked {}
    let ok : EthFrame := { octets := 100, l3 := .ip4 5 false 0 true true (.icmpEcho true) }
    let car : EthFrame := { octets := 100, l3 := .ip4 5 false 0 true true (.udp 7341 true false (some { type := 1, bodyBytes := 1320 })) }
    let bad : EthFrame := { octets := 100, l3 := .ip4 5 false 0 true true (.udp 7341 true false (some { type := 9 })) }
    let on : State := { s with durable := { s.durable with config := ((0x0108, 0), [1]) :: s.durable.config } }
    s.netOn 0 = true ∧ (9216 < 9217 ∧ (100 ≤ 9216 ∧ 64 ≤ 100)) ∧ (L3.pause ≠ ok.l3) ∧ (s.packetOf 0 ok).isNone = true ∧ on.packetOf 0 ok = some .echo ∧
    s.packetOf 0 car = some (.caravan { type := 1, bodyBytes := 1320 }) ∧ s.packetOf 0 bad = some (.caravan { type := 9 }) ∧
    s.caravanDrop 0 .own { type := 1, bodyBytes := 1320 } = none ∧ s.caravanDrop 0 .own { type := 9 } = some (s.stranger 0) :=
  ⟨by decide +kernel, by decide, by decide, by decide +kernel, rfl, rfl, rfl, rfl, rfl⟩
theorem witness_LinkAndHandshakeResults_links :
    let s := linked {}
    let on : State := { s with durable := { s.durable with config := ((0x0108, 0), [1]) :: s.durable.config } }
    s.netOn 0 = true ∧ s.fabricRuns = true ∧ s.portHasAddress 0 = true ∧ (s.port 0).slowArp.take s.mono 10000 10000 = some ⟨9999 * 10 ^ 9, 0⟩ ∧
    (s.port 0).slowIcmp.take s.mono 1000 1000 = some ⟨999 * 10 ^ 9, 0⟩ ∧ on.cfg 0x0108 0 0 = 1 ∧ 20 + 8 + 0 ≤ on.mtu 0 ∧ s.sc.mode = .running ∧
    s.portsOn = true ∧ (s.port 0).up = true ∧ s.portLanes 1 ≠ [] ∧ (s.port 1).up = false ∧ (linked { cookieMode := true }).net.cookieMode = true ∧
    (linked { cookieMode := true }).calmMark.net.cookieBelow = some 0 ∧ s.canDraw 12 = true := by
  decide +kernel
theorem witness_LinkAndHandshakeResults_hello :
    let s := linked {}
    let f := hello1
    let w := s.helloArrived
    let noId : State := { s with pair := { s.pair with state := .standby } }
    let cook := linked { cookieMode := true }
    let after := fun v : State => { v with net := { v.net with helloBuckets := setK (helloPrefix f.src) ⟨0, 0⟩ v.net.helloBuckets } }
    s.caravanOn f.port = true ∧ f.hdr.type = 0x01 ∧ s.portHasAddress f.port = true ∧ helloOk f.hdr f.body = true ∧ helloOk f.hdr [] = false ∧
    ((getD (helloPrefix f.src) (⟨w.helloRate.2 * 10 ^ 9, w.mono⟩ : Bucket) w.net.helloBuckets).take w.mono w.helloRate.1 w.helloRate.2).isSome = true ∧
    ((getD (helloPrefix f.src) (⟨w.helloRate.2 * 10 ^ 9, w.mono⟩ : Bucket) [(helloPrefix f.src, ⟨0, 0⟩)]).take w.mono w.helloRate.1 w.helloRate.2).isNone = true ∧
    (after w).serves = true ∧ (after noId.helloArrived).serves = false ∧ (after cook.helloArrived).net.cookieMode = true ∧
    (after cook.helloArrived).cookieOk f.src f.body = false ∧ (after w).net.cookieMode = false ∧ ((after w).helloAgain f).isNone = true ∧ beAt f.body 0 1 ≤ 1 ∧
    1 ≤ beAt f.body 1 1 ∧ (after w).sc.identity ≠ none ∧ (after w).slotFor (helloPartition f.body) = true := by decide +kernel
/-- A full partition has no slot: NET_SESSION_LIMIT of partition 1 is 1 and it has one session. -/
theorem witness_LinkAndHandshakeResults_full :
    let s := linked { sessions := [{ sess1 with partition := 1 }] }
    let t : State := { s with durable := { s.durable with config := ((0x010D, 1), [1]) :: s.durable.config } }
    t.slotFor 1 = false := by decide +kernel
theorem witness_LinkAndHandshakeResults_sessions :
    let s := linked {}
    let half := live1 { sess1 with live := false }
    let f := frameOf 4 [0, 0]
    s.portsOn = true ∧ s.fabricRuns = true ∧ half.caravanOn f.port = true ∧ f.hdr.type = 0x04 ∧ hdrFits f.hdr f.body = true ∧ hdrLawful f.hdr true = true ∧
    hdrFragIndex f.hdr = 0 ∧ hdrFragLast f.hdr = 0 ∧ half.sess? 0x100000 = some { sess1 with live := false } ∧
    ((entered half f).sess? 0x100000).map (fun y => (y.live, y.check)) = some (false, none) ∧
    ((entered half f).updSess 0x100000 fun z => { z with finish := [(0, [0, 0])] }).finishOk sess1 [0, 0] = none := by decide +kernel
def finisher : Session := { sess1 with live := false, credAlg := 1, credId := publicId 0 0x84 [] }
def finishing : State :=
  { live1 finisher with durable := { (live1 finisher).durable with keys := [(0x02000000, [(0, some (mat 0x84 0 0 []))])], parts := [(0, {})] } }
/-- A finish with a signature of the credential's length. -/
theorem witness_LinkAndHandshakeResults_finish : finishing.finishOk finisher (beBytes 2 96 ++ zeros 96) = some (0, mat 0x84 0 0 []) := by
  have r : (finishing.durable.refsOf finisher.partition).filter (fun r => refKind r == 2) = [0x02000000] := by decide +kernel
  have n : finishing.durable.keyNow 0x02000000 = some (mat 0x84 0 0 []) := by decide +kernel
  have h1 : finishing.durable.credential finisher.partition finisher.credAlg finisher.credId = some (0, mat 0x84 0 0 []) := by
    simp only [Durable.credential, r, List.findSome?_cons, n]
    simp [finisher, sess1, mat, isTombstone, refIndex, hasFlag]
  have h2 : finishing.admitsHandshake finisher.partition = true := by decide +kernel
  simp only [State.finishOk, h1]
  rw [if_pos ⟨h2, by decide +kernel, by decide +kernel⟩]
/-- The check of the signature is done, and its credential is the registered one still. -/
def finishJob (st : Status) : LneJob :=
  { handle := 7, core := .sc, ticket := 3, partition := 0, rank := 0, submitted := 0, operation := 0x0208, opBits := 0, micro := false, key := none,
    operands := [], resultKeyReg := 255, resultOffset := 0, template := [], units := 1, table := 100, place := .done st, result := [] }
def finishChecked : Session :=
  { finisher with check := some { port := 0, src := src1, sig := [], credential := 0, key := mat 0x84 0 0 [], ticket := 3, job := some 7 } }
def checking (st : Status) : State := { finishing with net := { finishing.net with sessions := [finishChecked] }, lneJobs := [finishJob st] }
theorem witness_LinkAndHandshakeResults_checked (st : Status) :
    (finishChecked.check.bind (·.job)).bind (checking st).lneJob? = some (finishJob st) ∧ (finishJob st).place = .done st ∧
    ((checking st).dropLneJob (finishJob st)).admitsHandshake finisher.partition = true ∧
    ((checking st).dropLneJob (finishJob st)).sess? 0x100000 = some finishChecked ∧ finishChecked.early = [] ∧
    (((checking st).dropLneJob (finishJob st)).durable.credential finisher.partition finisher.credAlg finisher.credId).map (·.1) = some 0 := by
  have e : ((checking st).dropLneJob (finishJob st)).durable = finishing.durable := rfl
  have r : (finishing.durable.refsOf finisher.partition).filter (fun r => refKind r == 2) = [0x02000000] := by decide +kernel
  have n : finishing.durable.keyNow 0x02000000 = some (mat 0x84 0 0 []) := by decide +kernel
  refine ⟨rfl, rfl, rfl, rfl, rfl, ?_⟩
  rw [e]
  simp only [Durable.credential, r, List.findSome?_cons, n]
  simp [finisher, sess1, mat, isTombstone, refIndex, hasFlag]
theorem witness_LinkAndHandshakeResults_kind : (live1 sess1).rxKind (frameOf 4 []).hdr = .ok sess1 ∧ (live1 finisher).rxKind (frameOf 4 []).hdr = .ok finisher := ⟨rfl, rfl⟩
/-- A handshake whose engine jobs are done, one that waits for them, one that got no random bits. -/
theorem witness_LinkAndHandshakeResults_helloWork :
    let ho : Hello := { sid := 0x100000, port := 0, src := src1, body := hello1.body, at0 := 0 }
    let d : Hello := { ho with ticket := 3 }
    let st : Hello := { ho with starved := true }
    let s := linked { hellos := [ho] }
    let f := fun u : State => (u.helloWork.net.hellos.find? (·.sid == 0x100000)).map fun h => (h.starved, h.done)
    s.portsOn = true ∧ s.fabricRuns = true ∧ s.helloWork.sc.identity = some ([], []) ∧ f s = some (false, false) ∧ f (linked { hellos := [d] }) = some (false, true) ∧
    f (linked { hellos := [st] }) = some (true, false) ∧ (linked { hellos := [d] }).helloWork.canDraw 12 = true := by decide +kernel

/-- An item: ID 7, verb 0x0F01, queue 1, no body. -/
def itemBytes : Bytes := beBytes 8 7 ++ beBytes 2 0x0F01 ++ [1, 0] ++ zeros 12
/-- A frame that is taken on the live session, in a module with that session. -/
theorem taken_is (type : Nat) (b : Bytes) (x : Session) (h : ((live1 x).caravanOn 0 && (x.live && decide ((live1 x).sess? 0x100000 = some x))) = true)
    (hk : (live1 x).rxKind (frameOf type b).hdr = .ok x) (hx : x.id = 0x100000) : frameTaken (live1 x) (entered (live1 x) (frameOf type b)) (frameOf type b) type x := by
  simp only [Bool.and_eq_true] at h
  exact ⟨h.1, rfl, by simp [hdrFits, frameOf], hk, by simp [hdrLawful, hdrForm, frameOf, hdrFragIndex, hdrFragLast, bits], h.2.1, by rw [hx]; rfl⟩
theorem taken_any (type : Nat) (b : Bytes) : frameTaken (live1 sess1) (entered (live1 sess1) (frameOf type b)) (frameOf type b) type sess1 :=
  taken_is type b sess1 (by decide +kernel) rfl rfl

theorem witness_RequestAndBlockResults_request :
    let f := frameOf 0x10 itemBytes
    let u := entered (live1 sess1) f
    let h := itemHeader itemBytes
    let w := u.updSess 0x100000 (Session.sawId h.id)
    ∃ y, frameTaken (live1 sess1) u f 0x10 sess1 ∧ f.body.length = 24 + h.bodyLen + h.payloadLen ∧ h.error false = none ∧ w.sess? sess1.id = some y ∧
      y.copyKind h.id = .fresh ∧ (∃ res, w.takeNew y h = .taken res false) := by
  exact ⟨_, taken_any _ _, by decide +kernel, by decide +kernel, rfl, rfl, ⟨_, rfl⟩⟩
theorem witness_RequestAndBlockResults_copies :
    let h := itemHeader itemBytes
    let busy : Session := { sess1 with dedup := [{ id := 7, state := .inFlight, port := 0, src := src1 }] }
    let old : Session := { sess1 with ack := 8 }
    busy.copyKind h.id = .inFlight ∧ old.copyKind h.id = .stale ∧ (itemHeader (beBytes 8 7 ++ beBytes 2 0x0F01 ++ [1, 8] ++ zeros 12)).error false = some St.malformedRequest :=
  ⟨rfl, rfl, by decide +kernel⟩
/-- The CRC of a block of zeros. -/
theorem crc_zeros : crc32c (zeros 256) = 3094524304 := by
  have z : zeros 256 = zeros 64 ++ zeros 64 ++ zeros 64 ++ zeros 64 := by decide +kernel
  have h0 : (zeros 64).foldl crc32cByte 4294967295 = 4231468184 := by decide +kernel
  have h1 : (zeros 64).foldl crc32cByte 4231468184 = 4158167844 := by decide +kernel
  have h2 : (zeros 64).foldl crc32cByte 4158167844 = 2345306063 := by decide +kernel
  have h3 : (zeros 64).foldl crc32cByte 2345306063 = 1200442991 := by decide +kernel
  rw [crc32c, z, List.foldl_append, List.foldl_append, List.foldl_append, h0, h1, h2, h3]; decide
/-- A frame of one block: block 1 of message 7, all zeros, under its CRC. -/
def block1 : Bytes := beBytes 8 7 ++ beBytes 4 1 ++ beBytes 2 1 ++ [0, 0] ++ (zeros 256 ++ beBytes 4 3094524304)
theorem block1_blocks : frameBlocks block1 = [(1, zeros 256, true)] := by
  have h1 : beAt block1 12 2 = 1 := by decide +kernel
  have h2 : beAt block1 8 4 = 1 := by decide +kernel
  have h3 : slice block1 16 260 = zeros 256 ++ beBytes 4 3094524304 := by decide +kernel
  have h4 : (zeros 256 ++ beBytes 4 3094524304).take 256 = zeros 256 := by decide +kernel
  have h5 : beAt (zeros 256 ++ beBytes 4 3094524304) 256 4 = 3094524304 := by decide +kernel
  rw [frameBlocks, h1, h2]
  simp only [List.range_one, List.map_cons, List.map_nil, Nat.mul_zero, Nat.add_zero, h3, h4, h5, crc_zeros, BEq.rfl]
theorem witness_RequestAndBlockResults_blocks :
    let i : Inbound := { id := 7, port := 0, src := src1, total := 2, blocks := [(0, itemBytes)], sinceAck := 1 }
    let x : Session := { sess1 with inbound := [i] }
    frameTaken (live1 x) (entered (live1 x) (frameOf 0x12 block1)) (frameOf 0x12 block1) 0x12 x ∧ blocksFormOk block1 = true ∧
      i.validBlocks (frameBlocks block1) ≠ [] ∧ x.copyKind (beAt block1 0 8) = .reassembling ∧ x.inbound? (beAt block1 0 8) = some i ∧ i.total ≠ 0 := by
  refine ⟨taken_is _ _ _ (by decide +kernel) rfl rfl, by decide +kernel, ?_, rfl, by decide +kernel, by decide⟩
  rw [block1_blocks]; decide +kernel
/-- A frame whose only block fails its CRC. -/
theorem witness_RequestAndBlockResults_badBlocks :
    let i : Inbound := { id := 7, port := 0, src := src1, lastAt := 0 }
    i.validBlocks [(1, zeros 256, false)] = [] := by decide
theorem witness_RequestAndBlockResults_acks :
    let b := beBytes 8 7 ++ beBytes 4 2 ++ zeros 132
    let o : Outbound := { id := 7, port := 0, src := src1, data := zeros 300, total := 2, next := 2, sent := [(0, 0, 0), (1, 12, 0)] }
    let x : Session := { sess1 with outbound := [o] }
    let i : Inbound := { id := 8, port := 0, src := src1, sinceAck := 1 }
    let k : Inbound := { i with id := 9, ticket := some 3 }
    let y : Session := { sess1 with inbound := [i, k] }
    let s := live1 y
    frameTaken (live1 x) (entered (live1 x) (frameOf 0x13 b)) (frameOf 0x13 b) 0x13 x ∧ ackFormOk b = true ∧ x.outbound.find? (·.id == beAt b 0 8) = some o ∧
      o.total ≤ max o.base (min (beAt b 8 4) o.next) ∧ ({ o with base := 2 } : Outbound).total ≤ 2 ∧ bit (beAt b 12 1) 0 = false ∧
      o.sent.find? (fun e => e.1 == 0 && decide (e.2.1 < 12)) = some (0, 0, 0) ∧ o.sent.find? (fun e => decide (12 ≤ e.2.1)) = some (1, 12, 0) ∧
      s.portsOn = true ∧ s.sess? 0x100000 = some y ∧ y.inbound? 8 = some i ∧ i.sinceAck ≠ 0 ∧ i.ticket = none ∧ y.inbound? 9 = some k ∧ k.ticket = some 3 ∧
      (s.coreOfTicket 3).isNone = true ∧ ({ s with cores := [(tx, { req := { ticket := 3 } })] } : State).coreOfTicket 3 = some (tx, { req := { ticket := 3 } }) := by
  refine ⟨taken_is _ _ _ (by decide +kernel) rfl rfl, ?_⟩
  decide +kernel
def keepalive : FrameIn := frameOf 0x17 []
theorem witness_SessionResults_frames :
    let s := live1 sess1
    (frameTaken s (entered s (frameOf 0x14 [])) (frameOf 0x14 []) 0x14 sess1 ∧ hdrPhase (frameOf 0x14 []).hdr = sess1.epoch % 2) ∧
    frameTaken s (entered s (frameOf 0x15 [])) (frameOf 0x15 []) 0x15 sess1 ∧ frameTaken s (entered s keepalive) keepalive 0x17 sess1 ∧
    (frameOf 0x16 (closeBody St.sessionClosed 1)).body = closeBody St.sessionClosed 1 ∧ s.rxKind (frameOf 0x16 []).hdr = .ok sess1 :=
  ⟨⟨taken_any _ _, by decide⟩, taken_any _ _, taken_any _ _, rfl, rfl⟩
theorem witness_SessionResults_ends :
    let old : Session := { sess1 with oldPrk := some [] }
    let worn : Session := { sess1 with txEpoch := 2 ^ 40 - 2 ^ 32 }
    let done : Session := { sess1 with rxEpoch := 2 ^ 40 }
    (live1 old).sess? 0x100000 = some old ∧ old.oldPrk ≠ none ∧ (live1 worn).sess? 0x100000 = some worn ∧ worn.live = true ∧ worn.rekeying = false ∧
      2 ^ 40 - 2 ^ 32 ≤ worn.txEpoch ∧ 2 ^ 40 ≤ done.rxEpoch ∧ (live1 sess1).sessionQuiet sess1 = true ∧
      hdrLawful { (frameOf 0x14 []).hdr with reserved := 1 } false = false := by decide +kernel
theorem witness_SessionResults_stranger : (live1 sess1).rxKind { (frameOf 0x14 []).hdr with tagOk := false } = .stranger := by
  simp [State.rxKind, live1, linked, State.sess?, frameOf, sess1]
theorem witness_SessionResults_replay : (live1 { sess1 with rxHigh := some 5, rxSeen := [5] }).rxKind (frameOf 0x14 []).hdr = .replay := by
  simp [State.rxKind, live1, linked, State.sess?, frameOf, sess1, Session.hasKeys, Session.inWindow, hdrPhase]

/-! ## Witnesses: dispatch, the sequencer, the engines, the generator -/

/-- A module with one queued request of queue 0 of partition 0 and a free cluster. -/
def queued (r : Request) : State := { idle with disp := { idle.disp with queued := [r] } }
theorem witness_DispatchAndPowerResults_dispatch :
    let verb : Request := { verb := 0x0803 }
    let host : Request := { verb := 0x0C02 }
    let unknown : Request := { verb := 0x8000 }
    let gone : Request := { verb := 0x0803, origin := .session 5 1 }
    let u := (queued verb).wakeClusters
    (queued verb).sc.mode = .running ∧ (queued verb).hasWork 0 = true ∧ u.slotOpen = true ∧ u.pickClass = some 0 ∧ (u.pickQueue 0).map (fun x => (x.1, x.2.1)) = some (0, 0) ∧ u.queuedIn 0 0 = [verb] ∧
    (queued verb).orphan verb = false ∧ (queued gone).orphan gone = true ∧ isVerb verb.verb = true ∧ (queued verb).disp.since2 < 19 ∧ (queued verb).disp.since3 < 49 ∧
    isOperatorCommand host.verb = true ∧ isVerb unknown.verb = false := by decide +kernel
theorem witness_DispatchAndPowerResults_runs :
    let img : ProgImage := { code := 0x8000, entry := 0, declaredCycles := 64, text := [], world := 2, version := 0, signerId := [] }
    let loaded : State := { idle with durable := { idle.durable with progs := [((0, 0x8000), [(0, some img)])] } }
    idle.programFor { verb := 0x0C02 } 0 = .command ∧ idle.programFor { verb := 0x8000 } 0 = .nothing ∧ loaded.programFor { verb := 0x8000 } 0 = .tenant img 0 := ⟨rfl, rfl, rfl⟩
theorem witness_DispatchAndPowerResults_egress :
    let a : Response := { req := { origin := .session 5 1 }, status := 0 }
    let b : Response := { req := { origin := .ring 1 2 }, status := 0 }
    let l : LneJob := lneJob0 .waiting
    let s : State := { idle with clusters := [(1, { power := .idle 0 }), (2, { power := .resuming })], lanes := [(0, { power := .idle 0 }), (1, { power := .resuming })],
                                 lnes := [(0, { power := .idle 0 }), (1, { power := .resuming })] }
    takeFirst idle.mayLeave [a, b] = some (a, [b]) ∧ takeFirst idle.mayLeave [b] = some (b, []) ∧ a.req.origin = .session 5 1 ∧ b.req.origin = .ring 1 2 ∧
    idle.pair.state ≠ .fenced ∧ l.place = .waiting ∧ getK 1 s.clusters = some { power := .idle 0 } ∧ s.minAwake ≤ 1 ∧ getK 2 s.clusters = some { power := .resuming } ∧
    getK 0 s.lanes = some { power := .idle 0 } ∧ getK 1 s.lanes = some { power := .resuming } ∧ getK 0 s.lnes = some { power := .idle 0 } ∧
    getK 1 s.lnes = some { power := .resuming } := by decide +kernel

/-- A commit of one counter of partition 0, from the test's core. -/
def commit1 : PendingCommit := { src := .core tx, ticket := 4, partition := 0, items := [.ctrAdd 1 5], lines := 1, arrived := 0, free := some 0 }
/-- The record of that commit. -/
def record1 : Record := { csn := 1, ticket := 4, durableBelow := 0, partition := 0, items := [.ctrAdd 1 5], mono := 0 }
theorem witness_SequencerResults_admit :
    let s : State := { onCore { wait := .commit 1 2, stage := [.ctrAdd 1 5] } with seq := { State.reset.seq with waiting := [commit1], commits := { level := 10 ^ 12 }, lines := { level := 10 ^ 12 } } }
    let bad : PendingCommit := { commit1 with partition := 9 }
    s.sc.mode = .running ∧ s.serves = true ∧ s.releaseHolds.seq.waiting.find? (fun x => !s.releaseHolds.held x && !(x.drawn && s.releaseHolds.retireFull x)) = some commit1 ∧ commit1.drawn = false ∧
    commit1.src.holds = true ∧ s.journalLines * 10 ≤ ringLines * 9 ∧ s.hasTokens commit1 = true ∧ ivRecords commit1.items = 0 ∧
    (s.releaseHolds.drawTokens commit1).commitError commit1 = none ∧ (s.releaseHolds.drawTokens commit1).retireFull commit1 = false ∧
    (s.releaseHolds.drawTokens bad).commitError bad = some (St.partitionNotDefined, none) ∧
    s.seq.waiting.find? (fun x => x.ticket == 4 && !x.drawn && !s.held x) = some commit1 := by decide +kernel
theorem witness_SequencerResults_apply :
    let a : Accepted := { record := record1, src := .core tx, at0 := 0, journaled := true }
    let k : Core := { wait := .commit 1 2, stage := [.ctrAdd 1 5] }
    let s : State := { onCore k with seq := { State.reset.seq with accepted := [a], durableBelow := 1 } }
    let p : State := { s with pair := { s.pair with state := .active }, seq := { s.seq with durableBelow := 0 } }
    let w : State := { s with seq := { s.seq with checkpoint := some 1 } }
    s.sc.mode = .running ∧ s.seq.accepted = [a] ∧ a.record.csn ≤ s.seq.durableBelow ∧ a.src = .core tx ∧ s.core? tx = some k ∧ k.wait = .commit 1 2 ∧
    p.seq.accepted.find? (fun x => x.record.csn == 1) = some a ∧ p.needsAcks = true ∧ p.pair.acked < 1 ∧ p.seq.durableBelow < 1 ∧
    recordCount (s.durable.rewraps a.record) = 0 ∧ (s.recordIvs (.change 1) 0).1 = some [] ∧ s.seq.checkpoint = none ∧
    w.seq.checkpoint = some 1 ∧ w.porter.trunk = some (treeKey 0 0 []) ∧
    (((w.durable.copyKeys 1).filter fun e => !w.seq.copy0.keys.contains e).map fun e => keyRecords e.2).sum = 0 ∧ (w.recordIvs .checkpoint 0).1 = some [] := by decide +kernel

/-- A module with jobs and one awake engine. -/
def engine (l : List LneJob) (e : Lne) : State := { onCore {} with lneJobs := l, lnes := [(0, e)] }
theorem witness_LneEventResults_load :
    let j := lneJob0 .waiting
    let w : LneJob := { lneJob0 (.loaded 0 1) with handle := 9, rank := 1 }
    let a : LneJob := { lneJob0 (.loaded 0 0) with handle := 10, since := some 0 }
    let s := engine [j] { power := .idle 0 }
    let full : State := engine [j, w, a] { power := .active, active := some 0, bank0 := { job := some 10 }, bank1 := { job := some 9 } }
    s.lneNext = some j ∧ s.lneTarget j.partition = some (0, 0) ∧ full.lneNext = some j ∧ full.lneTarget j.partition = none ∧
    full.lneDisplace j.rank = some (0, 1, w) ∧ w.handle ≠ j.handle ∧ s.lneJob? 7 = some j ∧ j.place = .waiting := by decide +kernel
theorem witness_LneEventResults_run :
    let a : LneJob := { lneJob0 (.loaded 0 0) with rank := 2, since := some 0 }
    let w : LneJob := { lneJob0 (.loaded 0 1) with handle := 9 }
    let e : Lne := { power := .active, active := some 0, bank0 := { job := some 7 }, bank1 := { job := some 9 } }
    let s := engine [a, w] e
    let d : LneJob := { lneJob0 (.loaded 0 0) with drawn := false }
    getK 0 s.lnes = some e ∧ e.active = some 0 ∧ e.suspended = none ∧ (e.bank 0).job.bind s.lneJob? = some a ∧ (e.bank (1 - 0)).job.bind s.lneJob? = some w ∧
    w.rank < a.rank ∧ w.drawn = true ∧ a.since = some 0 ∧ (engine [d] e).lneJob? 7 = some d ∧ d.place = .loaded 0 0 ∧ d.drawn = false := by decide +kernel
theorem witness_LaneAndMaskResults_lane :
    let l : Lane := { power := .active }
    let mod := fun (js : List LaneJob) (l : Lane) => ({ onCore {} with laneJobs := js, lanes := [(0, l)] } : State)
    let j := laneJob0 (.ready 0)
    let r : LaneJob := { laneJob0 (.running 0) with handle := 9, rank := 1, started := true }
    let done : LaneJob := { r with position := 16 }
    let s := mod [j] l
    getK 0 s.lanes = some l ∧ l.power.awake = true ∧ l.mask.stalled = none ∧ s.laneRunning 0 = none ∧ laneHead (s.laneReady 0) = some j ∧ j.ivFromKey = false ∧
    l.mask.blocks + cdiv j.aad.length 16 ≤ s.maskLimit ∧ (mod [j, r] l).laneRunning 0 = some r ∧ (((mod [j, r] l).laneReady 0).any fun x => decide (x.rank < r.rank)) = true ∧
    (((mod [r] l).laneReady 0).any fun x => decide (x.rank < r.rank)) = false ∧ r.blocksRun < (mod [r] l).quantum ∧ (mod [r] l).lanePresent r = true ∧
    (mod [laneJob0 (.suspended 0 1)] l).laneJob? 8 = some (laneJob0 (.suspended 0 1)) ∧ (mod [laneJob0 (.suspended 0 1)] l).lanePresent (laneJob0 (.suspended 0 1)) = true ∧
    (mod [done] l).laneRunning 0 = some done ∧ done.dataLen ≤ done.position ∧ ((mod [done] l).lane 0).mask.stalled = none ∧
    (mod [laneJob0 .unassigned] l).laneJob? 8 = some (laneJob0 .unassigned) ∧ ((mod [j] { l with mask := { stalled := some 3 } }).lane 0).mask.stalled = some 3 := by
  decide +kernel
theorem witness_LaneAndMaskResults_masks :
    let unit := fun (m : MaskGen) => ({ onCore {} with lanes := [(0, { mask := m })] } : State)
    (unit { blocks := 786432 }).mask? (.lane 0) = some { blocks := 786432 } ∧ (unit {}).maskLimit * 3 ≤ 786432 * 4 ∧ (unit {}).maskLimit ≤ 1048576 ∧
    (unit { asked := true }).mask? (.lane 0) = some { asked := true } ∧ (({ unit {} with expanders := [(13, { ready := true })] } : State).delivers (maskExpander (.lane 0)) 1) = true := by
  decide +kernel
/-- Eight sources with one healthy window each. -/
def windows1 : List (List Bytes) := [List.replicate 8 [0x55]]
theorem witness_RngResults_windows :
    let s : State := { idle with rng := { idle.rng with sources := Vector.replicate 8 { health := .healthy } } }
    (s.testWindow (s.source 0) (zeros 128)).1 ≠ [] ∧ (s.testWindow (s.source 0) [0x55]).1 = [] ∧ (s.source 0).health = .healthy ∧ s.rng.started = true ∧
    s.rng.stopped = false ∧ ({ s.rng with stopped := true } : Rng).stopped = true ∧ s.tapAllowed 0 8 = true ∧ s.tapAllowed 9 8 = false ∧
    tapBodyOk (le 8 0) = true ∧ ({ s with lifecycle := .test } : State).lifecycle = .test ∧ (cmd 0x0E09 (le 8 0)).verb = 0x0E09 ∧
    (cmd 0x0E09 (le 8 0 ++ le 4 16 ++ zeros 4)).body.length = 16 ∧ s.rng.tap = none ∧ allZero ((le 8 0 ++ le 4 16 ++ zeros 4).drop 12) = true ∧
    leAt (le 8 0 ++ le 4 16 ++ zeros 4) 8 4 ≤ 65536 := by decide +kernel
theorem witness_RngResults_start :
    let s : State := { idle with rng := { trunkWanted := true } }
    let again : State := { idle with rng := { failedAt := some 4 } }
    s.rngMayStart = true ∧ s.rng.failedAt = none ∧ 2 ≤ (State.startWindows (windows1.take 4) false s.rngReleased).rng.passed ∧
    (State.startWindows ((List.replicate 4 [zeros 128]).take 4) false s.rngReleased).rng.passed < 2 ∧ again.rngMayStart = true ∧ again.rng.failedAt = some 4 ∧
    cdiv 8 8 ≤ ({ idle.rng with tap := some (0, 8), capture := [0] } : Rng).capture.length ∧ ({ wait := .random 3 } : Core).wait = .random 3 ∧
    ({ onCore { wait := .random 3 } with expanders := [] } : State).canDraw 0 = false := by decide +kernel
/-- A request of the module itself, a fenced unit's responses, a lane with a job, a commit whose records need IVs, a stage body record. -/
theorem witness_DispatchAndPowerResults_more :
    let own : Request := { verb := 0, origin := .internal }
    let c : Response := { req := own, status := 0 }
    let f : State := { idle with pair := { idle.pair with state := .fenced } }
    let s : State := { idle with lanes := [(0, { power := .idle 0 })], laneJobs := [laneJob0 (.ready 0)] }
    (queued own).orphan own = false ∧ own.origin = .internal ∧ takeFirst idle.mayLeave [c] = some (c, []) ∧ f.pair.state = .fenced ∧ s.laneHasJob 0 = true ∧
    getK 0 s.lanes = some { power := .idle 0 } ∧ ({ s with laneJobs := [] } : State).laneHasJob 0 = false := by decide +kernel
theorem witness_SequencerResults_more :
    let put : PendingCommit := { commit1 with items := [.keyPut 1 (mat 3 0 0 [])] }
    let b : Accepted := { record := { record1 with csn := 0 }, src := .body {} 1, at0 := 0, journaled := true }
    let s : State := { idle with expanders := [], seq := { State.reset.seq with waiting := [put], accepted := [b] } }
    ivRecords put.items ≠ 0 ∧ (s.releaseHolds.recordIvs (.commit put.ticket) (ivRecords put.items)).1 = none ∧ s.seq.accepted = [b] ∧ b.record.csn = 0 ∧ s.bodyMirrored b = true ∧
    ({ b with journaled := false } : Accepted).journaled = false := by decide +kernel
/-- A job for which an engine resumes, and one that needs random bits expander 16 cannot give. -/
theorem witness_LneEventResults_more :
    let j : LneJob := { lneJob0 .waiting with woke := true }
    let s : State := { engine [j] {} with lnes := [(0, { power := .active, active := some 0, bank0 := { job := some 10 } }), (1, { power := .resuming })] }
    s.lneNext = some j ∧ ¬ (j.woke = false ∨ (s.lnes.any fun e => e.2.power.awake && e.2.empty) = true ∨ (s.lnes.any fun e => e.2.power == .resuming) = false) := by
  decide +kernel
theorem witness_LaneAndMaskResults_more :
    let mod := fun (js : List LaneJob) (l : Lane) => ({ onCore {} with laneJobs := js, lanes := [(0, l)] } : State)
    let l : Lane := { power := .active }
    let r : LaneJob := { laneJob0 (.running 0) with handle := 9, rank := 1, started := true, blocksRun := 10 ^ 6 }
    let s := mod [{ laneJob0 (.ready 0) with rank := 1 }, r] l
    let dry := mod [{ r with blocksRun := 0, stream := true, source := [] }] l
    let iv := mod [{ laneJob0 (.ready 0) with ivFromKey := true }] l
    s.laneRunning 0 = some r ∧ r.position < r.dataLen ∧ r.quantum ≤ r.blocksRun ∧ ((s.laneReady 0).any fun x => decide (x.rank < r.rank)) = false ∧
    ((s.laneReady 0).any fun x => x.rank == r.rank) = true ∧ dry.lanePresent { r with blocksRun := 0, stream := true, source := [] } = false ∧
    laneHead (iv.laneReady 0) = some { laneJob0 (.ready 0) with ivFromKey := true } ∧
    (mod [laneJob0 (.ready 0)] { l with mask := { stalled := some 3 } }).laneJob? 8 = some (laneJob0 (.ready 0)) ∧ (laneJob0 (.ready 0)).lane? = some 0 ∧
    ({ onCore {} with lanes := [(0, { mask := { limit := 5, blocks := 5 } })] } : State).mask? (.lane 0) = some { limit := 5, blocks := 5 } := by decide +kernel
/-- An IV that a job's key gives, one it waits for, one it has none for. -/
theorem witness_LaneAndMaskResults_ivs :
    let j : LaneJob := { laneJob0 (.ready 0) with ivFromKey := true, key := { (keyOf 3 0xFFFF []) with ref := some 1 } }
    let s := fun (v : Nat) => ({ holding {} [(1, mat 3 0xFFFF 0 [])] with store := { slots := [(1, { v := v })] } } : State)
    let kind := fun d : IvDraw => match d with | .fails st => st | .waits _ => 1 | .drawn iv _ => 100 + iv.length
    kind ((s 0).drawIv { j with key := keyOf 3 0xFFFF [] }) = St.nonceExhausted ∧ kind ((s 0).drawIv j) = 112 ∧ kind ((s 65536).drawIv j) = 1 := by decide +kernel

/-! ## Witnesses: the pair, the service port, the SMBus target, the whole machine -/

/-- A module of pair 7 whose partner has serial 9, port 0 up. -/
def inPair (p : Pair) : State :=
  let s := linked { sessions := [sess1] }
  { s with pair := p, durable := { s.durable with config := [((0x0701, 0), [7]), ((0x0702, 0), zeros 15 ++ [9])] } }
/-- A mirror frame of link epoch 3. -/
def mir1 : MirHdr := { state := 1, linkEpoch := 3, frameSeq := 5, claim := 1, durableMark := 0, confirmed := 0 }
/-- A lantern frame of link epoch 3. -/
def lantern1 (type : Nat) : LanternIn := { type := type, state := 1, linkEpoch := 3, seq := 5, claim := 1 }
/-- A partner that keeps the rules. -/
def peer1 : PeerInfo :=
  { waybillOk := true, sigsOk := true, serial := 9, pairId := 7, linkEpoch := 3, claim := 1, holdsTenants := false, state := 4, lastCsn := 0, appliedCsn := 0, trimPoint := 0 }
/-- A claim above ours. -/
def claim1 : ClaimBody := { claim := 8, serial := 9, mono := 0, pairId := 7, checksOk := true }
theorem witness_PairFrameResults_mirror :
    ∃ u, mirrorTaken (inPair { linkOpen := true, linkEpoch := 3 }) u mir1 0 none ∧ mir1.linkEpoch = 3 :=
  ⟨_, ⟨rfl, rfl, rfl, rfl, rfl, rfl, by decide, by decide, rfl, _, rfl, rfl⟩, rfl⟩
/-- A partner's part of the agreement of the right length. -/
theorem witness_PairFrameResults_hello (s : State) : s.linkHelloOk { peer1 with hello := zeros (64 + (if s.lower then 1088 else 1184)) } = true ∧
    s.linkHelloOk peer1 = false := by
  refine ⟨by simp only [State.linkHelloOk, zeros, List.length_replicate, BEq.rfl], ?_⟩
  cases h : s.lower <;> simp only [State.linkHelloOk, h] <;> rfl
theorem witness_PairFrameResults_frames :
    let s := inPair { linkOpen := true, linkEpoch := 3, uncovered := true, claimAt := some 0, claim := 1, state := .active, sent := [{ stream := 0, blk := 2 }], linkSilent := false, lanternSilent := false }
    let t := inPair { handshaking := true, locked := true }
    let l := inPair { locked := true }
    s.sc.mode = .running ∧ s.pair.linkOpen = true ∧ s.pair.txSeq ≠ 2 ^ 64 - 1 ∧ mir1.magic = 0x4D52 ∧ ({ mir1 with magic := 0 } : MirHdr).magic ≠ 0x4D52 ∧ ({ mir1 with tagOk := false } : MirHdr).tagOk = false ∧ seqWindow (some 5) [5] mir1.frameSeq = none ∧
    s.pair.uncovered = true ∧ s.pair.sent.any (fun b => b.stream == 0 && b.blk == 2) = true ∧ s.paired = true ∧ s.partnerSerial ≠ [] ∧ s.sc.identity ≠ none ∧ s.canDraw 12 = true ∧
    s.canDraw 16 (readRequests linkDraws) = true ∧ ({ s with expanders := [] } : State).canDraw 12 = false ∧ l.pair.locked = true ∧
    l.pair.linkOpen = false ∧ l.pair.handshaking = false ∧ t.pair.handshaking = true ∧ peer1.serial = t.partnerNumber ∧ peer1.pairId = t.pairId ∧
    ({ peer1 with sigsOk := false } : PeerInfo).sigsOk = false ∧ s.pair.linkEpoch ≠ 0 ∧ (lantern1 1).macOk = true ∧ (lantern1 1).linkEpoch = s.pair.linkEpoch ∧
    s.pair.lanternRx = none ∧ s.pair.linkSilent = false ∧ s.pair.lanternSilent = false ∧ s.pair.claim ≠ 0 ∧ claim1.reserved = 0 ∧ ({ claim1 with reserved := 1 } : ClaimBody).reserved ≠ 0 ∧ s.serves = true ∧ s.portUp 0 = true ∧
    claim1.pairId = s.pairId ∧ claim1.serial = s.partnerNumber ∧ ({ claim1 with checksOk := false } : ClaimBody).checksOk = false := by decide +kernel
/-- A snapshot of a module without tenants. -/
def snap1 : Snapshot := { csn := 4, keys := [], tabs := [], ctrs := [], progs := [], config := [], parts := [], boughEpochs := [], claim := 1, blockEnd := 5 }
theorem witness_PairRoleResults :
    let s := inPair { state := .active, claim := 1, linkEpoch := 3, linkSilent := false, lanternSilent := true }
    let b := inPair { state := .standby, linkEpoch := 3, seen := 1 }
    let w := inPair { state := .waiting, waitSince := some 0, wasAlone := true, claim := 1, seen := 1 }
    let z := inPair { state := .waiting, waitSince := some 0, wasAlone := true }
    let n := inPair { state := .waiting, waitSince := some 0 }
    let r := inPair { state := .resyncing, snapS := some 4 }
    let f : State := { r with seq := { r.seq with journal := [{ csn := 1, ticket := 0, durableBelow := 0, partition := 0, items := [], lines := 1703936 }] } }
    s.sc.mode = .running ∧ s.paired = true ∧ s.portUp 0 = true ∧ claim1.checksOk = true ∧ claim1.pairId = s.pairId ∧ claim1.serial = s.partnerNumber ∧
    beats claim1.claim claim1.serial s.pair.claim ownSerial = true ∧ s.pair.state = .active ∧ b.pair.state = .standby ∧ b.pair.failed = false ∧
    (lantern1 4).claim ≤ b.pair.seen ∧ s.pair.linkEpoch ≠ 0 ∧ s.pair.failed = false ∧ w.pair.state = .waiting ∧ w.pair.waitSince = some 0 ∧ w.pair.wasAlone = true ∧
    w.pair.claim = w.pair.seen ∧ z.pair.wasAlone = true ∧ z.pair.claim = z.pair.seen ∧ z.pair.claim = 0 ∧ n.pair.wasAlone = false ∧
    ({ r with durable := snapDurable snap1 r.durable } : State).areaIvs.1 ≠ none ∧ r.pair.state = .resyncing ∧ r.pair.snapS ≠ none ∧ r.pair.received = [] ∧
    r.pair.joinAt = none ∧ (State.applyUpTo b.pair.mark b.pair.received.length b).pair.received = [] ∧ ringLines * 9 ≤ f.journalLines * 10 := by decide +kernel
theorem witness_PairRoleResults_alone : (inPair { state := .waiting, seenSerial := ownSerial }).pair.seenSerial = ownSerial := rfl

/-- A module with its service port's link up and one ring. -/
def ring1 (r : Ring) : State := { idle with svc := { linkUp := true, rings := (Vector.replicate 8 {}).set 2 r } }
theorem witness_ServicePortResults :
    let r : Ring := { sqSize := 4, cqSize := 4, enable := true, sqTail := 1 }
    let e : SqEntry := { reqAddr := 64, reqBytes := 24, respAddr := 128, respMax := 64 }
    let item := beBytes 8 7 ++ beBytes 2 0x0803 ++ [3, 0] ++ zeros 12
    let a : Response := { req := {}, status := 0 }
    let full : Ring := { r with ready := [(5, a)], slots := [{ key := 5, index := 0, addr := 128, max := 64, reqId := 7 }] }
    let s := ring1 r
    s.svc.linkUp = true ∧ s.ringOn 2 = true ∧ (s.ring 2).enable = true ∧ 3 < (s.ring 2).sqSize ∧ (s.ring 2).sqSize ≤ 4 ∧ 3 < (s.ring 2).cqSize ∧ (s.ring 2).cqSize ≤ 4 ∧
    ({ r with enable := false } : Ring).sound = true ∧ ({ r with enable := false, sqSize := 1 } : Ring).sound = false ∧ s.fabricRuns = true ∧
    (s.ring 2).sqHead ≠ (s.ring 2).sqTail ∧ (s.ring 2).load + 1 < (s.ring 2).cqSize ∧ entryBad e = false ∧ entryBad { e with res0 := 1 } = true ∧
    ringItemError (itemHeader item) e = none ∧ s.arrivalRefusal (itemHeader item).verb = none ∧ ((ring1 full).ring 2).ready = [(5, a)] ∧
    ((ring1 full).ring 2).slots.find? (·.key == 5) = some { key := 5, index := 0, addr := 128, max := 64, reqId := 7 } ∧ a.streamPart ≠ 3 ∧
    ((ring1 { r with unsignalled := 1 }).ring 2).unsignalled ≠ 0 ∧ s.ready = true ∧ s.reg64 0x0030 = some s.mono ∧ s.reg64 0x0034 = none ∧ s.isHigh 0x0034 = true := by
  decide +kernel
theorem witness_ServicePortResults_taken : ∃ res, (ring1 { sqSize := 4 }).admitCharge 0 3 64 = .taken res false := ⟨_, rfl⟩
theorem witness_SmbusResults :
    idle.smbOn = true ∧ ({ idle with porter := {} } : State).smbOn = false ∧ idle.smb.alert = 0 ∧ ({ idle with smb := { alert := 4, thermalWarn := true } } : State).smb.alert ≠ 0 ∧
    idle.smb.thermalWarn = false ∧ (1010 : Int) ≤ 1010 ∧ (990 : Int) ≤ 990 ∧ (990 : Int) < 1000 ∧ (1000 : Int) < 1010 := by decide
theorem witness_SealViolationFaults :
    let k : Core := { k := keyIn (keyOf 3 0xFFFF []) }
    let v : Core := { k with b := blocks [(1, { sealed := true })] }
    coreReady (onCore k) tx k ∧ coreReady (onCore v) tx v ∧ pinFormatOk 0 = true ∧ k.world ≠ 4 ∧ k.getK 0 = some (keyOf 3 0xFFFF []) ∧ (k.getB 1).sealed = false ∧
    (v.getB 1).sealed = true ∧ v.getK 0 = some (keyOf 3 0xFFFF []) := by decide +kernel
theorem witness_InvocationCommandsFrame : ∃ t, (Instr.nop tx).runsOn = some tx ∧ exec (.nop tx) (onCore {}) = .next t := ⟨_, rfl, rfl⟩
theorem witness_StepRunsTheFrontCommand :
    ({ idle with pending := [.nop tx, .smbIdent] } : State).pending = .nop tx :: [.smbIdent] ∧ State.reset.pending = [] := by decide
theorem witness_WindowsCanonicalKeptByEveryStep : Machine.windowsOk State.reset ∧ Machine.windowsOk (onCore { scr := [⟨0, 1⟩] }) := by
  refine ⟨by simp [Machine.windowsOk, State.reset], ?_⟩
  intro e he
  simp [onCore] at he
  subst he
  decide +kernel
/-- A link with lantern keys; a partner whose channel is too slow; a unit that behaves as unpaired; a block to be sent again. -/
theorem witness_PairFrameResults_more :
    let p : Pair := { state := .active, linkOpen := true, linkEpoch := 3, linkSilent := false, lanternSilent := false, lanternKey := zeros 32, sent := [{ stream := 0, blk := 2 }] }
    let s := inPair p
    let l := inPair { state := .waiting, locked := true }
    s.pair.lanternKey ≠ [] ∧ s.pair.state ≠ .unpaired ∧ s.pair.lanternRx = none ∧ (lantern1 1).reserved = 0 ∧ (lantern1 1).linkEpoch = s.pair.linkEpoch ∧
    peer1.latencyNs ≤ 10000 ∧ 10000 < ({ peer1 with latencyNs := 10001 } : PeerInfo).latencyNs ∧ (inPair { p with state := .unpaired }).pair.state = .unpaired ∧
    s.pair.sent.find? (fun b => b.stream == 0 && b.blk == 2) = some { stream := 0, blk := 2 } ∧ l.pair.state ≠ .unpaired ∧ l.pair.locked = true ∧
    l.pair.linkOpen = false ∧ l.pair.handshaking = false ∧ ({ lantern1 1 with macOk := false } : LanternIn).macOk = false := by decide +kernel
theorem witness_PairRoleResults_more :
    let b := inPair { state := .standby, linkEpoch := 3, seen := 1, lanternKey := zeros 32 }
    let a := inPair { state := .active, claim := 1, linkEpoch := 3, linkSilent := false, lanternSilent := true, lanternKey := zeros 32 }
    b.pair.state = .standby ∧ b.pair.failed = false ∧ b.pair.lanternKey ≠ [] ∧ (lantern1 4).linkEpoch = b.pair.linkEpoch ∧ (lantern1 4).claim ≤ b.pair.seen ∧
    a.pair.state = .active ∧ a.pair.failed = false ∧ a.pair.lanternKey ≠ [] ∧ a.pair.linkSilent = false ∧ a.pair.lanternSilent = true := by decide +kernel
/-- A response of a ring that a fence discarded. -/
theorem witness_ServicePortResults_fenced : ({ req := {}, status := St.pairFenced, streamPart := 3 } : Response).streamPart = 3 := rfl

end Sys2Proof.Tests
end

/-! ### What a step does with its queue (O58) -/

namespace Sys2Proof.Machine

/-- A tick advances the two clocks, the fabric's only while it runs (R20, R96), and touches no other field (log 2). -/
theorem State.tick_eq (s : State) :
    s.tick = { s with mono := s.mono + 2, cycle := if s.fabricRuns then s.cycle + 3 else s.cycle } := rfl

/-- Settles O58: the two branches of the step are `step_front` and `step_idle`, and the idle one is a tick. -/
theorem stepRunsTheFrontCommand : Obligations.StepRunsTheFrontCommand := by
  refine ⟨?front, ?idle⟩
  case front =>
    intro s i rest hpending
    exact step_front hpending
  case idle =>
    intro s hpending
    rw [step_idle hpending, State.tick_eq]

end Sys2Proof.Machine

/-! ### What the work of sessions, handshakes and engine jobs leaves alone -/

namespace Sys2Proof.Machine

/-- The parts of the state that the work of sessions, handshakes, stages and engine jobs never touches: the nanosecond clock, the
cores, the durable state, the dispatcher with its queues, the responses at egress, APPLIED_CSN, and of the security controller how it runs and
which commands have been handed to it. -/
structure Steady where
  mono : Nat
  cores : List (CoreId × Core)
  durable : Durable
  disp : Dispatcher
  egress : List Response
  applied : Nat
  mode : ScMode
  queue : List Request
  irq : Bool

def State.steady (s : State) : Steady :=
  { mono := s.mono, cores := s.cores, durable := s.durable, disp := s.disp, egress := s.egress,
    applied := s.seq.applied, mode := s.sc.mode, queue := s.sc.queue, irq := s.sc.irq }

/-- A run of operations each of which leaves the steady parts alone leaves them alone. -/
theorem State.foldl_steady {α : Type} {f : State → α → State} (h : ∀ s a, (f s a).steady = s.steady) (l : List α) (s : State) :
    (l.foldl f s).steady = s.steady := by
  induction l generalizing s with
  | nil => rfl
  | cons a l ih => exact (ih (f s a)).trans (h s a)

variable (s : State)

@[simp] theorem State.emit_steady (o : Output) : (s.emit o).steady = s.steady := rfl
@[simp] theorem State.event_steady (n : Nat) (c : Status) (l : List Nat) : (s.event n c l).steady = s.steady := rfl
@[simp] theorem State.scEvent_steady (c : Status) (l : List Nat) : (s.scEvent c l).steady = s.steady := rfl
@[simp] theorem State.sample_steady (n m v : Nat) : (s.sample n m v).steady = s.steady := rfl
@[simp] theorem State.updSess_steady (n : Nat) (f : Session → Session) : (s.updSess n f).steady = s.steady := rfl
@[simp] theorem State.updStage_steady (n : Nat) (f : Stage → Stage) : (s.updStage n f).steady = s.steady := rfl
@[simp] theorem State.updLneJob_steady (n : Nat) (f : LneJob → LneJob) : (s.updLneJob n f).steady = s.steady := rfl
@[simp] theorem State.dropWaiting_steady (w : PendingCommit) : (s.dropWaiting w).steady = s.steady := rfl
@[simp] theorem State.endWait_steady (q : Request) (st : Status) (b : Bytes) : (s.endWait q st b).steady = s.steady := rfl
@[simp] theorem State.calmMark_steady : s.calmMark.steady = s.steady := rfl
@[simp] theorem State.setHello_steady (h : Hello) : (s.setHello h).steady = s.steady := rfl

/-! Frames out of a port. -/

@[simp] theorem State.setPort_steady (n : Nat) (p : Port) : (s.setPort n p).steady = s.steady := by
  unfold State.setPort; split <;> rfl
@[simp] theorem State.count_steady (p c n : Nat) : (s.count p c n).steady = s.steady := by
  unfold State.count; split <;> simp
@[simp] theorem State.sendFrame_steady (p : Nat) (d : Source) (h : CaravanHdr) (k : Option (Bytes × Bytes)) (b : Bytes) :
    (s.sendFrame p d h k b).steady = s.steady := by
  unfold State.sendFrame; split <;> simp
@[simp] theorem State.sendTagged_steady (n p : Nat) (d : Source) (t : Nat) (b : Bytes) : (s.sendTagged n p d t b).steady = s.steady := by
  unfold State.sendTagged
  split
  · rfl
  · split <;> simp
@[simp] theorem State.orphanResponse_steady (r : Response) : (s.orphanResponse r).steady = s.steady := by
  unfold State.orphanResponse; split <;> simp

/-! Jobs of the long-number engines. -/

@[simp] theorem State.resumeLne_steady (n : Nat) : (s.resumeLne n).steady = s.steady := by
  unfold State.resumeLne
  split
  · split
    · split
      · simp only [State.updLneJob_steady]
        split
        · split <;> simp
        · rfl
      · rfl
    · rfl
  · rfl
@[simp] theorem State.wakeLne_steady : s.wakeLne.steady = s.steady := by
  unfold State.wakeLne
  split
  · rfl
  · split
    · rfl
    · split <;> rfl
@[simp] theorem State.dropLneJob_steady (j : LneJob) : (s.dropLneJob j).steady = s.steady := by
  unfold State.dropLneJob
  split
  · split
    · simp only [State.wakeLne_steady, State.resumeLne_steady]; rfl
    · rfl
  · simp only [State.wakeLne_steady]; rfl
@[simp] theorem State.addLne_steady (j : LneJob) : (s.addLne j).steady = s.steady := State.wakeLne_steady _

/-! Sessions that close. -/

@[simp] theorem State.withdrawApply_steady (g : Nat) (st : Status) : (s.withdrawApply g st).steady = s.steady := by
  unfold State.withdrawApply
  refine (State.foldl_steady (fun t w => ?_) _ _).trans (State.foldl_steady (fun t w => ?_) _ _)
  · rfl
  · split <;> simp
@[simp] theorem State.dropStages_steady (f : Stage → Bool) : (s.dropStages f).steady = s.steady := by
  unfold State.dropStages
  exact (State.foldl_steady (fun t g => State.scEvent_steady ..) _ _).trans
    (State.foldl_steady (fun t g => State.withdrawApply_steady ..) _ s)
@[simp] theorem State.dropNetJobs_steady (f : Nat → Bool) : (s.dropNetJobs f).steady = s.steady :=
  State.foldl_steady State.dropLneJob_steady _ _
@[simp] theorem State.forgetSession_steady (n : Nat) : (s.forgetSession n).steady = s.steady := by
  simp only [State.forgetSession, State.calmMark_steady, State.dropStages_steady]
  exact s.dropNetJobs_steady _
@[simp] theorem State.closeSession_steady (n st r : Nat) : (s.closeSession n st r).steady = s.steady := by
  unfold State.closeSession
  split
  · rfl
  · rw [State.forgetSession_steady, State.foldl_steady State.orphanResponse_steady, State.sendTagged_steady]
@[simp] theorem State.settleClosing_steady (n : Nat) : (s.settleClosing n).steady = s.steady := by
  unfold State.settleClosing
  split
  · split
    · split <;> simp
    · rfl
  · rfl
@[simp] theorem State.closePartitionSessions_steady (p r : Nat) : (s.closePartitionSessions p r).steady = s.steady :=
  State.foldl_steady (fun t x => by simp) _ _

end Sys2Proof.Machine

/-! ### Handshake and token work that is dispatched -/

namespace Sys2Proof.Machine

variable (s : State)

@[simp] theorem State.setSlot_steady (n : Nat) (x : Slot) : (s.setSlot n x).steady = s.steady := by
  unfold State.setSlot
  split
  · rfl
  · split <;> rfl
@[simp] theorem State.tokenSend_steady (n : Nat) (w : TokenPurpose) (i a : Nat) (l : Bytes) : (s.tokenSend n w i a l).steady = s.steady :=
  State.setSlot_steady ..
@[simp] theorem State.beginStep_steady (n no : Nat) : (s.beginStep n no).steady = s.steady := by
  unfold State.beginStep
  split
  · split <;> simp
  · rfl

@[simp] theorem State.drawn_steady (e n : Nat) : (s.drawn e n).steady = s.steady := by
  unfold State.drawn
  split
  · rfl
  · dsimp only
    split <;> split <;> rfl
@[simp] theorem State.random_steady (e n : Nat) : (s.random e n).2.steady = s.steady := by
  unfold State.random
  dsimp only
  split
  · exact s.drawn_steady ..
  · exact s.drawn_steady ..

@[simp] theorem State.helloStep_steady (h : Hello) : (s.helloStep h).steady = s.steady := by
  unfold State.helloStep
  extract_lets d
  have hd : d.1.steady = s.steady := by
    unfold d
    split
    · split <;> simp
    · rfl
  split
  · dsimp only
    split <;> simp [hd]
  · simp [hd]
@[simp] theorem State.finishStep_steady (x : Session) : (s.finishStep x).steady = s.steady := by
  unfold State.finishStep
  split
  · dsimp only
    split
    · rfl
    · exact s.addLne_steady _
  · rfl
@[simp] theorem State.helloWork_steady : s.helloWork.steady = s.steady :=
  (State.foldl_steady State.finishStep_steady _ _).trans (State.foldl_steady State.helloStep_steady _ _)
@[simp] theorem State.beginHello_steady (n k : Nat) : (s.beginHello n k).steady = s.steady := by
  unfold State.beginHello
  split
  · exact State.helloWork_steady _
  · dsimp only
    split <;> simp

end Sys2Proof.Machine

/-! ### Cancelled requests and answers -/

namespace Sys2Proof.Machine

/-- The plain response to a request, as it reaches egress at a time. -/
def plainResponse (st : Status) (now : Nat) (q : Request) : Response :=
  { req := q, status := st, snapshot := q.snapshot, at0 := now }

/-- A run of plain answers adds their responses to egress in order, and does nothing else. -/
theorem State.foldl_answer (s : State) (st : Status) (l : List Request) :
    l.foldl (fun t q => t.answer q st) s = { s with egress := s.egress ++ l.map (plainResponse st s.mono) } := by
  induction l generalizing s with
  | nil => simp
  | cons q l ih => rw [List.foldl_cons, ih]; simp [plainResponse]

/-- What a cancellation does (R108, R109): the requests leave the queues and their responses stand at egress. -/
theorem State.cancelQueued_eq (s : State) (f : Request → Bool) (st : Status) : s.cancelQueued f st =
    { s with disp := { s.disp with queued := s.disp.queued.filter fun q => !f q }
             egress := s.egress ++ (s.disp.queued.filter f).map (plainResponse st s.mono) } :=
  State.foldl_answer ..

@[simp] theorem State.cancelQueued_mono (s : State) (f : Request → Bool) (st : Status) : (s.cancelQueued f st).mono = s.mono := by
  rw [State.cancelQueued_eq]
@[simp] theorem State.cancelQueued_durable (s : State) (f : Request → Bool) (st : Status) : (s.cancelQueued f st).durable = s.durable := by
  rw [State.cancelQueued_eq]
@[simp] theorem State.cancelQueued_part (s : State) (f : Request → Bool) (st : Status) (p : Nat) :
    (s.cancelQueued f st).part p = s.part p := by
  rw [State.cancelQueued_eq]; rfl
@[simp] theorem State.cancelQueued_queued (s : State) (f : Request → Bool) (st : Status) :
    (s.cancelQueued f st).disp.queued = s.disp.queued.filter fun q => !f q := by
  rw [State.cancelQueued_eq]

@[simp] theorem State.setPart_part_same (s : State) (p : Nat) (r : PartRun) : (s.setPart p r).part p = r := by
  simp [State.part, getD]

end Sys2Proof.Machine

/-! ### What a dispatch decision settles -/

namespace Sys2Proof.Machine

/-- What a dispatch decision may do of itself: it moves no clock, touches no core, takes no command from the security controller,
and adds no request to the queues. -/
structure Settles (s t : State) : Prop where
  cores : t.cores = s.cores
  mono : t.mono = s.mono
  applied : t.seq.applied = s.seq.applied
  mode : t.sc.mode = s.sc.mode
  queue : t.sc.queue = s.sc.queue
  irq : t.sc.irq = s.sc.irq
  queued : ∀ y ∈ t.disp.queued, y ∈ s.disp.queued

theorem Settles.refl (s : State) : Settles s s := ⟨rfl, rfl, rfl, rfl, rfl, rfl, fun _ h => h⟩
theorem Settles.trans {s t u : State} (h : Settles s t) (g : Settles t u) : Settles s u :=
  ⟨g.cores.trans h.cores, g.mono.trans h.mono, g.applied.trans h.applied, g.mode.trans h.mode, g.queue.trans h.queue,
    g.irq.trans h.irq, fun y hy => h.queued y (g.queued y hy)⟩
theorem Settles.of_steady {s t : State} (h : t.steady = s.steady) : Settles s t where
  cores := congrArg Steady.cores h
  mono := congrArg Steady.mono h
  applied := congrArg Steady.applied h
  mode := congrArg Steady.mode h
  queue := congrArg Steady.queue h
  irq := congrArg Steady.irq h
  queued := by rw [show t.disp = s.disp from congrArg Steady.disp h]; exact fun _ h => h

theorem flushQueue_settles (s : State) (p q : Nat) : Settles s (s.flushQueue p q).2 := by
  have hflush : ∃ n e, (s.flushQueue p q).2 =
      { s.cancelQueued (fun r => r.partition == p && r.queue == q) St.cancelled with net := n, raised := e } := ⟨_, _, rfl⟩
  obtain ⟨n, e, h⟩ := hflush
  rw [h, State.cancelQueued_eq]
  exact ⟨rfl, rfl, rfl, rfl, rfl, rfl, fun y hy => (List.mem_filter.mp hy).1⟩

theorem resetPoint_settles (s : State) (b : Bytes) : Settles s (s.resetPoint b).1 := by
  unfold State.resetPoint
  dsimp only
  split
  · exact .refl s
  · split
    · exact .refl s
    · split
      · exact .refl s
      · exact ⟨rfl, rfl, rfl, rfl, rfl, rfl, fun _ h => h⟩

theorem flushPoint_settles (s : State) (b : Bytes) : Settles s (s.flushPoint b).1 := by
  unfold State.flushPoint
  dsimp only
  split
  · exact .refl s
  · split
    · exact .refl s
    · split
      · exact .refl s
      · exact flushQueue_settles ..

theorem closePoint_settles (s : State) (q : Request) : Settles s (s.closePoint q).1 := by
  unfold State.closePoint
  extract_lets b sid own
  split
  · exact .refl s
  · split
    · split
      · exact .refl s
      · split
        · exact .of_steady (s.updSess_steady ..)
        · exact .of_steady (s.closeSession_steady ..)
    · exact .refl s

theorem commandPoint_settles (s : State) (q : Request) : Settles s (s.commandPoint q) := by
  have hkeep {t : State} (h : Settles s t) (pts : List (Nat × Status × Bytes)) : Settles s { t with sc := { t.sc with points := pts } } :=
    ⟨h.cores, h.mono, h.applied, h.mode, h.queue, h.irq, h.queued⟩
  unfold State.commandPoint
  dsimp only
  split
  · exact hkeep (resetPoint_settles s q.body) _
  · split
    · exact hkeep (flushPoint_settles s q.body) _
    · split
      · exact hkeep (closePoint_settles s q) _
      · exact .refl s

theorem atDecision_settles (s : State) (q : Request) : Settles s (s.atDecision q).1 := by
  unfold State.atDecision
  split
  · unfold State.flushVerb
    dsimp only
    split
    · exact .refl s
    · split
      · exact .refl s
      · split
        · exact .refl s
        · exact flushQueue_settles ..
  · split
    · exact .refl s
    · exact .refl s

end Sys2Proof.Machine

/-! ### The wake logic, S1 and the two registers around a slot -/

namespace Sys2Proof.Machine

/-- Between two states only the clusters differ. -/
def ClustersOnly (s t : State) : Prop := ∃ l, t = { s with clusters := l }

theorem ClustersOnly.refl (s : State) : ClustersOnly s s := ⟨s.clusters, rfl⟩
theorem ClustersOnly.trans {s t u : State} : ClustersOnly s t → ClustersOnly t u → ClustersOnly s u := by
  rintro ⟨c, rfl⟩ ⟨d, rfl⟩
  exact ⟨d, rfl⟩

theorem setClusterPower_clustersOnly (s : State) (n : Nat) (p : UnitPower) : ClustersOnly s (s.setClusterPower n p) := by
  unfold State.setClusterPower
  split
  · exact ⟨_, rfl⟩
  · exact .refl s

theorem foldl_setClusterPower_clustersOnly (s : State) (p : UnitPower) (l : List Nat) :
    ClustersOnly s (l.foldl (fun (u : State) n => u.setClusterPower n p) s) := by
  induction l generalizing s with
  | nil => exact .refl s
  | cons n l ih => exact (setClusterPower_clustersOnly s n p).trans (ih _)

/-- The wake logic (R476) changes the power of clusters and nothing else. -/
theorem wakeClusters_clustersOnly (s : State) : ClustersOnly s s.wakeClusters := by
  unfold State.wakeClusters
  extract_lets gated waiting byItem t
  have ht : ClustersOnly s t := foldl_setClusterPower_clustersOnly s .resuming byItem
  split
  · split
    · exact ht.trans (setClusterPower_clustersOnly t _ _)
    · exact ht
  · exact ht

theorem cacheImage_clustersOnly (s : State) (n : Nat) (e : Nat × Nat × Nat) : ClustersOnly s (s.cacheImage n e) := by
  unfold State.cacheImage
  split
  · exact ⟨_, rfl⟩
  · exact .refl s

theorem enterS1_eq (s : State) : ∃ x, s.enterS1 = { s with porter := x } := by
  unfold State.enterS1
  split
  · exact ⟨_, rfl⟩
  · exact ⟨s.porter, rfl⟩

theorem signal_eq (s t : State) : ∃ o v b, s.signal t = { t with outputs := o, svc := v, smb := b } := by
  unfold State.signal State.raiseInt
  dsimp only
  split
  · split
    · exact ⟨_, _, _, rfl⟩
    · exact ⟨t.outputs, _, _, rfl⟩
  · exact ⟨t.outputs, t.svc, _, rfl⟩

end Sys2Proof.Machine

/-! ### What a partition command answers (O29) -/

namespace Sys2Proof.Machine

/-- What the decision settled for one command is not part of a partition's runtime record. -/
@[simp] theorem State.dropPoint_part (s : State) (q : Request) (p : Nat) : (s.dropPoint q).part p = s.part p := rfl

/-- Settles O29: each command is taken from the head of the queue (`command_taken`); PARTITION_RESET then goes by its settled
status and by whether a reset is under way. -/
theorem partitionCommandResults : Obligations.PartitionCommandResults := by
  intro s t q p r
  refine ⟨?flush, ?close, ?reset, ?refused⟩
  case flush =>
    intro htakes
    exact congrArg Host.Outcome.next (command_taken htakes)
  case close =>
    intro htakes
    exact congrArg Host.Outcome.next (command_taken htakes)
  case reset =>
    rintro htakes hok rfl
    constructor
    · intro hnone
      refine congrArg Host.Outcome.next ((command_taken htakes).trans ?_)
      simp [hok, hnone]
    · intro hreset
      refine congrArg Host.Outcome.next ((command_taken htakes).trans ?_)
      simp [hok, hreset]
  case refused =>
    intro htakes hbad
    refine congrArg Host.Outcome.next ((command_taken htakes).trans ?_)
    simp [hbad]

end Sys2Proof.Machine

/-! ### The two steps of a partition reset (O31) -/

namespace Sys2Proof.Machine

variable {s : State} {p : Nat} {r : ResetState}

@[simp] theorem State.wipePartition_mono (s : State) (p : Nat) : (s.wipePartition p).mono = s.mono := rfl

/-- The wipe leaves of a partition's key slots only those that are pinned. -/
theorem wipePartition_slots {e : Nat × KeySlot} (he : e ∈ (s.wipePartition p).store.slots) (hp : refPartition e.1 = p) :
    ∃ k, s.durable.keyNow e.1 = some k ∧ isPinned k.attrs = true := by
  obtain ⟨-, hkeep⟩ := List.mem_filter.mp he
  simp only [hp, beq_self_eq_true, Bool.not_true, Bool.false_or] at hkeep
  split at hkeep
  next k hk => exact ⟨k, hk, hkeep⟩
  next => cases hkeep

/-- The wipe leaves nothing of a partition in the clusters' slices. -/
theorem wipePartition_slice {c : Nat × Cluster} {e} (hc : c ∈ (s.wipePartition p).clusters) (he : e ∈ c.2.slice) : refPartition e.1 ≠ p := by
  obtain ⟨b, -, rfl⟩ := List.mem_map.mp hc
  obtain ⟨-, hkeep⟩ := List.mem_filter.mp he
  simpa using hkeep

/-- The cancel step of a reset not yet cancelled (R109): its time is kept, and the partition's requests leave the queues. -/
theorem resetCancel_eq (hreset : (s.part p).reset = some r) (hopen : r.cancelledAt = none) :
    s.resetCancel p = (({ s with mono := max s.mono (r.at0 + 10 ^ 6) } : State).setPart p
      { s.part p with reset := some { r with cancelledAt := some (max s.mono (r.at0 + 10 ^ 6)) } }).cancelQueued
        (fun q => q.partition == p) St.cancelled := by
  simp [State.resetCancel, hreset, hopen]

/-- The state in which the wipe step of a reset has answered what was left and closed the partition's sessions. -/
def State.resetClosed (s : State) (p a : Nat) : State :=
  (({ s with mono := max s.mono (a + 50000) } : State).cancelQueued (fun q => q.partition == p) St.cancelled).closePartitionSessions p 2

/-- Closing the sessions takes no time beyond the step's own. -/
@[simp] theorem State.resetClosed_mono (s : State) (p a : Nat) : (s.resetClosed p a).mono = max s.mono (a + 50000) :=
  (congrArg Steady.mono (State.closePartitionSessions_steady _ p 2)).trans (State.cancelQueued_mono ..)
/-- It changes nothing durable. -/
@[simp] theorem State.resetClosed_durable (s : State) (p a : Nat) : (s.resetClosed p a).durable = s.durable :=
  (congrArg Steady.durable (State.closePartitionSessions_steady _ p 2)).trans (State.cancelQueued_durable ..)

/-- The wipe step of a cancelled reset with nothing of the partition in flight (R109, R110). -/
theorem resetWipe_eq {a : Nat} (hreset : (s.part p).reset = some r) (hcancelled : r.cancelledAt = some a)
    (hquiet : s.partInFlight p = false) : s.resetWipe p =
    r.askers.foldl (fun v q => v.answer q 0) ((((s.resetClosed p a).wipePartition p).setPart p {}).scEvent St.partitionReset [p]) := by
  simp [State.resetWipe, State.resetClosed, hreset, hcancelled, hquiet]

/-- The cancel step of a reset (R109). -/
theorem partitionResetCancel_result (hreset : (s.part p).reset = some r) (hopen : r.cancelledAt = none) :
    ∃ t, exec (.partitionResetCancel p) s = .next t ∧ t.mono = max s.mono (r.at0 + 10 ^ 6) ∧
      (t.part p).reset = some { r with cancelledAt := some t.mono } ∧
      t.disp.queued = s.disp.queued.filter (fun q => !(q.partition == p)) := by
  refine ⟨s.resetCancel p, rfl, ?_⟩
  rw [resetCancel_eq hreset hopen]
  simp

/-- The wipe step of a reset (R109, R110): the askers' answers are the last thing it does. -/
theorem partitionResetWipe_result {a : Nat} (hreset : (s.part p).reset = some r) (hcancelled : r.cancelledAt = some a)
    (hquiet : s.partInFlight p = false) : ∃ t, exec (.partitionResetWipe p) s = .next t ∧
      t.mono = max s.mono (a + 50000) ∧ t.part p = {} ∧
      (∀ e ∈ t.store.slots, refPartition e.1 = p → ∃ k, s.durable.keyNow e.1 = some k ∧ isPinned k.attrs = true) ∧
      (∀ c ∈ t.clusters, ∀ e ∈ c.2.slice, refPartition e.1 ≠ p) ∧
      (∀ q ∈ r.askers, ∃ a ∈ t.egress, a.req = q ∧ a.status = 0) := by
  refine ⟨s.resetWipe p, rfl, ?_⟩
  rw [resetWipe_eq hreset hcancelled hquiet, State.foldl_answer]
  refine ⟨?time, ?part, ?slots, ?slices, ?askers⟩
  case time => simp
  case part => exact ((s.resetClosed p a).wipePartition p).setPart_part_same p {}
  case slots =>
    intro e he hp
    simp only [State.scEvent_store, State.setPart_store] at he
    rw [← s.resetClosed_durable p a]
    exact wipePartition_slots he hp
  case slices =>
    intro c hc e he
    simp only [State.scEvent_clusters, State.setPart_clusters] at hc
    exact wipePartition_slice hc he
  case askers =>
    intro q hq
    exact ⟨plainResponse 0 _ q, List.mem_append_right _ (List.mem_map_of_mem hq), rfl, rfl⟩

/-- Settles O31: the cancel step and the wipe step, each by what it does to the state. -/
theorem partitionResetSteps : Obligations.PartitionResetSteps := by
  intro s p r hreset
  exact ⟨partitionResetCancel_result hreset, fun a => partitionResetWipe_result hreset⟩

end Sys2Proof.Machine

/-! ### The start of an invocation on a free core -/

namespace Sys2Proof.Machine

/-- What a core holds depends on the invocations and on how the security controller runs. -/
theorem State.core?_congr {s t : State} (hcores : t.cores = s.cores) (hmode : t.sc.mode = s.sc.mode) (c : CoreId) :
    t.core? c = s.core? c := by
  simp only [State.core?, hcores, hmode]

/-- A choice that takes each candidate or keeps the earlier one finds a candidate, where there is one. -/
theorem foldl_choice_mem {α : Type} {f : Option α → α → Option α}
    (hsome : ∀ b a, f (some b) a = some a ∨ f (some b) a = some b) (l : List α) (a : α) :
    ∃ m ∈ a :: l, l.foldl f (some a) = some m := by
  induction l generalizing a with
  | nil => exact ⟨a, by simp, rfl⟩
  | cons x l ih =>
    rcases hsome a x with h | h
    · obtain ⟨m, hm, hf⟩ := ih x
      exact ⟨m, List.mem_cons_of_mem _ hm, by rw [List.foldl_cons, h, hf]⟩
    · obtain ⟨m, hm, hf⟩ := ih a
      refine ⟨m, ?_, by rw [List.foldl_cons, h, hf]⟩
      rcases List.mem_cons.mp hm with h | h
      · simp [h]
      · simp [h]

/-- Where a cluster with a free core is awake, one is picked (R105). -/
theorem pickCluster_open {s : State} (h : s.openClusters ≠ []) (p : Nat) : ∃ n ∈ s.openClusters, s.pickCluster p = some n := by
  unfold State.pickCluster
  dsimp only
  split
  next hhome => exact ⟨_, List.contains_iff_mem.mp hhome, rfl⟩
  next =>
    obtain ⟨n, l, hl⟩ := List.exists_cons_of_ne_nil h
    rw [hl, List.foldl_cons]
    refine foldl_choice_mem (fun b a => ?_) l n
    dsimp only
    split
    · exact .inl rfl
    · exact .inr rfl

/-- A cluster that is open has a free core. -/
theorem freeCores_of_open {s : State} {n : Nat} (h : n ∈ s.openClusters) : ∃ i l, s.freeCores n = i :: l := by
  obtain ⟨-, hopen⟩ := List.mem_filter.mp h
  refine List.exists_cons_of_ne_nil fun hnil => ?_
  simp [hnil] at hopen

/-- A free core runs no invocation. -/
theorem core?_of_freeCores {s : State} {n i : Nat} {l : List Nat} (h : s.freeCores n = i :: l) : s.core? (.tx n i) = none := by
  have hmem : i ∈ s.freeCores n := h ▸ List.mem_cons_self
  obtain ⟨-, hfree⟩ := List.mem_filter.mp hmem
  exact Option.isNone_iff_eq_none.mp hfree

/-- The core as an invocation starts on it (R115). -/
def startCore (q : Request) (cls nominal applied now : Nat) (image : Option (ProgImage × Nat)) (decided : Option (Status × Bytes)) : Core :=
  { world := if image.isSome then 2 else 1, req := q, nominal := nominal, snapshot := applied, dispatched := now,
    cls := cls, g := startRegs q applied now, decided := decided,
    progVersion := match image with | some (x, _) => x.version | none => 0,
    pc := match image with | some (x, _) => BitVec.ofNat 64 x.entry | none => 0 }

variable (s : State) (n : Nat) (p : UnitPower) (e : Nat × Nat × Nat)

@[simp] theorem State.sample_cores (f m v : Nat) : (s.sample f m v).cores = s.cores := rfl
@[simp] theorem State.sample_sc (f m v : Nat) : (s.sample f m v).sc = s.sc := rfl
@[simp] theorem State.sample_disp (f m v : Nat) : (s.sample f m v).disp = s.disp := rfl
@[simp] theorem State.setClusterPower_cores : (s.setClusterPower n p).cores = s.cores := by
  obtain ⟨l, h⟩ := setClusterPower_clustersOnly s n p; rw [h]
@[simp] theorem State.setClusterPower_sc : (s.setClusterPower n p).sc = s.sc := by
  obtain ⟨l, h⟩ := setClusterPower_clustersOnly s n p; rw [h]
@[simp] theorem State.setClusterPower_disp : (s.setClusterPower n p).disp = s.disp := by
  obtain ⟨l, h⟩ := setClusterPower_clustersOnly s n p; rw [h]
@[simp] theorem State.cacheImage_cores : (s.cacheImage n e).cores = s.cores := by
  obtain ⟨l, h⟩ := cacheImage_clustersOnly s n e; rw [h]
@[simp] theorem State.cacheImage_sc : (s.cacheImage n e).sc = s.sc := by
  obtain ⟨l, h⟩ := cacheImage_clustersOnly s n e; rw [h]
@[simp] theorem State.cacheImage_disp : (s.cacheImage n e).disp = s.disp := by
  obtain ⟨l, h⟩ := cacheImage_clustersOnly s n e; rw [h]

/-- An invocation starts on the first free core of the picked cluster; no other core changes, and the queues gain nothing. -/
theorem startOn_result {s : State} {n : Nat} {q : Request} {i : Nat} {l : List Nat} (hn : s.pickCluster q.partition = some n)
    (hi : s.freeCores n = i :: l) (cls nominal : Nat) (image : Option (ProgImage × Nat)) :
    ∃ decided, (s.startOn q cls nominal image).cores =
        setK (.tx n i) (startCore q cls nominal s.seq.applied s.mono image decided) s.cores ∧
      (s.startOn q cls nominal image).sc.mode = s.sc.mode ∧
      ∀ y ∈ (s.startOn q cls nominal image).disp.queued, y ∈ s.disp.queued := by
  have hd := atDecision_settles s q
  simp only [State.startOn, hn, hi]
  refine ⟨(s.atDecision q).2, ?_⟩
  cases image with
  | none => simpa [hd.cores, hd.mono, hd.applied, hd.mode, startCore] using hd.queued
  | some x => simpa [hd.cores, hd.mono, hd.applied, hd.mode, startCore] using hd.queued

end Sys2Proof.Machine

/-! ### The dispatch slot -/

namespace Sys2Proof.Machine

/-- The request as it is dispatched: with its snapshot (R366). -/
abbrev Request.dispatched (r : Request) (applied : Nat) : Request := { r with snapshot := applied }

/-- The charge of a dispatched request to the deficits of its class and queue, and to the bytes of the last millisecond (R102, R103). -/
def State.charged (s : State) (q : Request) (cls cost : Nat) : State :=
  { s with disp := { s.disp with
      partDeficit := setK (cls, q.partition) (getD (cls, q.partition) 0 s.disp.partDeficit - (cost : Int)) s.disp.partDeficit
      queueDeficit := setK (q.partition, q.queue) (getD (q.partition, q.queue) 0 s.disp.queueDeficit - (cost : Int)) s.disp.queueDeficit
      recent := (s.disp.recent.filter fun e => decide (s.mono ≤ e.1 + 10 ^ 6)) ++ [(s.mono, q.partition, cls, q.charge)] } }

theorem charged_settles (s : State) (q : Request) (cls cost : Nat) : Settles s (s.charged q cls cost) :=
  ⟨rfl, rfl, rfl, rfl, rfl, rfl, fun _ h => h⟩

/-- A command as it is handed to the security controller (R548): at the end of its queue, with an interrupt. -/
def State.handed (s : State) (q : Request) (cls : Nat) : State :=
  { s.charged q cls 1 with sc := { s.sc with queue := s.sc.queue ++ [q], irq := true } }

@[simp] theorem State.charged_cores (s : State) (q : Request) (cls cost : Nat) : (s.charged q cls cost).cores = s.cores := rfl
@[simp] theorem State.charged_mono (s : State) (q : Request) (cls cost : Nat) : (s.charged q cls cost).mono = s.mono := rfl
@[simp] theorem State.charged_seq (s : State) (q : Request) (cls cost : Nat) : (s.charged q cls cost).seq = s.seq := rfl
@[simp] theorem State.charged_sc (s : State) (q : Request) (cls cost : Nat) : (s.charged q cls cost).sc = s.sc := rfl
@[simp] theorem State.charged_egress (s : State) (q : Request) (cls cost : Nat) : (s.charged q cls cost).egress = s.egress := rfl
@[simp] theorem State.charged_queued (s : State) (q : Request) (cls cost : Nat) :
    (s.charged q cls cost).disp.queued = s.disp.queued := rfl
@[simp] theorem State.charged_pickCluster (s : State) (q : Request) (cls cost p : Nat) :
    (s.charged q cls cost).pickCluster p = s.pickCluster p := rfl
@[simp] theorem State.charged_freeCores (s : State) (q : Request) (cls cost n : Nat) :
    (s.charged q cls cost).freeCores n = s.freeCores n := rfl
@[simp] theorem State.handed_cores (s : State) (q : Request) (cls : Nat) : (s.handed q cls).cores = s.cores := rfl
@[simp] theorem State.handed_sc (s : State) (q : Request) (cls : Nat) :
    (s.handed q cls).sc = { s.sc with queue := s.sc.queue ++ [q], irq := true } := rfl
@[simp] theorem State.handed_queued (s : State) (q : Request) (cls : Nat) : (s.handed q cls).disp.queued = s.disp.queued := rfl

section
variable {s : State} {r : Request} {cls : Nat}

theorem handOver_orphan (h : s.orphan r = true) : s.handOver r cls = s := by
  simp [State.handOver, h]

/-- The work of a handshake or a token's step (R72, R94) goes to the engines or the token slot: no core starts. -/
theorem handOver_internal (h : s.orphan r = false) (hint : r.origin = .internal) : Settles s (s.handOver r cls) := by
  unfold State.handOver
  simp only [h, hint, Bool.false_eq_true, if_false, if_true]
  split
  · exact (charged_settles s _ cls _).trans (.of_steady (State.beginStep_steady ..))
  · exact (charged_settles s _ cls _).trans (.of_steady (State.beginHello_steady ..))

variable (h : s.orphan r = false) (hext : r.origin ≠ .internal)
include h hext

theorem handOver_verb (hrun : s.programFor (r.dispatched s.seq.applied) s.seq.applied = .verb) : ∃ cost, s.handOver r cls =
    (s.charged (r.dispatched s.seq.applied) cls cost).startOn (r.dispatched s.seq.applied) cls cost none := by
  refine ⟨nominalCost (r.dispatched s.seq.applied) .verb, ?_⟩
  simp only [State.handOver, h, if_neg hext, hrun, Bool.false_eq_true, if_false]
  rfl

theorem handOver_tenant {i : ProgImage} {c : Nat} (hrun : s.programFor (r.dispatched s.seq.applied) s.seq.applied = .tenant i c) :
    ∃ cost, s.handOver r cls =
      (s.charged (r.dispatched s.seq.applied) cls cost).startOn (r.dispatched s.seq.applied) cls cost (some (i, c)) := by
  refine ⟨nominalCost (r.dispatched s.seq.applied) (.tenant i c), ?_⟩
  simp only [State.handOver, h, if_neg hext, hrun, Bool.false_eq_true, if_false]
  rfl

theorem handOver_command (hrun : s.programFor (r.dispatched s.seq.applied) s.seq.applied = .command) : s.handOver r cls =
    (s.handed (r.dispatched s.seq.applied) cls).commandPoint (r.dispatched s.seq.applied) := by
  simp only [State.handOver, h, if_neg hext, hrun, Bool.false_eq_true, if_false]
  rfl

theorem handOver_nothing (hrun : s.programFor (r.dispatched s.seq.applied) s.seq.applied = .nothing) : s.handOver r cls =
    (s.charged (r.dispatched s.seq.applied) cls 1).answer (r.dispatched s.seq.applied) St.programNotLoaded := by
  simp only [State.handOver, h, if_neg hext, hrun, Bool.false_eq_true, if_false]
  rfl
end

/-- The state in which a slot hands its request over: the request has left its queue, and the module is in S0 (R102, R472). -/
def State.slotTaken (s : State) (d : Dispatcher) (r : Request) : State :=
  { s with disp := { d with queued := d.queued.filter fun x => x.ticket != r.ticket }
           porter := if s.porter.power = Power.s1 then { s.porter with power := .s0 } else s.porter }

@[simp] theorem State.slotTaken_pickCluster (s : State) (d : Dispatcher) (r : Request) (p : Nat) :
    (s.slotTaken d r).pickCluster p = s.pickCluster p := rfl
@[simp] theorem State.slotTaken_freeCores (s : State) (d : Dispatcher) (r : Request) (n : Nat) :
    (s.slotTaken d r).freeCores n = s.freeCores n := rfl

/-- The slot finds a request: the controller's firmware runs, a core is free, and the pick falls on `r` (R102). -/
structure SlotFinds (s : State) (cls p q : Nat) (d : Dispatcher) (r : Request) (l : List Request) : Prop where
  running : s.sc.mode = .running
  free : s.wakeClusters.slotOpen = true
  class_ : s.wakeClusters.pickClass = some cls
  queue : s.wakeClusters.pickQueue cls = some (p, q, d)
  head : s.wakeClusters.queuedIn p q = r :: l

/-- The state in which a slot of `s` hands the request `r` over. -/
abbrev State.slotState (s : State) (d : Dispatcher) (r : Request) : State := s.wakeClusters.slotTaken d r

/-- What the registers and S1 around a dispatch decision leave of its result. -/
structure SlotLeaves (w v : State) : Prop where
  cores : v.cores = w.cores
  sc : v.sc = w.sc
  egress : v.egress = w.egress
  queued : v.disp.queued = w.disp.queued

variable {s : State} {cls p q : Nat} {d : Dispatcher} {r : Request} {l : List Request}

/-- A slot that finds a request hands it over. -/
theorem dispatchSlot_next (h : SlotFinds s cls p q d r l) :
    ∃ v, exec .dispatchSlot s = .next v ∧ SlotLeaves ((s.slotState d r).handOver r cls) v := by
  obtain ⟨x, hs1⟩ := enterS1_eq s.wakeClusters.dispatchSlot
  obtain ⟨o, v, b, hsignal⟩ := signal_eq s s.wakeClusters.dispatchSlot.enterS1
  refine ⟨s.signal s.wakeClusters.dispatchSlot.enterS1, ?_, ?_⟩
  · exact congrArg (fun t => Host.Outcome.next (s.signal t)) (if_pos h.running)
  · rw [hsignal, hs1]
    simp only [State.dispatchSlot, h.free, h.class_, h.queue, h.head, Bool.true_eq_false, if_false]
    exact ⟨rfl, rfl, rfl, rfl⟩

/-! What the slot's own state has of the state before it. -/

theorem slotState_eq (s : State) (d : Dispatcher) (r : Request) :
    ∃ c e x, s.slotState d r = { s with clusters := c, disp := e, porter := x } := by
  obtain ⟨c, hc⟩ := wakeClusters_clustersOnly s
  rw [State.slotState, hc]
  exact ⟨_, _, _, rfl⟩

@[simp] theorem slotState_cores (s : State) (d : Dispatcher) (r : Request) : (s.slotState d r).cores = s.cores := by
  obtain ⟨c, e, x, h⟩ := slotState_eq s d r; rw [h]
@[simp] theorem slotState_sc (s : State) (d : Dispatcher) (r : Request) : (s.slotState d r).sc = s.sc := by
  obtain ⟨c, e, x, h⟩ := slotState_eq s d r; rw [h]
@[simp] theorem slotState_egress (s : State) (d : Dispatcher) (r : Request) : (s.slotState d r).egress = s.egress := by
  obtain ⟨c, e, x, h⟩ := slotState_eq s d r; rw [h]
@[simp] theorem slotState_mono (s : State) (d : Dispatcher) (r : Request) : (s.slotState d r).mono = s.mono := by
  obtain ⟨c, e, x, h⟩ := slotState_eq s d r; rw [h]
@[simp] theorem slotState_seq (s : State) (d : Dispatcher) (r : Request) : (s.slotState d r).seq = s.seq := by
  obtain ⟨c, e, x, h⟩ := slotState_eq s d r; rw [h]
@[simp] theorem slotState_orphan (s : State) (d : Dispatcher) (r q : Request) : (s.slotState d r).orphan q = s.orphan q := by
  obtain ⟨c, e, x, h⟩ := slotState_eq s d r; rw [h]; rfl
@[simp] theorem slotState_programFor (s : State) (d : Dispatcher) (r q : Request) (n : Nat) :
    (s.slotState d r).programFor q n = s.programFor q n := by
  obtain ⟨c, e, x, h⟩ := slotState_eq s d r; rw [h]; rfl

/-- No request of the ticket is left in the queues. -/
abbrev State.noTicket (s : State) (n : Nat) : Prop := ∀ y ∈ s.disp.queued, y.ticket ≠ n

/-- The slot's request has left its queue, and nothing that follows brings it back. -/
theorem noTicket_of_slotState (s : State) (d : Dispatcher) (r : Request) {v : State}
    (h : ∀ y ∈ v.disp.queued, y ∈ (s.slotState d r).disp.queued) : v.noTicket r.ticket := by
  intro y hy
  obtain ⟨-, hne⟩ := List.mem_filter.mp (h y hy)
  simpa using hne

/-- While the controller's firmware runs, an open slot has a cluster with a free core (R102). -/
theorem openClusters_of_slotOpen (hmode : s.sc.mode = .running) (h : s.slotOpen = true) : s.openClusters ≠ [] := by
  simp only [State.slotOpen, hmode, Bool.and_eq_true, Bool.not_eq_true', List.isEmpty_eq_false_iff] at h
  exact h.1.2

/-! ### What comes of the request -/

/-- A request whose session is gone only leaves its queue. -/
theorem dispatch_orphan (h : SlotFinds s cls p q d r l) (horphan : s.orphan r = true) :
    ∃ v, exec .dispatchSlot s = .next v ∧ v.noTicket r.ticket ∧ v.cores = s.cores ∧ v.sc = s.sc ∧ v.egress = s.egress := by
  obtain ⟨v, hv, hcores, hsc, hegress, hqueued⟩ := dispatchSlot_next h
  rw [handOver_orphan (by simpa using horphan)] at hcores hsc hegress hqueued
  exact ⟨v, hv, noTicket_of_slotState s d r (by simp [hqueued]), by simp [hcores], by simp [hsc], by simp [hegress]⟩

/-- The work of a handshake or of a token's step leaves its queue and starts no core. -/
theorem dispatch_internal (h : SlotFinds s cls p q d r l) (hlive : s.orphan r = false) (hint : r.origin = .internal) :
    ∃ v, exec .dispatchSlot s = .next v ∧ v.noTicket r.ticket ∧ v.cores = s.cores := by
  obtain ⟨v, hv, hcores, -, -, hqueued⟩ := dispatchSlot_next h
  have hw : Settles (s.slotState d r) ((s.slotState d r).handOver r cls) := handOver_internal (by simpa using hlive) hint
  exact ⟨v, hv, noTicket_of_slotState s d r (by simpa [hqueued] using hw.queued), by simp [hcores, hw.cores]⟩

/-- A command joins the controller's queue (R548); what its decision settles keeps that queue. -/
theorem dispatch_command (h : SlotFinds s cls p q d r l) (hlive : s.orphan r = false) (hext : r.origin ≠ .internal)
    (hrun : s.programFor (r.dispatched s.seq.applied) s.seq.applied = .command) :
    ∃ v, exec .dispatchSlot s = .next v ∧ v.noTicket r.ticket ∧ v.sc.queue = s.sc.queue ++ [r.dispatched s.seq.applied] ∧
      v.sc.irq = true ∧ v.cores = s.cores := by
  obtain ⟨v, hv, hcores, hsc, -, hqueued⟩ := dispatchSlot_next h
  rw [handOver_command (by simpa using hlive) hext (by simpa using hrun), slotState_seq] at hcores hsc hqueued
  have hw := commandPoint_settles ((s.slotState d r).handed (r.dispatched s.seq.applied) cls) (r.dispatched s.seq.applied)
  exact ⟨v, hv, noTicket_of_slotState s d r (by simpa [hqueued] using hw.queued), by simp [hsc, hw.queue], by simp [hsc, hw.irq],
    by simp [hcores, hw.cores]⟩

/-- A code without a program is answered at once (R141). -/
theorem dispatch_nothing (h : SlotFinds s cls p q d r l) (hlive : s.orphan r = false) (hext : r.origin ≠ .internal)
    (hrun : s.programFor (r.dispatched s.seq.applied) s.seq.applied = .nothing) :
    ∃ v, exec .dispatchSlot s = .next v ∧ v.noTicket r.ticket ∧ v.cores = s.cores ∧
      v.egress = s.egress ++ [{ req := r.dispatched s.seq.applied, status := St.programNotLoaded, snapshot := s.seq.applied, at0 := s.mono }] := by
  obtain ⟨v, hv, hcores, -, hegress, hqueued⟩ := dispatchSlot_next h
  rw [handOver_nothing (by simpa using hlive) hext (by simpa using hrun)] at hcores hegress hqueued
  exact ⟨v, hv, noTicket_of_slotState s d r (by simp [hqueued]), by simp [hcores], by simp [hegress]⟩

/-- What a slot that starts an invocation does: the core is one that was free, and no other core changes (R105, R115). -/
theorem dispatch_starts (h : SlotFinds s cls p q d r l) {cost : Nat} {image : Option (ProgImage × Nat)}
    (hrun : (s.slotState d r).handOver r cls = ((s.slotState d r).charged (r.dispatched s.seq.applied) cls cost).startOn
      (r.dispatched s.seq.applied) cls cost image) :
    ∃ v i j decided, exec .dispatchSlot s = .next v ∧ v.noTicket r.ticket ∧ s.wakeClusters.core? (.tx i j) = none ∧
      v.core? (.tx i j) = some (startCore (r.dispatched s.seq.applied) cls cost s.seq.applied s.mono image decided) ∧
      ∀ c, c ≠ .tx i j → v.core? c = s.wakeClusters.core? c := by
  obtain ⟨v, hv, hcores, hsc, -, hqueued⟩ := dispatchSlot_next h
  obtain ⟨cl, hwake⟩ := wakeClusters_clustersOnly s
  have hopen : s.wakeClusters.openClusters ≠ [] := openClusters_of_slotOpen (by rw [hwake]; exact h.running) h.free
  obtain ⟨n, hn, hpick⟩ := pickCluster_open hopen r.partition
  obtain ⟨i, l, hfree⟩ := freeCores_of_open hn
  obtain ⟨decided, hstart, hmode, hgone⟩ := startOn_result
    (s := (s.slotState d r).charged (r.dispatched s.seq.applied) cls cost) (q := r.dispatched s.seq.applied)
    (by simpa using hpick) (by simpa using hfree) cls cost image
  rw [hrun] at hcores hsc hqueued
  have hcore (c : CoreId) : v.core? c =
      (s.setCore (.tx n i) (startCore (r.dispatched s.seq.applied) cls cost s.seq.applied s.mono image decided)).core? c :=
    State.core?_congr (by simp [hcores, hstart]) (by simp [hsc, hmode]) c
  refine ⟨v, n, i, decided, hv, noTicket_of_slotState s d r (by simpa [hqueued] using hgone), core?_of_freeCores hfree, ?same, ?other⟩
  case same => rw [hcore, State.core?_setCore_same]
  case other =>
    intro c hc
    rw [hcore, State.core?_setCore_other s hc]
    exact (State.core?_congr (by rw [hwake]) (by rw [hwake]) c).symm

end Sys2Proof.Machine

/-! ### Responses at egress, the power of units, and O47 -/

namespace Sys2Proof.Machine

/-- Class 0 goes first while classes 2 and 3 are not starved (R92, R102). -/
theorem pickClass_zero {s : State} (h2 : s.disp.since2 < 19) (h3 : s.disp.since3 < 49) (hwork : s.hasWork 0 = true) :
    s.pickClass = some 0 := by
  simp [State.pickClass, hwork, Nat.not_le.mpr h2, Nat.not_le.mpr h3]

/-! Responses. -/

section
variable {s : State} {a : Response} {rest : List Response} (hfirst : takeFirst s.mayLeave s.egress = some (a, rest))
include hfirst

theorem egress_session {sid id : Nat} (ho : a.req.origin = .session sid id) : exec .responseEgress s =
    .next (if s.pair.state = .fenced then ({ s with egress := rest } : State).holdSample a
      else (({ s with egress := rest } : State).holdSample a).deliver sid id a) := by
  refine congrArg Host.Outcome.next ?_
  simp only [State.egressOne, hfirst, ho]

theorem egress_ring {i j : Nat} (ho : a.req.origin = .ring i j) : exec .responseEgress s =
    .next ((({ s with egress := rest } : State).holdSample a).ringReady i j
      (if s.pair.state = .fenced ∧ (isVerb a.req.verb ∨ 0x8000 ≤ a.req.verb) then
        { req := a.req, status := St.pairFenced, streamPart := 3 } else a)) := by
  refine congrArg Host.Outcome.next ?_
  simp only [State.egressOne, hfirst, ho]
  exact (apply_ite (State.ringReady _ i j) _ _ _).symm

theorem egress_internal (ho : a.req.origin = .internal) :
    exec .responseEgress s = .next (({ s with egress := rest } : State).holdSample a) := by
  refine congrArg Host.Outcome.next ?_
  simp only [State.egressOne, hfirst, ho]

end

/-! Units. -/

/-- The frame of a gating step: the wake logic and S1 follow it. -/
theorem unitPowerGate_of_gateUnit {s t : State} {u : PUnit} (h : s.gateUnit u = t) :
    exec (.unitPowerGate u) s = .next (s.signal (t.wakeClusters.enterS1)) :=
  congrArg (fun t : State => Host.Outcome.next (s.signal t.wakeClusters.enterS1)) h

section
variable {s : State} {n t0 : Nat}

theorem gateUnit_cluster {e : Cluster} (he : getK n s.clusters = some e) (hidle : e.power = .idle t0) (hmin : s.minAwake ≤ n) :
    s.gateUnit (.cluster n) = ({ s with mono := max s.mono (t0 + 10000) } : State).setClusterPower n .gated := by
  simp [State.gateUnit, State.clusterPower, he, hidle, Nat.not_lt.mpr hmin]

theorem gateUnit_lane_busy {la : Lane} (hl : getK n s.lanes = some la) (hidle : la.power = .idle t0) (hjob : s.laneHasJob n = true) :
    s.gateUnit (.lane n) = s := by
  simp [State.gateUnit, hl, hidle, hjob]

theorem gateUnit_lane {la : Lane} (hl : getK n s.lanes = some la) (hidle : la.power = .idle t0) (hjob : s.laneHasJob n = false) :
    s.gateUnit (.lane n) = { s with mono := max s.mono (t0 + 10000), lanes := setK n { la with power := .gated } s.lanes } := by
  simp [State.gateUnit, hl, hidle, hjob]

theorem gateUnit_lne {le : Lne} (hl : getK n s.lnes = some le) (hidle : le.power = .idle t0) :
    s.gateUnit (.lne n) =
      { s with mono := max s.mono (t0 + 10000), lnes := setK n { le with power := .gated, bank0 := {}, bank1 := {} } s.lnes } := by
  simp [State.gateUnit, hl, hidle]

theorem resumeUnit_cluster {e : Cluster} (he : getK n s.clusters = some e) (h : e.power = .resuming) : s.resumeUnit (.cluster n) =
    { s with clusters := setK n { e with power := .idle s.mono, epochs := s.currentEpochs } s.clusters } := by
  simp [State.resumeUnit, he, h]

theorem resumeUnit_lane {la : Lane} (hl : getK n s.lanes = some la) (h : la.power = .resuming) : s.resumeUnit (.lane n) =
    ({ s with lanes := setK n { la with power := if s.laneHasJob n then .active else .idle s.mono } s.lanes } : State).assignWaiting
      s.laneJobs.length := by
  simp [State.resumeUnit, hl, h]

theorem resumeUnit_lne {le : Lne} (hl : getK n s.lnes = some le) (h : le.power = .resuming) :
    s.resumeUnit (.lne n) = { s with lnes := setK n { le with power := .idle s.mono } s.lnes } := by
  simp [State.resumeUnit, hl, h]

end

/-- Settles O47: the slot by what comes of the request it finds, egress by the origin of the first response that may leave, the
units one by one. -/
theorem dispatchAndPowerResults : Obligations.DispatchAndPowerResults := by
  intro s cls p q n d r l a rest e la le t0
  refine ⟨pickClass_zero, ?slot, ?egress, ?cluster, ?lane, ?lne⟩
  case slot =>
    intro hmode hopen hclass hqueue hhead
    have hfinds : SlotFinds s cls p q d r l := ⟨hmode, hopen, hclass, hqueue, hhead⟩
    refine ⟨dispatch_orphan hfinds, dispatch_internal hfinds, fun hlive hext => ⟨?verb, ?tenant, ?command, ?nothing⟩⟩
    case verb =>
      intro hverb
      have hrun : s.programFor (r.dispatched s.seq.applied) s.seq.applied = .verb := by
        simp [State.programFor, hmode, hverb]
      obtain ⟨cost, hover⟩ := handOver_verb (s := s.slotState d r) (cls := cls) (by simpa using hlive) hext (by simpa using hrun)
      obtain ⟨v, i, j, decided, hv, hgone, hfree, hcore, hother⟩ := dispatch_starts hfinds (by simpa using hover)
      exact ⟨v, i, j, _, hv, hgone, hfree, hcore, rfl, rfl, rfl, rfl, rfl, rfl, rfl, rfl, rfl, rfl, hother⟩
    case tenant =>
      intro i c hrun
      obtain ⟨cost, hover⟩ := handOver_tenant (s := s.slotState d r) (cls := cls) (by simpa using hlive) hext (by simpa using hrun)
      obtain ⟨v, i, j, decided, hv, hgone, hfree, hcore, hother⟩ := dispatch_starts hfinds (by simpa using hover)
      exact ⟨v, i, j, _, hv, hgone, hfree, hcore, rfl, rfl, rfl, rfl, rfl, rfl, rfl, rfl, rfl, rfl, hother⟩
    case command => exact dispatch_command hfinds hlive hext
    case nothing => exact dispatch_nothing hfinds hlive hext
  case egress =>
    intro hfirst
    refine ⟨fun sid id ho hserves => ?live, fun i j => egress_ring hfirst, egress_internal hfirst, fun sid id ho hfenced => ?fenced⟩
    case live => rw [egress_session hfirst ho, if_neg hserves]
    case fenced => rw [egress_session hfirst ho, if_pos hfenced]
  case cluster =>
    intro he
    exact ⟨fun hidle hmin => unitPowerGate_of_gateUnit (gateUnit_cluster he hidle hmin),
      fun h => congrArg Host.Outcome.next (resumeUnit_cluster he h)⟩
  case lane =>
    intro hl
    exact ⟨fun hidle hjob => unitPowerGate_of_gateUnit (gateUnit_lane_busy hl hidle hjob),
      fun hidle hjob => unitPowerGate_of_gateUnit (gateUnit_lane hl hidle hjob),
      fun h => congrArg Host.Outcome.next (resumeUnit_lane hl h)⟩
  case lne =>
    intro hl
    exact ⟨fun hidle => unitPowerGate_of_gateUnit (gateUnit_lne hl hidle), fun h => congrArg Host.Outcome.next (resumeUnit_lne hl h)⟩

end Sys2Proof.Machine

/-! ### How the step of a verb comes out (R187 to R195) -/

namespace Sys2Proof.Machine

/-- The state that an outcome of a verb's step on core `i` of cluster `n` leads to; a response with another status than OK carries no body (R18). -/
def VerbAct.leads (n i : Nat) (k : Core) : VerbAct → State
  | .ends t st body => t.endInvocation (.tx n i) { k with wait := .none } st (if st = 0 then body else [])
  | .waits t w => t.setCore (.tx n i) { k with wait := w }
  | .holds t k' => t.setCore (.tx n i) k'

/-- The command takes the step of its verb on core `i` of cluster `n`, which comes out as `a`. -/
def verbActs (x : Instr) (s : State) (n i : Nat) (k : Core) (a : VerbAct) : Prop := exec x s = .next (a.leads n i k)

section
variable {x : Instr} {s t u : State} {n i code : Nat} {k k' : Core} {a : VerbAct} {f : Core → VerbAct} {st : Status} {body : Bytes} {w : Wait}

/-- A command in the frame of a verb acts on the core that runs the verb's code as its body says. -/
theorem verbActs_of_frame (hx : exec x s = .next (s.verb (.tx n i) code f)) (h : verbRuns s n i k code) : verbActs x s n i k (f k) := by
  unfold verbActs
  rw [hx]
  rcases hf : f k with ⟨t, st, body⟩ | ⟨t, w⟩ | ⟨t, k'⟩
  · exact congrArg Host.Outcome.next (verb_ends h hf)
  · exact congrArg Host.Outcome.next (verb_waits h hf)
  · exact congrArg Host.Outcome.next (verb_holds h hf)

theorem verbActs.ends_good (h : verbActs x s n i k a) (ha : a = good t body) : verbEnds x s t n i k 0 body := by subst ha; exact h

theorem verbActs.ends_status (h : verbActs x s n i k a) (ha : a = .ends t st []) : verbEnds x s t n i k st [] := by
  subst ha; simpa [verbActs, VerbAct.leads] using h

theorem verbActs.waits (h : verbActs x s n i k a) (ha : a = .waits t w) : exec x s = .next (t.setCore (.tx n i) { k with wait := w }) := by
  subst ha; exact h

theorem verbActs.commits {item : CItem} {front back : Bytes} (h : verbActs x s n i k a) (ha : a = t.verbCommit (.tx n i) k item front back) :
    verbCommits x s t n i k item front back := by subst ha; exact h

end

/-! What a verb does with a key that serves, units that serve and an expander that delivers (R190, R192, R136, R153). -/

section
variable {s t : State} {c : CoreId} {k : Core} {h w : Handle} {ref : Nat} {typeOk : Nat → Bool} {all : BitVec 16} {a : VerbAct} {l : Bytes}

theorem loadRef_ok {f : State → Handle → VerbAct} (hk : s.kld c k ref = .ok (h, t)) : loadRef s c k ref f = f t h := by
  simp [loadRef, hk]

theorem demand_ok (htype : typeOk h.key.attrs.keyType = true) (huse : h.key.attrs.usage &&& all = all) : demand s h typeOk all a = a := by
  simp [demand, demandError, htype, huse]

theorem useRef_ok {f : State → Handle → VerbAct} (hk : keyLoads s c k ref typeOk all h t) : useRef s c k ref typeOk all f = f t h := by
  obtain ⟨hload, htype, huse⟩ := hk
  rw [useRef, loadRef_ok hload, demand_ok htype huse]

theorem withKek_ok {f : State → Option Handle → VerbAct} {kek : Option Handle} (hk : kekLoads s c k ref kek t) :
    withKek s c k ref f = f t kek := by
  unfold withKek
  rcases hk with ⟨rfl, rfl, rfl⟩ | ⟨hne, w, rfl, hload⟩
  · exact if_pos rfl
  · rw [if_neg hne, useRef_ok hload]

theorem onSbu_ok {f : State → VerbAct} {blocks : Nat} (hs : s.sbu c k blocks = .ok t) : onSbu s c k blocks f = f t := by
  simp [onSbu, hs]

theorem onRandom_ok {f : State → Bytes → VerbAct} {n i len : Nat} (hd : verbDraws s n k len l t) :
    onRandom s (.tx n i) k len f = f t l := by
  simp [onRandom, expanderOf, hd]

theorem exportAs_ok {f : State → Bytes → VerbAct} {key : KeyMat} (hl : sealBlock w.key key (Config.freeBytes s.freeCtr 32) = .ok l)
    (hs : s.sbu c k (cdiv l.length 16) = .ok t) : exportAs s c k w key f = f { t with freeCtr := t.freeCtr + 1 } l := by
  rw [exportAs, hl]; exact onSbu_ok hs

end

section
variable {x : Instr} {s u : State} {n i : Nat} {k : Core} {a : VerbAct}

/-- A verb whose step comes to the key-out layout delivers its key (R192). -/
theorem verbActs.delivers {front : Bytes} {dest : Nat} {kek : Option Handle} {key : KeyMat} (h : verbActs x s n i k a)
    (ha : a = keyOut u (.tx n i) k front dest kek key) : keyDelivered x s u n i k front dest kek key := by
  intro s2 hsbu
  rw [keyOut, onSbu_ok hsbu] at ha
  refine ⟨fun hkek => ?stored, fun w l s3 hkek hseal hblocks => ?exported⟩
  case stored => subst hkek; exact h.commits ha
  case exported =>
    subst hkek
    refine (h.ends_good (ha.trans (exportAs_ok hseal hblocks))).trans ?_
    simp only [blockField, List.append_assoc]

/-- A verb whose step comes to the writing of a PIN block answers RESULT 0 and the block (R206). -/
theorem verbActs.writes_pin {df : Nat} {w : Handle} {canon pan : Bytes} (h : verbActs x s n i k a)
    (ha : a = writePin u (.tx n i) k df (keyBytes w.key) canon pan fun t out => good t (pinAnswer 0 out)) :
    pinWritten x s u n i k df w canon pan := by
  intro s2 hsbu
  rw [writePin, onSbu_ok hsbu] at ha
  refine ⟨fun hdf => ?plain, fun hdf rnd s3 hdraw => ?filled⟩
  case plain => exact h.ends_good (by rw [ha, if_pos hdf]; rfl)
  case filled => exact h.ends_good (by rw [ha, if_neg hdf, onRandom_ok hdraw]; rfl)

end

end Sys2Proof.Machine

/-! ### The key management verbs (O22) -/

namespace Sys2Proof.Machine

section
variable {s s1 s2 t : State} {c : CoreId} {k : Core} {h : Handle} {b : Bytes} {dest kek ref : Nat} {a : Attrs} {m : KeyMat} {ct : BlockContent}

/-- The forms of DEST_REF, KEK_REF and the template that KEY_GENERATE takes (R192, R203). -/
theorem destination_ok (h : dest ≠ 0 ∧ kek = 0 ∨ dest = 0 ∧ kek ≠ 0 ∧ a.usage &&& uExport ≠ 0) :
    oneOf dest kek = true ∧ templateExports kek a = true := by
  rcases h with ⟨hdest, rfl⟩ | ⟨rfl, hkek, huse⟩
  · simp [oneOf, templateExports, hdest]
  · exact ⟨by simp [oneOf, hkek], by simpa [templateExports, hkek, hasAny] using huse⟩

/-- A template without an error whose type is symmetric passes the check of KEY_GENERATE (R203). -/
theorem symTemplateError_none {world p : Nat} (h : templateError world p false a = none) (hsym : isSym a.keyType = true) :
    symTemplateError world p a = none := by
  have hform : templateMalformed false a = false := Bool.eq_false_iff.mpr fun hbad => by
    rw [templateError, if_pos hbad] at h
    cases h
  simp [symTemplateError, hform, hsym, h]

theorem keyBlockOk_of (hmin : 48 ≤ b.length) (hmax : b.length ≤ 4128) (hlen : leAt b 16 4 = b.length - 32) (hres : res b 20 12 = true) :
    keyBlockOk b = true := by
  simp only [keyBlockOk, hlen, hres, Bool.and_true, Bool.and_eq_true, decide_eq_true_eq, beq_iff_eq]
  omega

/-- A key block that opens and imports under a key that unwraps gives its key (R179). -/
theorem importUnder_ok {f : State → KeyMat → VerbAct} {blk : Bytes} (hworld : k.world = 1) (hk : keyLoads s c k ref isSym uUnwrap h s1)
    (hopen : openBlock h.key blk = .ok ct) (himport : importKey 1 k.partition (sourceParent h) none ct = .ok m)
    (hs : s1.sbu c k (cdiv blk.length 16) = .ok s2) : importUnder s c k ref blk f = f s2 m := by
  rw [importUnder, useRef_ok hk, hopen, hworld]
  simp only [himport, onSbu_ok hs]

/-- The check value of a symmetric key is that of R176 and draws nothing. -/
theorem checkOf_symmetric (h : isSym m.attrs.keyType = true) : s.checkOf m = (checkValue m, s) := by
  simp [State.checkOf, h]

end

/-- Settles O22: each verb passes its form checks, its keys load, and what it delivers is read off the key-out layout. -/
theorem keyVerbResults : Obligations.KeyVerbResults := by
  unfold Obligations.KeyVerbResults
  intro s s1 s2 s3 n i k h w kek m ct l
  dsimp only
  refine ⟨?generates, ?imports, ?exports, ?translates, ?invalidates, ?informs⟩
  case generates =>
    intro hrun hlen hdest hkek htmpl hsym hdraw
    obtain ⟨hone, hexport⟩ := destination_ok hdest
    have htmpl' := symTemplateError_none htmpl hsym
    refine (verbActs_of_frame rfl hrun).delivers ((if_neg ?form).trans ?run)
    case form => simp [hlen, hone, hexport]
    case run =>
      rw [withKek_ok hkek, hrun.2.1, htmpl']
      exact onRandom_ok hdraw
  case imports =>
    intro hrun hmin hmax hblk hres hA hB hkey hopen himport hsbu
    refine (verbActs_of_frame rfl hrun).delivers ((if_neg ?form).trans ?run)
    case form => simp [keyBlockOk_of hmin hmax hblk hres, hA, hB]
    case run => exact importUnder_ok hrun.2.1 hkey hopen himport hsbu
  case exports =>
    intro hrun hlen hA hB hload hwrap huse hseal hsbu
    obtain ⟨hloadW, htypeW, huseW⟩ := hwrap
    refine (verbActs_of_frame rfl hrun).ends_good ((if_neg ?form).trans ?run)
    case form => simp [hlen, hA, hB]
    case run =>
      rw [loadRef_ok hload, loadRef_ok hloadW, demand_ok rfl huse, demand_ok htypeW huseW, exportAs_ok hseal hsbu]
      rfl
  case translates =>
    intro hrun hmin hmax hblk hres hA hB hkey hopen himport hsbu s4 s5 hwrap hseal hsbu'
    refine (verbActs_of_frame rfl hrun).ends_good ((if_neg ?form).trans ?run)
    case form => simp [keyBlockOk_of hmin hmax hblk hres, hA, hB]
    case run =>
      rw [importUnder_ok hrun.2.1 hkey hopen himport hsbu, useRef_ok hwrap, exportAs_ok hseal hsbu']
      rfl
  case invalidates =>
    intro hrun hlen hA href hpart
    refine (verbActs_of_frame rfl hrun).commits ((if_neg ?form).trans ?run)
    case form => simp [hlen, hA]
    case run => simp [href, hpart]
  case informs =>
    intro hrun hlen hA hload hsbu
    refine ⟨(verbActs_of_frame rfl hrun).ends_good ((if_neg ?form).trans ?run), checkOf_symmetric⟩
    case form => simp [hlen, hA]
    case run => rw [loadRef_ok hload, onSbu_ok hsbu]

end Sys2Proof.Machine

/-! ### The PIN verbs (O23) -/

namespace Sys2Proof.Machine

/-- A RESULT word without a detail is the result and three zero bytes (R191). -/
theorem resultWord_zero (r : Nat) : resultWord r 0 = leBytes 1 r ++ zeros 3 := by
  rw [resultWord, List.append_assoc]; rfl

/-- The answer of a PIN translation without a block. -/
theorem pinAnswer_nil (r : Nat) : pinAnswer r [] = leBytes 1 r ++ zeros 3 ++ zeros 12 ++ zeros 16 := by
  rw [pinAnswer, resultWord_zero]; rfl

theorem isAes256_of {t : Nat} (h : t = 5) : isAes256 t = true := by simp [isAes256, h]

/-- Settles O23: with both keys loaded and serving, each verb's answer is a case split on which PIN blocks are well-formed. -/
theorem pinVerbResults : Obligations.PinVerbResults := by
  unfold Obligations.PinVerbResults
  intro s s1 s2 s3 n i k h w x y f
  dsimp only
  refine ⟨?translates, ?makes, ?verifies, ?compares⟩
  case translates =>
    intro hrun hlen hres hA hB hblk hdf hiso hpan hload hloadW htype huse htypeW huseW hsbu
    have hform : ¬ (leAt k.req.body 48 1 = 4 ∧ leAt k.req.body 49 1 ≠ 4) := fun ⟨h4, hne⟩ => hne (hiso h4)
    have hacts := verbActs_of_frame (x := .pinTranslate (.tx n i)) rfl hrun
    dsimp only at hacts
    rw [if_neg (by simp [hlen, hres, hA, hB, hblk, hdf, hform, hpan]), loadRef_ok hload, loadRef_ok hloadW, demand_ok htype huse,
      demand_ok htypeW huseW, onSbu_ok hsbu] at hacts
    refine ⟨fun hbad => ?bad, fun hgood => ?good⟩
    case bad => exact hacts.ends_good (by rw [hbad, pinAnswer_nil])
    case good => exact hacts.writes_pin (by rw [hgood])
  case makes =>
    intro hrun hlen hres hA hB hblk hpan hload hloadW htype huse htypeW huseW hsbu
    have hacts := verbActs_of_frame (x := .pinMakeReference (.tx n i)) rfl hrun
    dsimp only at hacts
    rw [if_neg (by simp [hlen, hres, hA, hB, hblk, hpan]), loadRef_ok hload, loadRef_ok hloadW, demand_ok htype huse,
      demand_ok (isAes256_of htypeW) huseW, onSbu_ok hsbu] at hacts
    refine ⟨fun hbad => ?bad, fun hgood iv s4 hdraw => ?good⟩
    case bad => exact hacts.ends_good (by rw [hbad, ← resultWord_zero])
    case good => exact hacts.ends_good (by rw [hgood]; dsimp only; rw [onRandom_ok hdraw, ← resultWord_zero]; rfl)
  case verifies =>
    intro hrun hlen hres hA hB hblk hpan hload hloadW htype huse htypeW huseW hsbu
    have hacts := verbActs_of_frame (x := .pinVerifyReference (.tx n i)) rfl hrun
    dsimp only at hacts
    rw [if_neg (by simp [hlen, hres, hA, hB, hblk, hpan]), loadRef_ok hload, loadRef_ok hloadW, demand_ok htype huse,
      demand_ok (isAes256_of htypeW) huseW, onSbu_ok hsbu] at hacts
    refine ⟨fun hbad => ?reference, fun href => ⟨fun hbad => ?block, fun hgood => ?compared⟩⟩
    case reference => exact hacts.ends_good (by rw [hbad, ← resultWord_zero])
    case block => exact hacts.ends_good (by rw [href, hbad, ← resultWord_zero])
    case compared => exact hacts.ends_good (by rw [href, hgood]; dsimp only; rw [← resultWord_zero, withPan])
  case compares =>
    intro hrun hlen hres hA hB hblk hblk' hpan hload hloadW htype huse htypeW huseW hsbu
    have hacts := verbActs_of_frame (x := .pinCompare (.tx n i)) rfl hrun
    dsimp only at hacts
    rw [if_neg (by simp [hlen, hres, hA, hB, hblk, hblk', hpan]), loadRef_ok hload, loadRef_ok hloadW, demand_ok htype huse,
      demand_ok htypeW huseW, onSbu_ok hsbu] at hacts
    refine ⟨fun hbad => ?first, fun hgood => ⟨fun hgood' => ?compared, fun hbad => ?second⟩⟩
    case first => exact hacts.ends_good (by rw [hbad, ← resultWord_zero])
    case compared => exact hacts.ends_good (by rw [hgood, hgood']; dsimp only; rw [← resultWord_zero])
    case second => exact hacts.ends_good (by rw [hgood, hbad, ← resultWord_zero])

end Sys2Proof.Machine

/-! ### The card cryptogram and MAC verbs (O24) -/

namespace Sys2Proof.Machine

/-- An issuer master key that serves goes on with its handle (R240). -/
theorem useMaster_ok {s t : State} {c : CoreId} {k : Core} {ref pad : Nat} {h : Handle} {f : State → Handle → VerbAct}
    (hk : keyLoads s c k ref (padKeyType pad) uDerive h t ∧ deriveClass h.key.attrs = 3) : useMaster s c k ref pad f = f t h := by
  obtain ⟨hload, hclass⟩ := hk
  rw [useMaster, useRef_ok hload, if_neg (not_not_intro hclass)]

/-- Settles O24: past the form checks and the key each verb answers the MAC or the comparison its body names. -/
theorem cardAndMacVerbResults : Obligations.CardAndMacVerbResults := by
  unfold Obligations.CardAndMacVerbResults
  intro s s1 s2 n i k h
  dsimp only
  refine ⟨?arqc, ?arpc, ?script, ?generates, ?verifies⟩
  case arqc =>
    intro hrun hform hmaster hsbu
    have hacts := verbActs_of_frame (x := .arqcVerify (.tx n i)) rfl hrun
    dsimp only at hacts
    rw [if_neg (ne_false_of_eq_true hform), useMaster_ok hmaster, onSbu_ok hsbu] at hacts
    refine ⟨fun hmatch => hacts.ends_good ?same, fun hdiffer => hacts.ends_good ?other⟩
    case same => rw [if_pos hmatch, resultWord_zero]
    case other => rw [if_neg hdiffer, resultWord_zero]
  case arpc =>
    intro hrun hform hmaster hsbu
    refine (verbActs_of_frame rfl hrun).ends_good ((if_neg (ne_false_of_eq_true hform)).trans ?_)
    rw [useMaster_ok hmaster, onSbu_ok hsbu, ← resultWord_zero]
  case script =>
    intro hrun hlen hmin hmax hA hres hpan hpad hres' hres'' hmaster hsbu
    refine (verbActs_of_frame rfl hrun).ends_good ((if_neg ?form).trans ?run)
    case form => simp [hlen, hA, hres, hpan, hpad, hres', hres'', hmax, Nat.ne_of_gt hmin]
    case run => rw [useMaster_ok hmaster, onSbu_ok hsbu]
  case generates =>
    intro hrun hlen hA hres hform hkey hsbu
    refine (verbActs_of_frame rfl hrun).ends_good ((if_neg ?form).trans ?run)
    case form => simp [hlen, hA, hres, hform]
    case run => rw [useRef_ok hkey, onSbu_ok hsbu]
  case verifies =>
    intro hrun hlen hA hres hform hkey hsbu
    refine (verbActs_of_frame rfl hrun).ends_good ((if_neg ?form).trans ?run)
    case form => simp [hlen, hA, hres, hform]
    case run => rw [useRef_ok hkey, onSbu_ok hsbu, ← resultWord_zero]

end Sys2Proof.Machine

/-! ### The DUKPT verbs (O25) -/

namespace Sys2Proof.Machine

/-- A base derivation key of class 1 or 2 that serves goes on with its handle (R240). -/
theorem useBdk_ok {s t : State} {c : CoreId} {k : Core} {ref : Nat} {typeOk : Nat → Bool} {h : Handle} {f : State → Handle → VerbAct}
    (hk : keyLoads s c k ref typeOk uDerive h t ∧ (deriveClass h.key.attrs = 1 ∨ deriveClass h.key.attrs = 2)) :
    useBdk s c k ref typeOk f = f t h := by
  obtain ⟨hload, hclass⟩ := hk
  rw [useBdk, useRef_ok hload, if_neg fun ⟨h1, h2⟩ => hclass.elim h1 h2]

/-- A translation from a working key answers RESULT 2 for a block that is not well-formed, and else writes the block anew (R205, R206). -/
theorem verbActs.translates {x : Instr} {s u : State} {n i sf df : Nat} {k : Core} {a : VerbAct} {key blk pan canon : Bytes} {w : Handle}
    (h : verbActs x s n i k a) (ha : a = translateFrom u (.tx n i) k sf key blk pan df w) :
    (readPin sf key blk (panField sf (panDigits pan)) = none → verbEnds x s u n i k 0 (leBytes 1 2 ++ zeros 3 ++ zeros 28)) ∧
    (readPin sf key blk (panField sf (panDigits pan)) = some canon →
      pinWritten x s u n i k df w canon (panField df (panDigits pan))) := by
  unfold translateFrom at ha
  refine ⟨fun hbad => ?bad, fun hgood => ?good⟩
  case bad => rw [hbad] at ha; exact h.ends_good ha
  case good => rw [hgood] at ha; exact h.writes_pin ha

/-- Settles O25: past the form checks and the base key, each verb's answer is that of its derived working key. -/
theorem dukptVerbResults : Obligations.DukptVerbResults := by
  unfold Obligations.DukptVerbResults
  intro s s1 s2 s3 s4 n i k h w x l
  dsimp only
  refine ⟨?aesPin, ?aesData, ?aesMac, ?tdesPin, ?tdesData, ?tdesMac, ?initial⟩
  case aesPin =>
    intro hrun hlen hA hB hres hksn hwt hdf hpan hbase hkey hsbu
    obtain ⟨hload, htype, huse⟩ := hkey
    refine (verbActs_of_frame rfl hrun).translates ((if_neg ?form).trans ?run)
    case form => simp [hlen, hA, hB, hres, hksn, hwt, hdf, hpan]
    case run => rw [useBdk_ok hbase, loadRef_ok hload, hdf, demand_ok (by simpa [pinKeyType] using htype) huse, onSbu_ok hsbu]
  case aesData =>
    intro hrun hlen hA hsym husage hres hres' hdata hksn hbase hsbu
    refine (verbActs_of_frame rfl hrun).ends_good ((if_neg ?form).trans ?run)
    case form => simp [hlen, hA, hsym, husage, hres, hres', hdata, hksn]
    case run => rw [useBdk_ok hbase, onSbu_ok hsbu]
  case aesMac =>
    intro hrun hlen hA hsym hthree hmin hmax hres hres' hdata hdata' hksn hbase hsbu
    refine (verbActs_of_frame rfl hrun).ends_good ((if_neg ?form).trans ?run)
    case form => simp [hlen, hA, hsym, hthree, hmin, hmax, hres, hres', hdata', hksn, Nat.ne_of_gt hdata]
    case run => rw [useBdk_ok hbase, onSbu_ok hsbu, ← resultWord_zero]
  case tdesPin =>
    intro hrun hlen hA hB hres hksn hblk hdf hpan hbase hkey hsbu
    obtain ⟨hload, htype, huse⟩ := hkey
    refine (verbActs_of_frame rfl hrun).translates ((if_neg ?form).trans ?run)
    case form => simp [hlen, hA, hB, hres, hksn, hblk, hdf, hpan]
    case run => rw [useBdk_ok hbase, loadRef_ok hload, demand_ok htype huse, onSbu_ok hsbu]
  case tdesData =>
    intro hrun hlen hA hdir hres hres' hres'' hdata hksn hbase hsbu
    refine (verbActs_of_frame rfl hrun).ends_good ((if_neg ?form).trans ?run)
    case form => simp [hlen, hA, hdir, hres, hres', hres'', hdata, hksn]
    case run => rw [useBdk_ok hbase, onSbu_ok hsbu]
  case tdesMac =>
    intro hrun hlen hA hdir hmin hmax hres hres' hres'' hdata hdata' hksn hbase hsbu
    refine (verbActs_of_frame rfl hrun).ends_good ((if_neg ?form).trans ?run)
    case form => simp [hlen, hA, hdir, hmin, hmax, hres, hres', hres'', hdata', hksn, Nat.ne_of_gt hdata]
    case run => rw [useBdk_ok hbase, onSbu_ok hsbu, ← resultWord_zero]
  case initial =>
    intro hrun hlen hA hB hres hkey hsbu
    refine ⟨fun hscheme hwt hksn hbase hseal hblocks => ?aes, fun hscheme hwt hres' hksn hbase hseal hblocks => ?tdes⟩
    case aes =>
      refine (verbActs_of_frame rfl hrun).ends_good ((if_neg ?form).trans ?run)
      case form => simp [hlen, hA, hB, hres, hscheme, hwt, hksn]
      case run =>
        simp only [hscheme, if_true]
        rw [useBdk_ok hbase, useRef_ok hkey, onSbu_ok hsbu, exportAs_ok hseal hblocks, blockField]
    case tdes =>
      refine (verbActs_of_frame rfl hrun).ends_good ((if_neg ?form).trans ?run)
      case form => simp [hlen, hA, hB, hres, hscheme, hwt, hres', hksn]
      case run =>
        simp only [hscheme, if_neg (show ¬ (2 : Nat) = 1 by decide)]
        rw [useBdk_ok hbase, useRef_ok hkey, onSbu_ok hsbu, exportAs_ok hseal hblocks, blockField]

end Sys2Proof.Machine

/-! ### The lane jobs of verbs (R198, R270) -/

namespace Sys2Proof.Machine

/-- A lane job that asks for the same work as another: only its lane, its slot and what it has run may differ. -/
def LaneJob.sameWork (j q : LaneJob) : Prop :=
  ∃ place slot at0 run, q = { j with place := place, slot := slot, assignedAt := at0, blocksRun := run }

theorem LaneJob.sameWork_refl (j : LaneJob) : j.sameWork j := ⟨_, _, _, _, rfl⟩

theorem LaneJob.sameWork_trans {j q r : LaneJob} (h : j.sameWork q) (h' : q.sameWork r) : j.sameWork r := by
  obtain ⟨_, _, _, _, rfl⟩ := h
  obtain ⟨_, _, _, _, rfl⟩ := h'
  exact ⟨_, _, _, _, rfl⟩

/-- A job that asks for this work is in the module. -/
def State.holdsWork (s : State) (j : LaneJob) : Prop := ∃ q ∈ s.laneJobs, j.sameWork q

section
variable {s : State} {j : LaneJob}

theorem State.updLaneJob_holdsWork {h : Nat} {f : LaneJob → LaneJob} (hf : ∀ q : LaneJob, q.sameWork (f q)) (hs : s.holdsWork j) :
    (s.updLaneJob h f).holdsWork j := by
  obtain ⟨q, hmem, hq⟩ := hs
  refine ⟨_, List.mem_map_of_mem hmem, ?_⟩
  split
  · exact LaneJob.sameWork_trans hq (hf q)
  · exact hq

theorem State.preemptLane_holdsWork (n : Nat) (hs : s.holdsWork j) : (s.preemptLane n).holdsWork j := by
  unfold State.preemptLane
  split
  · split
    · exact State.updLaneJob_holdsWork (fun q => ⟨_, _, _, _, rfl⟩) hs
    · exact hs
  · exact hs

theorem State.placeOn_holdsWork (h n : Nat) (hs : s.holdsWork j) : (s.placeOn h n).holdsWork j :=
  State.preemptLane_holdsWork n (State.updLaneJob_holdsWork (fun _ => ⟨_, _, _, _, rfl⟩) hs)

theorem State.assignLane_laneJobs (s : State) : s.assignLane.2.laneJobs = s.laneJobs := by
  unfold State.assignLane; dsimp only; split <;> rfl

/-- A job that is submitted is in the module, on a lane or waiting for one. -/
theorem State.submitLane_holdsWork (s : State) (j : LaneJob) : (s.submitLane j).holdsWork j := by
  have hadded : ({ s with nextHandle := s.nextHandle + 1, laneJobs := s.laneJobs ++ [j] } : State).holdsWork j :=
    ⟨j, by simp, j.sameWork_refl⟩
  unfold State.submitLane
  dsimp only
  split
  · exact hadded
  · split
    next hassign =>
      refine State.placeOn_holdsWork _ _ ?_
      obtain ⟨q, hmem, hq⟩ := hadded
      refine ⟨q, ?_, hq⟩
      rw [← State.assignLane_laneJobs, hassign] at hmem
      exact hmem
    next => exact hadded

end

section
variable {x : Instr} {s u : State} {n i : Nat} {k : Core} {a : VerbAct} {c : CoreId} {j : LaneJob} {start : VerbAct}
  {fin : LaneJob → Status → VerbAct}

theorem onLane_start (h : s.laneJobs.find? (·.core == c) = none) : s.onLane c start fin = start := by simp [State.onLane, h]

theorem onLane_waits (h : s.laneJobs.find? (·.core == c) = some j) (hj : ∀ st, j.place ≠ .done st) :
    s.onLane c start fin = .waits s (.job j.handle) := by
  unfold State.onLane
  rw [h]
  dsimp only
  split
  next st hdone => exact absurd hdone (hj st)
  next => rfl

theorem onLane_done {st : Status} (h : s.laneJobs.find? (·.core == c) = some j) (hj : j.place = .done st) :
    s.onLane c start fin = fin j st := by simp [State.onLane, h, hj]

/-- A verb whose step submits a lane job: the core waits for the job, which the module then holds. -/
theorem verbActs.submits_lane {k' : Core} {mode tagB len : Nat} {stream ivKey : Bool} {h : Handle} {iv tag aad data : Bytes}
    (hacts : verbActs x s n i k a) (ha : a = u.startLane (.tx n i) k' mode tagB stream ivKey h iv tag aad data len) :
    ∃ v, exec x s = .next v ∧ v.core? (.tx n i) = some
        { k' with wait := .job u.nextHandle, jobs := (u.nextHandle, true) :: k'.jobs, outFrozen := k'.outFrozen || stream,
                  streamJob := if stream then some u.nextHandle else k'.streamJob } ∧
      ∃ q ∈ v.laneJobs, q.handle = u.nextHandle ∧ q.core = .tx n i ∧ q.mode = mode ∧ q.stream = stream ∧ q.key = h ∧ q.iv = iv ∧
        q.aad = aad ∧ q.source = data ∧ q.dataLen = len := by
  subst ha
  refine ⟨_, hacts, State.core?_setCore_same .., ?_⟩
  obtain ⟨q, hmem, _, _, _, _, rfl⟩ := u.submitLane_holdsWork
    { handle := u.nextHandle, core := .tx n i, ticket := k'.req.ticket, partition := k'.req.partition, rank := classRank k'.cls,
      submitted := u.mono, assignedAt := u.mono, mode := mode, stream := stream, ivFromKey := ivKey, key := h,
      tagBytes := tagB, iv := iv, expected := if mode = 5 ∨ mode = 7 then tag.take tagB else [], aad := aad, source := data,
      dataLen := len, destOffset := 0, tagOffset := 0, ivOffset := 0, place := .unassigned }
  exact ⟨_, hmem, rfl, rfl, rfl, rfl, rfl, rfl, rfl, rfl, rfl⟩

end

end Sys2Proof.Machine

/-! ### The data verbs (O26) -/

namespace Sys2Proof.Machine

section
variable {s : State} {n i : Nat} {k : Core}

/-- The two data verbs have one body, and so have the two bulk verbs (R213, R215). -/
theorem verbActs_data (enc : Bool) (h : verbRuns s n i k (if enc then 0x0601 else 0x0602)) :
    verbActs (if enc then .dataEncrypt (.tx n i) else .dataDecrypt (.tx n i)) s n i k (dataVerb s (.tx n i) k enc) := by
  cases enc <;> exact verbActs_of_frame (f := fun k => dataVerb s (.tx n i) k _) rfl h

theorem verbActs_bulk (enc : Bool) (h : verbRuns s n i k (if enc then 0x0603 else 0x0604)) :
    verbActs (if enc then .bulkEncrypt (.tx n i) else .bulkDecrypt (.tx n i)) s n i k (bulkVerb s (.tx n i) k enc) := by
  cases enc <;> exact verbActs_of_frame (f := fun k => bulkVerb s (.tx n i) k _) rfl h

theorem onUnits_iff (mode t len : Nat) : onUnits mode t len = true ↔ isTdes t = true ∨ mode ≠ 3 ∧ len ≤ 256 := by
  simp [onUnits]

/-- A shorter slice is the front of a longer one. -/
theorem take_slice (b : Bytes) (o : Nat) {m len : Nat} (h : m ≤ len) : (slice b o len).take m = slice b o m := by
  rw [slice, slice, fit, fit, List.take_take, Nat.min_eq_left h, List.take_append, List.take_append, List.take_replicate, List.take_replicate]
  congr 2
  omega

/-- TOKENISE and DETOKENISE answer the text with its middle through FF1 (R216). -/
theorem tokenVerb_ok {s1 s2 : State} {c : CoreId} {usage : BitVec 16} {h : Handle} {f : Bytes → Nat → Bytes → List Nat → List Nat}
    (hform : tokenOk k.req.body = true) (hk : keyLoads s c k (leAt k.req.body 0 8) isAes usage h s1)
    (hs : s1.sbu c k (ff1Blocks (leAt k.req.body 8 1) (leAt k.req.body 12 1 - leAt k.req.body 9 1 - leAt k.req.body 10 1)
      (slice k.req.body 16 (leAt k.req.body 11 1)).length) = .ok s2) :
    let b := k.req.body
    let text := slice b 48 (leAt b 12 1)
    let m := leAt b 12 1 - leAt b 9 1 - leAt b 10 1
    tokenVerb s c k usage f = good s2 (leBytes 1 (leAt b 12 1) ++ zeros 15 ++ fit 64 (text.take (leAt b 9 1) ++
      fit m ((f (keyBytes h.key) (leAt b 8 1) (slice b 16 (leAt b 11 1)) (numerals (slice text (leAt b 9 1) m))).map digitChar) ++
      text.drop (leAt b 9 1 + m))) := by
  dsimp only
  unfold tokenVerb
  dsimp only
  rw [if_neg (ne_false_of_eq_true hform), useRef_ok hk, onSbu_ok hs]

end

/-- Settles O26: a verb without a job answers at once from a short-block unit or submits its lane job; a verb with one waits for it or ends
with it. -/
theorem dataVerbResults : Obligations.DataVerbResults := by
  unfold Obligations.DataVerbResults
  intro s s1 s2 n i k h l j st
  dsimp only
  refine ⟨fun enc hrun hform => ?data, fun enc hrun hform => ?bulk, fun hform hsbu => ?tokens, fun hform hsbu => ?wrapped⟩
  case data =>
    have hacts := verbActs_data enc hrun
    unfold dataVerb at hacts
    dsimp only at hacts
    rw [if_neg (ne_false_of_eq_true hform)] at hacts
    refine ⟨fun hfree hkey hwhole => ?starts, fun hmine => ?goes⟩
    case starts =>
      have hblocks : ¬ (leAt k.req.body 8 1 = 1 ∧ leAt k.req.body 12 4 % blockLen h.key.attrs.keyType ≠ 0) :=
        fun ⟨hmode, hne⟩ => hne (hwhole hmode)
      rw [onLane_start hfree, useRef_ok hkey, if_neg hblocks] at hacts
      refine ⟨fun hshort hsbu => ?unit, fun htdes hlong => ?lane⟩
      case unit =>
        rw [if_pos ((onUnits_iff ..).mpr hshort), onSbu_ok hsbu] at hacts
        exact hacts.ends_good rfl
      case lane =>
        rw [if_neg fun hunit => ((onUnits_iff ..).mp hunit).elim (by simp [htdes]) (by omega)] at hacts
        obtain ⟨u, hx, hcore, q, hmem, hhandle, hqcore, hmode, hstream, hqkey, hiv, haad, hsource, hlen⟩ := hacts.submits_lane rfl
        refine ⟨u, _, hx, hcore, rfl, rfl, q, hmem, hhandle, hqcore, hmode, hstream, hqkey, ?_, haad, hsource, hlen⟩
        rw [hiv, take_slice _ _ (by decide)]
    case goes =>
      refine ⟨fun hbusy => ?waits, fun hdone => ?ended, fun hdone hst => ?failed⟩
      case waits => exact hacts.waits (onLane_waits hmine hbusy)
      case ended => exact hacts.ends_good (onLane_done hmine hdone)
      case failed => exact hacts.ends_status ((onLane_done hmine hdone).trans (if_neg hst))
  case bulk =>
    have hacts := verbActs_bulk enc hrun
    unfold bulkVerb at hacts
    dsimp only at hacts
    rw [if_neg (ne_false_of_eq_true hform)] at hacts
    refine ⟨fun hmine => ⟨fun hbusy => ?waits, fun hdone => ?ended⟩, fun hfree hkey => ?starts⟩
    case waits => exact hacts.waits (onLane_waits hmine hbusy)
    case ended => exact hacts.ends_status (onLane_done hmine hdone)
    case starts =>
      rw [onLane_start hfree, useRef_ok hkey] at hacts
      obtain ⟨u, hx, hcore, q, hmem, hhandle, hqcore, hmode, hstream, hqkey, _, haad, _, hlen⟩ := hacts.submits_lane rfl
      exact ⟨u, _, hx, hcore, rfl, rfl, Bool.or_true _, rfl, q, hmem, hhandle, hqcore, hmode, hstream, hqkey, haad, hlen⟩
  case tokens =>
    refine ⟨fun hrun hkey => ?tokenises, fun hrun hkey => ?detokenises⟩
    case tokenises => exact (verbActs_of_frame rfl hrun).ends_good (tokenVerb_ok hform hkey hsbu)
    case detokenises => exact (verbActs_of_frame rfl hrun).ends_good (tokenVerb_ok hform hkey hsbu)
  case wrapped =>
    refine ⟨fun hrun hmin hmax hkey => ?wraps, fun hrun hmin hmax hwhole hkey => ?unwraps⟩
    case wraps =>
      refine (verbActs_of_frame rfl hrun).ends_good ((if_neg ?form).trans ?run)
      case form => simp [hform, hmax, Nat.ne_of_gt hmin]
      case run => rw [useRef_ok hkey, onSbu_ok hsbu]
    case unwraps =>
      have hacts := verbActs_of_frame (x := .dataUnwrap (.tx n i)) rfl hrun
      dsimp only at hacts
      rw [if_neg (by simp [hform, hmin, hmax, hwhole]), useRef_ok hkey, onSbu_ok hsbu] at hacts
      refine ⟨fun hbad => ?broken, fun hgood => ?whole⟩
      case broken => exact hacts.ends_status (by rw [hbad])
      case whole => exact hacts.ends_good (by rw [hgood])

end Sys2Proof.Machine

/-! ### The asymmetric verbs (O27) -/

namespace Sys2Proof.Machine

section
variable {x : Instr} {s u : State} {n i : Nat} {k : Core} {a start : VerbAct} {fin : State → LneJob → Status → VerbAct}
  {Start : Prop} {ends : Status → Bool} {Fin : State → LneJob → Prop}

/-- A verb with a long-number job: what its start, a job that ended OK and the failing statuses that end it come to makes up how it runs (R198). -/
theorem verbActs.runs_lne (h : verbActs x s n i k a) (ha : a = s.onLne (.tx n i) start fin) (hstart : verbActs x s n i k start → Start)
    (hends : ∀ u j st, st ≠ 0 → ends st = true → fin u j st = .ends u st [])
    (hfin : ∀ u j, verbActs x s n i k (fin u j 0) → Fin u j) : lneVerb x s n i k Start ends Fin := by
  subst ha
  unfold State.onLne at h
  refine ⟨fun hfree => ?starts, fun j hmine => ⟨fun hbusy => ?waits, fun hdone => ?ended, fun st hdone hst hend => ?failed⟩⟩
  case starts => rw [hfree] at h; exact hstart h
  case waits =>
    rw [hmine] at h
    dsimp only at h
    split at h
    next st hdone => exact absurd hdone (hbusy st)
    next => exact h
  case ended => simp only [hmine, hdone] at h; exact hfin _ j h
  case failed => simp only [hmine, hdone] at h; exact h.ends_status (hends _ j st hst hend)

theorem lneEnd_ok (f : VerbAct) : lneEnd u 0 f = f := if_pos rfl

/-- A verb that every failing status of its job ends (R219). -/
theorem verbActs.runs_lne_every {g : State → LneJob → VerbAct} (h : verbActs x s n i k a)
    (ha : a = s.onLne (.tx n i) start fun u j st => lneEnd u st (g u j)) (hstart : verbActs x s n i k start → Start)
    (hfin : ∀ u j, verbActs x s n i k (g u j) → Fin u j) : lneVerb x s n i k Start (fun _ => true) Fin :=
  h.runs_lne ha hstart (fun _ _ _ hst _ => if_neg hst) fun u j hdone => hfin u j (by rwa [lneEnd_ok] at hdone)

/-- A verb whose step submits its job starts it where the operands fit and the staging memory has room (R290 to R293). -/
theorem verbActs.starts_lne {op p bits : Nat} {key : Option Handle} {ops : List Bytes} {tmpl : Bytes} (h : verbActs x s n i k a)
    (ha : a = u.submitLne (.tx n i) k op p bits key ops tmpl) : lneStarts x s u n i k op p bits key ops tmpl := by
  intro hops hbits hroom
  subst ha
  unfold State.submitLne at h
  dsimp only at h
  rwa [if_neg (by rw [hbits]; exact fun hbad => hbad.elim (ne_false_of_eq_true hops) Bool.noConfusion), if_neg (Nat.not_lt.mpr hroom)] at h

/-- A verb whose step comes to a shared secret derives the key of its template from it and delivers that (R192, R218); an own parent slot, which
the derivation takes as 0, is judged with the template. -/
theorem verbActs.delivers_secret {front tmpl context : Bytes} {dest kek : Nat} {p : Handle} {own : Bool} (hworld : k.world = 1)
    (h : verbActs x s n i k a) (ha : a = deliverSecret u (.tx n i) k front dest kek tmpl context (some p) own)
    (htmpl : own = true → templateError 1 k.partition false (parseAttrs tmpl) = none) :
    secretDelivered x s u n i k front dest kek (parseAttrs tmpl)
      (if own then { parseAttrs tmpl with parentSlot := 0 } else parseAttrs tmpl) context p := by
  intro h' v v2 w hderive hsbu hkek
  have hnone : (if own then templateError 1 k.partition false (parseAttrs tmpl) else none) = none := by
    split
    next hown => exact htmpl hown
    next => rfl
  unfold deliverSecret at ha
  dsimp only at ha
  rw [hworld, hnone, hderive] at ha
  dsimp only at ha
  rw [onSbu_ok hsbu, withKek_ok hkek] at ha
  exact h.delivers ha

/-- A verb that agrees on a secret with a key of its own, or decapsulates one, starts its job once both its keys are loaded, and delivers the key
derived from what the job made (R218). -/
theorem verbActs.agrees {s1 s2 : State} {op alg ref dest kek : Nat} {tmpl context : Bytes} {ops : List Bytes} {h : Handle} {w : Option Handle}
    (hworld : k.world = 1) (hacts : verbActs x s n i k a)
    (ha : a = s.onLne (.tx n i)
      (useRef s (.tx n i) k ref (· == algPrivate alg) uDerive fun s1 h => startSecret s1 (.tx n i) k kek fun s2 =>
        s2.submitLne (.tx n i) k op alg 0 (some h) ops [])
      fun u j st => lneEnd u st (deliverSecret u (.tx n i) k [] dest kek tmpl context j.resultKey false)) :
    lneVerb x s n i k
      (keyLoads s (.tx n i) k ref (· == algPrivate alg) uDerive h s1 → kekLoads s1 (.tx n i) k kek w s2 →
        lneStarts x s s2 n i k op alg 0 (some h) ops [])
      (fun _ => true) fun u j => ∀ p, j.resultKey = some p →
        secretDelivered x s u n i k [] dest kek (parseAttrs tmpl) (parseAttrs tmpl) context p := by
  refine hacts.runs_lne_every ha (fun hacts hkey hkek => ?starts) fun u j hacts p hp => ?ends
  case starts => exact hacts.starts_lne ((useRef_ok hkey).trans (withKek_ok hkek))
  case ends => exact hacts.delivers_secret (own := false) hworld (by rw [hp]) Bool.noConfusion

end

/-- Settles O27: each verb runs its one job; what it starts with is its request, and how it ends is read off the job's outcome. -/
theorem asymmetricVerbResults : Obligations.AsymmetricVerbResults := by
  unfold Obligations.AsymmetricVerbResults
  intro s s1 s2 n i k h kek
  dsimp only
  refine ⟨?sign, ?verify, ?keypair, ?decrypt, ?agree, ?encapsulate⟩
  case sign =>
    intro hrun hlen hA hparam hflags hres hmax hmsg
    refine (verbActs_of_frame rfl hrun).runs_lne_every ((if_neg ?form).trans rfl) (fun hacts hkey => ?starts) fun u j hacts => ?ends
    case form => simp [hlen, hA, hparam, hflags, hres, hmax, hmsg]
    case starts => exact hacts.starts_lne (useRef_ok hkey)
    case ends => exact hacts.ends_good rfl
  case verify =>
    intro hrun hlen hparam hflags hres hres' hres'' hres''' hmsg hverify
    have hacts := verbActs_of_frame (x := .verify (.tx n i)) rfl hrun
    dsimp only at hacts
    rw [if_neg (by simp [hlen, hparam, hflags, hres, hres', hres'', hres''', hmsg, hverify])] at hacts
    refine ⟨hacts.runs_lne rfl (fun hstart => ⟨fun hA => ?given, fun hA hkey => ?stored⟩) (fun u j st hst hend => ?failed) fun u j hdone => ?valid,
      fun j st hmine hdone hinvalid => ?invalid⟩
    case given => exact hstart.starts_lne (if_pos hA)
    case stored => exact hstart.starts_lne ((if_neg hA).trans (useRef_ok hkey))
    case failed =>
      simp only [Bool.and_eq_true, bne_iff_ne] at hend
      exact (if_neg fun hinvalid => hinvalid.elim hend.1 hend.2).trans (if_neg hst)
    case valid => exact hdone.ends_good rfl
    case invalid =>
      refine hacts.ends_good ?_
      simp only [State.onLne, hmine, hdone, if_pos hinvalid]
      rfl
  case keypair =>
    intro hrun hlen hA hres hres' hok
    refine (verbActs_of_frame rfl hrun).runs_lne_every ((if_neg ?form).trans rfl) (fun hacts htmpl htype => ?starts) fun u j hacts r hr => ?ends
    case form => simp [hlen, hA, hres, hres', hok]
    case starts => exact hacts.starts_lne (by rw [hrun.2.1, htmpl]; exact if_pos htype)
    case ends => exact hacts.commits (by rw [hr]; rfl)
  case decrypt =>
    intro hrun hlen hA hhash hres hlab hres'
    refine (verbActs_of_frame rfl hrun).runs_lne_every ((if_neg ?form).trans rfl) (fun hacts hkey => ?starts) fun u j hacts => ?ends
    case form => simp [hlen, hA, hhash, hres, hlab, hres']
    case starts => exact hacts.starts_lne (useRef_ok hkey)
    case ends => exact hacts.ends_good rfl
  case agree =>
    intro dec hrun hlen hA hone hparam hres hpeer hexport
    cases dec
    case false =>
      simp only [Bool.false_eq_true, reduceIte] at hparam hpeer
      refine (verbActs_of_frame rfl hrun).agrees hrun.2.1 ((if_neg ?_).trans rfl)
      simp [hlen, hA, hone, hparam, hres, hpeer, hexport]
    case true =>
      simp only [reduceIte] at hparam hpeer
      refine (verbActs_of_frame rfl hrun).agrees hrun.2.1 ((if_neg ?_).trans rfl)
      simp [hlen, hA, hone, hparam, hres, hpeer, hexport]
  case encapsulate =>
    intro hrun hlen hone hparam hres hres' hpeer hexport
    refine (verbActs_of_frame rfl hrun).runs_lne_every ((if_neg ?form).trans rfl) (fun hacts hkek => ?starts)
      fun u j hacts p hp htmpl => ?ends
    case form => simp [hlen, hone, hparam, hres, hres', hpeer, hexport]
    case starts => exact hacts.starts_lne (withKek_ok hkek)
    case ends => exact hacts.delivers_secret (own := true) hrun.2.1 (by rw [hp]; rfl) fun _ => htmpl

end Sys2Proof.Machine

/-! ### The module verbs (O28) -/

namespace Sys2Proof.Machine

/-! Random bits for a verb that had none of them yet (R319). -/

/-- A reader with no part of a draw of one length, whose expander serves it, has the bytes at once. -/
theorem tryReads_whole {s : State} {e len : Nat} {who : DrawReader} (hlen : 1 ≤ len) (hpart : s.drawPart e who = [])
    (hdraw : s.canDraw e (cdiv len 64) = true) : s.tryReads e who [len] = (some (s.random e len).1, (s.random e len).2) := by
  have hrest : restReads [len] ([] : Bytes).length = [len] := by
    simp [restReads, Nat.ne_of_gt hlen]
  simp only [State.tryReads, hpart, hrest]
  rw [if_pos (by simpa [readRequests] using hdraw)]
  rfl

/-! What issuing an index and building a tree keep (R450, R451). -/

/-- The next index, the durable state and the cores. -/
def State.signing (s : State) : Nat × Durable × List (CoreId × Core) := (s.plat.index, s.durable, s.cores)

section
variable {s : State}

theorem State.resumeLne_plat (s : State) (n : Nat) : (s.resumeLne n).plat = s.plat := by
  unfold State.resumeLne
  split
  · split
    · split
      · rw [State.updLneJob_plat]
        split
        · split <;> rfl
        · rfl
      · rfl
    · rfl
  · rfl

theorem State.wakeLne_plat (s : State) : s.wakeLne.plat = s.plat := by
  unfold State.wakeLne
  split
  · rfl
  · split
    · rfl
    · split <;> rfl

theorem State.dropLneJob_plat (s : State) (j : LneJob) : (s.dropLneJob j).plat = s.plat := by
  unfold State.dropLneJob
  split
  · split
    · rw [State.wakeLne_plat, State.resumeLne_plat]
    · rfl
  · rw [State.wakeLne_plat]

/-- Steps that keep the steady parts and the platform keep what a signature reads. -/
theorem State.signing_of_steady {t : State} (hsteady : t.steady = s.steady) (hplat : t.plat = s.plat) : t.signing = s.signing := by
  have hdurable : t.durable = s.durable := congrArg Steady.durable hsteady
  have hcores : t.cores = s.cores := congrArg Steady.cores hsteady
  rw [State.signing, hplat, hdurable, hcores, State.signing]

theorem State.dropLneJob_signing (s : State) (j : LneJob) : (s.dropLneJob j).signing = s.signing :=
  State.signing_of_steady (s.dropLneJob_steady j) (s.dropLneJob_plat j)

theorem State.addLne_signing (s : State) (j : LneJob) : (s.addLne j).signing = s.signing :=
  State.signing_of_steady (s.addLne_steady j) (State.wakeLne_plat _)

theorem State.takeTicket_signing (s : State) : s.takeTicket.2.signing = s.signing := by
  unfold State.takeTicket; dsimp only; split <;> rfl

/-- A run of steps that each keep what a signature reads keeps it. -/
theorem State.foldl_signing {α : Type} {f : State → α → State} (h : ∀ s a, (f s a).signing = s.signing) (l : List α) (s : State) :
    (l.foldl f s).signing = s.signing := by
  induction l generalizing s with
  | nil => rfl
  | cons a l ih => exact (ih (f s a)).trans (h s a)

theorem State.treeCollect_signing (s : State) : s.treeCollect.signing = s.signing := by
  unfold State.treeCollect
  split
  · rfl
  · refine (State.foldl_signing (fun u h => ?_) _ s)
    split
    · exact u.dropLneJob_signing _
    · rfl

theorem State.treeSubmit_signing (s : State) : s.treeSubmit.signing = s.signing := by
  unfold State.treeSubmit
  split
  · rfl
  · split
    · rfl
    · exact (State.addLne_signing _ _).trans s.takeTicket_signing

theorem State.treeWork_signing (s : State) : s.treeWork.signing = s.signing := by
  unfold State.treeWork
  dsimp only
  rw [State.treeSubmit_signing, State.treeSubmit_signing, State.treeCollect_signing]
  split <;> rfl

theorem State.measureSoFar_signing (s : State) : s.measureSoFar.signing = s.signing := by
  unfold State.measureSoFar
  split
  · split <;> rfl
  · rfl

/-- The index issued is the next one, and the one after it is next then. -/
theorem State.issueIndex_eq (s : State) :
    s.issueIndex.1 = s.plat.index ∧ s.issueIndex.2.signing = (s.plat.index + 1, s.durable, s.cores) := by
  refine ⟨rfl, ?_⟩
  unfold State.issueIndex
  dsimp only
  split <;> rfl

/-- An identity below its kept tree with valid caches signs where the bottom tree of its index is built (R451). -/
theorem Platform.canSign_of {p : Platform} (hkept : p.index < keptTree) (hcache : p.cacheOk = true)
    (htree : p.index % 2 ^ 20 ≠ 0 ∨ p.index = 0 ∨ p.treeNext = true) : p.canSign = true := by
  have hindex : p.index < 2 ^ 40 := Nat.lt_of_lt_of_le hkept (Nat.sub_le _ _)
  simp only [Platform.canSign, hcache, decide_eq_true hindex, Bool.true_and, Bool.or_eq_true, bne_iff_ne, beq_iff_eq]
  rwa [or_assoc]

end

section
variable {x : Instr} {s t : State} {n i : Nat} {k : Core} {a : VerbAct} {st : Status} {body : Bytes}

theorem verbActs.ends (h : verbActs x s n i k a) (ha : a = .ends t st body) : verbEnds x s t n i k st (if st = 0 then body else []) := by
  subst ha; exact h

theorem decidedVerb_ok (h : k.decided = some (st, body)) : decidedVerb s k = .ends s st body := by simp [decidedVerb, h]

end

/-- Settles O28: RANDOM is its draw, WAYBILL the next index of an identity that signs, and the other two their decided outcome. -/
theorem moduleVerbResults : Obligations.ModuleVerbResults := by
  unfold Obligations.ModuleVerbResults
  intro s u n i k st body l
  dsimp only
  refine ⟨fun hrun hlen hres hmin hmax => ⟨fun hdraw => ?random, fun hpart hdraw => ?served⟩, fun hrun hlen hscope hres => ?waybill,
    fun hdecided => ⟨fun hrun => ?flush, fun hrun => ?status⟩⟩
  case random =>
    refine (verbActs_of_frame rfl hrun).ends_good ((if_neg ?form).trans (onRandom_ok hdraw))
    simp [hlen, hres, hmax, Nat.ne_of_gt hmin]
  case served => exact tryReads_whole hmin hpart hdraw
  case waybill =>
    have hacts := verbActs_of_frame (x := .waybill (.tx n i)) rfl hrun
    dsimp only at hacts
    rw [if_neg (by simp [hlen, hscope, hres])] at hacts
    refine ⟨fun hkept => ?exhausted, fun hkept hsign => ?unavailable, fun hkept hcache htree => ?signs⟩
    case exhausted => exact hacts.ends_status (if_pos hkept)
    case unavailable => exact hacts.ends_status ((if_neg (Nat.not_le.mpr hkept)).trans (if_pos hsign))
    case signs =>
      rw [if_neg (Nat.not_le.mpr hkept), if_neg (ne_false_of_eq_true (Platform.canSign_of hkept hcache htree))] at hacts
      have hmeasured : (if leAt k.req.body 32 1 = 1 then s.measureSoFar else s).signing = s.signing := by
        split
        · exact s.measureSoFar_signing
        · rfl
      generalize (if leAt k.req.body 32 1 = 1 then s.measureSoFar else s) = t at hacts hmeasured ⊢
      obtain ⟨hindex, hdurable, hcores⟩ : t.plat.index = s.plat.index ∧ t.durable = s.durable ∧ t.cores = s.cores := by
        simpa [State.signing] using hmeasured
      obtain ⟨hissued, hafter⟩ := t.issueIndex_eq
      have hbuilt := t.issueIndex.2.treeWork_signing.trans hafter
      obtain ⟨hnext, hdurable', hcores'⟩ : t.issueIndex.2.treeWork.plat.index = t.plat.index + 1 ∧
          t.issueIndex.2.treeWork.durable = t.durable ∧ t.issueIndex.2.treeWork.cores = t.cores := by
        simpa [State.signing] using hbuilt
      exact ⟨_, hnext.trans (by rw [hindex]), hdurable'.trans hdurable, hcores'.trans hcores, hacts.ends_good (by rw [hissued, hindex])⟩
  case flush => exact (verbActs_of_frame rfl hrun).ends (decidedVerb_ok hdecided)
  case status => exact (verbActs_of_frame rfl hrun).ends (decidedVerb_ok hdecided)

end Sys2Proof.Machine

/-! ### The load of a stored key (O15) -/

namespace Sys2Proof.Machine

/-- What the checks 4 to 8 of R242 say of a key stored at a reference; `loadKey_permitted` ties it to the model. The clock of the
expiry is the one log 101 chooses for the worlds of the SC. -/
def storedKeyOutcome (s : State) (k : Core) (ref : Nat) (m : KeyMat) : Except Status KeyMat :=
  if isTombstone m.attrs then .error St.keyInvalidated
  else if m.attrs.worldMask.getLsbD k.world = false then .error St.keyWorldDenied
  else if m.attrs.lcMask &&& lcBit s.lifecycle = 0 then .error St.keyLifecycleDenied
  else if m.attrs.expiryS ≠ 0 ∧ m.attrs.expiryS * 10 ^ 9 ≤ (if k.world = 0 ∨ k.world = 3 then s.mono else k.dispatched) then
    .error St.keyExpired
  else if refKind ref ≠ 1 ∧ s.durable.ancestryOk k.partition k.snapshot m.attrs = false then .error St.keyAncestorInvalid
  else .ok m

section
variable {s : State} {c : CoreId} {k : Core} {d : KReg} {a : GReg} {ref : Nat} {m : KeyMat} {st : Status}

/-! The checks 1 to 3, of the reference, and the key that they lead to. -/

theorem loadKey_malformed (hform : refOk ref = false) : loadKey s k ref = .error St.keyMalformed := if_pos hform

theorem loadKey_otherPartition (hform : refOk ref = true) (hpart : refPartition ref ≠ k.partition) :
    loadKey s k ref = .error St.keyPartitionDenied :=
  (if_neg (ne_false_of_eq_true hform)).trans (if_pos hpart)

theorem loadKey_permitted (hform : refOk ref = true) (hpart : refPartition ref = k.partition) :
    loadKey s k ref = (s.durable.keyAt ref k.snapshot).elim (.error St.keyNotFound) (storedKeyOutcome s k ref) := by
  rw [loadKey, if_neg (ne_false_of_eq_true hform), if_neg (not_not_intro hpart)]
  cases s.durable.keyAt ref k.snapshot <;> rfl

/-! What the instruction does with the outcome. -/

/-- A reference that does not load ends the invocation with its status (R131). -/
theorem kld_refused (hready : coreReady s c k) (hload : loadKey s k (k.getG a).toNat = .error st) :
    exec (.kld c d a) s = .next (s.endWith c k st []) :=
  congrArg Host.Outcome.next (ghedoFor_refuse hready (by simp [State.kld, hload]))

/-- A reference that loads puts its handle into the key register and fills the stores (R131, R250). -/
theorem kld_loads (hready : coreReady s c k) (hload : loadKey s k (k.getG a).toNat = .ok m) :
    exec (.kld c d a) s = .next ((s.fillKey c (k.getG a).toNat m.attrs.parentSlot).setCore c
      ((k.setK d (some { ref := some (k.getG a).toNat, key := m })).stepped)) :=
  congrArg Host.Outcome.next
    (ghedoFor_done (k := k) (k' := (k.setK d (some { ref := some (k.getG a).toNat, key := m })).adv) hready (by simp [State.kld, hload]))

end

/-- Settles O15: the three checks of the reference come from `loadKey`, those of the stored key from `storedKeyOutcome`, each
reached past the checks before it. -/
theorem keyLoadResults : Obligations.KeyLoadResults := by
  unfold Obligations.KeyLoadResults
  intro s c k d a hready
  dsimp only
  refine ⟨fun hform => kld_refused hready (loadKey_malformed hform), fun hform =>
    ⟨fun hpart => kld_refused hready (loadKey_otherPartition hform hpart), fun hpart => ?permitted⟩⟩
  case permitted =>
    have hload := loadKey_permitted (s := s) hform hpart
    refine ⟨fun hkey => kld_refused hready (by rw [hload, hkey]; rfl), fun m hkey => ?stored⟩
    case stored =>
      rw [hkey, Option.elim_some] at hload
      refine ⟨fun hdead => kld_refused hready (hload.trans ?tombstone),
        fun hlive hworld => kld_refused hready (hload.trans ?world),
        fun hlive hworld hlc => kld_refused hready (hload.trans ?lifecycle),
        fun hlive hworld hlc hexpired => kld_refused hready (hload.trans ?expired),
        fun hlive hworld hlc hvalid horphan => kld_refused hready (hload.trans ?orphan),
        fun hlive hworld hlc hvalid hancestry => kld_loads hready (hload.trans ?loads)⟩
      case tombstone => exact if_pos (eq_true_of_ne_false hdead)
      case world => rw [storedKeyOutcome, if_neg (ne_true_of_eq_false hlive), if_pos (eq_false_of_ne_true hworld)]
      case lifecycle =>
        rw [storedKeyOutcome, if_neg (ne_true_of_eq_false hlive), if_neg (ne_false_of_eq_true hworld), if_pos (Decidable.not_not.mp hlc)]
      case expired =>
        rw [storedKeyOutcome, if_neg (ne_true_of_eq_false hlive), if_neg (ne_false_of_eq_true hworld), if_neg hlc, if_pos hexpired]
      case orphan =>
        rw [storedKeyOutcome, if_neg (ne_true_of_eq_false hlive), if_neg (ne_false_of_eq_true hworld), if_neg hlc, if_neg hvalid,
          if_pos horphan]
      case loads =>
        rw [storedKeyOutcome, if_neg (ne_true_of_eq_false hlive), if_neg (ne_false_of_eq_true hworld), if_neg hlc, if_neg hvalid,
          if_neg hancestry]

end Sys2Proof.Machine

/-! ### What the lanes' own work touches (R270 to R277) -/

namespace Sys2Proof.Machine

/-- Between two states only the lanes and their jobs differ. -/
def LanesOnly (s t : State) : Prop := ∃ jobs lanes, t = { s with laneJobs := jobs, lanes := lanes }

/-- Between two states only what a drawn IV takes differs: the key slots, the reservations asked for, the events. -/
def IvOnly (s t : State) : Prop := ∃ store seq raised, t = { s with store := store, seq := seq, raised := raised }

theorem LanesOnly.refl (s : State) : LanesOnly s s := ⟨s.laneJobs, s.lanes, rfl⟩
theorem LanesOnly.trans {s t u : State} : LanesOnly s t → LanesOnly t u → LanesOnly s u := by
  rintro ⟨_, _, rfl⟩ ⟨_, _, rfl⟩
  exact ⟨_, _, rfl⟩
theorem IvOnly.refl (s : State) : IvOnly s s := ⟨s.store, s.seq, s.raised, rfl⟩
theorem IvOnly.trans {s t u : State} : IvOnly s t → IvOnly t u → IvOnly s u := by
  rintro ⟨_, _, _, rfl⟩ ⟨_, _, _, rfl⟩
  exact ⟨_, _, _, rfl⟩

section
variable (s : State)

theorem State.updLaneJob_lanesOnly (h : Nat) (f : LaneJob → LaneJob) : LanesOnly s (s.updLaneJob h f) := ⟨_, _, rfl⟩
theorem State.setLane_lanesOnly (n : Nat) (l : Lane) : LanesOnly s (s.setLane n l) := ⟨_, _, rfl⟩

theorem State.preemptLane_lanesOnly (n : Nat) : LanesOnly s (s.preemptLane n) := by
  unfold State.preemptLane
  split
  · split
    · exact s.updLaneJob_lanesOnly ..
    · exact .refl s
  · exact .refl s

theorem State.placeOn_lanesOnly (h n : Nat) : LanesOnly s (s.placeOn h n) :=
  .trans (.trans (s.updLaneJob_lanesOnly ..) (State.setLane_lanesOnly ..)) (State.preemptLane_lanesOnly ..)

theorem State.assignLane_lanesOnly : LanesOnly s s.assignLane.2 := by
  unfold State.assignLane
  dsimp only
  split
  · exact ⟨_, _, rfl⟩
  · exact .refl s

theorem State.assignWaiting_lanesOnly (fuel : Nat) : LanesOnly s (s.assignWaiting fuel) := by
  induction fuel generalizing s with
  | zero => exact .refl s
  | succ fuel ih =>
    unfold State.assignWaiting
    split
    · exact .refl s
    · split
      next hassign =>
        have ht := hassign ▸ s.assignLane_lanesOnly
        exact ht.trans ((State.placeOn_lanesOnly ..).trans (ih _))
      next => exact .refl s

theorem State.vacate_lanesOnly (j : LaneJob) (n : Nat) : LanesOnly s (s.vacate j n) := by
  unfold State.vacate
  split
  · exact .refl s
  · exact s.setLane_lanesOnly ..

theorem State.finishLane_lanesOnly (h : Nat) (st : Status) (out tag : Bytes) : LanesOnly s (s.finishLane h st out tag) := by
  unfold State.finishLane
  split
  · exact .refl s
  · refine .trans ?_ (State.assignWaiting_lanesOnly ..)
    split
    · exact (s.updLaneJob_lanesOnly ..).trans (State.vacate_lanesOnly ..)
    · exact s.updLaneJob_lanesOnly ..

theorem State.touchSlot_ivOnly (r : Nat) : IvOnly s (s.touchSlot r) := by
  unfold State.touchSlot
  split
  · exact ⟨_, _, _, rfl⟩
  · split
    · exact .refl s
    · exact ⟨_, _, _, rfl⟩

theorem State.requestIv_ivOnly (r newR : Nat) : IvOnly s (s.requestIv r newR) := by
  unfold State.requestIv
  split
  · exact .refl s
  · exact ⟨_, _, _, rfl⟩

theorem State.scEvent_ivOnly (st : Status) (args : List Nat) : IvOnly s (s.scEvent st args) := ⟨_, _, _, rfl⟩

/-- What a draw can give (R280 to R284): a failure, a wait for the reservation it asked for, or an IV. -/
theorem State.drawIv_cases (j : LaneJob) : (∃ st, s.drawIv j = .fails st) ∨
    ∃ t, IvOnly s t ∧ (s.drawIv j = .waits t ∨ ∃ iv, s.drawIv j = .drawn iv t) := by
  unfold State.drawIv
  split
  · exact .inl ⟨_, rfl⟩
  next r _ =>
    have htouch := s.touchSlot_ivOnly r
    extract_lets t same store
    change IvOnly s t at htouch
    split
    next v k _ _ =>
      extract_lets top start t1
      split
      · exact .inl ⟨_, rfl⟩
      · split
        · exact .inr ⟨_, htouch.trans ((t.requestIv_ivOnly ..).trans (State.scEvent_ivOnly ..)), .inl rfl⟩
        · refine .inr ⟨_, htouch.trans ?_, .inr ⟨_, rfl⟩⟩
          have htaken : IvOnly t t1 := ⟨_, _, _, rfl⟩
          split
          · exact htaken.trans (State.requestIv_ivOnly ..)
          · exact htaken
    next => exact .inl ⟨_, rfl⟩

end

theorem State.drawIv_drawn {s t : State} {j : LaneJob} {iv : Bytes} (h : s.drawIv j = .drawn iv t) : IvOnly s t := by
  obtain ⟨st, hfails⟩ | ⟨u, hu, hwaits | ⟨iv', hdrawn⟩⟩ := s.drawIv_cases j
  · simp [h] at hfails
  · simp [h] at hwaits
  · simp only [h, IvDraw.drawn.injEq] at hdrawn
    exact hdrawn.2 ▸ hu

end Sys2Proof.Machine

/-! ### A running job takes its input (R268, R272) -/

namespace Sys2Proof.Machine

/-- A job goes on as another: what it was started with stays, and it has taken no less of its input. -/
structure LaneJob.GoesOn (j x : LaneJob) : Prop where
  handle : x.handle = j.handle
  place : x.place = j.place
  started : x.started = j.started
  iv : x.iv = j.iv
  position : j.position ≤ x.position

/-- Data that goes through a lane changes counter and chaining value of its job. -/
theorem LaneJob.feed_eq (j : LaneJob) (l : Bytes) : ∃ c ch, (j.feed l).1 = { j with counter := c, chain := ch } := by
  unfold LaneJob.feed
  dsimp only
  split
  case h_8 => split <;> exact ⟨_, _, rfl⟩
  all_goals exact ⟨_, _, rfl⟩

/-- A job starts with the IV it is given. -/
theorem LaneJob.begin_iv (j : LaneJob) (iv : Bytes) : (j.begin iv).iv = iv := by
  unfold LaneJob.begin
  dsimp only
  split <;> rfl

theorem LaneJob.begin_handle (j : LaneJob) (iv : Bytes) : (j.begin iv).handle = j.handle := by
  unfold LaneJob.begin
  dsimp only
  split <;> rfl

section
variable {s : State} {n : Nat} {r : LaneJob}

/-- An update of the jobs of a handle after all of them became one job. -/
theorem State.updLaneJob_const {x : LaneJob} {h : Nat} (hx : x.handle = h) (f : LaneJob → LaneJob) :
    (s.updLaneJob h fun _ => x).updLaneJob h f = s.updLaneJob h fun _ => f x := by
  simp only [State.updLaneJob, List.map_map]
  congr 1
  refine List.map_congr_left fun y _ => ?_
  by_cases hy : y.handle = h
  · simp [hy, hx]
  · simp [hy]

theorem State.releaseStream_eq (s : State) (j : LaneJob) : ∃ b e,
    s.releaseStream j = { s.updLaneJob j.handle (fun x => { x with released := x.released || b }) with egress := e } := by
  have hkept : ∃ b e, s = { s.updLaneJob j.handle (fun x => { x with released := x.released || b }) with egress := e } :=
    ⟨false, s.egress, by simp [State.updLaneJob]⟩
  unfold State.releaseStream
  split
  · exact hkept
  · split
    · exact hkept
    · exact ⟨true, _, by simp only [Bool.or_true]; rfl⟩

theorem State.streamOut_eq (s : State) (j : LaneJob) (out : Bytes) : ∃ e, s.streamOut j out = { s with egress := e } := by
  unfold State.streamOut
  split
  · exact ⟨s.egress, rfl⟩
  · exact ⟨_, rfl⟩

/-- What a lane does for its running job: the job goes on, the lane keeps its power and its key, and output may reach egress. -/
theorem State.laneAdvance_running (h : s.laneRunning n = some r) : ∃ x l e, r.GoesOn x ∧ l.power = (s.lane n).power ∧
    l.key = (s.lane n).key ∧ s.laneAdvance n = { (s.updLaneJob r.handle fun _ => x).setLane n l with egress := e } := by
  generalize hv : s.laneAdvance n = v
  unfold State.laneAdvance at hv
  split at hv
  next hnone => simp [h] at hnone
  next j hj =>
    obtain rfl : r = j := Option.some.inj (h.symm.trans hj)
    extract_lets l room head m d f fed j1 mask s1 at hv
    have hgoes : r.GoesOn j1 := by
      obtain ⟨c, ch, hf⟩ := r.feed_eq d
      have hj1 : j1 = { r with counter := c, chain := ch, position := r.position + d.length, blocksRun := r.blocksRun + m,
                               headDone := r.headDone + head, output := if r.stream then [] else r.output ++ f.2 } := by
        simp only [j1, fed, f, hf]
      rw [hj1]
      exact ⟨rfl, rfl, rfl, rfl, Nat.le_add_right ..⟩
    split at hv
    · obtain ⟨b, e, hrel⟩ := s1.releaseStream_eq j1
      obtain ⟨e', hout⟩ := (s1.releaseStream j1).streamOut_eq j1 f.2
      refine ⟨{ j1 with released := j1.released || b }, { l with mask := { l.mask with blocks := l.mask.blocks + head + m } }, e',
        ⟨hgoes.handle, hgoes.place, hgoes.started, hgoes.iv, hgoes.position⟩, rfl, rfl, ?_⟩
      rw [← hv, hout, hrel, ← State.updLaneJob_const hgoes.handle fun x => { x with released := x.released || b }, hgoes.handle]
      rfl
    · exact ⟨j1, { l with mask := { l.mask with blocks := l.mask.blocks + head + m } }, s1.egress, hgoes, rfl, rfl, hv.symm⟩

theorem State.laneAdvance_idle (h : s.laneRunning n = none) : s.laneAdvance n = s := by
  unfold State.laneAdvance
  rw [h]

/-- A lane's work touches the lanes, their jobs and egress. -/
theorem State.laneAdvance_lanesOnly (s : State) (n : Nat) : ∃ e, LanesOnly { s with egress := e } (s.laneAdvance n) := by
  cases hrun : s.laneRunning n with
  | none => exact ⟨s.egress, by rw [State.laneAdvance_idle hrun]; exact .refl s⟩
  | some r =>
    obtain ⟨x, l, e, -, -, -, heq⟩ := State.laneAdvance_running hrun
    exact ⟨e, by rw [heq]; exact ⟨_, _, rfl⟩⟩

@[simp] theorem State.laneAdvance_cores (s : State) (n : Nat) : (s.laneAdvance n).cores = s.cores := by
  obtain ⟨e, _, _, h⟩ := s.laneAdvance_lanesOnly n
  rw [h]
@[simp] theorem State.laneAdvance_durable (s : State) (n : Nat) : (s.laneAdvance n).durable = s.durable := by
  obtain ⟨e, _, _, h⟩ := s.laneAdvance_lanesOnly n
  rw [h]

@[simp] theorem State.setLane_lane (s : State) (n : Nat) (l : Lane) : (s.setLane n l).lane n = l := by
  simp [State.lane, getD]

/-- A lane keeps its power and its key while its job takes input. -/
theorem State.laneAdvance_lane (s : State) (n : Nat) :
    ((s.laneAdvance n).lane n).power = (s.lane n).power ∧ ((s.laneAdvance n).lane n).key = (s.lane n).key := by
  cases hrun : s.laneRunning n with
  | none => rw [State.laneAdvance_idle hrun]; exact ⟨rfl, rfl⟩
  | some r =>
    obtain ⟨x, l, e, -, hpower, hkey, heq⟩ := State.laneAdvance_running hrun
    have hlane : (s.laneAdvance n).lane n = l := by rw [heq]; exact State.setLane_lane _ n l
    rw [hlane]
    exact ⟨hpower, hkey⟩

theorem State.laneRunning_mem (h : s.laneRunning n = some r) : r ∈ s.laneJobs ∧ r.place = .running n := by
  refine ⟨List.mem_of_find?_eq_some h, ?_⟩
  simpa using List.find?_some h

end

end Sys2Proof.Machine

/-! ### The jobs of a handle -/

namespace Sys2Proof.Machine

/-- Every lane job of a handle is of a kind. -/
def State.eachJob (s : State) (h : Nat) (P : LaneJob → Prop) : Prop := ∀ x ∈ s.laneJobs, x.handle = h → P x

section
variable {s : State} {h h' n : Nat} {P Q : LaneJob → Prop} {f : LaneJob → LaneJob}

theorem State.updLaneJob_eachJob (hs : s.eachJob h P) (hf : ∀ x, P x → Q (f x)) : (s.updLaneJob h f).eachJob h Q := by
  intro y hy hh
  obtain ⟨x, hx, rfl⟩ := List.mem_map.mp hy
  by_cases hxh : x.handle = h
  · simpa only [hxh, if_true] using hf x (hs x hx hxh)
  · rw [if_neg hxh] at hh
    exact absurd hh hxh

/-- What an update makes of any job, all jobs of its handle are. -/
theorem State.updLaneJob_eachJob_all (s : State) (h : Nat) (hf : ∀ x, Q (f x)) : (s.updLaneJob h f).eachJob h Q :=
  State.updLaneJob_eachJob (P := fun _ => True) (fun _ _ _ => trivial) fun x _ => hf x

theorem State.updLaneJob_eachJob_other (hs : s.eachJob h P) (hne : h' ≠ h) (hf : ∀ x : LaneJob, x.handle = h' → (f x).handle = h') :
    (s.updLaneJob h' f).eachJob h P := by
  intro y hy hh
  obtain ⟨x, hx, rfl⟩ := List.mem_map.mp hy
  by_cases hxh : x.handle = h'
  · rw [if_pos hxh] at hh
    exact absurd ((hf x hxh).symm.trans hh) hne
  · rw [if_neg hxh] at hh ⊢
    exact hs x hx hh

/-- While a lane's job takes input, the jobs of a handle stay of a kind that going on keeps. -/
theorem State.laneAdvance_eachJob (hs : s.eachJob h P) (hP : ∀ r x, P r → r.GoesOn x → P x) : (s.laneAdvance n).eachJob h P := by
  cases hrun : s.laneRunning n with
  | none => rwa [State.laneAdvance_idle hrun]
  | some r =>
    obtain ⟨x, l, e, hgoes, -, -, heq⟩ := State.laneAdvance_running hrun
    rw [heq]
    by_cases hr : r.handle = h
    · subst hr
      have hPx : P x := hP r x (hs r (State.laneRunning_mem hrun).1 rfl) hgoes
      exact State.updLaneJob_eachJob hs fun _ _ => hPx
    · exact State.updLaneJob_eachJob_other hs hr fun _ _ => hgoes.handle

end

/-! ### A job that has left its lane (R274) -/

/-- A job that has completed: status, output and tag stand, and its slot, its key and its chaining value are gone. -/
def LaneJob.finished (st : Status) (out tag : Bytes) (x : LaneJob) : Prop :=
  x.place = .done st ∧ x.output = out ∧ x.tag = tag ∧ x.slot = none ∧ x.key = noKey ∧ x.chain = []

section
variable {s : State} {h h' n : Nat} {st : Status} {out tag : Bytes} {f : LaneJob → LaneJob} {x : LaneJob}

/-- A job at work is not of a handle whose jobs have all completed. -/
theorem State.eachJob.handle_ne (hs : s.eachJob h (LaneJob.finished st out tag)) (hx : x ∈ s.laneJobs)
    (hp : ∀ st, x.place ≠ .done st) : x.handle ≠ h :=
  fun hh => hp st (hs x hx hh).1

theorem State.laneAdvance_finished (hs : s.eachJob h (LaneJob.finished st out tag)) :
    (s.laneAdvance n).eachJob h (LaneJob.finished st out tag) := by
  cases hrun : s.laneRunning n with
  | none => rwa [State.laneAdvance_idle hrun]
  | some r =>
    obtain ⟨hr, hplace⟩ := State.laneRunning_mem hrun
    obtain ⟨x, l, e, hgoes, -, -, heq⟩ := State.laneAdvance_running hrun
    rw [heq]
    exact State.updLaneJob_eachJob_other hs (hs.handle_ne hr (by simp [hplace])) fun _ _ => hgoes.handle

theorem State.preemptLane_finished (hs : s.eachJob h (LaneJob.finished st out tag)) :
    (s.preemptLane n).eachJob h (LaneJob.finished st out tag) := by
  unfold State.preemptLane
  split
  next r hrun =>
    obtain ⟨hr, hplace⟩ := State.laneRunning_mem hrun
    split
    · exact State.updLaneJob_eachJob_other hs (hs.handle_ne hr (by simp [hplace])) fun _ hx => hx
    · exact hs
  next => exact hs

theorem State.placeOn_finished (hs : s.eachJob h (LaneJob.finished st out tag)) (hne : h' ≠ h) :
    (s.placeOn h' n).eachJob h (LaneJob.finished st out tag) :=
  State.preemptLane_finished (State.updLaneJob_eachJob_other hs hne fun _ hx => hx)

/-- A choice from a list that takes the first or goes by the choice from the rest takes one of them. -/
theorem mem_of_choice {best : List LaneJob → Option LaneJob} (hnil : best [] = none)
    (hcons : ∀ j l, best (j :: l) = some j ∨ best (j :: l) = best l) {l : List LaneJob} (hl : best l = some x) : x ∈ l := by
  induction l with
  | nil => simp [hnil] at hl
  | cons j l ih =>
    rcases hcons j l with h | h
    · simp [Option.some.inj (h.symm.trans hl)]
    · exact List.mem_cons_of_mem _ (ih (h.symm.trans hl))

theorem lowestTicket_mem {l : List LaneJob} (hl : lowestTicket l = some x) : x ∈ l := by
  refine mem_of_choice rfl (fun j l => ?_) hl
  cases h : lowestTicket l with
  | none => exact .inl (by simp [lowestTicket, h])
  | some q => by_cases hq : q.ticket < j.ticket <;> simp [lowestTicket, h, hq]

theorem laneHead_mem {l : List LaneJob} (hl : laneHead l = some x) : x ∈ l := by
  refine mem_of_choice rfl (fun j l => ?_) hl
  cases h : laneHead l with
  | none => exact .inl (by simp [laneHead, h])
  | some q => by_cases hq : laneBefore q j <;> simp [laneHead, h, hq]

theorem State.assignWaiting_finished (fuel : Nat) (hs : s.eachJob h (LaneJob.finished st out tag)) :
    (s.assignWaiting fuel).eachJob h (LaneJob.finished st out tag) := by
  induction fuel generalizing s with
  | zero => exact hs
  | succ fuel ih =>
    unfold State.assignWaiting
    split
    · exact hs
    next j hj =>
      obtain ⟨hmem, hplace⟩ := List.mem_filter.mp (lowestTicket_mem hj)
      have hne : j.handle ≠ h := hs.handle_ne hmem (by rw [beq_iff_eq.mp hplace]; simp)
      split
      next m t hassign =>
        have hjobs : t.laneJobs = s.laneJobs := by simpa [hassign] using s.assignLane_laneJobs
        have ht : t.eachJob h (LaneJob.finished st out tag) := fun x hx => hs x (hjobs ▸ hx)
        exact ih (State.placeOn_finished ht hne)
      next => exact hs

@[simp] theorem State.vacate_laneJobs (s : State) (j : LaneJob) (n : Nat) : (s.vacate j n).laneJobs = s.laneJobs := by
  unfold State.vacate
  split <;> rfl

/-- The end of a job, where its own update `hs` of the jobs holds: the lane is given up and taken by others. -/
theorem State.finishLane_eachJob {st' : Status} {out' tag' : Bytes} (hs : (s.updLaneJob h' fun x =>
      { x with place := .done st', waitIv := false, output := out', tag := tag', slot := none, counter := 0, chain := [], aad := [],
               source := [], expected := [], key := noKey }).eachJob h (LaneJob.finished st out tag))
    (hnone : s.laneJob? h' = none → s.eachJob h (LaneJob.finished st out tag)) :
    (s.finishLane h' st' out' tag').eachJob h (LaneJob.finished st out tag) := by
  unfold State.finishLane
  split
  next hj => exact hnone hj
  next j _ =>
    refine State.assignWaiting_finished _ ?_
    split
    · intro x hx
      rw [State.vacate_laneJobs] at hx
      exact hs x hx
    · exact hs

/-- The jobs of a handle that ends have completed. -/
theorem State.finishLane_same (s : State) (h : Nat) (st : Status) (out tag : Bytes) :
    (s.finishLane h st out tag).eachJob h (LaneJob.finished st out tag) := by
  refine State.finishLane_eachJob ?_ fun hnone x hx hh => ?_
  · exact s.updLaneJob_eachJob_all h fun _ => ⟨rfl, rfl, rfl, rfl, rfl, rfl⟩
  · simpa [hh] using List.find?_eq_none.mp hnone x hx

/-- The end of another job leaves completed ones as they are. -/
theorem State.finishLane_other {st' : Status} {out' tag' : Bytes} (hs : s.eachJob h (LaneJob.finished st out tag)) (hne : h' ≠ h) :
    (s.finishLane h' st' out' tag').eachJob h (LaneJob.finished st out tag) :=
  State.finishLane_eachJob (State.updLaneJob_eachJob_other hs hne fun _ hx => hx) fun _ => hs

theorem State.releaseStream_finished (j : LaneJob) (hs : s.eachJob h (LaneJob.finished st out tag)) :
    (s.releaseStream j).eachJob h (LaneJob.finished st out tag) := by
  obtain ⟨b, e, heq⟩ := s.releaseStream_eq j
  rw [heq]
  by_cases hj : j.handle = h
  · subst hj
    exact State.updLaneJob_eachJob hs fun _ hx => hx
  · exact State.updLaneJob_eachJob_other hs hj fun _ hx => hx

end

end Sys2Proof.Machine

/-! ### The start of a job on its lane (R271, R280, R287) -/

namespace Sys2Proof.Machine

/-- A job as it first starts: its context begins with an IV, with the quantum and the resume threshold in force. -/
def State.firstRun (s : State) (iv : Bytes) (x : LaneJob) : LaneJob :=
  { x.begin iv with quantum := s.quantum, resume := s.resumeBlocks }

/-- A job runs on a lane from a state in which its context is made by `f`. -/
def State.laneRun (s : State) (n : Nat) (j : LaneJob) (f : LaneJob → LaneJob) : State :=
  let l := if j.started then s.lane n else { s.lane n with shadowUsed := (s.lane n).shadowUsed + j.shadowUnits }
  ((s.updLaneJob j.handle fun x => { f x with place := .running n, started := true, blocksRun := 0 }).setLane n
    { l with power := .active, key := keyBytes j.key.key }).laneAdvance n

section
variable {s t : State} {n : Nat} {j : LaneJob} {f : LaneJob → LaneJob} {iv : Bytes} {st : Status}

/-- The sample of the wait that a job's first start leaves. -/
def State.startSample (s : State) (j : LaneJob) : State := s.sample (tapOf j.core) 13 (s.mono - j.submitted)

/-! What a start does, by whether the job has run before and where its IV comes from. -/

theorem State.laneStart_started (h : j.started = true) : s.laneStart n j = s.laneRun n j id := by
  simp [State.laneStart, State.laneRun, h]

theorem State.laneStart_given (h : j.started = false) (hiv : j.ivFromKey = false) :
    s.laneStart n j = (s.startSample j).laneRun n j (s.firstRun j.iv) := by
  simp only [State.laneStart, State.laneRun, h, hiv, Bool.false_eq_true, if_false]
  rfl

theorem State.laneStart_fails (h : j.started = false) (hiv : j.ivFromKey = true) (hd : (s.startSample j).drawIv j = .fails st) :
    s.laneStart n j = (s.startSample j).finishLane j.handle st [] [] := by
  rw [State.startSample] at hd
  simp [State.laneStart, State.startSample, h, hiv, hd]

theorem State.laneStart_waits (h : j.started = false) (hiv : j.ivFromKey = true) (hd : (s.startSample j).drawIv j = .waits t) :
    s.laneStart n j = t.updLaneJob j.handle fun x => { x with waitIv := true } := by
  rw [State.startSample] at hd
  simp [State.laneStart, h, hiv, hd]

theorem State.laneStart_drawn (h : j.started = false) (hiv : j.ivFromKey = true) (hd : (s.startSample j).drawIv j = .drawn iv t) :
    s.laneStart n j = t.laneRun n j (s.firstRun iv) := by
  have hlane : t.lane n = s.lane n := by
    obtain ⟨_, _, _, rfl⟩ := State.drawIv_drawn hd
    rfl
  rw [State.startSample] at hd
  simp only [State.laneStart, State.laneRun, h, hiv, hd, hlane, Bool.false_eq_true, if_false, if_true]
  rfl

/-- The jobs of the handle run on the lane, with an IV of the context that `f` makes. -/
theorem State.laneRun_eachJob {P : Bytes → Prop} (hf : ∀ x, P (f x).iv) :
    (s.laneRun n j f).eachJob j.handle fun x => x.place = .running n ∧ x.started = true ∧ P x.iv := by
  refine State.laneAdvance_eachJob ?_ ?_
  · exact s.updLaneJob_eachJob_all _ fun x => ⟨rfl, rfl, hf x⟩
  · rintro r x ⟨hplace, hstarted, hiv⟩ hgoes
    exact ⟨hgoes.place.trans hplace, hgoes.started.trans hstarted, hgoes.iv ▸ hiv⟩

/-- The job's key stands in the lane's key register, and the lane has work. -/
theorem State.laneRun_lane : ((s.laneRun n j f).lane n).key = keyBytes j.key.key ∧ ((s.laneRun n j f).lane n).power = .active := by
  obtain ⟨hpower, hkey⟩ := State.laneAdvance_lane ((s.updLaneJob j.handle fun x =>
    { f x with place := .running n, started := true, blocksRun := 0 }).setLane n
      { (if j.started then s.lane n else { s.lane n with shadowUsed := (s.lane n).shadowUsed + j.shadowUnits }) with
        power := .active, key := keyBytes j.key.key }) n
  rw [State.setLane_lane] at hpower hkey
  exact ⟨hkey, hpower⟩

@[simp] theorem State.laneRun_cores : (s.laneRun n j f).cores = s.cores := State.laneAdvance_cores ..
@[simp] theorem State.laneRun_durable : (s.laneRun n j f).durable = s.durable := State.laneAdvance_durable ..

/-- How a start can go (R271, R280): the job ends, waits for its reservation, or runs. -/
theorem State.laneStart_cases (s : State) (n : Nat) (j : LaneJob) :
    (∃ st, s.laneStart n j = (s.startSample j).finishLane j.handle st [] []) ∨
    (∃ t, IvOnly (s.startSample j) t ∧ s.laneStart n j = t.updLaneJob j.handle fun x => { x with waitIv := true }) ∨
    ∃ t f, (t = s ∨ IvOnly (s.startSample j) t) ∧ (∀ x : LaneJob, (f x).handle = x.handle) ∧ s.laneStart n j = t.laneRun n j f := by
  have hfirst (iv : Bytes) (x : LaneJob) : (s.firstRun iv x).handle = x.handle := x.begin_handle iv
  cases hstarted : j.started with
  | true => exact .inr (.inr ⟨s, id, .inl rfl, fun _ => rfl, State.laneStart_started hstarted⟩)
  | false =>
    cases hiv : j.ivFromKey with
    | false => exact .inr (.inr ⟨_, _, .inr (.refl _), hfirst j.iv, State.laneStart_given hstarted hiv⟩)
    | true =>
      obtain ⟨st, hfails⟩ | ⟨t, ht, hwaits | ⟨iv, hdrawn⟩⟩ := (s.startSample j).drawIv_cases j
      · exact .inl ⟨st, State.laneStart_fails hstarted hiv hfails⟩
      · exact .inr (.inl ⟨t, ht, State.laneStart_waits hstarted hiv hwaits⟩)
      · exact .inr (.inr ⟨t, _, .inr ht, hfirst iv, State.laneStart_drawn hstarted hiv hdrawn⟩)

@[simp] theorem State.finishLane_durable (s : State) (h : Nat) (st : Status) (out tag : Bytes) :
    (s.finishLane h st out tag).durable = s.durable := by
  obtain ⟨_, _, heq⟩ := s.finishLane_lanesOnly h st out tag
  rw [heq]

/-- A start changes nothing durable. -/
theorem State.laneStart_durable (s : State) (n : Nat) (j : LaneJob) : (s.laneStart n j).durable = s.durable := by
  obtain ⟨st, heq⟩ | ⟨t, ⟨_, _, _, rfl⟩, heq⟩ | ⟨t, f, rfl | ⟨_, _, _, rfl⟩, -, heq⟩ := s.laneStart_cases n j
  · rw [heq, State.finishLane_durable]; rfl
  · rw [heq]; rfl
  · rw [heq, State.laneRun_durable]
  · rw [heq, State.laneRun_durable]; rfl

/-- The start of another job leaves completed ones as they are. -/
theorem State.laneStart_finished {h : Nat} {out tag : Bytes} (hs : s.eachJob h (LaneJob.finished st out tag))
    (hne : j.handle ≠ h) : (s.laneStart n j).eachJob h (LaneJob.finished st out tag) := by
  have hrun {t : State} {f : LaneJob → LaneJob} (ht : t.eachJob h (LaneJob.finished st out tag))
      (hf : ∀ x : LaneJob, (f x).handle = x.handle) : (t.laneRun n j f).eachJob h (LaneJob.finished st out tag) :=
    State.laneAdvance_finished (State.updLaneJob_eachJob_other ht hne fun x hx => (hf x).trans hx)
  obtain ⟨st', heq⟩ | ⟨t, ⟨_, _, _, rfl⟩, heq⟩ | ⟨t, f, rfl | ⟨_, _, _, rfl⟩, hf, heq⟩ := s.laneStart_cases n j
  · rw [heq]; exact State.finishLane_other hs hne
  · rw [heq]; exact State.updLaneJob_eachJob_other hs hne fun _ hx => hx
  · rw [heq]; exact hrun hs hf
  · rw [heq]; exact hrun hs hf

/-! The lane's pick. -/

theorem State.lanePick_head (h : laneHead (s.laneReady n) = some j) : s.lanePick n = s.laneStart n j := by
  simp [State.lanePick, h]

theorem State.lanePick_durable (s : State) (n : Nat) : (s.lanePick n).durable = s.durable := by
  unfold State.lanePick
  split
  · rfl
  · exact s.laneStart_durable ..

theorem State.lanePick_finished {h : Nat} {out tag : Bytes} (hs : s.eachJob h (LaneJob.finished st out tag)) :
    (s.lanePick n).eachJob h (LaneJob.finished st out tag) := by
  unfold State.lanePick
  split
  · exact hs
  next j hj =>
    obtain ⟨hmem, hready⟩ := List.mem_filter.mp (laneHead_mem hj)
    have hplace : j.place = .ready n := by
      simp only [Bool.and_eq_true, beq_iff_eq] at hready
      exact hready.1.1.1
    exact State.laneStart_finished hs (hs.handle_ne hmem (by simp [hplace]))

end

end Sys2Proof.Machine

/-! ### The block boundary of a lane (R272) -/

namespace Sys2Proof.Machine

/-- A ready job of the lane is of a higher rank than this one (R272 rule 1). -/
def State.outranked (s : State) (n : Nat) (j : LaneJob) : Bool := (s.laneReady n).any fun x => decide (x.rank < j.rank)
/-- A ready job of the lane is of the same rank as this one (R272 rule 2). -/
def State.rivalled (s : State) (n : Nat) (j : LaneJob) : Bool := (s.laneReady n).any fun x => x.rank == j.rank

section
variable {s : State} {n : Nat} {l : Lane} {j : LaneJob}

theorem State.laneBoundary_idle (hl : getK n s.lanes = some l) (hawake : l.power.awake = true) (hmask : l.mask.stalled = none)
    (hrun : s.laneRunning n = none) : s.laneBoundary n = s.lanePick n := by
  simp [State.laneBoundary, hl, hawake, hmask, hrun]

/-- What a boundary does with the job that runs, in the order of R272. -/
theorem State.laneBoundary_running (hl : getK n s.lanes = some l) (hawake : l.power.awake = true) (hmask : l.mask.stalled = none)
    (hrun : s.laneRunning n = some j) : s.laneBoundary n =
      if s.outranked n j = true ∨ (j.position < j.dataLen ∨ 0 < j.headLeft) ∧ j.quantum ≤ j.blocksRun ∧ s.rivalled n j = true then
        (s.updLaneJob j.handle fun x => { x with place := .ready n, blocksRun := 0 }).lanePick n
      else if (j.position < j.dataLen ∨ 0 < j.headLeft) ∧ s.lanePresent j = false then
        (s.updLaneJob j.handle fun x => { x with place := .suspended n s.mono, blocksRun := 0 }).lanePick n
      else s.laneAdvance n := by
  simp only [State.laneBoundary, hl, hawake, hmask, hrun, State.outranked, State.rivalled, Option.isSome_none, Bool.true_eq_false,
    Bool.false_eq_true, or_self, if_false, Bool.or_eq_true, decide_eq_true_eq]
  split
  next hbetter => exact (if_pos (.inl hbetter)).symm
  next hbetter => simp only [hbetter, Bool.false_eq_true, false_or]

/-- A boundary that finds neither a better job nor, at the end of the quantum, an equal one leaves the lane to the running job. -/
theorem State.not_givesWay (hbetter : s.outranked n j = false) (hstays : j.blocksRun < j.quantum ∨ s.rivalled n j = false) :
    ¬ (s.outranked n j = true ∨ (j.position < j.dataLen ∨ 0 < j.headLeft) ∧ j.quantum ≤ j.blocksRun ∧ s.rivalled n j = true) := by
  rintro (hb | ⟨-, hquantum, hequal⟩)
  · simp [hbetter] at hb
  · rcases hstays with h | h
    · exact absurd hquantum (Nat.not_le.mpr h)
    · simp [h] at hequal

/-- The running job goes on. -/
theorem State.laneAdvance_goesOn (hrun : s.laneRunning n = some j) :
    (s.laneAdvance n).eachJob j.handle fun x => x.place = .running n ∧ j.position ≤ x.position := by
  obtain ⟨x, l, e, hgoes, -, -, heq⟩ := State.laneAdvance_running hrun
  rw [heq]
  exact s.updLaneJob_eachJob_all _ fun _ => ⟨hgoes.place.trans (State.laneRunning_mem hrun).2, hgoes.position⟩

end

/-! ### Completion and starvation (R274, R279) -/

section
variable {s : State} {n : Nat} {j : LaneJob}

/-- The running job whose input is in completes (R274). -/
theorem State.laneComplete_eq (hrun : s.laneRunning n = some j) (hdata : j.dataLen ≤ j.position) (hhead : j.headLeft = 0)
    (hmask : (s.lane n).mask.stalled = none) :
    let done := s.finishLane j.handle j.finish.1 (if j.finish.1 = 0 then j.output else []) j.finish.2
    s.laneComplete n = (if j.finish.1 = 0 then done.releaseStream j else done).lanePick n := by
  have hin : ¬ (j.position < j.dataLen ∨ 0 < j.headLeft ∨ (s.lane n).mask.stalled.isSome = true) := by
    rintro (h | h | h)
    · exact Nat.not_lt.mpr hdata h
    · exact absurd hhead (Nat.ne_of_gt h)
    · rw [hmask] at h
      cases h
  intro done
  rw [State.laneComplete, hrun]
  exact if_neg hin

theorem State.releaseStream_durable (s : State) (j : LaneJob) : (s.releaseStream j).durable = s.durable := by
  obtain ⟨b, e, heq⟩ := s.releaseStream_eq j
  rw [heq]; rfl

/-- A completion leaves the job's result, zeroes its context, and changes nothing durable. -/
theorem State.laneComplete_result (hrun : s.laneRunning n = some j) (hdata : j.dataLen ≤ j.position) (hhead : j.headLeft = 0)
    (hmask : (s.lane n).mask.stalled = none) :
    (s.laneComplete n).eachJob j.handle (LaneJob.finished j.finish.1 (if j.finish.1 = 0 then j.output else []) j.finish.2) ∧
      (s.laneComplete n).durable = s.durable := by
  have hdone := s.finishLane_same j.handle j.finish.1 (if j.finish.1 = 0 then j.output else []) j.finish.2
  rw [State.laneComplete_eq hrun hdata hhead hmask, State.lanePick_durable]
  generalize (if j.finish.1 = 0 then j.output else []) = out at hdone ⊢
  refine ⟨State.lanePick_finished ?_, ?_⟩
  · split
    · exact State.releaseStream_finished j hdone
    · exact hdone
  · split
    · rw [State.releaseStream_durable, State.finishLane_durable]
    · exact s.finishLane_durable ..

theorem State.laneStarve_unassigned {h : Nat} (hj : s.laneJob? h = some j) (hplace : j.place = .unassigned) : s.laneStarve h =
    (({ s with mono := max s.mono (j.submitted + 10 ^ 6) } : State).scEvent St.rngStarved [s.stalledExpander]).finishLane h
      St.rngStarved [] [] := by
  simp [State.laneStarve, hj, hplace]

theorem State.laneStarve_assigned {h a : Nat} (hj : s.laneJob? h = some j) (hlane : j.lane? = some n)
    (hmask : (s.lane n).mask.stalled = some a) : s.laneStarve h =
    (({ s with mono := max s.mono (max a j.assignedAt + 10 ^ 6) } : State).scEvent St.rngStarved [13 + n / 4]).finishLane h
      St.rngStarved [] [] := by
  have hplace : j.place ≠ .unassigned := fun hp => by simp [LaneJob.lane?, hp] at hlane
  unfold State.laneStarve
  rw [hj]
  dsimp only
  split
  next hp => exact absurd hp hplace
  next m hm _ =>
    obtain rfl : n = m := Option.some.inj (hlane.symm.trans hm)
    rw [hmask]
  next hm _ => simp [hlane] at hm

end

end Sys2Proof.Machine

/-! ### Mask generators (R278, R279) -/

namespace Sys2Proof.Machine

section
variable {s t : State} {u : MaskUnit} {m m' : MaskGen} {n : Nat} {l : Lane}

/-- A mask generator that is there holds what is put into it. -/
theorem State.mask?_setMask (h : s.mask? u = some m) : (s.setMask u m').mask? u = some m' := by
  cases u with
  | sbu n i =>
    simp only [State.mask?] at h
    split at h
    next x hx =>
      obtain ⟨hi, -⟩ := List.getElem?_eq_some_iff.mp h
      simp [State.setMask, State.mask?, hx, hi]
    next => cases h
  | lane n =>
    obtain ⟨l, hl, -⟩ := Option.map_eq_some_iff.mp h
    simp [State.setMask, State.mask?, hl]

@[simp] theorem State.setMask_rng (s : State) (u : MaskUnit) (m : MaskGen) : (s.setMask u m).rng = s.rng := by
  unfold State.setMask
  split <;> split <;> rfl

theorem State.mask?_withRng (s : State) (g : Rng) (u : MaskUnit) : ({ s with rng := g } : State).mask? u = s.mask? u := by
  cases u <;> rfl

/-- A lane put back with the mask generator it had leaves every mask generator as it was. -/
theorem State.mask?_setLane (h : s.mask? u = some m) (hl : l.mask = (s.lane n).mask) : (s.setLane n l).mask? u = some m := by
  cases u with
  | sbu k i => exact h
  | lane k =>
    obtain ⟨l', hl', hm⟩ := Option.map_eq_some_iff.mp h
    by_cases hk : k = n
    · subst hk
      simp [State.mask?, hl, State.lane, getD, hl', hm]
    · simp [State.mask?, getK_setK_other hk, hl', hm]

theorem State.mask?_preemptLane (h : s.mask? u = some m) : (s.preemptLane n).mask? u = some m := by
  unfold State.preemptLane
  split
  · split <;> exact h
  · exact h

theorem State.mask?_placeOn (h : s.mask? u = some m) (job : Nat) : (s.placeOn job n).mask? u = some m := by
  refine State.mask?_preemptLane (State.mask?_setLane h ?_)
  split <;> rfl

theorem State.mask?_assignLane (h : s.mask? u = some m) : s.assignLane.2.mask? u = some m := by
  unfold State.assignLane
  dsimp only
  split
  · exact State.mask?_setLane h rfl
  · exact h

/-- Jobs that go to lanes leave the mask generators as they were. -/
theorem State.mask?_assignWaiting (h : s.mask? u = some m) (fuel : Nat) : (s.assignWaiting fuel).mask? u = some m := by
  induction fuel generalizing s with
  | zero => exact h
  | succ fuel ih =>
    unfold State.assignWaiting
    split
    · exact h
    · split
      next hassign =>
        have ht := hassign ▸ State.mask?_assignLane h
        exact ih (State.mask?_placeOn ht _)
      next => exact h

/-- A draw touches the expanders and the events. -/
theorem State.random_eq (s : State) (e len : Nat) : ∃ x r, (s.random e len).2 = { s with expanders := x, raised := r } := by
  have hdrawn (k : Nat) : ∃ x r, s.drawn e k = { s with expanders := x, raised := r } := by
    unfold State.drawn
    split
    · exact ⟨s.expanders, s.raised, rfl⟩
    · dsimp only
      split <;> split <;> exact ⟨_, _, rfl⟩
  unfold State.random
  dsimp only
  obtain ⟨x, r, heq⟩ := hdrawn (cdiv len 64)
  rw [heq]
  split <;> exact ⟨_, _, rfl⟩

/-! The three steps of a mask generator. -/

theorem State.maskRequest_result (h : s.mask? u = some m) (hasked : m.asked = false) (hlimit : m.limit * 3 ≤ m.blocks * 4) :
    (s.maskRequest u).mask? u = some { m with asked := true } ∧ (s.maskRequest u).rng.masks = s.rng.masks ++ [u] := by
  simp only [State.maskRequest, h, hasked, hlimit, and_self, if_true, and_true]
  exact State.mask?_setMask h

theorem State.maskStall_result (h : s.mask? u = some m) (hgoes : m.stalled = none) (hlimit : m.limit ≤ m.blocks) :
    (s.maskStall u).mask? u = some { m with asked := true, stalled := some s.mono } ∧
      ∃ e ∈ (s.maskStall u).raised, e.2.code = St.maskReseedStall := by
  simp only [State.maskStall, h, hgoes, hlimit, Option.isNone_none, and_self, if_true, State.event_raised]
  exact ⟨State.mask?_setMask h, _, List.mem_append_right _ (List.mem_singleton_self _), rfl⟩

/-- A seed: the generator starts afresh, and its request is no longer open; the jobs that then find a lane change neither. -/
theorem State.maskSeed_result (h : s.mask? u = some m) (hasked : m.asked = true) (hdeliver : s.delivers (maskExpander u) 1 = true) :
    (s.maskSeed u).mask? u = some { limit := s.maskLimit } ∧ (s.maskSeed u).rng.masks = s.rng.masks.filter fun x => x != u := by
  obtain ⟨x, r, hrandom⟩ := s.random_eq (maskExpander u) 32
  have hdrawn : ({ s with expanders := x, raised := r } : State).mask? u = some m := h
  simp only [State.maskSeed, h, hasked, hdeliver, and_self, if_true, hrandom, State.setMask_rng]
  refine ⟨State.mask?_assignWaiting ((State.mask?_withRng ..).trans (State.mask?_setMask hdrawn)) _, ?_⟩
  obtain ⟨_, _, heq⟩ := State.assignWaiting_lanesOnly _ _
  rw [heq]

end

end Sys2Proof.Machine

/-! ### Lane jobs and mask generators (O50) -/

namespace Sys2Proof.Machine

section
variable {s : State} {n : Nat} {l : Lane} {j : LaneJob}

/-- The start of the head of an idle lane's ready jobs. -/
theorem laneJobStart_idle (hl : getK n s.lanes = some l) (hawake : l.power.awake = true) (hmask : l.mask.stalled = none)
    (hrun : s.laneRunning n = none) (hhead : laneHead (s.laneReady n) = some j) :
    exec (.laneJobStart n) s = .next (s.laneStart n j) :=
  congrArg Host.Outcome.next ((State.laneBoundary_idle hl hawake hmask hrun).trans (State.lanePick_head hhead))

/-- What a started job and its lane are, on a state that keeps the cores. -/
theorem laneRun_result {t : State} {P : Bytes → Prop} {f : LaneJob → LaneJob} (hf : ∀ x, P (f x).iv) (hcores : t.cores = s.cores) :
    (∀ x ∈ (t.laneRun n j f).laneJobs, x.handle = j.handle → x.place = .running n ∧ x.started = true ∧ P x.iv) ∧
      ((t.laneRun n j f).lane n).key = keyBytes j.key.key ∧ ((t.laneRun n j f).lane n).power = .active ∧
      (t.laneRun n j f).cores = s.cores :=
  ⟨State.laneRun_eachJob hf, State.laneRun_lane.1, State.laneRun_lane.2, State.laneRun_cores.trans hcores⟩

end

/-- Settles O50: an idle lane's boundary is a start (`laneStart_started` to `laneStart_drawn`), a busy one's goes by the order of
`laneBoundary_running`; a completed job stays as its end left it while others take its lane. -/
theorem laneAndMaskResults : Obligations.LaneAndMaskResults := by
  unfold Obligations.LaneAndMaskResults
  intro s l j m u n t
  dsimp only
  refine ⟨fun hl hawake hmask => ⟨fun hrun hhead => ?start, ?better, ?equal, ?suspends, ?goesOn⟩, ?resumes, ?completes, ?unassigned,
    ?stalled, fun hm => ⟨?request, ?stall, ?seed⟩⟩
  case start =>
    have hstart := laneJobStart_idle hl hawake hmask hrun hhead
    refine ⟨fun hiv => ?plain, fun hnew hiv => ⟨fun st hd => ?fails, fun v hd => ?waits, fun iv v hd => ?drawn⟩⟩
    case plain =>
      cases hnew : j.started with
      | true =>
        rw [State.laneStart_started hnew] at hstart
        exact ⟨_, hstart, laneRun_result (P := fun _ => True) (fun _ => trivial) rfl⟩
      | false =>
        rw [State.laneStart_given hnew (hiv.resolve_left (by simp [hnew]))] at hstart
        exact ⟨_, hstart, laneRun_result (P := fun _ => True) (fun _ => trivial) rfl⟩
    case fails => exact hstart.trans (congrArg Host.Outcome.next (State.laneStart_fails hnew hiv hd))
    case waits => exact hstart.trans (congrArg Host.Outcome.next (State.laneStart_waits hnew hiv hd))
    case drawn =>
      rw [State.laneStart_drawn hnew hiv hd] at hstart
      have hcores : v.cores = s.cores := by
        obtain ⟨_, _, _, rfl⟩ := State.drawIv_drawn hd
        rfl
      exact ⟨_, hstart, laneRun_result (P := (· = iv)) (fun x => x.begin_iv iv) hcores⟩
  case better =>
    intro hrun hbetter
    exact congrArg Host.Outcome.next ((State.laneBoundary_running hl hawake hmask hrun).trans (if_pos (.inl hbetter)))
  case equal =>
    intro hrun _ hleft hquantum hequal
    exact congrArg Host.Outcome.next
      ((State.laneBoundary_running hl hawake hmask hrun).trans (if_pos (.inr ⟨hleft, hquantum, hequal⟩)))
  case suspends =>
    intro hrun hbetter hleft hstays habsent
    have hkeeps := State.not_givesWay hbetter hstays
    exact congrArg Host.Outcome.next
      ((State.laneBoundary_running hl hawake hmask hrun).trans ((if_neg hkeeps).trans (if_pos ⟨hleft, habsent⟩)))
  case goesOn =>
    intro hrun hbetter hstays hpresent
    have hkeeps := State.not_givesWay hbetter hstays
    have hgo := (State.laneBoundary_running hl hawake hmask hrun).trans ((if_neg hkeeps).trans (if_neg (by simp [hpresent])))
    exact ⟨_, congrArg Host.Outcome.next hgo, State.laneAdvance_goesOn hrun⟩
  case resumes =>
    intro a hj hplace hpresent
    exact congrArg Host.Outcome.next (by simp [hj, hplace, hpresent])
  case completes =>
    intro hrun hdata hhead hmask
    exact ⟨_, rfl, State.laneComplete_result hrun hdata hhead hmask⟩
  case unassigned =>
    intro hj hplace
    exact congrArg Host.Outcome.next (State.laneStarve_unassigned hj hplace)
  case stalled =>
    intro a hj hlane hmask
    exact congrArg Host.Outcome.next (State.laneStarve_assigned hj hlane hmask)
  case request =>
    intro hasked hlimit
    exact ⟨_, rfl, State.maskRequest_result hm hasked hlimit⟩
  case stall =>
    intro hgoes hlimit
    exact ⟨_, rfl, State.maskStall_result hm hgoes hlimit⟩
  case seed =>
    intro hasked hdeliver
    exact ⟨_, rfl, State.maskSeed_result hm hasked hdeliver⟩

end Sys2Proof.Machine

/-! ### Reads of an expander (R319, R325) -/

namespace Sys2Proof.Machine

section
variable {s : State} {e len n m : Nat} {who : DrawReader}

theorem State.readAll_eq (e : Nat) (lens : List Nat) (s : State) :
    ∃ x r, (State.readAll e lens s).2 = { s with expanders := x, raised := r } := by
  induction lens generalizing s with
  | nil => exact ⟨s.expanders, s.raised, rfl⟩
  | cons n lens ih =>
    cases lens with
    | nil => exact s.random_eq e n
    | cons m lens =>
      obtain ⟨x, r, hfirst⟩ := s.random_eq e n
      obtain ⟨x', r', hrest⟩ := ih (s.random e n).2
      exact ⟨x', r', hrest.trans (by rw [hfirst])⟩

theorem State.keepPart_eq (s : State) (e : Nat) (who : DrawReader) (l : Bytes) : ∃ x, s.keepPart e who l = { s with expanders := x } := by
  unfold State.keepPart
  split
  · exact ⟨_, rfl⟩
  · exact ⟨s.expanders, rfl⟩

/-- A reader's draws touch the expanders and the events, whether they are served or not. -/
theorem State.tryReads_eq (s : State) (e : Nat) (who : DrawReader) (lens : List Nat) :
    ∃ x r, (s.tryReads e who lens).2 = { s with expanders := x, raised := r } := by
  have hkept (lens : List Nat) (l : Bytes) :
      ∃ x r, (State.readAll e lens s).2.keepPart e who l = { s with expanders := x, raised := r } := by
    obtain ⟨x, r, hread⟩ := State.readAll_eq e lens s
    obtain ⟨x', hkeep⟩ := (State.readAll e lens s).2.keepPart_eq e who l
    exact ⟨x', r, hkeep.trans (by rw [hread])⟩
  unfold State.tryReads
  dsimp only
  split
  · split
    · exact State.readAll_eq e _ s
    · exact hkept _ _
  · split
    · split
      · exact hkept _ _
      · exact ⟨s.expanders, s.raised, rfl⟩
    · exact ⟨s.expanders, s.raised, rfl⟩

/-- What an expander serves of a number of requests, it serves of fewer. -/
theorem State.canDraw_of_le (hnm : n ≤ m) (h : s.canDraw e m = true) : s.canDraw e n = true := by
  unfold State.canDraw State.delivers at *
  split at h
  · obtain ⟨hserves, hmasks⟩ := Bool.and_eq_true_iff.mp h
    simp only [Bool.and_eq_true, decide_eq_true_eq] at hserves ⊢
    exact ⟨⟨hserves.1, by omega⟩, hmasks⟩
  · exact h

/-- What is left of one draw takes no more requests than the whole. -/
theorem readRequests_rest_le (len got : Nat) : readRequests (restReads [len] got) ≤ cdiv len 64 := by
  by_cases h : len ≤ got
  · simp [restReads, h, readRequests]
  · simp only [restReads, h, if_false, readRequests, cdiv, List.map_cons, List.map_nil, List.sum_cons, List.sum_nil]
    omega

/-- A read that its expander serves whole is served, whatever part of it the reader has had. -/
theorem State.tryReads_served (h : s.canDraw e (cdiv len 64) = true) : ∃ l t, s.tryReads e who [len] = (some l, t) := by
  unfold State.tryReads
  dsimp only
  rw [if_pos (State.canDraw_of_le (readRequests_rest_le len _) h)]
  exact ⟨_, _, rfl⟩

end

end Sys2Proof.Machine

/-! ### What the engines' own work touches (R300, R304, R305) -/

namespace Sys2Proof.Machine

/-- What of a job the engines' own work leaves: its place and its result stand, and random bits it has stay drawn. -/
structure LneJob.Stays (j x : LneJob) : Prop where
  handle : x.handle = j.handle
  place : x.place = j.place
  result : x.result = j.result
  resultKey : x.resultKey = j.resultKey
  drawn : j.drawn = true → x.drawn = true

/-- Between two states the engines went on by themselves: clocks of jobs started, random bits were drawn, engines changed their
power. No job changed its place and no bank its contents. -/
def LneServes (s t : State) : Prop :=
  ∃ g l x r p, t = { s with lneJobs := s.lneJobs.map g, lnes := l, expanders := x, raised := r, samples := p } ∧
    (∀ j : LneJob, j.Stays (g j)) ∧ ∀ n e, getK n s.lnes = some e → ∃ q, getK n l = some { e with power := q }

theorem LneServes.trans {s t u : State} : LneServes s t → LneServes t u → LneServes s u := by
  rintro ⟨g, l, x, r, p, rfl, hg, hl⟩ ⟨g', l', x', r', p', rfl, hg', hl'⟩
  refine ⟨g' ∘ g, l', x', r', p', by simp only [List.map_map], fun j => ?_, fun n e he => ?_⟩
  · have h := hg j
    have h' := hg' (g j)
    exact ⟨h'.handle.trans h.handle, h'.place.trans h.place, h'.result.trans h.result, h'.resultKey.trans h.resultKey,
      fun hd => h'.drawn (h.drawn hd)⟩
  · obtain ⟨q, hq⟩ := hl n e he
    exact hl' n { e with power := q } hq

/-- Work that changes no job and no engine. -/
theorem LneServes.of_draw {s t : State} {x : List (Nat × Expander)} {r : List (Nat × Event)}
    (h : t = { s with expanders := x, raised := r }) : LneServes s t :=
  ⟨id, s.lnes, x, r, s.samples, by rw [h, List.map_id], fun _ => ⟨rfl, rfl, rfl, rfl, id⟩, fun _ e he => ⟨e.power, he⟩⟩

theorem LneServes.refl (s : State) : LneServes s s := .of_draw rfl

section
variable {s t : State} {h h' n b : Nat} {j : LneJob}

/-- A job's clock starts, and a sample of its wait may be left; nothing else changes. -/
theorem State.resumeLne_eq (s : State) (n : Nat) : ∃ g p,
    s.resumeLne n = { s with lneJobs := s.lneJobs.map g, samples := p } ∧ ∀ x, ∃ t, g x = { x with since := t } := by
  have hkept : ∃ g p, s = { s with lneJobs := s.lneJobs.map g, samples := p } ∧ ∀ x, ∃ t, g x = { x with since := t } :=
    ⟨id, s.samples, by rw [List.map_id], fun x => ⟨x.since, rfl⟩⟩
  unfold State.resumeLne
  split
  · split
    · split
      next h _ =>
        have hstart (x : LneJob) : ∃ t, (if x.handle = h then
            (if (x.since.isNone && x.drawn) = true then { x with since := some s.mono } else x) else x) = { x with since := t } := by
          split
          · split
            · exact ⟨some s.mono, rfl⟩
            · exact ⟨x.since, rfl⟩
          · exact ⟨x.since, rfl⟩
        split
        · split
          · exact ⟨_, _, rfl, hstart⟩
          · exact ⟨_, s.samples, rfl, hstart⟩
        · exact ⟨_, s.samples, rfl, hstart⟩
      next => exact hkept
    · exact hkept
  · exact hkept

theorem State.resumeLne_serves (s : State) (n : Nat) : LneServes s (s.resumeLne n) := by
  obtain ⟨g, p, heq, hg⟩ := s.resumeLne_eq n
  refine ⟨g, s.lnes, s.expanders, s.raised, p, heq, fun j => ?_, fun _ e he => ⟨e.power, he⟩⟩
  obtain ⟨t, ht⟩ := hg j
  rw [ht]
  exact ⟨rfl, rfl, rfl, rfl, id⟩

/-- An update that leaves of each job what the engines' own work leaves. -/
theorem State.updLneJob_serves {f : LneJob → LneJob} (s : State) (h : Nat) (hf : ∀ x : LneJob, x.Stays (f x)) :
    LneServes s (s.updLneJob h f) := by
  refine ⟨_, s.lnes, s.expanders, s.raised, s.samples, rfl, fun x => ?_, fun _ e he => ⟨e.power, he⟩⟩
  split
  · exact hf x
  · exact ⟨rfl, rfl, rfl, rfl, id⟩

/-- An engine changes its power; the banks of all engines stand. -/
theorem State.setLnePower_serves (s : State) (m : Nat) (q : UnitPower) :
    LneServes s { s with lnes := setK m { (getD m {} s.lnes : Lne) with power := q } s.lnes } := by
  refine ⟨id, _, s.expanders, s.raised, s.samples, by rw [List.map_id], fun _ => ⟨rfl, rfl, rfl, rfl, id⟩, fun n e he => ?_⟩
  by_cases hn : n = m
  · subst hn
    exact ⟨q, by rw [getK_setK_same, getD, he, Option.getD_some]⟩
  · exact ⟨e.power, by rw [getK_setK_other hn, he]⟩

/-- An engine that resumes for a job changes its power and marks the job (R305). -/
theorem State.wakeLne_serves (s : State) : LneServes s s.wakeLne := by
  unfold State.wakeLne
  split
  · exact .refl s
  · split
    · exact .refl s
    · split
      next m _ => exact (s.setLnePower_serves m .resuming).trans (State.updLneJob_serves _ _ fun _ => ⟨rfl, rfl, rfl, rfl, id⟩)
      next => exact .refl s

/-- The draw of a job, served or not (R300). -/
theorem State.drawLne_serves (s : State) (h : Nat) : LneServes s (s.drawLne h) := by
  unfold State.drawLne
  split
  · exact .refl s
  next j _ =>
    split
    · split
      · exact .refl s
      · obtain ⟨x, r, heq⟩ := s.tryReads_eq 16 (.lneJob h) [j.need]
        split
        next hread =>
          rw [hread] at heq
          refine .trans ?_ (State.resumeLne_serves ..)
          exact (LneServes.of_draw heq).trans (State.updLneJob_serves _ _ fun _ => ⟨rfl, rfl, rfl, rfl, fun _ => rfl⟩)
        next hread =>
          rw [hread] at heq
          exact .of_draw heq
    · exact .refl s

end

end Sys2Proof.Machine

/-! ### The engine jobs of a handle -/

namespace Sys2Proof.Machine

/-- Every engine job of a handle is of a kind. -/
def State.eachLneJob (s : State) (h : Nat) (P : LneJob → Prop) : Prop := ∀ x ∈ s.lneJobs, x.handle = h → P x

section
variable {s t : State} {h h' n b : Nat} {j : LneJob} {P : LneJob → Prop} {f g : LneJob → LneJob}

/-- What an update makes of any job, all jobs of its handle are. -/
theorem State.updLneJob_eachLneJob (s : State) (h : Nat) (hf : ∀ x, P (f x)) : (s.updLneJob h f).eachLneJob h P := by
  intro y hy hh
  obtain ⟨x, -, rfl⟩ := List.mem_map.mp hy
  by_cases hx : x.handle = h
  · rw [if_pos hx]
    exact hf x
  · rw [if_neg hx] at hh
    exact absurd hh hx

theorem State.updLneJob_eachLneJob_other (hs : s.eachLneJob h P) (hne : h' ≠ h) (hf : ∀ x, (f x).handle = x.handle) :
    (s.updLneJob h' f).eachLneJob h P := by
  intro y hy hh
  obtain ⟨x, hx, rfl⟩ := List.mem_map.mp hy
  by_cases hxh : x.handle = h'
  · rw [if_pos hxh] at hh
    exact absurd (hxh.symm.trans ((hf x).symm.trans hh)) hne
  · rw [if_neg hxh] at hh ⊢
    exact hs x hx hh

/-- A kind that jobs keep while the engines go on is kept. -/
theorem LneServes.eachLneJob (ht : LneServes s t) (hs : s.eachLneJob h P) (hP : ∀ x y : LneJob, x.Stays y → P x → P y) :
    t.eachLneJob h P := by
  obtain ⟨g, l, x, r, p, rfl, hg, -⟩ := ht
  intro y hy hh
  obtain ⟨x, hx, rfl⟩ := List.mem_map.mp hy
  exact hP x _ (hg x) (hs x hx ((hg x).handle.symm.trans hh))

/-- The job of a handle after a change of every job. -/
theorem State.lneJob?_map (ht : t.lneJobs = s.lneJobs.map g) (hg : ∀ x, (g x).handle = x.handle) : t.lneJob? h = (s.lneJob? h).map g := by
  have hsame : ((·.handle == h) ∘ g : LneJob → Bool) = (·.handle == h) := by
    funext x
    simp [hg]
  rw [State.lneJob?, ht, List.find?_map, hsame, State.lneJob?]

theorem State.resumeLne_lneJob? (hj : s.lneJob? h = some j) : ∃ t, (s.resumeLne n).lneJob? h = some { j with since := t } := by
  obtain ⟨g, p, heq, hg⟩ := s.resumeLne_eq n
  obtain ⟨t, ht⟩ := hg j
  have hhandle (x : LneJob) : (g x).handle = x.handle := by
    obtain ⟨t, ht⟩ := hg x
    rw [ht]
  exact ⟨t, by rw [State.lneJob?_map (congrArg State.lneJobs heq) hhandle, hj, Option.map_some, ht]⟩

theorem State.resumeLne_canDraw (s : State) (n k m : Nat) : (s.resumeLne n).canDraw k m = s.canDraw k m := by
  obtain ⟨g, p, heq, -⟩ := s.resumeLne_eq n
  rw [heq]
  rfl

/-- A loaded job that expander 16 serves has its bits (R300). -/
theorem State.drawLne_drawn (hj : s.lneJob? h = some j) (hplace : j.place = .loaded n b) (hdrawn : j.drawn = false)
    (hcan : s.canDraw 16 (cdiv j.need 64) = true) : (s.drawLne h).eachLneJob h fun x => x.drawn = true := by
  obtain ⟨l, t, hread⟩ := State.tryReads_served (who := .lneJob h) hcan
  simp only [State.drawLne, hj, hplace, hdrawn, hread, Bool.false_eq_true, if_false]
  exact (State.resumeLne_serves ..).eachLneJob (t.updLneJob_eachLneJob h fun _ => rfl) fun _ _ hxy => hxy.drawn

end

end Sys2Proof.Machine

/-! ### The choice of job, engine and bank (R302, R303) -/

namespace Sys2Proof.Machine

theorem lneBefore_iff (a b : LneJob) : lneBefore a b = true ↔ a.rank < b.rank ∨ (a.rank = b.rank ∧ a.ticket < b.ticket) := by
  simp [lneBefore]

/-- What is not before a job is not before one that this job is not before. -/
theorem lneBefore_false_trans {a b c : LneJob} (hab : lneBefore a b = false) (hbc : lneBefore b c = false) : lneBefore a c = false := by
  rw [← Bool.not_eq_true, lneBefore_iff] at *
  omega

theorem eq_nil_of_lneHead_none {l : List LneJob} (h : lneHead l = none) : l = [] := by
  cases l with
  | nil => rfl
  | cons a l =>
    unfold lneHead at h
    split at h
    · split at h <;> cases h
    · cases h

/-- No job is before the head. -/
theorem lneHead_least {l : List LneJob} {j : LneJob} (hj : lneHead l = some j) : ∀ x ∈ l, lneBefore x j = false := by
  have hself (a : LneJob) : lneBefore a a = false := by simp [lneBefore]
  induction l generalizing j with
  | nil => cases hj
  | cons a l ih =>
    cases hl : lneHead l with
    | none =>
      obtain rfl : a = j := by simpa [lneHead, hl] using hj
      simp [eq_nil_of_lneHead_none hl, hself]
    | some h =>
      have hleast := ih hl
      simp only [lneHead, hl] at hj
      split at hj
      next hbefore =>
        obtain rfl := Option.some.inj hj
        refine List.forall_mem_cons.mpr ⟨?_, hleast⟩
        rw [lneBefore_iff] at hbefore
        rw [← Bool.not_eq_true, lneBefore_iff]
        omega
      next hbefore =>
        obtain rfl := Option.some.inj hj
        exact List.forall_mem_cons.mpr ⟨hself a, fun x hx => lneBefore_false_trans (hleast x hx) (eq_false_of_ne_true hbefore)⟩

theorem mem_of_mem_insertByKey {β : Type} {e x : Nat × β} {l : List (Nat × β)} (h : x ∈ insertByKey e l) : x = e ∨ x ∈ l := by
  induction l with
  | nil => simpa [insertByKey] using h
  | cons a l ih =>
    unfold insertByKey at h
    split at h
    · exact List.mem_cons.mp h
    · rcases List.mem_cons.mp h with h | h
      · exact .inr (by simp [h])
      · exact (ih h).imp id (List.mem_cons_of_mem _)

/-- Sorting adds nothing. -/
theorem mem_of_mem_sortByKey {β : Type} {x : Nat × β} {l : List (Nat × β)} (h : x ∈ sortByKey l) : x ∈ l := by
  have hfold (l a : List (Nat × β)) (h : x ∈ l.foldl (fun a e => insertByKey e a) a) : x ∈ a ∨ x ∈ l := by
    induction l generalizing a with
    | nil => exact .inl h
    | cons e l ih =>
      rcases ih _ h with h | h
      · rcases mem_of_mem_insertByKey h with h | h
        · exact .inr (by simp [h])
        · exact .inl h
      · exact .inr (List.mem_cons_of_mem _ h)
  exact (hfold l [] h).resolve_left List.not_mem_nil

/-- A number that stands in a list has a value. -/
theorem exists_getK_of_mem {β : Type} {n : Nat} {v : β} {l : List (Nat × β)} (h : (n, v) ∈ l) : ∃ w, getK n l = some w := by
  induction l with
  | nil => cases h
  | cons a l ih =>
    obtain ⟨m, w⟩ := a
    by_cases hn : n = m
    · exact ⟨w, if_pos hn⟩
    · obtain ⟨w', hw'⟩ := ih ((List.mem_cons.mp h).resolve_left fun heq => hn (congrArg Prod.fst heq))
      exact ⟨w', (if_neg hn).trans hw'⟩

/-- An engine that is chosen is one of those to choose from. -/
theorem firstLne_mem {f : Lne → Option Nat} {l : List (Nat × Lne)} {n b : Nat} (h : firstLne f l = some (n, b)) : ∃ e, (n, e) ∈ l := by
  induction l with
  | nil => cases h
  | cons a l ih =>
    obtain ⟨m, e⟩ := a
    unfold firstLne at h
    split at h
    · cases h
      exact ⟨e, List.mem_cons_self⟩
    · obtain ⟨e', he'⟩ := ih h
      exact ⟨e', List.mem_cons_of_mem _ he'⟩

section
variable {s : State} {n b p rank : Nat} {w : LneJob}

/-- An engine chosen from awake ones is an engine of the module. -/
theorem exists_lne_of_firstLne {f : Lne → Option Nat} {l : List (Nat × Lne)}
    (hl : ∀ x ∈ l, x ∈ sortByKey (s.lnes.filter fun e => e.2.power.awake)) (h : firstLne f l = some (n, b)) :
    ∃ e, getK n s.lnes = some e := by
  obtain ⟨e, he⟩ := firstLne_mem h
  exact exists_getK_of_mem (List.mem_filter.mp (mem_of_mem_sortByKey (hl _ he))).1

theorem State.lneTarget_engine (h : s.lneTarget p = some (n, b)) : ∃ e, getK n s.lnes = some e := by
  have hchosen {f : Lne → Option Nat} {q : Nat × Lne → Bool}
      (h : firstLne f ((sortByKey (s.lnes.filter fun e => e.2.power.awake)).filter q) = some (n, b)) : ∃ e, getK n s.lnes = some e :=
    exists_lne_of_firstLne (fun _ hx => (List.mem_filter.mp hx).1) h
  simp only [State.lneTarget, Option.orElse_eq_orElse, Option.orElse_eq_or, Option.or_eq_some_iff] at h
  rcases h with h | ⟨-, h | ⟨-, h | ⟨-, h⟩⟩⟩ <;> exact hchosen h

theorem State.lneDisplace_engine (h : s.lneDisplace rank = some (n, b, w)) : ∃ e, getK n s.lnes = some e := by
  unfold State.lneDisplace at h
  dsimp only at h
  split at h
  next hfirst =>
    split at h
    · cases h
      exact exists_lne_of_firstLne (fun _ hx => hx) hfirst
    · cases h
  next => cases h

end

end Sys2Proof.Machine

/-! ### Load and displacement (R300, R303) -/

namespace Sys2Proof.Machine

/-- A job as it enters a bank: without a running clock, its random bits still to be drawn where its need is not 0 (R300). -/
def LneJob.seated (x : LneJob) (need now n b : Nat) : LneJob :=
  { x with place := .loaded n b, loadedAt := now, drawn := need == 0, since := none, woke := false }

/-- A job put into a bank of an engine, before its clock starts and before it draws. -/
def State.seatLne (s : State) (e : Lne) (j : LneJob) (n b : Nat) : State :=
  { s with lnes := setK n { e.setBank b { owner := some j.partition, job := some j.handle } with
      power := .active, active := if e.active.isNone then some b else e.active } s.lnes }.updLneJob j.handle
    fun x => x.seated j.need s.mono n b

section
variable {s : State} {e : Lne} {j w : LneJob} {n b : Nat}

theorem State.loadLne_eq (he : getK n s.lnes = some e) : s.loadLne j n b = ((s.seatLne e j n b).resumeLne n).drawLne j.handle := by
  simp only [State.loadLne, he]
  rfl

theorem State.seatLne_lneJob? (hj : s.lneJob? j.handle = some j) :
    (s.seatLne e j n b).lneJob? j.handle = some (j.seated j.need s.mono n b) := by
  rw [State.lneJob?_map rfl (s := s) fun x => by split <;> rfl, hj, Option.map_some, if_pos rfl]

/-- After the load and the wake of R305 the engines have gone on with the job in its bank. -/
theorem State.loadLne_serves (he : getK n s.lnes = some e) : LneServes (s.seatLne e j n b) (s.loadLne j n b).wakeLne := by
  rw [State.loadLne_eq he]
  exact ((State.resumeLne_serves ..).trans (State.drawLne_serves ..)).trans (State.wakeLne_serves _)

theorem State.loadLne_loaded (he : getK n s.lnes = some e) :
    (s.loadLne j n b).wakeLne.eachLneJob j.handle fun x => x.place = .loaded n b :=
  (State.loadLne_serves he).eachLneJob (State.updLneJob_eachLneJob _ _ fun _ => rfl) fun _ _ hxy hx => hxy.place.trans hx

/-- A loaded job has its random bits where it needs none or expander 16 serves it (R300). -/
theorem State.loadLne_drawn (he : getK n s.lnes = some e) (hj : s.lneJob? j.handle = some j)
    (hbits : j.need = 0 ∨ s.canDraw 16 (cdiv j.need 64) = true) :
    (s.loadLne j n b).wakeLne.eachLneJob j.handle fun x => x.drawn = true := by
  by_cases hneed : j.need = 0
  · refine (State.loadLne_serves he).eachLneJob (State.updLneJob_eachLneJob _ _ fun _ => ?_) fun _ _ hxy => hxy.drawn
    exact beq_iff_eq.mpr hneed
  · rw [State.loadLne_eq he]
    refine (State.wakeLne_serves _).eachLneJob ?_ fun _ _ hxy => hxy.drawn
    obtain ⟨t, ht⟩ := State.resumeLne_lneJob? (n := n) (State.seatLne_lneJob? (e := e) (n := n) (b := b) hj)
    refine State.drawLne_drawn ht rfl (beq_false_of_ne hneed) ?_
    rw [State.resumeLne_canDraw]
    exact hbits.resolve_left hneed

/-- A load adds and drops no job, and touches neither the cores nor the durable state. -/
theorem State.loadLne_frame (he : getK n s.lnes = some e) : (s.loadLne j n b).wakeLne.lneJobs.length = s.lneJobs.length ∧
    (s.loadLne j n b).wakeLne.cores = s.cores ∧ (s.loadLne j n b).wakeLne.durable = s.durable := by
  obtain ⟨g, l, x, r, p, heq, -, -⟩ := State.loadLne_serves (j := j) (b := b) he
  rw [heq]
  exact ⟨by simp [State.seatLne], rfl, rfl⟩

/-- A displaced job waits again. -/
theorem State.unloadLne_waiting (s : State) (w : LneJob) (n b : Nat) : (s.unloadLne w n b).eachLneJob w.handle fun x => x.place = .waiting := by
  unfold State.unloadLne
  dsimp only
  split <;> exact State.updLneJob_eachLneJob s w.handle fun _ => rfl

theorem State.unloadLne_engine (he : getK n s.lnes = some e) : ∃ e', getK n (s.unloadLne w n b).lnes = some e' := by
  simp [State.unloadLne, he]

/-- The job that takes another's bank leaves it in the list. -/
theorem State.loadLne_other (he : getK n s.lnes = some e) (hw : s.eachLneJob w.handle fun x => x.place = .waiting)
    (hne : w.handle ≠ j.handle) : (s.loadLne j n b).wakeLne.eachLneJob w.handle fun x => x.place = .waiting :=
  (State.loadLne_serves he).eachLneJob (State.updLneJob_eachLneJob_other (s := { s with lnes := _ }) hw hne.symm fun _ => rfl)
    fun _ _ hxy hx => hxy.place.trans hx

end

end Sys2Proof.Machine

/-! ### The end of a job (R299, R304, R306) -/

namespace Sys2Proof.Machine

@[simp] theorem Lne.setBank_bank (e : Lne) (b : Nat) (k : LneBank) : (e.setBank b k).bank b = k := by
  by_cases h : b = 0 <;> simp [Lne.setBank, Lne.bank, h]

/-- The contents of a bank do not depend on which job runs and on the engine's power. -/
theorem Lne.dropJob_bank (e : Lne) (now b : Nat) (wipe : Bool) :
    (e.dropJob now b wipe).bank b = { owner := if wipe then none else (e.bank b).owner, job := none } := by
  have hruns (f : Lne) (a c : Option Nat) : ({ f with active := a, suspended := c } : Lne).bank b = f.bank b := rfl
  have hpower (f : Lne) (q : UnitPower) : ({ f with power := q } : Lne).bank b = f.bank b := rfl
  unfold Lne.dropJob
  extract_lets e1 other e2
  have he2 : e2.bank b = e1.bank b := by
    simp only [e2]
    split
    · split <;> exact hruns ..
    · split
      · exact hruns ..
      · rfl
  rw [← e.setBank_bank b { owner := if wipe then none else (e.bank b).owner, job := none }, ← he2]
  split
  · exact hpower ..
  · rfl

section
variable {s : State} {e : Lne} {j : LneJob} {n b t : Nat}

/-- The end of a job: its jobs are done with status, result and key, its bank is free, and time and cores are as they were. -/
theorem State.lneFinish_result (he : getK n s.lnes = some e) (wipe : Bool) (st : Status) (res : Bytes) (key : Option Handle) :
    ((s.lneFinish j n b wipe st res key).eachLneJob j.handle fun x => x.place = .done st ∧ x.result = res ∧ x.resultKey = key) ∧
      (∃ f, getK n (s.lneFinish j n b wipe st res key).lnes = some f ∧ (f.bank b).job = none) ∧
      (s.lneFinish j n b wipe st res key).mono = s.mono ∧ (s.lneFinish j n b wipe st res key).cores = s.cores := by
  simp only [State.lneFinish, State.updLneJob_lnes, he]
  generalize hu : ({ s.updLneJob j.handle _ with lnes := _ } : State) = u
  have hserves : LneServes u (u.resumeLne n).wakeLne := (State.resumeLne_serves ..).trans (State.wakeLne_serves _)
  have hdone : u.eachLneJob j.handle fun x => x.place = .done st ∧ x.result = res ∧ x.resultKey = key := by
    rw [← hu]
    exact State.updLneJob_eachLneJob s j.handle fun _ => ⟨rfl, rfl, rfl⟩
  refine ⟨hserves.eachLneJob hdone fun x y hxy ⟨hplace, hres, hkey⟩ =>
    ⟨hxy.place.trans hplace, hxy.result.trans hres, hxy.resultKey.trans hkey⟩, ?_⟩
  obtain ⟨g, l, x, r, p, heq, -, hbanks⟩ := hserves
  obtain ⟨q, hq⟩ := hbanks n _ (by rw [← hu]; exact getK_setK_same ..)
  rw [heq, ← hu]
  exact ⟨⟨_, hq, congrArg LneBank.job (e.dropJob_bank ..)⟩, rfl, rfl⟩

/-- The job that runs on an engine completes with its outcome, with an event for some outcomes (R299, R301). -/
theorem State.lneComplete_eq (he : getK n s.lnes = some e) (ha : e.active = some b) (hj : (e.bank b).job.bind s.lneJob? = some j)
    (ht : j.since = some t) :
    let o := j.outcome s
    let full := if j.micro then j.table else reportCycles (j.operation / 256) (j.operation % 256) o.status j.table
    let u : State := { s with mono := max s.mono (t + cdiv ((full - j.ran) * 5) 12) }
    ∃ r wipe, s.lneComplete n =
      ({ u with raised := r } : State).lneFinish j n b wipe o.status o.result (o.secret.map fun k => j.keyOf k.1 k.2) := by
  simp only [State.lneComplete, he, ha, hj, ht]
  split
  · exact ⟨_, _, rfl⟩
  · exact ⟨s.raised, _, rfl⟩

end

end Sys2Proof.Machine

/-! ### The engines' events (O49) -/

namespace Sys2Proof.Machine

section
variable {s : State} {j w : LneJob} {e : Lne} {n b t : Nat}

/-- The head of the wait list waits for an engine that resumes for it (R305). -/
def State.awaitsEngine (s : State) (j : LneJob) : Prop :=
  j.woke = true ∧ (s.lnes.any fun e => e.2.power.awake && e.2.empty) = false ∧ (s.lnes.any fun e => e.2.power == .resuming) = true

theorem State.not_awaitsEngine (hready : j.woke = false ∨ (s.lnes.any fun e => e.2.power.awake && e.2.empty) = true ∨
    (s.lnes.any fun e => e.2.power == .resuming) = false) : ¬ s.awaitsEngine j := by
  rintro ⟨hwoke, hidle, hresumes⟩
  rcases hready with h | h | h
  · exact absurd hwoke (ne_true_of_eq_false h)
  · exact absurd h (ne_true_of_eq_false hidle)
  · exact absurd hresumes (ne_true_of_eq_false h)

/-! What the load does with the head of the wait list (R303, R305). -/

theorem lneJobLoad_awaits (hnext : s.lneNext = some j) (hwait : s.awaitsEngine j) : exec .lneJobLoad s = .next s := by
  refine congrArg Host.Outcome.next ?_
  simp only [State.lneJobLoad, hnext]
  exact if_pos hwait

theorem lneJobLoad_loads (hnext : s.lneNext = some j) (hready : ¬ s.awaitsEngine j) (htarget : s.lneTarget j.partition = some (n, b)) :
    exec .lneJobLoad s = .next (s.loadLne j n b).wakeLne := by
  refine congrArg Host.Outcome.next ?_
  simp only [State.lneJobLoad, hnext, htarget]
  exact if_neg hready

theorem lneJobLoad_displaces (hnext : s.lneNext = some j) (hready : ¬ s.awaitsEngine j) (htarget : s.lneTarget j.partition = none)
    (hdisplace : s.lneDisplace j.rank = some (n, b, w)) :
    exec .lneJobLoad s = .next ((s.unloadLne w n b).loadLne j n b).wakeLne := by
  refine congrArg Host.Outcome.next ?_
  simp only [State.lneJobLoad, hnext, htarget, hdisplace]
  exact if_neg hready

theorem lneJobLoad_no_bank (hnext : s.lneNext = some j) (hready : ¬ s.awaitsEngine j) (htarget : s.lneTarget j.partition = none)
    (hdisplace : s.lneDisplace j.rank = none) : exec .lneJobLoad s = .next s.wakeLne := by
  refine congrArg Host.Outcome.next ?_
  simp only [State.lneJobLoad, hnext, htarget, hdisplace]
  exact if_neg hready

end

/-- Settles O49: the head is `lneHead_least`; what the load does goes by its choice (`lneJobLoad_loads`, `lneJobLoad_displaces`), and
what it leaves of the jobs stands while the engines go on by themselves (`LneServes`), as does the end of a job (`lneFinish_result`). -/
theorem lneEventResults : Obligations.LneEventResults := by
  unfold Obligations.LneEventResults
  intro s j w e n b t
  dsimp only
  refine ⟨fun hnext x hx hplace => ?least, fun hnext => ⟨fun hready htarget => ?loads, fun hready htarget hdisplace hne => ?displaces,
    fun hready htarget hdisplace => ?noBank, fun hwaits => ?waits⟩, ?yields, ?completes, ?ages, ?starves⟩
  case least => exact lneHead_least hnext x (List.mem_filter.mpr ⟨hx, beq_iff_eq.mpr hplace⟩)
  case loads =>
    obtain ⟨e, he⟩ := State.lneTarget_engine htarget
    exact ⟨_, lneJobLoad_loads hnext (State.not_awaitsEngine hready) htarget, State.loadLne_loaded he, State.loadLne_drawn he,
      State.loadLne_frame he⟩
  case displaces =>
    obtain ⟨e, he⟩ := State.lneDisplace_engine hdisplace
    obtain ⟨e', he'⟩ := State.unloadLne_engine (w := w) (b := b) he
    exact ⟨_, lneJobLoad_displaces hnext (State.not_awaitsEngine hready) htarget hdisplace,
      State.loadLne_other he' (s.unloadLne_waiting w n b) hne, State.loadLne_loaded he'⟩
  case noBank => exact lneJobLoad_no_bank hnext (State.not_awaitsEngine hready) htarget hdisplace
  case waits =>
    obtain ⟨hwoke, hrest⟩ := not_or.mp hwaits
    obtain ⟨hidle, hresumes⟩ := not_or.mp hrest
    exact lneJobLoad_awaits hnext ⟨eq_true_of_ne_false hwoke, eq_false_of_ne_true hidle, eq_true_of_ne_false hresumes⟩
  case yields =>
    intro he ha hs hj hw hrank hdrawn ht
    refine congrArg Host.Outcome.next ?_
    simp only [State.lneYield, he, ha, hs, hj, hw, hrank, hdrawn, ht, decide_true, Bool.true_or, Bool.and_self, Option.isSome_some, if_true]
  case completes =>
    intro he ha hj ht
    obtain ⟨r, wipe, hcomplete⟩ := State.lneComplete_eq he ha hj ht
    obtain ⟨hdone, hbank, hmono, hcores⟩ := State.lneFinish_result (j := j) (b := b)
      (s := { s with mono := _, raised := r }) he wipe (j.outcome s).status (j.outcome s).result
      ((j.outcome s).secret.map fun k => j.keyOf k.1 k.2)
    exact ⟨_, congrArg (fun v => Host.Outcome.next (s.signal (State.handshakesGo v))) hcomplete, hmono, hdone, hbank, hcores⟩
  case ages =>
    intro hj hplace
    refine congrArg Host.Outcome.next ?_
    simp only [State.lneAge, hj, hplace, if_true]
  case starves =>
    intro hj hplace hdrawn
    refine congrArg (fun v => Host.Outcome.next (State.handshakesGo v)) ?_
    simp only [State.lneStarve, hj, hplace, hdrawn, Bool.false_eq_true, if_false]

end Sys2Proof.Machine

/-! ### Windows of the sources (R312 to R317) -/

namespace Sys2Proof.Machine

/-- Between two states only the sources, the capture and the events differ. -/
def SourcesOnly (s t : State) : Prop :=
  ∃ v c r, t = { s with rng := { s.rng with sources := v, capture := c }, raised := r }

/-- The healthy sources from number `i` on. -/
def Rng.healthyFrom (g : Rng) (i : Nat) : Nat := ((g.sources.toList.drop i).filter fun x => x.health == .healthy).length

theorem SourcesOnly.trans {s t u : State} : SourcesOnly s t → SourcesOnly t u → SourcesOnly s u := by
  rintro ⟨_, _, _, rfl⟩ ⟨_, _, _, rfl⟩
  exact ⟨_, _, _, rfl⟩

section
variable {s : State} {i : Nat} {w : Bytes}

theorem State.setSource_eq (s : State) (i : Nat) (x : RngSource) :
    s.setSource i x = { s with rng := { s.rng with sources := s.rng.sources.setIfInBounds i x } } := by
  by_cases h : i < 8
  · have hset : s.rng.sources.set i x h = s.rng.sources.setIfInBounds i x := by
      ext j hj
      rw [Vector.getElem_set, Vector.getElem_setIfInBounds]
    simp only [State.setSource, dif_pos h, hset]
  · simp only [State.setSource, dif_neg h, Vector.setIfInBounds_eq_of_size_le (Nat.le_of_not_lt h)]

theorem State.sources_set_source (s : State) (i : Nat) : s.rng.sources.setIfInBounds i (s.source i) = s.rng.sources := by
  ext j hj
  rw [Vector.getElem_setIfInBounds]
  split
  next heq => simp only [State.source, heq, dif_pos hj]
  next => rfl

@[simp] theorem State.setSource_expanders (s : State) (i : Nat) (x : RngSource) : (s.setSource i x).expanders = s.expanders := by
  rw [State.setSource_eq]

theorem State.source_setSource_same (h : i < 8) (x : RngSource) : (s.setSource i x).source i = x := by
  simp [State.source, State.setSource, h]

theorem State.captureWindow_eq (s : State) (i : Nat) (w : Bytes) :
    ∃ c, s.captureWindow i w = { s with rng := { s.rng with capture := c } } := by
  unfold State.captureWindow
  split
  · split
    · exact ⟨_, rfl⟩
    · exact ⟨_, rfl⟩
  · exact ⟨_, rfl⟩

theorem State.foldl_scEvent_eq {α : Type} (code : Status) (args : α → List Nat) (l : List α) (s : State) :
    ∃ r, l.foldl (fun u a => u.scEvent code (args a)) s = { s with raised := r } := by
  induction l generalizing s with
  | nil => exact ⟨_, rfl⟩
  | cons a l ih =>
    obtain ⟨r, hr⟩ := ih (s.scEvent code (args a))
    exact ⟨r, hr⟩

/-- A source's window changes that source, the capture and the events. -/
theorem State.sourceWindow_eq (s : State) (i : Nat) (w : Bytes) : ∃ x c r, (s.sourceWindow i w).1 =
    { s with rng := { s.rng with sources := s.rng.sources.setIfInBounds i x, capture := c }, raised := r } := by
  have hsame := s.sources_set_source i
  unfold State.sourceWindow
  dsimp only
  split
  · exact ⟨s.source i, s.rng.capture, s.raised, by rw [hsame]⟩
  · exact ⟨s.source i, s.rng.capture, s.raised, by rw [hsame]⟩
  · obtain ⟨r, hr⟩ := State.foldl_scEvent_eq St.rngHealthFailure (fun f : Nat => [i, f]) (s.testWindow (s.source i) w).1 s
    obtain ⟨c, hc⟩ := State.captureWindow_eq { s with raised := r } i w
    rw [hr, hc]
    split
    · exact ⟨_, _, _, congrArg (State.scEvent · St.rngSourceLatched [i]) (State.setSource_eq ..)⟩
    · rw [State.setSource_eq]
      dsimp only
      split
      · exact ⟨_, _, _, rfl⟩
      · exact ⟨_, _, _, rfl⟩

/-- A source gives the block of a window only when it is healthy and the window passes every test (R314, R315). -/
theorem State.sourceWindow_block (s : State) (i : Nat) (w : Bytes) : (s.sourceWindow i w).2 = [] ∨
    ((s.source i).health = .healthy ∧ (s.testWindow (s.source i) w).1 = [] ∧ (s.sourceWindow i w).2 = [sha256 w]) := by
  unfold State.sourceWindow
  dsimp only
  split
  · exact .inl rfl
  · exact .inl rfl
  · split
    · exact .inl rfl
    · dsimp only
      split
      next huse => exact .inr ⟨huse.1, List.isEmpty_iff.mp huse.2, rfl⟩
      next => exact .inl rfl

theorem State.sourceWindow_failed (hfails : (s.testWindow (s.source i) w).1 ≠ []) : (s.sourceWindow i w).2 = [] := by
  rcases s.sourceWindow_block i w with hnone | ⟨-, hpass, -⟩
  · exact hnone
  · exact absurd hpass hfails

theorem State.sourceWindow_used (huse : (s.sourceWindow i w).2 ≠ []) :
    (s.sourceWindow i w).2 = [sha256 w] ∧ (s.source i).health = .healthy := by
  rcases s.sourceWindow_block i w with hnone | ⟨hhealthy, -, hblock⟩
  · exact absurd hnone huse
  · exact ⟨hblock, hhealthy⟩

theorem State.sourceWindows_sourcesOnly (ws : List Bytes) (s : State) (i : Nat) : SourcesOnly s (s.sourceWindows i ws).1 := by
  induction ws generalizing s i with
  | nil => exact ⟨_, _, _, rfl⟩
  | cons w ws ih =>
    obtain ⟨x, c, r, hone⟩ := s.sourceWindow_eq i w
    exact SourcesOnly.trans ⟨_, _, _, hone⟩ (ih _ _)

/-- A source's window leaves the sources after it as they were. -/
theorem State.sourceWindow_healthyFrom (s : State) (i : Nat) (w : Bytes) :
    (s.sourceWindow i w).1.rng.healthyFrom (i + 1) = s.rng.healthyFrom (i + 1) := by
  obtain ⟨x, c, r, hone⟩ := s.sourceWindow_eq i w
  simp [hone, Rng.healthyFrom, Vector.toList_setIfInBounds, List.drop_set_of_lt]

theorem State.healthyFrom_of_healthy (h : (s.source i).health = .healthy) : s.rng.healthyFrom i = s.rng.healthyFrom (i + 1) + 1 := by
  by_cases hi : i < 8
  · have hhead : s.rng.sources[i].health = .healthy := by simpa [State.source, hi] using h
    simp [Rng.healthyFrom, List.drop_eq_getElem_cons (l := s.rng.sources.toList) (i := i) (by simpa using hi), hhead]
  · simp [State.source, hi] at h

theorem State.healthyFrom_succ_le (s : State) (i : Nat) : s.rng.healthyFrom (i + 1) ≤ s.rng.healthyFrom i := by
  have hdrop : (s.rng.sources.toList.drop (i + 1)).Sublist (s.rng.sources.toList.drop i) := List.drop_sublist_drop_left _ (Nat.le_succ i)
  exact (hdrop.filter _).length_le

/-- No more blocks than sources that were healthy before the window (R316). -/
theorem State.sourceWindows_blocks_le (ws : List Bytes) (s : State) (i : Nat) :
    (s.sourceWindows i ws).2.length ≤ s.rng.healthyFrom i := by
  induction ws generalizing s i with
  | nil => exact Nat.zero_le _
  | cons w ws ih =>
    have hrest := ih (s.sourceWindow i w).1 (i + 1)
    rw [s.sourceWindow_healthyFrom] at hrest
    rw [State.sourceWindows, List.length_append]
    rcases s.sourceWindow_block i w with hnone | ⟨hhealthy, -, hblock⟩
    · have hle := s.healthyFrom_succ_le i
      simp only [hnone, List.length_nil]
      omega
    · have hsucc := State.healthyFrom_of_healthy hhealthy
      simp only [hblock, List.length_singleton]
      omega

/-- One block makes no seed (R316). -/
theorem State.shareSeeds_of_few {l : List Bytes} (h : l.length < 2) (fuel : Nat) : State.shareSeeds fuel l s = s := by
  match fuel, l with
  | 0, _ => rfl
  | _ + 1, [] => rfl
  | _ + 1, [_] => rfl

/-- A window below two healthy sources makes no seed (R317). -/
theorem State.window_of_few (h : s.rng.healthy < 2) (ws : List Bytes) : s.window ws = (s.sourceWindows 0 ws).1.takeCutoffs := by
  have hfew : (s.sourceWindows 0 ws).2.length < 2 := Nat.lt_of_le_of_lt (s.sourceWindows_blocks_le ws 0) h
  exact congrArg State.takeCutoffs (State.shareSeeds_of_few hfew 4)

theorem State.window_of_few_frame (h : s.rng.healthy < 2) (ws : List Bytes) :
    (s.window ws).expanders = s.expanders ∧ (s.window ws).porter = s.porter ∧ (s.window ws).rng.stopped = s.rng.stopped := by
  obtain ⟨v, c, r, heq⟩ := s.sourceWindows_sourcesOnly ws 0
  rw [State.window_of_few h, heq]
  exact ⟨rfl, rfl, rfl⟩

/-! What the mark of a stopped generator says after a window (R317). -/

@[simp] theorem State.seedingMark_expanders (s : State) : s.seedingMark.expanders = s.expanders := by
  unfold State.seedingMark
  split <;> split <;> rfl
@[simp] theorem State.seedingMark_porter (s : State) : s.seedingMark.porter = s.porter := by
  unfold State.seedingMark
  split <;> split <;> rfl

/-- The mark that seeding is stopped stands exactly below two healthy sources. -/
def Rng.Marked (g : Rng) : Prop := g.stopped = decide (g.healthy < 2)

theorem State.seedingMark_marked (s : State) : s.seedingMark.rng.Marked := by
  unfold State.seedingMark
  split
  next hfew =>
    split
    next hstopped => exact hstopped.trans (decide_eq_true hfew).symm
    next => exact (decide_eq_true hfew).symm
  next hmany =>
    split
    next => exact (decide_eq_false hmany).symm
    next hgoes => exact (eq_false_of_ne_true hgoes).trans (decide_eq_false hmany).symm

/-- RNG_WINDOW_END below two healthy sources. -/
theorem State.windowEnd_of_few (h : s.rng.healthy < 2) (ws : List Bytes) :
    (s.windowEnd ws).expanders = s.expanders ∧ (s.windowEnd ws).porter = s.porter := by
  obtain ⟨hexpanders, hporter, -⟩ := State.window_of_few_frame h ws
  unfold State.windowEnd
  split
  · exact ⟨rfl, rfl⟩
  · exact ⟨(State.seedingMark_expanders _).trans hexpanders, (State.seedingMark_porter _).trans hporter⟩

end

end Sys2Proof.Machine

/-! ### Start-up of the generator (R322 to R324) -/

namespace Sys2Proof.Machine

section
variable {s : State} {ws : List (List Bytes)} {kat : Bool}

/-- The windows of the sequence keep the mark; before seeding has begun fewer than two sources are healthy. -/
theorem State.startWindows_marked (ws : List (List Bytes)) (begun : Bool) (s : State) (hmark : s.rng.Marked)
    (hfew : begun = false → s.rng.healthy < 2) : (State.startWindows ws begun s).rng.Marked := by
  induction ws generalizing begun s with
  | nil => exact hmark
  | cons w ws ih =>
    unfold State.startWindows
    dsimp only
    cases begun with
    | true => exact ih _ _ (State.seedingMark_marked _) (by simp)
    | false =>
      by_cases htwo : 2 ≤ (s.window w).rng.healthy
      · simp only [htwo, decide_true, Bool.or_true, Bool.false_eq_true, if_false, if_true]
        exact ih _ _ (decide_eq_false (Nat.not_lt.mpr htwo)).symm (by simp)
      · have hbefore := hfew rfl
        have hstopped : (s.window w).rng.stopped = true := by
          rw [(State.window_of_few_frame hbefore w).2.2, hmark, decide_eq_true hbefore]
        have hafter := Nat.lt_of_not_le htwo
        simp only [htwo, decide_false, Bool.or_false, Bool.false_eq_true, if_false]
        exact ih _ _ (hstopped.trans (decide_eq_true hafter).symm) fun _ => hafter

/-- No source is healthy at the release, and the generator is marked as stopped. -/
theorem State.rngReleased_healthy (s : State) : s.rngReleased.rng.healthy = 0 := rfl
theorem State.rngReleased_marked (s : State) : s.rngReleased.rng.Marked := rfl
theorem State.rngReleased_expanders {e : Nat × Expander} (h : e ∈ s.rngReleased.expanders) : e.2 = {} := by
  obtain ⟨n, -, rfl⟩ := List.mem_map.mp h
  rfl

/-- What enters the Guestbook by its own path changes the Guestbook and the events. -/
theorem State.fatalEvent_eq (s : State) (code : Status) : ∃ g r, s.fatalEvent code = { s with guest := g, raised := r } := by
  unfold State.fatalEvent State.countEvent
  dsimp only
  split
  · exact ⟨_, _, rfl⟩
  · split
    · exact ⟨_, _, rfl⟩
    · unfold State.saturate
      split
      · exact ⟨_, _, rfl⟩
      · exact ⟨_, _, rfl⟩

/-! The three ends of the sequence (R324). -/

theorem State.rngStart_succeeds (h : 2 ≤ (State.startWindows (ws.take 4) false s.rngReleased).rng.passed) :
    s.rngStart ws true = { State.startWindows ws false s.rngReleased with
      rng := { (State.startWindows ws false s.rngReleased).rng with started := true } } := by
  have hpassed := Nat.not_lt.mpr h
  simp only [State.rngStart, hpassed, Bool.true_eq_false, false_and, or_self, if_false]

theorem State.rngStart_fails (h : kat = false ∨ ((State.startWindows (ws.take 4) false s.rngReleased).rng.passed < 2 ∧ 4 ≤ ws.length)) :
    (s.rngStart ws kat).rng.failedAt = some s.mono ∧ (s.rngStart ws kat).rng.started = s.rng.started ∧
      (s.rngStart ws kat).expanders = s.rngReleased.expanders ∧ (s.rngStart ws kat).porter = s.porter := by
  simp only [State.rngStart, if_pos h]
  obtain ⟨g, r, heq⟩ := State.fatalEvent_eq (_ : State) St.rngStartupFailed
  rw [heq]
  exact ⟨rfl, rfl, rfl, rfl⟩

theorem State.rngStart_goesOn (hpassed : (State.startWindows (ws.take 4) false s.rngReleased).rng.passed < 2) (hlen : ws.length < 4) :
    s.rngStart ws true = s := by
  have hlast := Nat.not_le.mpr hlen
  simp only [State.rngStart, hpassed, hlast, Bool.true_eq_false, and_false, or_self, if_false, if_true]

theorem State.not_started_of_rngMayStart (h : s.rngMayStart = true) : s.rng.started = false := by
  simp only [State.rngMayStart, Bool.and_eq_true, Bool.not_eq_true'] at h
  exact h.1.2

theorem rngStartup_first (hmay : s.rngMayStart = true) (hfirst : s.rng.failedAt = none) :
    exec (.rngStartup ws kat) s = .next (s.rngStart ws kat) :=
  congrArg Host.Outcome.next (if_pos ⟨hmay, by rw [hfirst]; rfl⟩)

theorem rngStartupRetry_again {n : Nat} (hmay : s.rngMayStart = true) (hfailed : s.rng.failedAt = some n) :
    exec (.rngStartupRetry ws kat) s = .next (({ s with mono := max s.mono (n + 10 ^ 9) } : State).rngStart ws kat) := by
  refine congrArg Host.Outcome.next ?_
  simp only [hfailed]
  exact if_pos hmay

end

end Sys2Proof.Machine

/-! ### The random bit generator's events (O51) -/

namespace Sys2Proof.Machine

section
variable {s t : State} {q : Request}

/-- The end of a full capture frees the buffer's source (R329). -/
theorem rngTapEnd_full {n want : Nat} (htap : s.rng.tap = some (n, want)) (hfull : cdiv want 8 ≤ s.rng.capture.length) :
    let u := s.setSource n { s.source n with health := (s.source n).afterTap, passes := 0 }
    exec .rngTapEnd s = .next { u with rng := { u.rng with tap := none } } := by
  refine congrArg Host.Outcome.next ?_
  simp only [htap]
  exact if_pos hfull

/-- RNG_TAP in TEST with a body that names a capture (R329). -/
theorem rngTap_captures (htakes : scTakes s t 0x0E09 q) (hbody : tapBodyOk q.body = true) (hlife : t.lifecycle = .test) :
    exec .rngTap s = .next (if t.tapAllowed (leAt q.body 0 1) (leAt q.body 4 4)
      then (t.startTap (leAt q.body 0 1) (leAt q.body 4 4)).answer q 0 else t.answer q St.rngTapRefused) := by
  have hlen : q.body.length ≠ 16 := by
    simp only [tapBodyOk, Bool.and_eq_true, beq_iff_eq] at hbody
    omega
  refine congrArg Host.Outcome.next ((command_taken htakes).trans ?_)
  simp only [hlen, hbody, hlife, false_and, if_false, Bool.true_eq_false]

/-- RNG_TAP in TEST with a body of 16 bytes reads what a capture has taken (R329; log 122). -/
theorem rngTap_reads (htakes : scTakes s t 0x0E09 q) (hlen : q.body.length = 16) (hlife : t.lifecycle = .test) (htap : t.rng.tap = none)
    (hres : allZero (q.body.drop 12) = true) (hmax : leAt q.body 8 4 ≤ 65536) :
    exec .rngTap s = .next (t.answer q 0 (slice t.rng.capture (leAt q.body 0 8) (leAt q.body 8 4))) := by
  refine congrArg Host.Outcome.next ((command_taken htakes).trans ?_)
  have hfits := Nat.not_lt.mpr hmax
  simp only [hlen, hlife, State.tapRead, htap, hres, hfits, true_or, and_self, if_true, Bool.true_eq_false, Option.isSome_none,
    Bool.false_eq_true, or_self, if_false]

/-- A core's read that its expander still cannot serve ends its invocation (R325). -/
theorem rngReaderTimeout_starves {n m i : Nat} {k : Core} (hcore : s.core? (.tx n m) = some k) (hwait : k.wait = .random i)
    (hdry : s.canDraw n = false) : exec (.rngReaderTimeout (.tx n m)) s =
      .next ((({ s with mono := max s.mono (i + 10 ^ 6) } : State).event n St.rngStarved [n]).endWith (.tx n m) k St.rngStarved []) := by
  refine congrArg Host.Outcome.next ?_
  simp only [hcore, hwait, hdry, Bool.false_eq_true, if_false]

end

/-- Settles O51: a block needs a healthy source and a passing window (`sourceWindow_block`), so below two healthy sources there are fewer
than two blocks (`sourceWindows_blocks_le`) and no seed; start-up ends in one of three ways (`rngStart_succeeds`, `rngStart_fails`,
`rngStart_goesOn`), and its windows keep the mark of a stopped generator (`startWindows_marked`). -/
theorem rngResults : Obligations.RngResults := by
  unfold Obligations.RngResults
  intro s t q ws wss w i n m want k ok
  dsimp only
  refine ⟨fun _ => State.sourceWindow_failed, fun _ => State.sourceWindow_used, fun hfew => ⟨_, rfl, State.windowEnd_of_few hfew ws⟩,
    fun hstarted => ?window, fun hmay hfirst => ⟨fun hpassed => ?succeeds, fun hfailed => ?fails, fun hpassed hlen => ?goesOn⟩,
    rngStartupRetry_again, fun htap hfull hn => ?tapEnd, fun htakes hbody hlife => ⟨fun hallowed => ?captures, fun hrefused => ?refuses⟩,
    rngTap_reads, rngReaderTimeout_starves⟩
  case window =>
    exact congrArg Host.Outcome.next (if_neg (ne_false_of_eq_true hstarted))
  case succeeds =>
    have hmarked := State.startWindows_marked wss false s.rngReleased s.rngReleased_marked fun _ => by
      rw [s.rngReleased_healthy]
      decide
    rw [rngStartup_first hmay hfirst, State.rngStart_succeeds hpassed]
    exact ⟨_, rfl, rfl, hmarked, rfl, rfl⟩
  case fails =>
    obtain ⟨hat, hstarted, hexpanders, hporter⟩ := State.rngStart_fails hfailed
    refine ⟨_, rngStartup_first hmay hfirst, hat, hstarted.trans (State.not_started_of_rngMayStart hmay), fun e he => ?_, hporter⟩
    exact State.rngReleased_expanders (hexpanders ▸ he)
  case goesOn =>
    rw [rngStartup_first hmay hfirst, State.rngStart_goesOn hpassed hlen]
  case tapEnd =>
    exact ⟨_, rngTapEnd_full htap hfull, rfl, State.source_setSource_same hn _, State.setSource_expanders ..⟩
  case captures => rw [rngTap_captures htakes hbody hlife, if_pos hallowed]
  case refuses => rw [rngTap_captures htakes hbody hlife, if_neg (ne_true_of_eq_false hrefused)]

end Sys2Proof.Machine

/-! ### What leaves the sequencer as it is -/

namespace Sys2Proof.Machine

/-- A run of operations each of which leaves the sequencer as it is leaves it as it is. -/
theorem State.foldl_seq {α : Type} {f : State → α → State} (h : ∀ s a, (f s a).seq = s.seq) (l : List α) (s : State) :
    (l.foldl f s).seq = s.seq := by
  induction l generalizing s with
  | nil => rfl
  | cons a l ih => exact (ih (f s a)).trans (h s a)

section
variable (s : State)

@[simp] theorem State.endWait_seq (q : Request) (st : Status) (b : Bytes) : (s.endWait q st b).seq = s.seq := rfl
@[simp] theorem State.sample_seq (n m v : Nat) : (s.sample n m v).seq = s.seq := rfl
@[simp] theorem State.freeRetired_seq : s.freeRetired.seq = s.seq := rfl
@[simp] theorem State.settleCost_seq (k : Core) : (s.settleCost k).seq = s.seq := rfl
@[simp] theorem State.enterS1_seq : s.enterS1.seq = s.seq := by
  unfold State.enterS1; split <;> rfl
@[simp] theorem State.idleCluster_seq (c : CoreId) : (s.idleCluster c).seq = s.seq := by
  unfold State.idleCluster
  split
  · rfl
  · split
    · rfl
    · split <;> rfl

/-! Frames out of a port. -/

@[simp] theorem State.setPort_seq (n : Nat) (p : Port) : (s.setPort n p).seq = s.seq := by
  unfold State.setPort; split <;> rfl
@[simp] theorem State.count_seq (p c n : Nat) : (s.count p c n).seq = s.seq := by
  unfold State.count; split <;> simp
@[simp] theorem State.sendFrame_seq (p : Nat) (d : Source) (h : CaravanHdr) (k : Option (Bytes × Bytes)) (b : Bytes) :
    (s.sendFrame p d h k b).seq = s.seq := by
  unfold State.sendFrame; split <;> simp
@[simp] theorem State.sendTagged_seq (n p : Nat) (d : Source) (t : Nat) (b : Bytes) : (s.sendTagged n p d t b).seq = s.seq := by
  unfold State.sendTagged
  split
  · rfl
  · split <;> simp
@[simp] theorem State.orphanResponse_seq (r : Response) : (s.orphanResponse r).seq = s.seq := by
  unfold State.orphanResponse; split <;> simp

/-! Jobs of the engines, the end of an invocation. -/

@[simp] theorem State.resumeLne_seq (n : Nat) : (s.resumeLne n).seq = s.seq := by
  unfold State.resumeLne
  split
  · split
    · split
      · simp only [State.updLneJob_seq]
        split
        · split <;> rfl
        · rfl
      · rfl
    · rfl
  · rfl
@[simp] theorem State.wakeLne_seq : s.wakeLne.seq = s.seq := by
  unfold State.wakeLne
  split
  · rfl
  · split
    · rfl
    · split <;> rfl
@[simp] theorem State.dropLneJob_seq (j : LneJob) : (s.dropLneJob j).seq = s.seq := by
  unfold State.dropLneJob
  split
  · split
    · simp only [State.wakeLne_seq, State.resumeLne_seq]
    · rfl
  · simp only [State.wakeLne_seq]
@[simp] theorem State.abortLneJob_seq (j : LneJob) : (s.abortLneJob j).seq = s.seq := by
  unfold State.abortLneJob; split <;> simp
@[simp] theorem State.dropLaneJob_seq (j : LaneJob) : (s.dropLaneJob j).seq = s.seq := by
  have hlanes {t u : State} (h : LanesOnly t u) : u.seq = t.seq := by
    obtain ⟨_, _, rfl⟩ := h
    rfl
  unfold State.dropLaneJob
  dsimp only
  split
  · rw [hlanes (State.assignWaiting_lanesOnly ..), hlanes (State.vacate_lanesOnly ..)]
  · rfl
@[simp] theorem State.dropJobs_seq (c : CoreId) : (s.dropJobs c).seq = s.seq :=
  (State.foldl_seq State.dropLaneJob_seq ..).trans (State.foldl_seq State.abortLneJob_seq ..)
@[simp] theorem State.endInvocation_seq (c : CoreId) (k : Core) (st : Status) (b : Bytes) : (s.endInvocation c k st b).seq = s.seq := by
  have hcommitted (u : State) (b : Bool) : (if b = true then u.event (tapOf c) St.faultAfterCommit [st, k.req.ticket] else u).seq = u.seq := by
    split <;> rfl
  simp only [State.endInvocation, State.respond_seq, State.sample_seq, State.enterS1_seq, State.idleCluster_seq, State.settleCost_seq,
    State.freeRetired_seq, State.dropJobs_seq]
  split
  · split
    · exact hcommitted ..
    · exact hcommitted ..
  · exact hcommitted ..
@[simp] theorem State.coreCommitted_seq (c : CoreId) (st : Status) (n : Nat) : (s.coreCommitted c st n).seq = s.seq := by
  unfold State.coreCommitted
  split
  · rfl
  · split
    · rfl
    · cases c with
      | sc => rfl
      | tx => simp
    · rfl

/-! Token slots and draws. -/

@[simp] theorem State.setSlot_seq (n : Nat) (x : Slot) : (s.setSlot n x).seq = s.seq := by
  unfold State.setSlot
  split
  · rfl
  · split <;> rfl
@[simp] theorem State.tokenSend_seq (n : Nat) (w : TokenPurpose) (i a : Nat) (l : Bytes) : (s.tokenSend n w i a l).seq = s.seq :=
  State.setSlot_seq ..
@[simp] theorem State.lockSlot_seq (n : Nat) : (s.lockSlot n).seq = s.seq := by
  unfold State.lockSlot
  dsimp only
  split
  · split <;> simp
  · split
    · rfl
    · split <;> simp
  · split <;> simp
@[simp] theorem State.takeTicket_seq : s.takeTicket.2.seq = s.seq := by
  unfold State.takeTicket
  dsimp only
  split <;> rfl
@[simp] theorem State.cancelSleep_seq : s.cancelSleep.seq = s.seq := by
  unfold State.cancelSleep
  split <;> rfl
@[simp] theorem State.stampRequest_seq (r : Request) (x : Option Status) : (s.stampRequest r x).seq = s.seq := by
  have hqueued (d : Dispatcher) : ({ s.takeTicket.2 with disp := d } : State).cancelSleep.seq = s.seq :=
    (State.cancelSleep_seq _).trans s.takeTicket_seq
  unfold State.stampRequest
  dsimp only
  split
  · exact s.takeTicket_seq
  · split
    · exact hqueued _
    · exact hqueued _
@[simp] theorem State.raiseStep_seq (n : Nat) (w : TokenPurpose) (i a : Nat) (l : Bytes) : (s.raiseStep n w i a l).seq = s.seq := by
  simp [State.raiseStep]
@[simp] theorem State.startShare_seq (n : Nat) (st : Status) : (s.startShare n st).seq = s.seq := by
  unfold State.startShare
  extract_lets
  split
  · rfl
  · extract_lets
    split
    · rfl
    · split <;> simp
@[simp] theorem State.tryReads_seq (e : Nat) (who : DrawReader) (l : List Nat) : (s.tryReads e who l).2.seq = s.seq := by
  obtain ⟨x, r, heq⟩ := s.tryReads_eq e who l
  rw [heq]
@[simp] theorem State.prepareBackup_seq : s.prepareBackup.seq = s.seq := by
  unfold State.prepareBackup
  split
  · rfl
  · extract_lets
    split
    · rfl
    · split
      next hread => exact (congrArg (fun r => r.2.seq) hread).symm.trans (s.tryReads_seq ..)
      next hread => exact (congrArg (fun r => r.2.seq) hread).symm.trans (s.tryReads_seq ..)

end
end Sys2Proof.Machine

/-! ### What a commit's change and its maker's outcome leave alone (R332, R333, R347) -/

namespace Sys2Proof.Machine

/-- What the application of a commit leaves alone besides its own change: the commits accepted, APPLIED_CSN, the cores, and how the
security controller runs. -/
structure Course where
  accepted : List Accepted
  applied : Nat
  cores : List (CoreId × Core)
  mode : ScMode

def State.course (s : State) : Course :=
  { accepted := s.seq.accepted, applied := s.seq.applied, cores := s.cores, mode := s.sc.mode }

/-- A run of operations each of which leaves the course of commits alone leaves it alone. -/
theorem State.foldl_course {α : Type} {f : State → α → State} (h : ∀ s a, (f s a).course = s.course) (l : List α) (s : State) :
    (l.foldl f s).course = s.course := by
  induction l generalizing s with
  | nil => rfl
  | cons a l ih => exact (ih (f s a)).trans (h s a)

/-- Work that leaves the steady parts and the sequencer alone. -/
theorem State.course_of_steady {s t : State} (hsteady : t.steady = s.steady) (hseq : t.seq = s.seq) : t.course = s.course := by
  have hcores : t.cores = s.cores := congrArg Steady.cores hsteady
  have hmode : t.sc.mode = s.sc.mode := congrArg Steady.mode hsteady
  simp only [State.course, hseq, hcores, hmode]

section
variable (s : State)

/-! Stages and sessions. -/

theorem State.withdrawApply_course (g : Nat) (st : Status) : (s.withdrawApply g st).course = s.course := by
  unfold State.withdrawApply
  refine (State.foldl_course (fun t w => ?_) _ _).trans (State.foldl_course (fun t w => ?_) _ _)
  · rfl
  · split <;> rfl
theorem State.dropStages_course (f : Stage → Bool) : (s.dropStages f).course = s.course := by
  unfold State.dropStages
  refine (State.foldl_course (fun t g => ?_) _ _).trans (State.foldl_course (fun t g => ?_) _ s)
  · rfl
  · exact t.withdrawApply_course ..
theorem State.forgetSession_course (n : Nat) : (s.forgetSession n).course = s.course := by
  have hjobs : (s.dropNetJobs (· == n)).course = s.course :=
    State.foldl_course (fun t j => State.course_of_steady (t.dropLneJob_steady j) (t.dropLneJob_seq j)) _ s
  unfold State.forgetSession
  generalize s.dropNetJobs (· == n) = t at hjobs ⊢
  exact (State.dropStages_course _ _).trans hjobs
theorem State.closeSession_course (n st r : Nat) : (s.closeSession n st r).course = s.course := by
  unfold State.closeSession
  split
  · rfl
  next x _ =>
    have hheld (t : State) : (x.held.foldl State.orphanResponse t).course = t.course :=
      State.foldl_course (fun t r => State.course_of_steady (t.orphanResponse_steady r) (t.orphanResponse_seq r)) _ t
    refine (State.forgetSession_course ..).trans ((hheld _).trans ?_)
    exact State.course_of_steady (State.sendTagged_steady ..) (State.sendTagged_seq ..)
theorem State.settleClosing_course (n : Nat) : (s.settleClosing n).course = s.course := by
  unfold State.settleClosing
  split
  · split
    · split
      · rfl
      · exact s.closeSession_course ..
    · rfl
  · rfl
theorem State.closePartitionSessions_course (p r : Nat) : (s.closePartitionSessions p r).course = s.course := by
  unfold State.closePartitionSessions
  refine State.foldl_course (fun t x => ?_) _ s
  exact State.settleClosing_course ..
theorem State.cancelQueued_course (f : Request → Bool) (st : Status) : (s.cancelQueued f st).course = s.course := by
  rw [State.cancelQueued_eq]
  rfl

/-! The effects of items. -/

theorem State.closeCredential_course (p n : Nat) : (s.closeCredential p n).course = s.course :=
  State.foldl_course (fun t _ => t.closeSession_course ..) _ s
theorem State.placeSlot_course (r : Nat) : (s.placeSlot r).course = s.course := by
  unfold State.placeSlot
  dsimp only
  split <;> rfl
theorem State.addBough_course (p : Nat) : (s.addBough p).course = s.course := by
  unfold State.addBough
  split <;> rfl
theorem State.removePartition_course (p : Nat) : (s.removePartition p).course = s.course := by
  unfold State.removePartition
  extract_lets drop store seq t t1
  have h1 : t1.course = s.course := (State.closePartitionSessions_course ..).trans (t.cancelQueued_course ..)
  split
  · exact h1
  · exact h1
theorem State.undefineQueue_course (n : Nat) : (s.undefineQueue n).course = s.course := by
  have hempty : (s.emptyQueue (n / 16) (n % 16)).2.2.course = s.course := State.cancelQueued_course ..
  unfold State.undefineQueue
  dsimp only
  split
  · exact hempty
  · exact hempty
theorem State.setPort_course (n : Nat) (p : Port) : (s.setPort n p).course = s.course :=
  State.course_of_steady (s.setPort_steady n p) (s.setPort_seq n p)
theorem State.restartPort_course (n : Nat) : (s.restartPort n).course = s.course := by
  unfold State.restartPort
  split
  · exact s.setPort_course ..
  · rfl
theorem State.pairChanged_course : s.pairChanged.course = s.course := by
  unfold State.pairChanged
  split <;> rfl

/-- An item's effect besides its change of the durable state leaves the course of commits alone (R332, R333): the cases are those of
`State.itemEffect`, in its order. -/
theorem State.itemEffect_course (old : Durable) (p csn : Nat) (i : CItem) : (State.itemEffect old s p csn i).course = s.course := by
  unfold State.itemEffect
  split
  · exact s.placeSlot_course _
  · rfl
  · rfl
  · exact State.closeCredential_course ..
  · rfl
  · split
    · rfl
    · exact s.addBough_course _
  · exact s.removePartition_course _
  · split
    · exact s.undefineQueue_course _
    · rfl
  · split
    · rfl
    · exact s.restartPort_course _
  · exact s.pairChanged_course
  · split
    · dsimp only
      split
      · rfl
      · split <;> rfl
    · rfl
  · rfl
  · dsimp only
    split <;> rfl
  · split <;> rfl
  · rfl

theorem State.syncRef_course (recs : List (Nat × List Bytes)) (r : Nat) : (State.syncRef recs s r).course = s.course := by
  unfold State.syncRef
  split
  · rfl
  · dsimp only
    split <;> rfl
theorem State.syncArea_course (r : Record) (ivs : Bytes) : (s.syncArea r ivs).course = s.course :=
  State.foldl_course (fun t _ => t.syncRef_course ..) _ s
theorem State.freeRetired_course : s.freeRetired.course = s.course := rfl
theorem State.trimJournal_course : s.trimJournal.course = s.course := by
  unfold State.trimJournal
  dsimp only
  split <;> rfl

/-- A record's change makes its CSN APPLIED_CSN (R332). -/
theorem State.applyChange_course (r : Record) (ivs : Bytes) : (s.applyChange r ivs).course = { s.course with applied := r.csn } := by
  have hitems (u : State) : (r.items.foldl (fun (u : State) i => State.itemEffect s.durable u r.partition r.csn i) u).course = u.course :=
    State.foldl_course (fun v i => v.itemEffect_course _ _ _ i) _ u
  refine (State.trimJournal_course _).trans ((State.freeRetired_course _).trans ((hitems _).trans ((State.syncArea_course ..).trans ?_)))
  rfl

/-! The outcome at the commit's maker. -/

theorem State.completeCeremony_seq (n : Nat) : (s.completeCeremony n).seq = s.seq := by
  have hclosed (t : State) (c : Ceremony) : (t.closeCeremony c 0).seq = t.seq := by
    simp only [State.closeCeremony, State.lockSlot_seq, State.setCeremony_seq, ne_eq, not_true_eq_false, and_false, if_false]
    refine State.foldl_seq (fun u w => ?_) _ t
    split <;> rfl
  unfold State.completeCeremony
  split
  · rfl
  · exact (hclosed ..).trans (State.scEvent_seq ..)
theorem State.ceremonyCommitted_seq (g : Nat) (items : List CItem) (n : Nat) : (s.ceremonyCommitted g items n).seq = s.seq := by
  unfold State.ceremonyCommitted
  split
  · rfl
  · split
    · simp
    · exact s.completeCeremony_seq n

/-- The outcome at a commit's maker takes no accepted commit and moves no CSN. -/
theorem State.commitDone_accepted_applied (src : CommitSrc) (r : Record) (total : Nat) :
    (s.commitDone src r total).seq.accepted = s.seq.accepted ∧ (s.commitDone src r total).seq.applied = s.seq.applied := by
  cases src with
  | core c =>
    have hseq : (s.commitDone (.core c) r total).seq = s.seq := s.coreCommitted_seq c 0 r.csn
    exact ⟨congrArg Sequencer.accepted hseq, congrArg Sequencer.applied hseq⟩
  | stage q g =>
    have hseq (t : State) : (t.ceremonyCommitted g r.items r.csn).seq = t.seq := t.ceremonyCommitted_seq g r.items r.csn
    simp only [State.commitDone, State.dropApplied, hseq, State.endWait_seq, State.scEvent_seq, and_self]
  | _ => exact ⟨rfl, rfl⟩

end
end Sys2Proof.Machine

/-! ### The commit sequencer's rules (R331 to R349) -/

namespace Sys2Proof.Machine

/-! Records on their way to the partner and to the journal ring. -/

theorem State.mirSend_eq (s : State) (type : Nat) (body : Bytes) (recs : List Record) :
    ∃ o p, s.mirSend type body recs = { s with outputs := o, pair := p } := by
  unfold State.mirSend
  split
  · exact ⟨s.outputs, _, rfl⟩
  · split
    · exact ⟨_, _, rfl⟩
    · exact ⟨s.outputs, s.pair, rfl⟩

theorem State.sendBlocks_eq (stream : Nat) (recs : List Record) (frames : Nat) (l : List Bytes) (s : State) :
    ∃ o p, State.sendBlocks stream recs frames l s = { s with outputs := o, pair := p } := by
  induction frames generalizing l s with
  | zero => exact ⟨s.outputs, s.pair, rfl⟩
  | succ f ih =>
    have hframe (blocks : List Bytes) (rs : List Record) :
        ∃ o p, s.sendFrameBlocks stream blocks rs = { s with outputs := o, pair := p } := by
      unfold State.sendFrameBlocks
      dsimp only
      obtain ⟨o, p, hsend⟩ := s.mirSend_eq (streamType stream)
        (streamBody (if stream = 0 then s.pair.nextBlk else s.pair.snapNextBlk) blocks) rs
      rw [hsend]
      exact ⟨o, _, rfl⟩
    obtain ⟨o, p, hfirst⟩ := hframe (l.take 32) (if l.length ≤ 32 then recs else [])
    obtain ⟨o', p', hrest⟩ := ih (l.drop 32) (s.sendFrameBlocks stream (l.take 32) (if l.length ≤ 32 then recs else []))
    exact ⟨o', p', hrest.trans (by rw [hfirst])⟩

/-- A record that goes to the partner touches the pair and the wires. -/
theorem State.sendRecord_eq (s : State) (r : Record) : ∃ o p, s.sendRecord r = { s with outputs := o, pair := p } := by
  unfold State.sendRecord
  split
  · exact State.sendBlocks_eq ..
  · exact ⟨s.outputs, s.pair, rfl⟩

@[simp] theorem State.sendRecord_seq (s : State) (r : Record) : (s.sendRecord r).seq = s.seq := by
  obtain ⟨o, p, heq⟩ := s.sendRecord_eq r
  rw [heq]
@[simp] theorem State.sendRecord_durable (s : State) (r : Record) : (s.sendRecord r).durable = s.durable := by
  obtain ⟨o, p, heq⟩ := s.sendRecord_eq r
  rw [heq]
@[simp] theorem State.sendRecord_cores (s : State) (r : Record) : (s.sendRecord r).cores = s.cores := by
  obtain ⟨o, p, heq⟩ := s.sendRecord_eq r
  rw [heq]

/-- A reservation of CSNs moves the end of the block, and goes to the partner and the control ring (R331, R369). -/
theorem State.reserveCsns_eq (s : State) :
    ∃ e o p x, s.reserveCsns = { s with seq := { s.seq with blockEnd := e }, outputs := o, pair := p, sc := x } := by
  unfold State.reserveCsns
  split
  · dsimp only
    unfold State.sendReserve
    obtain ⟨o, p, hsend⟩ := State.sendRecord_eq (({ s with seq := { s.seq with blockEnd := s.seq.next + 2 ^ 24 } } : State).control 7)
      { csn := 0, ticket := 0, durableBelow := s.seq.durableBelow, partition := 0, items := [.csnReserve (s.seq.next + 2 ^ 24)],
        mono := s.mono, lines := 2 }
    exact ⟨_, o, p, _, hsend⟩
  · exact ⟨s.seq.blockEnd, s.outputs, s.pair, s.sc, rfl⟩

/-- Where a record is written depends on the ring alone (R340). -/
theorem Sequencer.write_congr {p q : Sequencer} (hjournal : p.journal = q.journal) (hat : p.ringAt = q.ringAt) (r : Record) :
    (p.write r).journal = (q.write r).journal ∧ (p.write r).ringAt = (q.write r).ringAt := by
  unfold Sequencer.write
  rw [hjournal, hat]
  dsimp only
  split
  · exact ⟨rfl, rfl⟩
  · exact ⟨rfl, rfl⟩

theorem Sequencer.write_waiting (q : Sequencer) (r : Record) : (q.write r).waiting = q.waiting := by
  unfold Sequencer.write
  dsimp only
  split <;> rfl

/-! Admission. -/

/-- A record of a commit's own contents at the next CSN (R331). -/
structure Sequencer.Records (q : Sequencer) (w : PendingCommit) (b : Accepted) : Prop where
  csn : b.record.csn = q.next
  items : b.record.items = w.items
  partition : b.record.partition = w.partition
  ticket : b.record.ticket = w.ticket
  src : b.src = w.src

/-- What acceptance does (R331, R340): the commit leaves the waiting list, its record takes the next CSN and is written to the ring. -/
theorem State.acceptCommit_result (s : State) (w : PendingCommit) : ∃ b, s.seq.Records w b ∧
    (s.acceptCommit w).seq.next = s.seq.next + 1 ∧ (s.acceptCommit w).seq.waiting = s.seq.waiting.erase w ∧
    (s.acceptCommit w).seq.accepted = s.seq.accepted ++ [b] ∧ (s.acceptCommit w).seq.journal = (s.seq.write b.record).journal ∧
    (s.acceptCommit w).seq.ringAt = (s.seq.write b.record).ringAt ∧ (s.acceptCommit w).durable = s.durable ∧
    (s.acceptCommit w).cores = s.cores := by
  obtain ⟨e, o, p, x, hreserve⟩ := s.reserveCsns_eq
  unfold State.acceptCommit
  rw [hreserve]
  extract_lets t r0 src r q a
  obtain ⟨hjournal, hat⟩ := Sequencer.write_congr (p := q) (q := s.seq) rfl rfl r
  refine ⟨a, ⟨rfl, rfl, rfl, rfl, rfl⟩, ?_⟩
  simp only [State.sample_seq, State.sendRecord_seq, State.writeArea]
  exact ⟨rfl, q.write_waiting r, rfl, hjournal, hat, State.sendRecord_durable .., State.sendRecord_cores ..⟩

end Sys2Proof.Machine

/-! ### The sequencer's events (O48) -/

namespace Sys2Proof.Machine

section
variable {s t u : State} {w : PendingCommit} {a : Accepted} {l : List Accepted} {c : CoreId} {k : Core} {d g : GReg} {n : Nat}
  {st : Status} {ix : Option Nat} {ivs : Bytes}

theorem State.scOn_of_running (h : s.sc.mode = .running) : s.scOn = true := beq_iff_eq.mpr h

/-- The sequencer's work is its step where the security controller runs. -/
theorem next_of_scOn (h : s.sc.mode = .running) (heq : t = u) : (Host.Outcome.next (if s.scOn then t else s) : Out) = .next u :=
  congrArg Host.Outcome.next ((if_pos (State.scOn_of_running h)).trans heq)
theorem next_signal_of_scOn (h : s.sc.mode = .running) (heq : t = u) :
    (Host.Outcome.next (s.signal (if s.scOn then t else s)) : Out) = .next (s.signal u) :=
  congrArg (fun v => Host.Outcome.next (s.signal v)) ((if_pos (State.scOn_of_running h)).trans heq)

/-- A core's or a stage's commit without a failing item, with room in the retire table, is accepted. -/
theorem State.checkCommit_accepts (hsrc : w.src.holds = true) (herror : s.commitError w = none) (hroom : s.retireFull w = false) :
    s.checkCommit w = s.acceptCommit w := by
  unfold State.checkCommit
  split
  next hbody => simp [hbody, CommitSrc.holds] at hsrc
  next => simp only [herror, hroom, Bool.false_eq_true, if_false]

/-- One with a failing item is refused and gives back its tokens. -/
theorem State.checkCommit_refuses (hsrc : w.src.holds = true) (herror : s.commitError w = some (st, ix)) :
    s.checkCommit w = ((s.giveTokens w).dropWaiting w).refuseCommit w.src st ix := by
  unfold State.checkCommit
  split
  next hbody => simp [hbody, CommitSrc.holds] at hsrc
  next => simp only [herror]

/-- The first commit that no hold keeps, with room in the ring and tokens, goes on to its checks, once the IVs of its key records
are drawn (R326, R348). -/
theorem State.commitAdmit_passes (hserves : s.serves = true)
    (hfirst : (s.seq.waiting.find? fun x => !s.held x && !(x.drawn && s.retireFull x)) = some w) (hdrawn : w.drawn = false)
    (hring : s.journalLines * 10 ≤ ringLines * 9) (htokens : s.hasTokens w = true) :
    (ivRecords w.items = 0 → s.commitAdmit = (s.drawTokens w).checkCommit w) ∧
    ∀ t, ivRecords w.items ≠ 0 → s.recordIvs (.commit w.ticket) (ivRecords w.items) = (none, t) → s.commitAdmit = t := by
  have hroom := Nat.not_lt.mpr hring
  constructor
  · intro hnone
    simp only [State.commitAdmit, hserves, hfirst, hdrawn, hroom, htokens, hnone, Bool.true_eq_false, Bool.false_eq_true, if_false, if_true]
  · intro t hsome hwait
    simp only [State.commitAdmit, hserves, hfirst, hdrawn, hroom, htokens, hsome, hwait, Bool.true_eq_false, Bool.false_eq_true, if_false]

/-- A commit that waited for tokens longer than R348 allows. -/
theorem State.commitBacklog_refuses (hfind : (s.seq.waiting.find? fun x => x.ticket == n && !x.drawn && !s.held x) = some w) :
    s.commitBacklog n =
      (({ s with mono := max s.mono (w.free.getD s.mono + 5 * 10 ^ 6) } : State).dropWaiting w).refuseCommit w.src St.commitBacklog none := by
  simp only [State.commitBacklog, hfind]

/-! The outcome at a core. -/

/-- A core whose commit has come out: gD holds the status, gA the CSN, and it goes on (R138). -/
def Core.committed (k : Core) (d g : GReg) (st : Status) (csn : Nat) : Core :=
  ((({ k with commitCsn := csn, stage := [] } : Core).setG d (BitVec.ofNat 64 st)).setG g (BitVec.ofNat 64 csn)).adv

theorem State.coreCommitted_waiting (hcore : s.core? c = some k) (hwait : k.wait = .commit d g) (st : Status) (csn : Nat) :
    s.coreCommitted c st csn = s.setCore c (k.committed d g st csn) := by
  simp only [State.coreCommitted, hcore, hwait, Core.committed]

/-- The commits that stay are all others; the record's maker has its refusal (R368). -/
theorem State.ackTimeout_core (hfind : (s.seq.accepted.find? fun x => x.record.csn == n) = some a) (hacks : s.needsAcks = true)
    (hacked : s.pair.acked < n) (hsrc : a.src = .core c) (hcore : s.core? c = some k) (hwait : k.wait = .commit d g) :
    ∃ q, s.ackTimeout n = ({ s with mono := max s.mono (a.at0 + 10 ^ 6), seq := q } : State).setCore c
      (k.committed d g St.mirrorUnavailable 0) ∧ q.accepted = s.seq.accepted.filter fun x => x.record.csn != n := by
  have hpos : n ≠ 0 := Nat.ne_zero_of_lt hacked
  have hlate := Nat.not_le.mpr hacked
  have hrefused (q : Sequencer) : ({ s with mono := max s.mono (a.at0 + 10 ^ 6), seq := q } : State).coreCommitted c St.mirrorUnavailable 0 =
      ({ s with mono := max s.mono (a.at0 + 10 ^ 6), seq := q } : State).setCore c (k.committed d g St.mirrorUnavailable 0) :=
    State.coreCommitted_waiting (by exact hcore) hwait ..
  unfold State.ackTimeout
  simp only [hfind, hacks, hpos, hlate, hsrc, Bool.true_eq_false, or_self, if_false, State.refuseCommit, hrefused]
  exact ⟨_, rfl, rfl⟩

/-! Application. -/

/-- The draw of records' IVs touches the expanders and the events, whether it is served or not. -/
theorem State.recordIvs_drawn {who : DrawReader} {x : Option Bytes} (h : s.recordIvs who n = (x, t)) :
    ∃ e r, t = { s with expanders := e, raised := r } := by
  unfold State.recordIvs at h
  split at h
  · cases h
    exact ⟨s.expanders, s.raised, rfl⟩
  · obtain ⟨e, r, heq⟩ := s.tryReads_eq 12 who [12 * n]
    exact ⟨e, r, (congrArg Prod.snd h).symm.trans heq⟩

/-- The next durable commit is applied (R332). -/
theorem State.commitApply_applies (hnext : s.seq.accepted = a :: l) (hcsn : a.record.csn ≠ 0) (hdurable : a.record.csn ≤ s.seq.durableBelow)
    (hivs : s.recordIvs (.change a.record.csn) (recordCount (s.durable.rewraps a.record)) = (some ivs, t)) :
    s.commitApply = ((({ t with seq := { t.seq with accepted := l } } : State).applyChange a.record ivs).commitDone a.src a.record).sample
      a.src.tap 8 (s.mono - a.at0) := by
  simp only [State.commitApply, hnext, hcsn, hdurable, hivs, if_false, if_true]

/-- What has come of an applied commit: it is taken, APPLIED_CSN is its CSN, and a core that waits for it goes on (R138, R332). -/
theorem State.commitApply_result (hnext : s.seq.accepted = a :: l) (hcsn : a.record.csn ≠ 0) (hdurable : a.record.csn ≤ s.seq.durableBelow)
    (hivs : s.recordIvs (.change a.record.csn) (recordCount (s.durable.rewraps a.record)) = (some ivs, t)) :
    s.commitApply.seq.applied = a.record.csn ∧ s.commitApply.seq.accepted = l ∧
    (a.src = .core c → s.core? c = some k → k.wait = .commit d g → s.commitApply.core? c = some (k.committed d g 0 a.record.csn)) := by
  have hcourse := ({ t with seq := { t.seq with accepted := l } } : State).applyChange_course a.record ivs
  rw [State.commitApply_applies hnext hcsn hdurable hivs]
  generalize ({ t with seq := { t.seq with accepted := l } } : State).applyChange a.record ivs = u at hcourse ⊢
  obtain ⟨haccepted, happlied⟩ := u.commitDone_accepted_applied a.src a.record 0
  refine ⟨happlied.trans (congrArg Course.applied hcourse), haccepted.trans (congrArg Course.accepted hcourse), fun hsrc hcore hwait => ?_⟩
  obtain ⟨e, r, rfl⟩ := State.recordIvs_drawn hivs
  have hcores : u.cores = s.cores := congrArg Course.cores hcourse
  have hmode : u.sc.mode = s.sc.mode := congrArg Course.mode hcourse
  have hcommitted : u.commitDone a.src a.record = u.setCore c (k.committed d g 0 a.record.csn) := by
    rw [hsrc]
    exact State.coreCommitted_waiting ((State.core?_congr hcores hmode c).trans hcore) hwait ..
  rw [hcommitted]
  exact State.core?_setCore_same ..

/-! Checkpoints. -/

theorem State.trimJournal_eq (s : State) : ∃ m j x, s.trimJournal = { s with seq := { s.seq with trim := m, journal := j }, sc := x } := by
  unfold State.trimJournal
  dsimp only
  split
  · exact ⟨_, _, _, rfl⟩
  · exact ⟨_, _, s.sc, rfl⟩

/-- A checkpoint that starts (R246): its CSN is APPLIED_CSN, and one due by the ring or by commits starts now. -/
theorem keyCheckpointStart_result (hmode : s.sc.mode = .running) (hnone : s.seq.checkpoint = none) :
    ∃ v, exec .keyCheckpointStart s = .next v ∧ v.seq.checkpoint = some s.seq.applied ∧ v.seq.keyCommits = 0 ∧
      v.seq.lastCheckpoint = v.mono ∧ (s.checkpointDue = true → v.mono = s.mono) ∧ s.mono ≤ v.mono := by
  refine ⟨_, congrArg Host.Outcome.next (if_pos ⟨State.scOn_of_running hmode, by rw [hnone]; rfl⟩), rfl, rfl, rfl, fun hdue => if_pos hdue, ?_⟩
  dsimp only
  split
  · exact Nat.le_refl _
  · exact Nat.le_max_left ..

/-- The older copy takes the keys of the checkpoint's CSN (R246). -/
theorem keyCheckpointWritten_result {trunk : KeyMat} (hmode : s.sc.mode = .running) (hcsn : s.seq.checkpoint = some n)
    (htrunk : s.porter.trunk = some trunk) (hivs : s.recordIvs .checkpoint (((s.durable.copyKeys n).filter fun e =>
      !(if s.seq.copy0.csn ≤ s.seq.copy1.csn then s.seq.copy0 else s.seq.copy1).keys.contains e).map fun e => keyRecords e.2).sum =
        (some ivs, t)) :
    let copy : DbCopy := DbCopy.sealed { csn := n, trunkId := trunkId trunk, keys := s.durable.copyKeys n }
    ∃ v, exec .keyCheckpointWritten s = .next v ∧ v.seq.checkpoint = none ∧
      (if s.seq.copy0.csn ≤ s.seq.copy1.csn then v.seq.copy0 = copy ∧ v.seq.copy1 = s.seq.copy1
        else v.seq.copy1 = copy ∧ v.seq.copy0 = s.seq.copy0) ∧
      ∃ e ∈ v.raised, e.2.code = St.keyCheckpointWritten ∧ e.2.args = [n] := by
  refine ⟨s.checkpointWritten, next_of_scOn hmode rfl, ?_⟩
  simp only [State.checkpointWritten, hcsn, htrunk, hivs]
  obtain ⟨x, r, rfl⟩ := State.recordIvs_drawn hivs
  split
  · obtain ⟨m, j, y, htrim⟩ := State.trimJournal_eq _
    rw [htrim]
    exact ⟨rfl, ⟨rfl, rfl⟩, _, List.mem_append_right _ (List.mem_singleton_self _), rfl, rfl⟩
  · obtain ⟨m, j, y, htrim⟩ := State.trimJournal_eq _
    rw [htrim]
    exact ⟨rfl, ⟨rfl, rfl⟩, _, List.mem_append_right _ (List.mem_singleton_self _), rfl, rfl⟩

end

/-- Settles O48: admission goes by `commitAdmit_passes` and what acceptance does (`acceptCommit_result`); an applied commit leaves the course
of the others alone (`applyChange_course`, `commitDone_accepted_applied`), and its core goes on (`coreCommitted_waiting`). -/
theorem sequencerResults : Obligations.SequencerResults := by
  unfold Obligations.SequencerResults
  intro s w a l c k d g n st ix trunk hmode
  dsimp only
  refine ⟨fun hserves hfirst hdrawn hholds hring htokens => ⟨fun v hivs hwait => ?ivs, fun hnone herror hroom => ?accepted,
      fun hnone herror => ?refused⟩, fun hfind => ?backlog, next_of_scOn hmode rfl,
    fun hnext => ⟨fun hcsn hjournaled hmirrored => ?body, fun hcsn hopen => ?bodyWaits, fun ivs t hcsn hdurable hivs => ?applied, fun hlate => ?waits⟩,
    fun hfind hacks hacked hsrc hcore hwait => ?timeout, keyCheckpointStart_result hmode,
    fun ivs t hcsn htrunk hivs => keyCheckpointWritten_result hmode hcsn htrunk hivs⟩
  case ivs =>
    obtain ⟨-, hwaits⟩ := State.commitAdmit_passes (s := s.releaseHolds) hserves hfirst hdrawn hring htokens
    exact next_of_scOn hmode (hwaits v hivs hwait)
  case accepted =>
    obtain ⟨hpasses, -⟩ := State.commitAdmit_passes (s := s.releaseHolds) hserves hfirst hdrawn hring htokens
    obtain ⟨b, ⟨hcsn, hitems, hpartition, hticket, hsrc⟩, hnext, hwaiting, haccepted, hjournal, hat, hdurable, hcores⟩ :=
      (s.releaseHolds.drawTokens w).acceptCommit_result w
    obtain ⟨hjournal', hat'⟩ := Sequencer.write_congr (p := (s.releaseHolds.drawTokens w).seq) (q := s.seq) rfl rfl b.record
    exact ⟨_, b, next_of_scOn hmode ((hpasses hnone).trans (State.checkCommit_accepts hholds herror hroom)),
      hnext, hwaiting, haccepted, hjournal.trans hjournal', hat.trans hat', hcsn, hitems, hpartition, hticket, hsrc, hdurable, hcores⟩
  case refused =>
    obtain ⟨hpasses, -⟩ := State.commitAdmit_passes (s := s.releaseHolds) hserves hfirst hdrawn hring htokens
    exact next_of_scOn hmode ((hpasses hnone).trans (State.checkCommit_refuses hholds herror))
  case backlog => exact next_of_scOn hmode (State.commitBacklog_refuses hfind)
  case body =>
    refine next_signal_of_scOn hmode ?_
    simp only [State.commitApply, hnext, hcsn, hjournaled, hmirrored, Bool.and_self, if_true]
  case bodyWaits =>
    have hstays : (a.journaled && s.bodyMirrored a) = false := Bool.and_eq_false_iff.mpr hopen
    refine next_signal_of_scOn hmode ?_
    simp only [State.commitApply, hnext, hcsn, hstays, if_true, Bool.false_eq_true, if_false]
  case applied =>
    obtain ⟨happlied, haccepted, hcore⟩ := State.commitApply_result (c := c) (k := k) (d := d) (g := g) hnext hcsn hdurable hivs
    obtain ⟨o, v, b, hsignal⟩ := signal_eq s s.commitApply
    refine ⟨_, next_signal_of_scOn hmode rfl, ?_⟩
    rw [hsignal]
    exact ⟨happlied, haccepted, hcore⟩
  case waits =>
    have hcsn : a.record.csn ≠ 0 := Nat.ne_zero_of_lt hlate
    have hopen := Nat.not_le.mpr hlate
    refine next_signal_of_scOn hmode ?_
    simp only [State.commitApply, hnext, hcsn, hopen, if_false]
  case timeout =>
    obtain ⟨q, heq, hkept⟩ := State.ackTimeout_core hfind hacks hacked hsrc hcore hwait
    refine ⟨_, next_of_scOn hmode heq, rfl, fun x hx => ?_, rfl, State.core?_setCore_same ..⟩
    have hmem := List.mem_filter.mp (hkept ▸ hx)
    exact bne_iff_ne.mp hmem.2

end Sys2Proof.Machine

/-! ### The stage commands (R344 to R347) -/

namespace Sys2Proof.Machine

section
variable {s t u : State} {q : Request} {g : Stage} {code : Nat} {keys : Bytes} {items : List CItem} {w : ScCommand}

/-! The frame: a unit that serves, a stage of the requester. -/

theorem stageCommand_served (f : State → Request → State) (htakes : scTakes s t code q) (hserves : t.serves = true) :
    s.stageCommand code f = f t q :=
  (command_taken htakes).trans (if_pos hserves)

/-- A unit that does not serve refuses every stage command (R356). -/
theorem stageCommand_standby (f : State → Request → State) (htakes : scTakes s t code q) (hserves : t.serves = false) :
    s.stageCommand code f = t.answer q St.pairStandby (refusalBody code) :=
  (command_taken htakes).trans (if_neg (ne_true_of_eq_false hserves))

/-- The request names a stage of its own session and partition, in the form of R345. -/
abbrev State.namesOwn (t : State) (q : Request) (g : Stage) : Prop :=
  q.body.length = 8 ∧ allZero (q.body.drop 4) = true ∧ t.stageOf q (leAt q.body 0 4) = some g

theorem namedStage_own (f : State → Request → Stage → State) (htakes : scTakes s t code q) (hserves : t.serves = true)
    (hown : t.namesOwn q g) : s.namedStage code f = f t q g := by
  obtain ⟨hlen, hres, hstage⟩ := hown
  refine (stageCommand_served _ htakes hserves).trans ?_
  simp only [hlen, hres, hstage, ne_eq, not_true_eq_false, Bool.true_eq_false, or_self, if_false]

/-- A stage of the requester stands in the stage table under its own identifier. -/
theorem State.stage?_of_stageOf {id : Nat} (h : t.stageOf q id = some g) : t.stage? g.id = some g := by
  unfold State.stageOf at h
  split at h
  next x hfind =>
    split at h
    · cases h
      have hid : g.id = id := by simpa using List.find?_some hfind
      exact hid ▸ hfind
    · cases h
  next => cases h

/-- A run of items of which none is in error. -/
theorem firstError_none {α β : Type} {f : α → Option β} {l : List α} (h : ∀ a ∈ l, f a = none) (n : Nat) : firstError f n l = none := by
  induction l generalizing n with
  | nil => rfl
  | cons a l ih =>
    rw [firstError, h a (List.mem_cons_self ..)]
    exact ih (fun b hb => h b (List.mem_cons_of_mem _ hb)) (n + 1)

/-- The commit of STAGE_ADD (R345): a record of the stage's body. -/
def State.bodyCommit (s : State) (q : Request) (g : Stage) (l : List RawItem) : PendingCommit :=
  { src := .body q g.id, ticket := q.ticket, partition := q.partition, items := l.map fun i => decodeStageItem i.kind i.body,
    stageId := g.id, lines := 1 + cdiv (q.body.length - 8) 64, arrived := s.mono }

/-- STAGE_ADD of well-formed items that fit (R345). -/
theorem stageAdd_adds {l : List RawItem} (htakes : scTakes s t 0x0902 q) (hserves : t.serves = true) (hlen : 8 ≤ q.body.length)
    (hres : leAt q.body 6 2 = 0) (hraw : rawItems (leAt q.body 4 2) (q.body.drop 8) = some (l, []))
    (hstage : t.stageOf q (leAt q.body 0 4) = some g) (hfits : t.addFits g l.length ((l.map fun i => i.body.length).sum) = true)
    (hitems : ∀ i ∈ l, addError q.partition i = none) :
    exec .stageAdd s = .next (((t.queueCommit (t.bodyCommit q g l)).abandonFor g.id).await q .commit) := by
  have hlong := Nat.not_lt.mpr hlen
  refine congrArg Host.Outcome.next ((stageCommand_served _ htakes hserves).trans ?_)
  simp only [hlong, hres, hraw, hstage, hfits, firstError_none hitems, ne_eq, not_true_eq_false, or_self, if_false, Bool.true_eq_false]
  rfl

/-- The install step of a validated stage that no other APPLY has under way, its keys drawn and its items formed, hands its commit to
the sequencer and answers nothing yet (R347). -/
theorem State.install_commits (hstage : s.stage? g.id = some g) (hvalid : g.validated = true) (hfree : g.applying = none)
    (hdraws : s.installDraws q.ticket g.items = (some keys, u))
    (hitems : installItems g.partition (u.stageCeremony g.id) keys 0 g.items = .ok items) :
    ∃ w, (s.install q g.id).seq.waiting = u.seq.waiting ++ [w] ∧ w.src = .stage q g.id ∧ w.items = items ∧
      (s.install q g.id).egress = u.egress := by
  simp only [State.install, hstage, hfree, hvalid, hdraws, hitems, Option.isSome_none, Bool.false_eq_true, Bool.true_eq_false, if_false]
  exact ⟨_, rfl, rfl, rfl, rfl⟩

/-- The install step of STAGE_APPLY begins where no quorum is wanting (R346, R347). -/
theorem stageApply_installs (htakes : scTakes s t 0x0904 q) (hserves : t.serves = true)
    (hown : t.namesOwn q g) (hvalid : g.validated = true)
    (hquorum : g.items.any (itemQuorum t.lifecycle t.durable) = true → t.quorumMet g.id = true) :
    exec .stageApply s = .next ((t.await q (.install g.id t.mono)).install q g.id) := by
  have hmet : ¬ (g.items.any (itemQuorum t.lifecycle t.durable) = true ∧ t.quorumMet g.id = false) := fun ⟨hany, hnot⟩ =>
    absurd (hquorum hany) (ne_true_of_eq_false hnot)
  refine congrArg Host.Outcome.next ((namedStage_own _ htakes hserves hown).trans ?_)
  simp only [hvalid, hmet, Bool.true_eq_false, if_false]

/-- The first waiting command that can go on is handled (R548); without a ceremony there is no backup to prepare. -/
theorem scCommandResume_handles (hmode : s.sc.mode = .running) (hnone : s.custody.ceremony = none)
    (hfirst : s.sc.waiting.find? s.resumable = some w) :
    (∀ st x, w.wait = .decided st x → exec .scCommandResume s = .next (s.answerWaited w.req st x)) ∧
    ∀ n m, w.wait = .install n m → exec .scCommandResume s = .next (s.install w.req n) := by
  have hrun : exec .scCommandResume s = .next s.resumeCommand := by
    refine congrArg Host.Outcome.next ((if_pos (beq_iff_eq.mpr hmode)).trans ?_)
    simp only [State.resumeBackup, hnone]
  constructor
  · intro st x hdecided
    rw [hrun]
    simp only [State.resumeCommand, hfirst, hdecided]
  · intro n m hinstall
    rw [hrun]
    simp only [State.resumeCommand, hfirst, hinstall]

end

/-- Settles O30: the frame takes the command on a unit that serves (`stageCommand_served`) for a stage of the requester
(`namedStage_own`); then each command by its own conditions. -/
theorem stageCommandResults : Obligations.StageCommandResults := by
  unfold Obligations.StageCommandResults
  intro s t q g its items keys u
  dsimp only
  refine ⟨fun htakes hserves hname => ⟨fun hown hall => ?opens, fun hfull => ?tooLarge⟩,
    fun htakes hserves hlen hres hraw hstage hfits hitems => ⟨fun hnone => ?adds, fun hsome => ?addsInCeremony⟩,
    fun htakes hserves hown => ⟨fun hpass => ?valid, fun st i hfail => ?invalid⟩,
    fun htakes hserves hown => ⟨fun hinvalid => ?notValidated, fun hvalid hany hnot => ?awaitsQuorum, fun hvalid hquorum hfree hdraws hform => ?installs⟩,
    fun htakes hserves hown => ⟨fun hopen => ?discards, fun haccepted => ?applies⟩, fun htakes hserves hown => ?status,
    fun hmode hnone w hfirst => ⟨fun st x hdecided => ?decided, (scCommandResume_handles hmode hnone hfirst).2⟩,
    fun i code hcode htakes hserves => ?standby⟩
  case opens =>
    have hroom : ¬ (4 ≤ (t.seq.stages.filter fun g => g.session == q.session).length ∨ 64 ≤ t.seq.stages.length) := by omega
    refine congrArg Host.Outcome.next ((stageCommand_served _ htakes hserves).trans ?_)
    simp only [hname, hroom, Bool.true_eq_false, if_false]
    rfl
  case tooLarge =>
    refine congrArg Host.Outcome.next ((stageCommand_served _ htakes hserves).trans ?_)
    simp only [hname, hfull, Bool.true_eq_false, if_false, if_true]
  case adds =>
    have hclosed : ¬ (t.stageCeremony g.id).isSome = true := by
      rw [hnone]
      decide
    rw [stageAdd_adds htakes hserves hlen hres hraw hstage hfits hitems]
    exact congrArg (fun v : State => Host.Outcome.next (v.await q .commit)) (if_neg hclosed)
  case addsInCeremony =>
    rw [stageAdd_adds htakes hserves hlen hres hraw hstage hfits hitems]
    exact congrArg (fun v : State => Host.Outcome.next (v.await q .commit)) (if_pos hsome)
  case valid =>
    refine congrArg Host.Outcome.next ((namedStage_own _ htakes hserves hown).trans ?_)
    simp only [hpass]
  case invalid =>
    refine congrArg Host.Outcome.next ((namedStage_own _ htakes hserves hown).trans ?_)
    simp only [hfail]
  case notValidated =>
    exact congrArg Host.Outcome.next ((namedStage_own _ htakes hserves hown).trans (if_pos hinvalid))
  case awaitsQuorum =>
    refine congrArg Host.Outcome.next ((namedStage_own _ htakes hserves hown).trans ?_)
    simp only [hvalid, hany, hnot, Bool.true_eq_false, and_self, if_false, if_true]
    rfl
  case installs =>
    have ⟨_, _, hstage⟩ := hown
    obtain ⟨w, hwaiting, hsrc, hmade, hegress⟩ := State.install_commits (s := t.await q (.install g.id t.mono))
      (State.stage?_of_stageOf hstage) hvalid hfree hdraws hform
    exact ⟨_, w, stageApply_installs htakes hserves hown hvalid hquorum, hwaiting, hsrc, hmade, hegress⟩
  case discards =>
    exact congrArg Host.Outcome.next ((namedStage_own _ htakes hserves hown).trans (if_neg (ne_true_of_eq_false hopen)))
  case applies =>
    exact congrArg Host.Outcome.next ((namedStage_own _ htakes hserves hown).trans (if_pos haccepted))
  case status =>
    exact congrArg Host.Outcome.next (namedStage_own _ htakes hserves hown)
  case decided =>
    refine ⟨_, (scCommandResume_handles hmode hnone hfirst).1 st x hdecided, rfl, _, rfl, rfl, rfl, rfl⟩
  case standby =>
    simp only [List.mem_cons, List.not_mem_nil, or_false, Prod.mk.injEq] at hcode
    rcases hcode with ⟨rfl, rfl⟩ | ⟨rfl, rfl⟩ | ⟨rfl, rfl⟩ | ⟨rfl, rfl⟩ | ⟨rfl, rfl⟩ | ⟨rfl, rfl⟩ <;>
      exact congrArg Host.Outcome.next (stageCommand_standby _ htakes hserves)

end Sys2Proof.Machine

/-! ### VBAT, the reset state, the SMBus target and the flash filter (16 R461, 19 R541 to R544, 15 R442 to R444) -/

namespace Sys2Proof.Machine

theorem b2n_le_one (b : Bool) : b2n b ≤ 1 := by
  cases b <;> decide

/-- Bit 5 of PRT_STATUS is VBAT_PRESENT: the fields above it are multiples of 64, those below it are less than 32 (R478). -/
theorem Porter.status_vbat (p : Porter) : p.status.testBit 5 = p.vbat := by
  have hsensor := b2n_le_one p.sensorActive
  have hunacked := b2n_le_one p.unacked
  have hlatch := b2n_le_one p.latch
  have hbit : p.status / 2 ^ 5 % 2 = b2n p.vbat := by
    have := b2n_le_one p.vbat
    unfold Porter.status
    omega
  rw [Nat.testBit_eq_decide_div_mod_eq, hbit]
  cases p.vbat <;> rfl

/-- Settles O42: with the standby rail the command is its own branch; `Porter.status_vbat` reads bit 5. -/
theorem vbatAbsentIsNoTamper : Obligations.VbatAbsentIsNoTamper := by
  unfold Obligations.VbatAbsentIsNoTamper
  intro s hstandby
  refine ⟨_, congrArg Host.Outcome.next (if_pos hstandby), ?_⟩
  cases hrecorded : s.porter.vbatRecorded with
  | false => exact ⟨rfl, Porter.status_vbat _, rfl, rfl, rfl, rfl⟩
  | true => exact ⟨rfl, Porter.status_vbat _, rfl, rfl, rfl, rfl⟩

/-- Settles O59: the fields are the defaults of their structures, and with no command in front a step is a tick. -/
theorem resetState : Obligations.ResetState := by
  unfold Obligations.ResetState
  intro s
  have hwindows : windowsOk s := fun _ hin => nomatch hin
  exact ⟨rfl, rfl, rfl, rfl, rfl, by decide, rfl, by decide, rfl, rfl, rfl, rfl, rfl, rfl, rfl, rfl, rfl, rfl, rfl, rfl, rfl, rfl, by decide, rfl, by decide,
    hwindows, _, step_idle rfl⟩

/-- A word of the SMBus target that is on (R541). -/
theorem State.smbWord_of_on {s : State} (hon : s.smbOn = true) (v : Nat) : s.smbWord v = s.emit (.smb (leBytes 2 v)) := if_pos hon

/-- The target that is off says nothing (R541). -/
theorem State.smbWord_of_off {s : State} (hoff : s.smbOn = false) (v : Nat) : s.smbWord v = s := if_neg (ne_true_of_eq_false hoff)

/-- A measurement of the target that is on: a word of two bytes. -/
theorem State.smbMeasure_of_on {s : State} (hon : s.smbOn = true) :
    s.smbMeasure = { s.emit (.smb (leBytes 2 (Config.freeNat s.freeCtr % 65536))) with freeCtr := s.freeCtr + 1 } := by
  rw [State.smbMeasure, State.smbWord_of_on hon]

theorem State.smbMeasure_of_off {s : State} (hoff : s.smbOn = false) : s.smbMeasure.outputs = s.outputs := by
  rw [State.smbMeasure, State.smbWord_of_off hoff]

/-- Settles O55: each register by whether the target is on, and the thermal warning by its two thresholds. -/
theorem smbusResults : Obligations.SmbusResults := by
  unfold Obligations.SmbusResults
  intro s v temp
  dsimp only
  refine ⟨fun hon => ?on, fun hoff => ?off, fun hwarn hhot => ?sets, fun hwarn hcool => ?ends, fun hlow hhigh => ?between⟩
  case on =>
    have word (x : Nat) : Host.Outcome.next (s.smbWord x) = (.next (s.emit (.smb (leBytes 2 x))) : Out) :=
      congrArg Host.Outcome.next (State.smbWord_of_on hon x)
    have measured : ∃ x t, x < 65536 ∧ Host.Outcome.next s.smbMeasure = (.next t : Out) ∧ t.outputs = .smb (leBytes 2 x) :: s.outputs ∧
        t.smb = s.smb ∧ t.cores = s.cores :=
      ⟨_, _, Nat.mod_lt _ (by decide), congrArg Host.Outcome.next (State.smbMeasure_of_on hon), rfl, rfl, rfl⟩
    refine ⟨word _, word _, word _, measured, measured, congrArg Host.Outcome.next (if_pos hon), congrArg Host.Outcome.next (if_pos hon),
      fun halert => congrArg Host.Outcome.next (if_pos ⟨hon, halert⟩), fun hnone => congrArg Host.Outcome.next (if_neg fun h => h.2 hnone)⟩
  case off =>
    have word (x : Nat) : ∃ t, Host.Outcome.next (s.smbWord x) = (.next t : Out) ∧ t.outputs = s.outputs :=
      ⟨s, congrArg Host.Outcome.next (State.smbWord_of_off hoff x), rfl⟩
    have measured : ∃ t, Host.Outcome.next s.smbMeasure = (.next t : Out) ∧ t.outputs = s.outputs :=
      ⟨_, rfl, State.smbMeasure_of_off hoff⟩
    have hnot := ne_true_of_eq_false hoff
    exact ⟨word _, word _, measured, measured, word _, ⟨s, congrArg Host.Outcome.next (if_neg hnot), rfl⟩,
      ⟨s, congrArg Host.Outcome.next (if_neg hnot), rfl⟩, ⟨s, congrArg Host.Outcome.next (if_neg fun h => hnot h.1), rfl⟩⟩
  case sets => exact congrArg Host.Outcome.next (if_pos ⟨hwarn, hhot⟩)
  case ends =>
    have hon : ¬ (s.smb.thermalWarn = false ∧ 1010 ≤ temp) := fun h => absurd (hwarn.symm.trans h.1) (by decide)
    exact congrArg Host.Outcome.next ((if_neg hon).trans (if_pos ⟨hwarn, hcool⟩))
  case between =>
    have hnothot : ¬ (s.smb.thermalWarn = false ∧ 1010 ≤ temp) := fun h => by omega
    have hnotcool : ¬ (s.smb.thermalWarn = true ∧ temp ≤ 990) := fun h => by omega
    exact congrArg Host.Outcome.next ((if_neg hnothot).trans (if_neg hnotcool))

section

variable {s : State} {ch : Nat} {cmd : FlashCmd} {m : Manifest}

/-- A host flash command on a channel reaches the filter while the controller runs. -/
theorem hostFlashCommand_filtered (hrun : s.sc.mode = .running) (hch : ch < 2) :
    exec (.hostFlashCommand ch cmd) s = .next (s.flashCommand ch cmd) := by
  have hon : s.platOn = true := by rw [State.platOn, hrun]
  exact congrArg Host.Outcome.next (if_pos ⟨hch, hon⟩)

/-- Whether the filter passes a command of the platform in SERVE or RUN under a manifest. -/
def State.filterPasses (s : State) (m : Manifest) (ch : Nat) (cmd : FlashCmd) : Bool × Bool :=
  filterPass m (s.plat.phase == .run) s.plat.flash (getD ch false s.plat.four) ch cmd

/-- The units of a command of the platform in SERVE or RUN whose bytes answer 0xFF. -/
def State.filterOnes (s : State) (m : Manifest) (ch : Nat) (cmd : FlashCmd) : List Nat :=
  onesUnits m (s.plat.phase == .run) (getD ch false s.plat.four) ch cmd

/-- In SERVE or RUN a command on a channel of the manifest is answered by the filter: with nothing set to 0xFF where it passes. -/
theorem State.flashCommand_outputs (hphase : s.plat.phase = .serve ∨ s.plat.phase = .run) (hman : s.plat.manifest = some m)
    (hmask : m.channelMask.getLsbD ch = true) :
    (s.flashCommand ch cmd).outputs =
      .flash ch (s.filterPasses m ch cmd).1 (if (s.filterPasses m ch cmd).1 = true then [] else s.filterOnes m ch cmd) :: s.outputs := by
  have htrack : (s.trackMode ch cmd.opcode).outputs = s.outputs := by
    unfold State.trackMode
    split <;> rfl
  have hserve : s.flashCommand ch cmd =
      if (s.filterPasses m ch cmd).1 = true then (s.trackMode ch cmd.opcode).emit (.flash ch true [])
      else if (s.filterPasses m ch cmd).2 = true then
        (s.platEvent St.flashCommandBlocked [ch, cmd.opcode, cmd.addr]).emit (.flash ch false (s.filterOnes m ch cmd))
      else s.emit (.flash ch false (s.filterOnes m ch cmd)) := by
    unfold State.filterPasses State.filterOnes
    rcases hphase with hphase | hphase <;> simp only [State.flashCommand, hphase, hman, hmask, Bool.true_eq_false, if_false]
  rw [hserve]
  cases (s.filterPasses m ch cmd).1 with
  | true => exact congrArg _ htrack
  | false =>
    simp only [Bool.false_eq_true, if_false]
    split <;> rfl

/-- A channel outside the manifest's mask passes nothing (R442). -/
theorem State.flashCommand_unmasked (hphase : s.plat.phase = .serve ∨ s.plat.phase = .run) (hman : s.plat.manifest = some m)
    (hmask : m.channelMask.getLsbD ch = false) : s.flashCommand ch cmd = s.emit (.flash ch false []) := by
  rcases hphase with hphase | hphase <;> simp only [State.flashCommand, hphase, hman, hmask, if_true]

/-- A command that the filter does not pass is refused (R442). -/
theorem State.flashCommand_refused (hphase : s.plat.phase = .serve ∨ s.plat.phase = .run) (hman : s.plat.manifest = some m)
    (hfail : (s.filterPasses m ch cmd).1 = false) :
    ∃ ones, (s.flashCommand ch cmd).outputs = .flash ch false ones :: s.outputs := by
  cases hmask : m.channelMask.getLsbD ch with
  | false => exact ⟨[], by rw [State.flashCommand_unmasked hphase hman hmask]; rfl⟩
  | true =>
    rw [State.flashCommand_outputs hphase hman hmask, hfail]
    exact ⟨_, rfl⟩

variable {run four : Bool} {flash : List (Nat × FlashObs)}

/-- An opcode outside the phase's list does not pass (R443). -/
theorem filterPass_not_allowed (hallowed : opcodeAllowed m run ch cmd.opcode = false) : (filterPass m run flash four ch cmd).1 = false := by
  simp only [filterPass, hallowed, if_true]

/-- A unit without the right, among those that a run of bytes touches, fails the test of them all. -/
theorem touched_lacking {right a len j : Nat} (hj : j < cdiv (a % 4096 + len) 4096)
    (hlack : (unitRights m run ch (a / 4096 + j)).getLsbD right = false) :
    ((touched a len).all fun u => (unitRights m run ch u).getLsbD right) = false := by
  rw [List.all_eq_false]
  exact ⟨a / 4096 + j, List.mem_map.mpr ⟨j, List.mem_range.mpr hj, rfl⟩, ne_true_of_eq_false hlack⟩

/-- A program of a unit without the right does not pass (R444). -/
theorem filterPass_program_lacking {j : Nat} (hclass : opcodeClass cmd.opcode = 1)
    (hj : j < cdiv (flashAddr four cmd % 4096 + max 1 cmd.len) 4096)
    (hlack : (unitRights m run ch (flashAddr four cmd / 4096 + j)).getLsbD 1 = false) : (filterPass m run flash four ch cmd).1 = false := by
  cases hallowed : opcodeAllowed m run ch cmd.opcode with
  | false => exact filterPass_not_allowed hallowed
  | true => simp only [filterPass, hallowed, hclass, touched_lacking hj hlack, Bool.true_eq_false, if_false]

/-- An erase of a unit without the right does not pass (R444). -/
theorem filterPass_erase_lacking {j n : Nat} {f : FlashObs} (hclass : opcodeClass cmd.opcode = 2) (hflash : getK ch flash = some f)
    (hsize : getK cmd.opcode f.eraseSizes = some n) (hj : j < cdiv (flashAddr four cmd / n * n % 4096 + n) 4096)
    (hlack : (unitRights m run ch (flashAddr four cmd / n * n / 4096 + j)).getLsbD 2 = false) :
    (filterPass m run flash four ch cmd).1 = false := by
  cases hallowed : opcodeAllowed m run ch cmd.opcode with
  | false => exact filterPass_not_allowed hallowed
  | true =>
    simp only [filterPass, hallowed, hclass, hflash, hsize, Option.bind_some, touched_lacking hj hlack, Bool.and_false, Bool.true_eq_false, if_false]

/-- The units of a read of the list that answer 0xFF: those without the read right (R444). -/
theorem onesUnits_read (hallowed : opcodeAllowed m run ch cmd.opcode = true) (hclass : opcodeClass cmd.opcode = 0) :
    onesUnits m run four ch cmd =
      (touched (flashAddr four cmd) (max 1 cmd.len)).filter fun u => !(unitRights m run ch u).getLsbD 0 := by
  have hsfdp : ¬ (0 : Nat) = 5 := by decide
  simp only [onesUnits, hallowed, hclass, hsfdp, if_false, if_true, Bool.not_true, Bool.false_or]

/-- A read of the list passes where no unit of it lacks the read right (R444). -/
theorem filterPass_read (hallowed : opcodeAllowed m run ch cmd.opcode = true) (hclass : opcodeClass cmd.opcode = 0) :
    (filterPass m run flash four ch cmd).1 =
      decide (((touched (flashAddr four cmd) (max 1 cmd.len)).filter fun u => !(unitRights m run ch u).getLsbD 0) = []) := by
  simp only [filterPass, hallowed, hclass, Bool.true_eq_false, if_false]
  split
  next u hfind =>
    have hin := List.mem_filter.mpr ⟨List.mem_of_find?_eq_some hfind, List.find?_some hfind⟩
    exact (decide_eq_false fun hnil => List.ne_nil_of_mem hin hnil).symm
  next hfind =>
    have hnone := List.find?_eq_none.mp hfind
    exact (decide_eq_true (List.filter_eq_nil_iff.mpr hnone)).symm

/-- An opcode of the list without an address, or a read of SFDP, passes (R443). -/
theorem filterPass_unaddressed (hallowed : opcodeAllowed m run ch cmd.opcode = true)
    (hclass : opcodeClass cmd.opcode = 4 ∨ opcodeClass cmd.opcode = 5) : (filterPass m run flash four ch cmd).1 = true := by
  rcases hclass with hclass | hclass <;> simp only [filterPass, hallowed, hclass, Bool.true_eq_false, if_false]

end

/-- Settles O39: the phases without a manifest by the branch of the filter; in SERVE and RUN the answer is that of `flashCommand_outputs`,
and `filterPass` by the opcode's class. -/
theorem flashFilterResults : Obligations.FlashFilterResults := by
  unfold Obligations.FlashFilterResults
  intro s ch cmd m hrun hch
  dsimp only
  rw [hostFlashCommand_filtered hrun hch]
  have hlist : (2 * ch + if s.plat.phase = .run then 1 else 0) = 2 * ch + b2n (s.plat.phase == .run) := by
    by_cases hphase : s.plat.phase = .run <;> simp [b2n, hphase]
  rw [hlist]
  refine ⟨fun hboot => ⟨[], _, rfl, ?boot⟩, fun hoff => ⟨_, rfl, ?disabled⟩, fun hphase hman =>
    ⟨fun hmask => ⟨[], _, rfl, ?unmasked⟩, fun hallowed => ?notAllowed, fun hmask hallowed hclass => ⟨_, rfl, ?read⟩,
      fun hclass ⟨j, hj, hlack⟩ => ?program, fun f n hclass hflash hsize ⟨j, hj, hlack⟩ => ?erase, fun hmask hallowed hclass => ⟨_, rfl, ?unaddressed⟩⟩⟩
  case boot => simp only [State.flashCommand, hboot]; rfl
  case disabled => simp only [State.flashCommand, hoff]; rfl
  case unmasked => rw [State.flashCommand_unmasked hphase hman hmask]; rfl
  case notAllowed =>
    obtain ⟨ones, hones⟩ := State.flashCommand_refused hphase hman (filterPass_not_allowed hallowed)
    exact ⟨ones, _, rfl, hones⟩
  case read =>
    rw [State.flashCommand_outputs hphase hman hmask, State.filterPasses, State.filterOnes, filterPass_read hallowed hclass,
      onesUnits_read hallowed hclass]
    split
    next hnil => exact congrArg (fun l => Output.flash ch _ l :: s.outputs) (of_decide_eq_true hnil).symm
    next => rfl
  case program =>
    obtain ⟨ones, hones⟩ := State.flashCommand_refused hphase hman (filterPass_program_lacking hclass hj hlack)
    exact ⟨ones, _, rfl, hones⟩
  case erase =>
    obtain ⟨ones, hones⟩ := State.flashCommand_refused hphase hman (filterPass_erase_lacking hclass hflash hsize hj hlack)
    exact ⟨ones, _, rfl, hones⟩
  case unaddressed =>
    rw [State.flashCommand_outputs hphase hman hmask, State.filterPasses, filterPass_unaddressed hallowed hclass, if_pos rfl]

end Sys2Proof.Machine

/-! ### Mirror and lantern frames, their timers and the handshake (12 R355 to R375) -/

namespace Sys2Proof.Machine

section

variable {s u : State} {h : MirHdr} {f : LanternIn} {peer : PeerInfo} {body : Nat} {serial : Option Nat} {v : State → State} {i : Instr}

/-- What a step shows at the interrupt and alert registers takes no output back. -/
theorem mem_signal_outputs {o : Output} {t : State} (ho : o ∈ t.outputs) : o ∈ (s.signal t).outputs := by
  unfold State.signal State.raiseInt
  dsimp only
  split
  · split
    · exact List.mem_cons_of_mem _ ho
    · exact ho
  · exact ho

@[simp] theorem signal_pair (s t : State) : (s.signal t).pair = t.pair := by
  obtain ⟨o, v, b, heq⟩ := signal_eq s t
  rw [heq]

@[simp] theorem signal_durable (s t : State) : (s.signal t).durable = t.durable := by
  obtain ⟨o, v, b, heq⟩ := signal_eq s t
  rw [heq]

@[simp] theorem signal_raised (s t : State) : (s.signal t).raised = t.raised := by
  obtain ⟨o, v, b, heq⟩ := signal_eq s t
  rw [heq]

/-- An event of the security controller is among those raised. -/
theorem exists_mem_scEvent (t : State) (code : Status) (args : List Nat) : ∃ e ∈ (t.scEvent code args).raised, e.2.code = code :=
  ⟨_, List.mem_append_right _ (List.mem_singleton_self _), rfl⟩

/-! #### Mirror frames (R359, R361) -/

/-- A frame of the open link under its tag and epoch is neither foreign nor counted as unauthentic. -/
theorem State.mirrorFrame_authentic (hrun : s.sc.mode = .running) (hopen : s.pair.linkOpen = true) (hmagic : h.magic = 0x4D52)
    (htag : h.tagOk = true) (hepoch : h.linkEpoch = s.pair.linkEpoch) :
    ¬ (s.scOn = false ∨ s.pair.linkOpen = false ∨ h.magic ≠ 0x4D52) ∧ ¬ (h.tagOk = false ∨ h.linkEpoch ≠ s.pair.linkEpoch) := by
  simp only [State.scOn_of_running hrun, hopen, hmagic, htag, hepoch, ne_eq, not_true_eq_false, Bool.true_eq_false, or_self, not_false_eq_true,
    and_self]

theorem State.mirrorFrame_taken (htaken : mirrorTaken s u h body serial) : s.mirrorFrame h body serial v = (v u).joinActive := by
  obtain ⟨hrun, hopen, hmagic, htag, hepoch, hres, hlow, hhigh, hlen, w, hwindow, rfl⟩ := htaken
  obtain ⟨hmirror, hauthentic⟩ := State.mirrorFrame_authentic hrun hopen hmagic htag hepoch
  unfold State.mirrorFrame
  rw [if_neg hmirror, if_neg hauthentic, hwindow]
  exact if_neg (by omega)

/-- A repeated frame does nothing (R52). -/
theorem State.mirrorFrame_repeated (hrun : s.sc.mode = .running) (hopen : s.pair.linkOpen = true) (hmagic : h.magic = 0x4D52)
    (htag : h.tagOk = true) (hepoch : h.linkEpoch = s.pair.linkEpoch) (hwindow : seqWindow s.pair.rxHigh s.pair.rxSeen h.frameSeq = none) :
    s.mirrorFrame h body serial v = s := by
  obtain ⟨hmirror, hauthentic⟩ := State.mirrorFrame_authentic hrun hopen hmagic htag hepoch
  unfold State.mirrorFrame
  rw [if_neg hmirror, if_neg hauthentic, hwindow]

/-- Without MAGIC it is no mirror frame. -/
theorem State.mirrorFrame_foreign (hmagic : h.magic ≠ 0x4D52) : s.mirrorFrame h body serial v = s := if_pos (.inr (.inr hmagic))

theorem State.mirrorFrame_unauthentic (hrun : s.sc.mode = .running) (hopen : s.pair.linkOpen = true) (hmagic : h.magic = 0x4D52)
    (hbad : h.tagOk = false ∨ h.linkEpoch ≠ s.pair.linkEpoch) : s.mirrorFrame h body serial v = s.setPair fun p => p.count mTagDrops 1 := by
  unfold State.mirrorFrame
  rw [if_neg (by simp only [State.scOn_of_running hrun, hopen, hmagic, ne_eq, not_true_eq_false, Bool.true_eq_false, or_self, not_false_eq_true]),
    if_pos hbad]

/-- What a mirror frame does, whatever its own content: taken, no mirror frame, not authentic, repeated. -/
theorem mirrorFrame_results (hexec : exec i s = .next (s.signal (s.mirrorFrame h body serial v))) :
    (mirrorTaken s u h body serial → exec i s = .next (s.signal (v u).joinActive)) ∧
    (h.magic ≠ 0x4D52 → exec i s = .next (s.signal s)) ∧
    (s.sc.mode = .running → s.pair.linkOpen = true → h.magic = 0x4D52 → h.tagOk = false ∨ h.linkEpoch ≠ s.pair.linkEpoch →
      exec i s = .next (s.signal (s.setPair fun p => p.count mTagDrops 1))) ∧
    (s.sc.mode = .running → s.pair.linkOpen = true → h.magic = 0x4D52 → h.tagOk = true → h.linkEpoch = s.pair.linkEpoch →
      seqWindow s.pair.rxHigh s.pair.rxSeen h.frameSeq = none → exec i s = .next (s.signal s)) := by
  rw [hexec]
  refine ⟨fun htaken => ?_, fun hmagic => ?_, fun hrun hopen hmagic hbad => ?_, fun hrun hopen hmagic htag hepoch hwindow => ?_⟩
  · rw [State.mirrorFrame_taken htaken]
  · rw [State.mirrorFrame_foreign hmagic]
  · rw [State.mirrorFrame_unauthentic hrun hopen hmagic hbad]
  · rw [State.mirrorFrame_repeated hrun hopen hmagic htag hepoch hwindow]

/-! #### Lantern frames (R363, R364) -/

theorem State.inPair_iff : s.inPair = true ↔ s.paired = true ∧ s.pair.state ≠ .unpaired := by
  simp only [State.inPair, Bool.and_eq_true, bne_iff_ne, ne_eq]

/-- The state in which a lantern frame's own content acts: its SEQ taken, the path heard, its claim learned. -/
abbrev State.lanternTaken (s : State) (f : LanternIn) : State :=
  (((s.setPair fun p => { p with lanternRx := some f.seq }).heardLantern).seenBy f.state f.claim).learnClaim f.claim none

theorem State.lanternFrame_unpaired (hstate : s.pair.state = .unpaired) : s.lanternFrame f v = s := by
  have hpair : s.inPair = false := Bool.eq_false_iff.mpr fun h => (State.inPair_iff.mp h).2 hstate
  exact if_pos (.inr hpair)

theorem State.lanternFrame_unauthentic (hrun : s.sc.mode = .running) (hpair : s.inPair = true)
    (hbad : f.macOk = false ∨ s.pair.lanternKey = []) : s.lanternFrame f v = s.setPair fun p => p.count mLanternDrops 1 := by
  unfold State.lanternFrame
  rw [if_neg (by simp only [State.scOn_of_running hrun, hpair, Bool.true_eq_false, or_self, not_false_eq_true]), if_pos hbad]

theorem State.lanternFrame_taken (hrun : s.sc.mode = .running) (hpair : s.inPair = true) (hmac : f.macOk = true)
    (hkey : s.pair.lanternKey ≠ []) (hepoch : f.linkEpoch = s.pair.linkEpoch) (hres : f.reserved = 0) (hlow : 1 ≤ f.state) (hhigh : f.state ≤ 7)
    (hnew : ∀ x, s.pair.lanternRx = some x → x < f.seq) : s.lanternFrame f v = v (s.lanternTaken f) := by
  have hfresh : (match s.pair.lanternRx with | some n => decide (f.seq ≤ n) | none => false) = false := by
    cases hrx : s.pair.lanternRx with
    | none => rfl
    | some n => exact decide_eq_false (Nat.not_le.mpr (hnew n hrx))
  unfold State.lanternFrame
  rw [if_neg (by simp only [State.scOn_of_running hrun, hpair, Bool.true_eq_false, or_self, not_false_eq_true]),
    if_neg (by simp only [hmac, hkey, Bool.true_eq_false, or_self, not_false_eq_true])]
  refine if_neg fun hbad => ?_
  rcases hbad with hbad | hbad | hbad | hbad | hbad
  · exact hbad hepoch
  · exact hbad hres
  · omega
  · omega
  · exact absurd (hfresh.symm.trans hbad) (by decide)

/-- What a lantern frame does, whatever its own content. -/
theorem lanternFrame_results (hrun : s.sc.mode = .running) (hpaired : s.paired = true)
    (hexec : exec i s = .next (s.signal (s.lanternFrame f v))) :
    (s.pair.state = .unpaired → exec i s = .next (s.signal s)) ∧
    (s.pair.state ≠ .unpaired → f.macOk = false ∨ s.pair.lanternKey = [] →
      exec i s = .next (s.signal (s.setPair fun p => p.count mLanternDrops 1))) ∧
    (s.pair.state ≠ .unpaired → f.macOk = true → s.pair.lanternKey ≠ [] → f.linkEpoch = s.pair.linkEpoch → f.reserved = 0 → 1 ≤ f.state →
      f.state ≤ 7 → (∀ x, s.pair.lanternRx = some x → x < f.seq) → exec i s = .next (s.signal (v (s.lanternTaken f)))) := by
  rw [hexec]
  refine ⟨fun hstate => ?_, fun hstate hbad => ?_, fun hstate hmac hkey hepoch hres hlow hhigh hnew => ?_⟩
  · rw [State.lanternFrame_unpaired hstate]
  · rw [State.lanternFrame_unauthentic hrun (State.inPair_iff.mpr ⟨hpaired, hstate⟩) hbad]
  · rw [State.lanternFrame_taken hrun (State.inPair_iff.mpr ⟨hpaired, hstate⟩) hmac hkey hepoch hres hlow hhigh hnew]

/-- TYPE 1 and 2 carry nothing of their own, TYPE 4 is the partner's word that it fails (R364). -/
theorem lanternFrame_exec (htype : f.type = 1 ∨ f.type = 2 ∨ f.type = 4) :
    exec (.lanternFrame f) s = .next (s.signal (s.lanternFrame f fun t => if f.type = 4 then t.partnerFailed false else t)) :=
  congrArg (fun t => Host.Outcome.next (s.signal t)) (if_pos htype)

theorem lanternFrame_heartbeat_exec (htype : f.type = 1 ∨ f.type = 2) : exec (.lanternFrame f) s = .next (s.signal (s.lanternFrame f id)) := by
  have hcontent : (fun t : State => if f.type = 4 then t.partnerFailed false else t) = id := by
    funext t
    exact if_neg (by omega)
  rw [lanternFrame_exec (by omega), hcontent]

theorem lanternFrame_failing_exec (htype : f.type = 4) :
    exec (.lanternFrame f) s = .next (s.signal (s.lanternFrame f (·.partnerFailed false))) := by
  have hcontent : (fun t : State => if f.type = 4 then t.partnerFailed false else t) = (·.partnerFailed false) := by
    funext t
    exact if_pos htype
  rw [lanternFrame_exec (.inr (.inr htype)), hcontent]

/-! #### Sending (R360, R361, R364) -/

/-- A frame on the open link takes the next FRAME_SEQ. -/
theorem State.mirSend_txSeq (hopen : s.pair.linkOpen = true) (hseq : s.pair.txSeq ≠ 2 ^ 64 - 1) (type : Nat) :
    (s.mirSend type).pair.txSeq = s.pair.txSeq + 1 := by
  unfold State.mirSend
  rw [if_neg fun h => hseq h.2, if_pos hopen]
  rfl

theorem State.lanternSend_sends (hkey : s.pair.lanternKey ≠ []) (hstate : s.pair.state ≠ .unpaired) :
    (s.lanternSend 1).pair.lanternTx = s.pair.lanternTx + 1 ∧ (s.lanternSend 1).outputs = .lantern 1 s.pair.state.code s.pair.linkEpoch
      (s.pair.lanternTx + 1) s.pair.seen (s.lanternBytes 1 (s.pair.lanternTx + 1)) :: s.outputs := by
  unfold State.lanternSend
  rw [if_neg fun h => h.elim hkey hstate]
  exact ⟨rfl, rfl⟩

/-! #### The handshake (R355, R358) -/

/-- The expander's bytes have the lengths that were asked for. -/
theorem State.random_length (s : State) (e len : Nat) : (s.random e len).1.length = len := fit_length len _

theorem State.readAll_linkDraws_length (s : State) (e : Nat) : (State.readAll e linkDraws s).1.length = 176 := by
  simp only [linkDraws, State.readAll, List.length_append, State.random_length]

/-- What the link's message needs of a state is its configuration, which no draw changes. -/
theorem State.linkHello_of_durable {t : State} (hdurable : t.durable = s.durable) (random secret : Bytes) :
    t.linkHello random secret = s.linkHello random secret := by
  unfold State.linkHello State.lower State.partnerNumber State.partnerSerial State.cfgBytes
  rw [hdurable]

theorem State.lower_of_durable {t : State} (hdurable : t.durable = s.durable) : t.lower = s.lower := by
  unfold State.lower State.partnerNumber State.partnerSerial State.cfgBytes
  rw [hdurable]

/-- The draws of the handshake change neither the configuration nor the pair. -/
theorem State.linkDraws_keep (s : State) :
    (State.readAll 16 linkDraws (s.random 12 32).2).2.durable = s.durable ∧ (State.readAll 16 linkDraws (s.random 12 32).2).2.pair = s.pair := by
  obtain ⟨x, r, hfirst⟩ := s.random_eq 12 32
  obtain ⟨y, w, hsecond⟩ := State.readAll_eq 16 linkDraws (s.random 12 32).2
  rw [hsecond, hfirst]
  exact ⟨rfl, rfl⟩

/-- The unit's part of the handshake, where it can draw it. -/
theorem State.linkStart_begins (hid : s.sc.identity ≠ none) (hcan12 : s.canDraw 12 = true) (hcan16 : s.canDraw 16 (readRequests linkDraws) = true) :
    s.linkStart.pair.locked = s.pair.locked ∧ s.linkStart.pair.linkOpen = false ∧ s.linkStart.pair.handshaking = true ∧
    s.linkStart.pair.secret.length = 176 ∧ s.linkStart.pair.hello = s.linkHello (s.random 12 32).1 s.linkStart.pair.secret ∧
    (s.lower = true → .mirrorHandshake s.linkStart.pair.hello ∈ s.linkStart.outputs) := by
  have hsome : s.sc.identity.isNone = false := by
    cases hcase : s.sc.identity with
    | none => exact absurd hcase hid
    | some _ => rfl
  have ⟨hdurable, hpair⟩ := s.linkDraws_keep
  have hlength := (s.random 12 32).2.readAll_linkDraws_length 16
  unfold State.linkStart
  rw [if_neg (by simp only [hsome, hcan12, hcan16, Bool.true_eq_false, Bool.false_eq_true, or_self, not_false_eq_true])]
  dsimp only
  generalize State.readAll 16 linkDraws (s.random 12 32).2 = q at hdurable hpair hlength ⊢
  have hhello := State.linkHello_of_durable hdurable (s.random 12 32).1 q.1
  have hlocked : q.2.pair.locked = s.pair.locked := congrArg Pair.locked hpair
  split
  next hlower => exact ⟨hlocked, rfl, rfl, hlength, hhello, fun _ => List.mem_cons_self ..⟩
  next hlower => exact ⟨hlocked, rfl, rfl, hlength, hhello, fun hlow =>
      absurd ((State.lower_of_durable (t := q.2.setPair _) hdurable).trans hlow) hlower⟩

/-- A unit that cannot draw its part, or has no identity, fails the handshake (R326). -/
theorem State.linkStart_refused (hnot : s.sc.identity = none ∨ s.canDraw 12 = false ∨ s.canDraw 16 (readRequests linkDraws) = false) :
    s.linkStart = (s.setPair fun p => { p with linkOpen := false, handshaking := false }).scEvent St.pairLinkRefused := by
  unfold State.linkStart
  refine if_pos ?_
  rcases hnot with hid | hdraw
  · exact .inl (by rw [hid]; rfl)
  · exact .inr hdraw

/-- The link locks on a pair with a configured partner. -/
theorem mirrorLinkLock_exec (hrun : s.sc.mode = .running) (hpaired : s.paired = true) (hpartner : s.partnerSerial ≠ []) :
    exec .mirrorLinkLock s = .next (s.signal (s.setPair fun p => { p with locked := true }).linkStart) :=
  congrArg (fun t => Host.Outcome.next (s.signal t)) (if_pos ⟨State.scOn_of_running hrun, hpaired, hpartner⟩)

/-- The partner's part of the handshake: its checks pass or fail. -/
theorem State.handshakeDone_opens (hrun : s.sc.mode = .running) (hpaired : s.paired = true) (hshaking : s.pair.handshaking = true)
    (hhello : s.linkHelloOk peer = true) (hway : peer.waybillOk = true) (hsigs : peer.sigsOk = true) (hserial : peer.serial = s.partnerNumber)
    (hid : peer.pairId = s.pairId) (hlat : peer.latencyNs ≤ 10000) :
    s.handshakeDone peer = ((s.emit (.mirrorHandshake (s.linkProof peer))).openLink peer).meet peer := by
  have hlatency := Nat.not_lt.mpr hlat
  unfold State.handshakeDone
  rw [if_neg (by simp only [State.scOn_of_running hrun, hpaired, hshaking, Bool.true_eq_false, or_self, not_false_eq_true])]
  simp only [hhello, hway, hsigs, hserial, hid, hlatency, ne_eq, not_true_eq_false, Bool.true_eq_false, or_self, if_false, if_true]

theorem State.handshakeDone_refused (hrun : s.sc.mode = .running) (hpaired : s.paired = true) (hshaking : s.pair.handshaking = true)
    (hbad : s.linkHelloOk peer = false ∨ peer.waybillOk = false ∨ peer.sigsOk = false ∨ peer.serial ≠ s.partnerNumber ∨
      peer.pairId ≠ s.pairId ∨ 10000 < peer.latencyNs) :
    ∃ t : State, t.durable = s.durable ∧ s.handshakeDone peer =
      (t.setPair fun p => { p with linkOpen := false, handshaking := false, hello := [], secret := [] }).scEvent St.pairLinkRefused := by
  unfold State.handshakeDone
  rw [if_neg (by simp only [State.scOn_of_running hrun, hpaired, hshaking, Bool.true_eq_false, or_self, not_false_eq_true])]
  refine ⟨_, ?_, if_pos hbad⟩
  split <;> rfl

/-- The opened link: a new epoch, and the keys of R358. -/
theorem State.openLink_pair (s : State) (peer : PeerInfo) :
    (s.openLink peer).pair.linkEpoch = max s.pair.linkEpoch peer.linkEpoch + 1 ∧ (s.openLink peer).pair.linkOpen = true ∧
    (s.openLink peer).pair.txKey = (s.linkKeys peer s.pair).txKey ∧ (s.openLink peer).pair.rxKey = (s.linkKeys peer s.pair).rxKey ∧
    (s.openLink peer).pair.lanternKey = (s.linkKeys peer s.pair).lanternKey := by
  unfold State.openLink
  dsimp only
  split <;> exact ⟨rfl, rfl, rfl, rfl, rfl⟩

/-- An output changes no key of the link. -/
theorem State.linkKeys_emit (s : State) (o : Output) (peer : PeerInfo) (p : Pair) : (s.emit o).linkKeys peer p = s.linkKeys peer p := by
  have hprk : (s.emit o).linkPrk peer = s.linkPrk peer := rfl
  have hth : (s.emit o).linkTh peer = s.linkTh peer := rfl
  have hlower : (s.emit o).lower = s.lower := rfl
  simp only [State.linkKeys, hprk, hth, hlower]

/-- The two directions' keys are named by the order of the serials. -/
theorem State.linkKeys_directions (s : State) (peer : PeerInfo) (p : Pair) :
    (s.linkKeys peer p).txKey = linkKey (if ownSerial < s.partnerNumber then "lo2hi" else "hi2lo") (s.linkPrk peer) (s.linkTh peer) ∧
    (s.linkKeys peer p).rxKey = linkKey (if ownSerial < s.partnerNumber then "hi2lo" else "lo2hi") (s.linkPrk peer) (s.linkTh peer) ∧
    (s.linkKeys peer p).lanternKey = fit 32 (hkdfExpand (s.linkPrk peer) (ascii "mirror v1 lantern" ++ s.linkTh peer) 32) := by
  by_cases hlower : ownSerial < s.partnerNumber <;> simp only [State.linkKeys, State.lower, hlower, decide_true, decide_false, if_true, if_false,
    Bool.false_eq_true, and_self]

/-! #### Silence and announcements (R370, R375) -/

theorem State.pathSilent_link (hrun : s.sc.mode = .running) (hpair : s.inPair = true) (hkey : s.pair.lanternKey ≠ [])
    (hheard : s.pair.linkSilent = false) :
    s.pathSilent .link =
      let t := ({ s with mono := max s.mono (s.pair.linkHeard + 500000) } : State).setPair fun q => { q with linkSilent := true }
      if s.pair.lanternSilent then t.partnerFailed true else t.scEvent St.pairPathDegraded [0] := by
  unfold State.pathSilent
  rw [if_neg (by simp only [State.scOn_of_running hrun, hpair, hkey, Bool.true_eq_false, or_self, not_false_eq_true])]
  exact if_neg (ne_true_of_eq_false hheard)

theorem State.pathSilent_lantern (hrun : s.sc.mode = .running) (hpair : s.inPair = true) (hkey : s.pair.lanternKey ≠ [])
    (hheard : s.pair.lanternSilent = false) :
    s.pathSilent .lantern =
      let t := ({ s with mono := max s.mono (s.pair.lanternHeard + 2000000) } : State).setPair fun q => { q with lanternSilent := true }
      if s.pair.linkSilent then t.partnerFailed true else t.scEvent St.pairPathDegraded [1] := by
  unfold State.pathSilent
  rw [if_neg (by simp only [State.scOn_of_running hrun, hpair, hkey, Bool.true_eq_false, or_self, not_false_eq_true])]
  exact if_neg (ne_true_of_eq_false hheard)

theorem claimAnnounce_accepted {n : Nat} {cb : ClaimBody} (hrun : s.sc.mode = .running) (hpaired : s.paired = true) (hport : s.portUp n = true)
    (hchecks : cb.checksOk = true) (hres : cb.reserved = 0) (hid : cb.pairId = s.pairId) (hserial : cb.serial = s.partnerNumber) :
    exec (.claimAnnounce n cb) s = .next (s.signal (s.learnClaim cb.claim (some cb.serial))) := by
  have hon : ¬ (s.scOn = false ∨ s.portUp n = false) := by
    simp only [State.scOn_of_running hrun, hport, Bool.true_eq_false, or_self, not_false_eq_true]
  exact congrArg (fun t => Host.Outcome.next (s.signal t)) ((if_neg hon).trans (if_pos ⟨hpaired, hchecks, hres, hid, hserial⟩))

theorem claimAnnounce_stranger {n : Nat} {cb : ClaimBody} (hrun : s.sc.mode = .running) (hport : s.portUp n = true)
    (hbad : cb.checksOk = false ∨ cb.reserved ≠ 0 ∨ cb.pairId ≠ s.pairId ∨ cb.serial ≠ s.partnerNumber) :
    exec (.claimAnnounce n cb) s = .next (s.signal ((s.count n nStranger 1).event (portTap n) St.frameUnauthenticated [n])) := by
  have hon : ¬ (s.scOn = false ∨ s.portUp n = false) := by
    simp only [State.scOn_of_running hrun, hport, Bool.true_eq_false, or_self, not_false_eq_true]
  refine congrArg (fun t => Host.Outcome.next (s.signal t)) ((if_neg hon).trans (if_neg ?_))
  rintro ⟨-, hchecks, hres, hid, hserial⟩
  rcases hbad with hbad | hbad | hbad | hbad
  · exact absurd (hbad.symm.trans hchecks) (by decide)
  · exact hbad hres
  · exact hbad hid
  · exact hbad hserial

end

/-- Settles O52: a frame by whether it is taken (`mirrorFrame_results`, `lanternFrame_results`), a timer by its own branch, the handshake by
its checks. -/
theorem pairFrameResults : Obligations.PairFrameResults := by
  unfold Obligations.PairFrameResults
  intro s u h f peer cb n m base crcs recs got
  dsimp only
  have hdown : exec (.mirrorStandDown h) s = .next (s.signal (s.mirrorFrame h 0 none (·.partnerFailed false))) := rfl
  have hrecords : exec (.mirrorRecords h n crcs recs) s =
    .next (s.signal (s.mirrorFrame h (streamBytes crcs.length) none (·.recordsCame n crcs recs))) := rfl
  have hsnapshot : exec (.mirrorSnapshot h n crcs) s =
    .next (s.signal (s.mirrorFrame h (streamBytes crcs.length) none (·.snapshotCame n crcs))) := rfl
  have hacked : exec (.mirrorBlockAck h n base got) s = .next (s.signal (s.mirrorFrame h 40 none (·.blockAcked n base got))) := rfl
  have hcontrol : exec (.resyncControl h n) s = .next (s.signal (s.mirrorFrame h 8 none
    (·.setPair fun p => if p.state = .resyncing then { p with joinAt := some n } else p))) := rfl
  have hstandDown := mirrorFrame_results (u := u) hdown
  have hrecordsCame := mirrorFrame_results (u := u) hrecords
  have hsnapshotCame := mirrorFrame_results (u := u) hsnapshot
  have hblockAcked := mirrorFrame_results (u := u) hacked
  have hjoinAt := mirrorFrame_results (u := u) hcontrol
  refine ⟨mirrorFrame_results rfl, mirrorFrame_results rfl, hstandDown, hrecordsCame, hsnapshotCame, hblockAcked, hjoinAt, fun hrun => ?_⟩
  have hon := State.scOn_of_running hrun
  have htamper (htype : f.type = 3) : exec (.lanternTamper f) s =
      .next (s.signal (s.lanternFrame f fun t => (t.scEvent St.partnerTampered).partnerFailed false)) :=
    congrArg (fun t => Host.Outcome.next (s.signal t)) (if_pos htype)
  have hheartbeat (hpaired : s.paired = true) (htype : f.type = 1 ∨ f.type = 2) :=
    lanternFrame_results hrun hpaired (lanternFrame_heartbeat_exec htype)
  have hfailing (hpaired : s.paired = true) (htype : f.type = 4) := lanternFrame_results hrun hpaired (lanternFrame_failing_exec htype)
  have htampered (hpaired : s.paired = true) (htype : f.type = 3) := lanternFrame_results hrun hpaired (htamper htype)
  refine ⟨fun hopen => ⟨next_of_scOn hrun rfl, fun hseq => State.mirSend_txSeq hopen hseq _⟩,
    fun hwanted => ⟨_, congrArg Host.Outcome.next (if_pos ⟨hon, hwanted⟩), rfl, rfl⟩, fun b hopen hsent => ?resends, fun hpaired =>
    ⟨fun hpartner hid hcan12 hcan16 => ?begins, fun hpartner hnot => ?fails, fun hstate hlocked hclosed hidle => ?retries,
      fun hshaking hhello hway hsigs hserial hid hlat => ?opens, fun hshaking hbad => ?refuses,
      ⟨congrArg Host.Outcome.next (if_pos ⟨hon, hpaired⟩), State.lanternSend_sends⟩,
      hheartbeat hpaired, hfailing hpaired, htampered hpaired,
      fun hkey hstate hheard => congrArg (fun t => Host.Outcome.next (s.signal t))
        (State.pathSilent_link hrun (State.inPair_iff.mpr ⟨hpaired, hstate⟩) hkey hheard),
      fun hkey hstate hheard => congrArg (fun t => Host.Outcome.next (s.signal t))
        (State.pathSilent_lantern hrun (State.inPair_iff.mpr ⟨hpaired, hstate⟩) hkey hheard),
      fun hserves hclaim => ?announces, fun hport hchecks hres hid hserial => claimAnnounce_accepted hrun hpaired hport hchecks hres hid hserial,
      fun hport hbad => claimAnnounce_stranger hrun hport hbad⟩⟩
  case resends =>
    refine congrArg Host.Outcome.next ((if_pos ⟨hon, hopen⟩).trans ?_)
    unfold State.blockTimer
    rw [hsent]
  case begins =>
    obtain ⟨hlocked, hclosed, hshaking, hsecret, hhello, hlower⟩ := State.linkStart_begins (s := s.setPair fun p => { p with locked := true })
      hid hcan12 hcan16
    refine ⟨_, mirrorLinkLock_exec hrun hpaired hpartner, ?_⟩
    rw [signal_pair]
    exact ⟨hlocked, hclosed, hshaking, hsecret, hhello, fun hlow => mem_signal_outputs (hlower hlow)⟩
  case fails =>
    refine ⟨_, mirrorLinkLock_exec hrun hpaired hpartner, ?_⟩
    rw [signal_pair, signal_raised, State.linkStart_refused (s := s.setPair fun p => { p with locked := true }) hnot]
    exact ⟨rfl, rfl, exists_mem_scEvent ..⟩
  case retries =>
    exact congrArg (fun t => Host.Outcome.next (s.signal t)) (if_pos ⟨hon, State.inPair_iff.mpr ⟨hpaired, hstate⟩, hlocked, hclosed, hidle⟩)
  case opens =>
    obtain ⟨hepoch, hopen, htx, hrx, hlantern⟩ := State.openLink_pair (s.emit (.mirrorHandshake (s.linkProof peer))) peer
    obtain ⟨hup, hdown, hlamp⟩ := s.linkKeys_directions peer s.pair
    rw [State.linkKeys_emit] at htx hrx hlantern
    exact ⟨congrArg (fun t => Host.Outcome.next (s.signal t)) (State.handshakeDone_opens hrun hpaired hshaking hhello hway hsigs hserial hid hlat),
      hepoch, hopen, htx.trans hup, hrx.trans hdown, hlantern.trans hlamp⟩
  case refuses =>
    obtain ⟨t, hdurable, heq⟩ := State.handshakeDone_refused hrun hpaired hshaking hbad
    refine ⟨_, congrArg (fun t => Host.Outcome.next (s.signal t)) heq, ?_⟩
    rw [signal_pair, signal_durable, signal_raised]
    exact ⟨rfl, rfl, hdurable, exists_mem_scEvent ..⟩
  case announces =>
    have hserve : ¬ (s.scOn = false ∨ s.serves = false ∨ s.paired = false ∨ s.pair.claim = 0) := by
      simp only [hon, hserves, hpaired, hclaim, Bool.true_eq_false, or_self, not_false_eq_true]
    exact congrArg Host.Outcome.next (if_neg hserve)

end Sys2Proof.Machine

/-! ### What commits, sessions, token slots and the Guestbook leave alone of the porter and the pair

A unit that stops serving refuses its commits, ends its sessions, stands down and closes its window. Through all of that the porter keeps its
latch, causes, rails and trunk, and the controller its memory key. -/

namespace Sys2Proof.Machine

/-- What the work of commits, sessions, slots and windows leaves alone of the porter, but for the power state and a sleep entry that a new
request cancels, and of the controller's memory key; and the pair, which only an item of group 0x07 changes. -/
structure Bearing where
  porter : Porter
  memKey : Option Bytes
  pair : Pair

/-- The bearing without the pair. -/
def Bearing.house (b : Bearing) : Bearing := { b with pair := {} }

def State.bearing (s : State) : Bearing :=
  { porter := { s.porter with power := .s0, entering := none, lastRequest := 0 }, memKey := s.sc.memKey, pair := s.pair }

/-- The bearing with the queued requests. -/
structure Standing where
  bearing : Bearing
  queued : List Request

def State.standing (s : State) : Standing := { bearing := s.bearing, queued := s.disp.queued }

theorem State.bearing_of_standing {s t : State} (h : t.standing = s.standing) : t.bearing = s.bearing := congrArg Standing.bearing h

/-- A run of operations each of which leaves the standing alone leaves it alone. -/
theorem State.foldl_standing {α : Type} {f : State → α → State} (h : ∀ s a, (f s a).standing = s.standing) (l : List α) (s : State) :
    (l.foldl f s).standing = s.standing := by
  induction l generalizing s with
  | nil => rfl
  | cons a l ih => exact (ih (f s a)).trans (h s a)

theorem State.foldl_bearing {α : Type} {f : State → α → State} (h : ∀ s a, (f s a).bearing = s.bearing) (l : List α) (s : State) :
    (l.foldl f s).bearing = s.bearing := by
  induction l generalizing s with
  | nil => rfl
  | cons a l ih => exact (ih (f s a)).trans (h s a)

theorem State.foldl_house {α : Type} {f : State → α → State} (h : ∀ s a, (f s a).bearing.house = s.bearing.house) (l : List α) (s : State) :
    (l.foldl f s).bearing.house = s.bearing.house := by
  induction l generalizing s with
  | nil => rfl
  | cons a l ih => exact (ih (f s a)).trans (h s a)

section
variable (s : State)

/-! Frames out of a port. -/

@[simp] theorem State.setPort_standing (n : Nat) (p : Port) : (s.setPort n p).standing = s.standing := by
  unfold State.setPort; split <;> rfl
@[simp] theorem State.count_standing (p c n : Nat) : (s.count p c n).standing = s.standing := by
  unfold State.count; split <;> simp
@[simp] theorem State.sendFrame_standing (p : Nat) (d : Source) (h : CaravanHdr) (k : Option (Bytes × Bytes)) (b : Bytes) :
    (s.sendFrame p d h k b).standing = s.standing := by
  unfold State.sendFrame
  split
  · simp only [State.count_standing]; rfl
  · rfl
@[simp] theorem State.sendTagged_standing (n p : Nat) (d : Source) (t : Nat) (b : Bytes) : (s.sendTagged n p d t b).standing = s.standing := by
  unfold State.sendTagged
  split
  · rfl
  · split
    · rfl
    · simp only [State.sendFrame_standing]; rfl
@[simp] theorem State.orphanResponse_standing (r : Response) : (s.orphanResponse r).standing = s.standing := by
  unfold State.orphanResponse
  split
  · rfl
  · exact s.count_standing ..

/-! Jobs of the engines and lanes, the end of an invocation. -/

@[simp] theorem State.resumeLne_standing (n : Nat) : (s.resumeLne n).standing = s.standing := by
  obtain ⟨g, p, heq, -⟩ := s.resumeLne_eq n
  rw [heq]
  rfl
@[simp] theorem State.wakeLne_standing : s.wakeLne.standing = s.standing := by
  unfold State.wakeLne
  split
  · rfl
  · split
    · rfl
    · split <;> rfl
@[simp] theorem State.dropLneJob_standing (j : LneJob) : (s.dropLneJob j).standing = s.standing := by
  unfold State.dropLneJob
  split
  · split
    · simp only [State.wakeLne_standing, State.resumeLne_standing]; rfl
    · rfl
  · simp only [State.wakeLne_standing]; rfl
@[simp] theorem State.abortLneJob_standing (j : LneJob) : (s.abortLneJob j).standing = s.standing := by
  unfold State.abortLneJob
  split
  · exact s.dropLneJob_standing j
  · exact s.dropLneJob_standing j
theorem LanesOnly.standing {s t : State} (h : LanesOnly s t) : t.standing = s.standing := by
  obtain ⟨_, _, rfl⟩ := h
  rfl
@[simp] theorem State.dropLaneJob_standing (j : LaneJob) : (s.dropLaneJob j).standing = s.standing := by
  unfold State.dropLaneJob
  dsimp only
  split
  · exact (LanesOnly.standing (State.assignWaiting_lanesOnly ..)).trans (LanesOnly.standing (State.vacate_lanesOnly ..))
  · rfl
@[simp] theorem State.dropJobs_standing (c : CoreId) : (s.dropJobs c).standing = s.standing :=
  (State.foldl_standing State.dropLaneJob_standing ..).trans (State.foldl_standing State.abortLneJob_standing ..)
@[simp] theorem State.idleCluster_standing (c : CoreId) : (s.idleCluster c).standing = s.standing := by
  unfold State.idleCluster
  split
  · rfl
  · split
    · rfl
    · split <;> rfl
@[simp] theorem State.enterS1_standing : s.enterS1.standing = s.standing := by
  unfold State.enterS1
  split <;> rfl
@[simp] theorem State.endInvocation_standing (c : CoreId) (k : Core) (st : Status) (b : Bytes) :
    (s.endInvocation c k st b).standing = s.standing := by
  unfold State.endInvocation
  extract_lets done job s1 s2 dropped s3 s4
  clear_value job
  have h1 : s1.standing = s.standing := by
    unfold s1
    split <;> rfl
  have h2 : s2.standing = s1.standing := by
    unfold s2
    split
    · split <;> rfl
    · rfl
  have h3 : s3.standing = s2.standing := s2.dropJobs_standing c
  have h4 : s4.standing = s3.standing := (State.enterS1_standing _).trans (State.idleCluster_standing _ c)
  exact h4.trans (h3.trans (h2.trans h1))
@[simp] theorem State.coreCommitted_standing (c : CoreId) (st : Status) (n : Nat) : (s.coreCommitted c st n).standing = s.standing := by
  unfold State.coreCommitted
  split
  · rfl
  · split
    · rfl
    · cases c with
      | sc => rfl
      | tx => exact s.endInvocation_standing ..
    · rfl
@[simp] theorem State.failIv_standing (r : Nat) (st : Status) : (s.failIv r st).standing = s.standing := by
  unfold State.failIv
  refine State.foldl_standing (fun t j => ?_) _ s
  have hlane := State.finishLane_lanesOnly (t.event (tapOf j.core) St.ivReservationUnavailable [st, j.ticket]) j.handle
    St.ivReservationUnavailable [] []
  exact hlane.standing
/-- A refused commit leaves the unit standing as it does. -/
@[simp] theorem State.refuseCommit_standing (src : CommitSrc) (st : Status) (i : Option Nat) : (s.refuseCommit src st i).standing = s.standing := by
  cases src with
  | core c => exact s.coreCommitted_standing ..
  | iv r => exact s.failIv_standing ..
  | _ => rfl

/-! Stages and sessions. -/

@[simp] theorem State.withdrawApply_standing (g : Nat) (st : Status) : (s.withdrawApply g st).standing = s.standing := by
  unfold State.withdrawApply
  refine (State.foldl_standing (fun t w => ?_) _ _).trans (State.foldl_standing (fun t w => ?_) _ s)
  · rfl
  · split <;> rfl
@[simp] theorem State.dropStages_standing (f : Stage → Bool) : (s.dropStages f).standing = s.standing := by
  unfold State.dropStages
  refine (State.foldl_standing (fun t g => ?_) _ _).trans (State.foldl_standing (fun t g => ?_) _ s)
  · rfl
  · exact t.withdrawApply_standing ..
@[simp] theorem State.dropNetJobs_standing (f : Nat → Bool) : (s.dropNetJobs f).standing = s.standing :=
  State.foldl_standing State.dropLneJob_standing _ _
@[simp] theorem State.forgetSession_standing (n : Nat) : (s.forgetSession n).standing = s.standing := by
  have hjobs := s.dropNetJobs_standing (· == n)
  unfold State.forgetSession
  generalize s.dropNetJobs (· == n) = t at hjobs ⊢
  exact (State.dropStages_standing _ _).trans hjobs
@[simp] theorem State.closeSession_standing (n st r : Nat) : (s.closeSession n st r).standing = s.standing := by
  unfold State.closeSession
  split
  · rfl
  next x _ =>
    rw [State.forgetSession_standing, State.foldl_standing State.orphanResponse_standing, State.sendTagged_standing]
@[simp] theorem State.endAllSessions_standing : s.endAllSessions.standing = s.standing := by
  unfold State.endAllSessions
  exact (State.dropNetJobs_standing _ _).trans (s.dropStages_standing _)
@[simp] theorem State.settleClosing_standing (n : Nat) : (s.settleClosing n).standing = s.standing := by
  unfold State.settleClosing
  split
  · split
    · split
      · rfl
      · exact s.closeSession_standing ..
    · rfl
  · rfl
@[simp] theorem State.closePartitionSessions_standing (p r : Nat) : (s.closePartitionSessions p r).standing = s.standing := by
  unfold State.closePartitionSessions
  refine State.foldl_standing (fun t x => ?_) _ s
  exact State.settleClosing_standing ..
theorem State.cancelQueued_bearing (f : Request → Bool) (st : Status) : (s.cancelQueued f st).bearing = s.bearing := by
  rw [State.cancelQueued_eq]
  rfl

/-! Token slots and the ceremony. -/

@[simp] theorem State.setSlot_standing (n : Nat) (x : Slot) : (s.setSlot n x).standing = s.standing := by
  unfold State.setSlot
  split
  · rfl
  · split <;> rfl
@[simp] theorem State.tokenSend_standing (n : Nat) (w : TokenPurpose) (i a : Nat) (l : Bytes) : (s.tokenSend n w i a l).standing = s.standing :=
  State.setSlot_standing ..
@[simp] theorem State.lockSlot_standing (n : Nat) : (s.lockSlot n).standing = s.standing := by
  unfold State.lockSlot
  dsimp only
  split
  · split <;> simp
  · split
    · rfl
    · split <;> simp
  · split <;> simp
@[simp] theorem State.setCeremony_standing (c : Option Ceremony) : (s.setCeremony c).standing = s.standing := rfl
@[simp] theorem State.closeCeremony_standing (c : Ceremony) (st : Status) : (s.closeCeremony c st).standing = s.standing := by
  unfold State.closeCeremony
  simp only [State.lockSlot_standing, State.setCeremony_standing]
  split
  · rw [State.withdrawApply_standing]
    refine State.foldl_standing (fun t w => ?_) _ s
    split <;> rfl
  · refine State.foldl_standing (fun t w => ?_) _ s
    split <;> rfl
@[simp] theorem State.abandonCeremony_standing (st : Status) : (s.abandonCeremony st).standing = s.standing := by
  unfold State.abandonCeremony
  split
  · rfl
  · dsimp only
    rw [State.closeCeremony_standing]
    split <;> rfl
@[simp] theorem State.completeCeremony_standing (n : Nat) : (s.completeCeremony n).standing = s.standing := by
  unfold State.completeCeremony
  split
  · rfl
  next c _ => exact (State.closeCeremony_standing _ c 0)
@[simp] theorem State.tryReads_standing (e : Nat) (who : DrawReader) (l : List Nat) : (s.tryReads e who l).2.standing = s.standing := by
  obtain ⟨x, r, heq⟩ := s.tryReads_eq e who l
  rw [heq]
  rfl
@[simp] theorem State.prepareBackup_standing : s.prepareBackup.standing = s.standing := by
  unfold State.prepareBackup
  split
  · rfl
  · extract_lets
    split
    · rfl
    · split
      next hread => exact (congrArg (fun r => r.2.standing) hread).symm.trans (s.tryReads_standing ..)
      next hread => exact (congrArg (fun r => r.2.standing) hread).symm.trans (s.tryReads_standing ..)
theorem State.takeTicket_bearing : s.takeTicket.2.bearing = s.bearing := by
  unfold State.takeTicket
  dsimp only
  split <;> rfl
theorem State.cancelSleep_bearing : s.cancelSleep.bearing = s.bearing := by
  unfold State.cancelSleep
  split <;> rfl
theorem State.stampRequest_bearing (r : Request) (x : Option Status) : (s.stampRequest r x).bearing = s.bearing := by
  have hqueued (d : Dispatcher) : ({ s.takeTicket.2 with disp := d } : State).cancelSleep.bearing = s.bearing :=
    (State.cancelSleep_bearing _).trans s.takeTicket_bearing
  unfold State.stampRequest
  dsimp only
  split
  · exact s.takeTicket_bearing
  · split
    · exact hqueued _
    · exact hqueued _
theorem State.raiseStep_bearing (n : Nat) (w : TokenPurpose) (i a : Nat) (l : Bytes) : (s.raiseStep n w i a l).bearing = s.bearing :=
  (State.stampRequest_bearing ..).trans (State.bearing_of_standing (s.setSlot_standing ..))
theorem State.startShare_bearing (n : Nat) (st : Status) : (s.startShare n st).bearing = s.bearing := by
  unfold State.startShare
  extract_lets
  split
  · rfl
  · extract_lets
    split
    · rfl
    · split
      · exact s.raiseStep_bearing ..
      · exact s.raiseStep_bearing ..
theorem State.ceremonyCommitted_bearing (g : Nat) (items : List CItem) (n : Nat) : (s.ceremonyCommitted g items n).bearing = s.bearing := by
  unfold State.ceremonyCommitted
  split
  · rfl
  · split
    · simp only [State.startShare_bearing, State.bearing_of_standing (State.prepareBackup_standing _)]
      rfl
    · exact State.bearing_of_standing (s.completeCeremony_standing n)
/-- The outcome of a commit at its maker leaves the bearing alone. -/
theorem State.commitDone_bearing (src : CommitSrc) (r : Record) (total : Nat) : (s.commitDone src r total).bearing = s.bearing := by
  cases src with
  | core c => exact State.bearing_of_standing (s.coreCommitted_standing ..)
  | stage q g => exact State.ceremonyCommitted_bearing ..
  | _ => rfl

/-! The effects of items. -/

theorem State.placeSlot_bearing (r : Nat) : (s.placeSlot r).bearing = s.bearing := by
  unfold State.placeSlot
  dsimp only
  split <;> rfl
theorem State.addBough_bearing (p : Nat) : (s.addBough p).bearing = s.bearing := by
  unfold State.addBough
  split <;> rfl
theorem State.closeCredential_bearing (p n : Nat) : (s.closeCredential p n).bearing = s.bearing :=
  State.foldl_bearing (fun t _ => State.bearing_of_standing (t.closeSession_standing ..)) _ s
theorem State.removePartition_bearing (p : Nat) : (s.removePartition p).bearing = s.bearing := by
  unfold State.removePartition
  extract_lets drop store seq t t1
  have h1 : t1.bearing = s.bearing :=
    (State.bearing_of_standing (State.closePartitionSessions_standing ..)).trans (t.cancelQueued_bearing ..)
  split
  · exact h1
  · exact h1
theorem State.undefineQueue_bearing (n : Nat) : (s.undefineQueue n).bearing = s.bearing := by
  have hempty : (s.emptyQueue (n / 16) (n % 16)).2.2.bearing = s.bearing := State.cancelQueued_bearing ..
  unfold State.undefineQueue
  dsimp only
  split
  · exact hempty
  · exact hempty
theorem State.restartPort_bearing (n : Nat) : (s.restartPort n).bearing = s.bearing := by
  unfold State.restartPort
  split
  · exact State.bearing_of_standing (s.setPort_standing ..)
  · rfl
theorem State.pairChanged_house : s.pairChanged.bearing.house = s.bearing.house := by
  unfold State.pairChanged
  split <;> rfl

/-- An item that gives the unit a pair ID or takes it away (R354). -/
def setsPair : CItem → Bool
  | .configSet 0x0701 _ _ => true
  | _ => false

/-- An item's effect besides its change of the durable state leaves the bearing alone, where it is none of the pair's (R332, R333): the cases
are those of `State.itemEffect`, in its order. -/
theorem State.itemEffect_bearing (old : Durable) (p csn : Nat) {i : CItem} (hpair : setsPair i = false) :
    (State.itemEffect old s p csn i).bearing = s.bearing := by
  unfold State.itemEffect
  split
  · exact s.placeSlot_bearing _
  · rfl
  · rfl
  · exact State.closeCredential_bearing ..
  · rfl
  · split
    · rfl
    · exact s.addBough_bearing _
  · exact s.removePartition_bearing _
  · split
    · exact s.undefineQueue_bearing _
    · rfl
  · split
    · rfl
    · exact s.restartPort_bearing _
  · cases hpair
  · split
    · dsimp only
      split
      · rfl
      · split <;> rfl
    · rfl
  · rfl
  · dsimp only
    split <;> rfl
  · split <;> rfl
  · rfl
theorem State.itemEffect_house (old : Durable) (p csn : Nat) (i : CItem) : (State.itemEffect old s p csn i).bearing.house = s.bearing.house := by
  cases hpair : setsPair i with
  | false => exact congrArg Bearing.house (s.itemEffect_bearing old p csn hpair)
  | true =>
    unfold setsPair at hpair
    split at hpair
    · exact s.pairChanged_house
    · cases hpair

theorem State.syncRef_bearing (recs : List (Nat × List Bytes)) (r : Nat) : (State.syncRef recs s r).bearing = s.bearing := by
  unfold State.syncRef
  split
  · rfl
  · dsimp only
    split <;> rfl
theorem State.syncArea_bearing (r : Record) (ivs : Bytes) : (s.syncArea r ivs).bearing = s.bearing :=
  State.foldl_bearing (fun t _ => t.syncRef_bearing ..) _ s
theorem State.trimJournal_bearing : s.trimJournal.bearing = s.bearing := by
  unfold State.trimJournal
  dsimp only
  split <;> rfl
/-- The change of a record leaves the bearing alone, where none of its items is of the pair (R332). -/
theorem State.applyChange_bearing {r : Record} (hpair : ∀ i ∈ r.items, setsPair i = false) (ivs : Bytes) :
    (s.applyChange r ivs).bearing = s.bearing := by
  have hitems (u : State) (l : List CItem) (hl : ∀ i ∈ l, setsPair i = false) :
      (l.foldl (fun (u : State) i => State.itemEffect s.durable u r.partition r.csn i) u).bearing = u.bearing := by
    induction l generalizing u with
    | nil => rfl
    | cons i l ih =>
      obtain ⟨hi, hrest⟩ := List.forall_mem_cons.mp hl
      exact (ih _ hrest).trans (u.itemEffect_bearing _ _ _ hi)
  exact (State.trimJournal_bearing _).trans ((hitems _ _ hpair).trans (State.syncArea_bearing _ r ivs))
theorem State.applyChange_house (r : Record) (ivs : Bytes) : (s.applyChange r ivs).bearing.house = s.bearing.house := by
  have hitems (u : State) :
      (r.items.foldl (fun (u : State) i => State.itemEffect s.durable u r.partition r.csn i) u).bearing.house = u.bearing.house :=
    State.foldl_house (fun v i => v.itemEffect_house _ _ _ i) _ u
  exact (congrArg Bearing.house (State.trimJournal_bearing _)).trans
    ((hitems _).trans (congrArg Bearing.house (State.syncArea_bearing _ r ivs)))

/-! Commits that settle, and the word of a unit that stops (R368, R371). -/

theorem State.mirSend_house (type : Nat) (body : Bytes) (recs : List Record) : (s.mirSend type body recs).bearing.house = s.bearing.house := by
  obtain ⟨o, p, heq⟩ := s.mirSend_eq type body recs
  rw [heq]
  rfl
theorem State.lanternSend_eq (type : Nat) : ∃ o p, s.lanternSend type = { s with outputs := o, pair := p } := by
  unfold State.lanternSend
  split
  · exact ⟨s.outputs, s.pair, rfl⟩
  · exact ⟨_, _, rfl⟩
theorem State.lanternSend_house (type : Nat) : (s.lanternSend type).bearing.house = s.bearing.house := by
  obtain ⟨o, p, heq⟩ := s.lanternSend_eq type
  rw [heq]
  rfl
theorem State.raiseDurable_house : s.raiseDurable.bearing.house = s.bearing.house := by
  unfold State.raiseDurable
  extract_lets d seq t
  have ht : t.bearing = s.bearing := rfl
  split
  · split
    · exact (t.mirSend_house ..).trans (congrArg Bearing.house ht)
    · exact congrArg Bearing.house ht
  · rfl
theorem State.standDown_house : s.standDown.bearing.house = s.bearing.house := by
  unfold State.standDown
  split
  · rw [State.lanternSend_house, State.mirSend_house, State.raiseDurable_house]
  · rfl
theorem State.recordIvs_standing {s t : State} {who : DrawReader} {n : Nat} {x : Option Bytes} (h : s.recordIvs who n = (x, t)) :
    t.standing = s.standing := by
  obtain ⟨e, r, rfl⟩ := State.recordIvs_drawn h
  rfl
theorem State.commitApply_house : s.commitApply.bearing.house = s.bearing.house := by
  unfold State.commitApply
  split
  · rfl
  · split
    · split
      · exact congrArg Bearing.house (State.commitDone_bearing ..)
      · rfl
    · split
      · split
        next t hivs =>
          have ht := State.bearing_of_standing (State.recordIvs_standing hivs)
          exact (congrArg Bearing.house (State.commitDone_bearing ..)).trans
            ((State.applyChange_house ..).trans (congrArg Bearing.house ht))
        next t hivs => exact congrArg Bearing.house (State.bearing_of_standing (State.recordIvs_standing hivs))
      · rfl
theorem State.settleLoop_house (n : Nat) : (State.settleLoop n s).bearing.house = s.bearing.house := by
  induction n generalizing s with
  | zero => rfl
  | succ n ih => exact (ih s.commitApply).trans s.commitApply_house
theorem State.ackTimeout_house (n : Nat) : (s.ackTimeout n).bearing.house = s.bearing.house := by
  unfold State.ackTimeout
  split
  · rfl
  · split
    · rfl
    · exact congrArg Bearing.house (State.bearing_of_standing (State.refuseCommit_standing ..))
theorem State.settleCommits_house : s.settleCommits.bearing.house = s.bearing.house := by
  have hsettled (t : State) (n : Nat) : (State.settleLoop n t.raiseDurable).bearing.house = t.bearing.house :=
    (State.settleLoop_house _ n).trans t.raiseDurable_house
  unfold State.settleCommits
  dsimp only
  split
  · exact (State.foldl_house (fun v a => v.ackTimeout_house _) _ _).trans (hsettled ..)
  · exact hsettled ..

/-! The Guestbook. -/

/-- The first saturation marks the window and may record an event. -/
theorem State.saturate_keeps : ∃ r, s.saturate = { s with
    guest := { s.guest with window := { s.guest.window with saturated := true } }, raised := r } := by
  unfold State.saturate
  split
  next hsat => exact ⟨s.raised, by rw [← hsat]⟩
  · exact ⟨_, rfl⟩
/-- An event that is counted: its count, its mark of saturation and that of the window may change. -/
theorem State.countEvent_keeps (i : Nat) : ∃ a b c r, s.countEvent i = { s with
    guest := { s.guest with window := { s.guest.window with counts := a, satCount := b, saturated := c } }, raised := r } := by
  unfold State.countEvent
  dsimp only
  split
  · exact ⟨_, _, _, _, rfl⟩
  · split
    · exact ⟨_, _, _, _, rfl⟩
    · obtain ⟨r, heq⟩ := State.saturate_keeps (s.setWindow { s.guest.window with satCount := i :: s.guest.window.satCount })
      exact ⟨_, _, _, _, heq⟩
theorem State.countSuppressed_keeps (i : Nat) : ∃ a b c r, s.countSuppressed i = { s with
    guest := { s.guest with window := { s.guest.window with suppressed := a, satSuppressed := b, saturated := c } }, raised := r } := by
  unfold State.countSuppressed
  dsimp only
  split
  · exact ⟨_, _, _, _, rfl⟩
  · split
    · exact ⟨_, _, _, _, rfl⟩
    · obtain ⟨r, heq⟩ := State.saturate_keeps (s.setWindow { s.guest.window with satSuppressed := i :: s.guest.window.satSuppressed })
      exact ⟨_, _, _, _, heq⟩
/-- A sample that is counted changes its own metric. -/
theorem State.countSample_keeps (m v t : Nat) : ∃ x a b r, s.countSample m v t = { s with
    guest := { s.guest with window := { s.guest.window with metrics := setK m x s.guest.window.metrics, satHist := a, saturated := b } }, raised := r } := by
  unfold State.countSample
  extract_lets w x b c y z u
  split
  · exact ⟨_, _, _, _, rfl⟩
  · split
    · exact ⟨_, _, _, _, rfl⟩
    · obtain ⟨r, heq⟩ := State.saturate_keeps (u.setWindow { u.guest.window with satHist := (32 * m + b) :: w.satHist })
      exact ⟨_, _, _, _, heq⟩
/-- What a worked item leaves alone of the Guestbook: everything but the window and the buckets. -/
theorem State.takeItem_keeps (it : TapItem) : ∃ w b r, s.takeItem it = { s with
    guest := { s.guest with window := w, buckets := b }, raised := r } := by
  unfold State.takeItem
  split
  · split
    · exact ⟨_, _, _, rfl⟩
    · obtain ⟨_, _, _, _, heq⟩ := s.countSample_keeps it.code it.value it.mono
      exact ⟨_, _, _, heq⟩
  · extract_lets i lvl
    split
    · obtain ⟨_, _, _, _, heq⟩ := State.countEvent_keeps { s with guest := { s.guest with buckets := setK i (lvl - 1) s.guest.buckets } } i
      exact ⟨_, _, _, heq⟩
    · obtain ⟨_, _, _, _, heq⟩ := s.countSuppressed_keeps i
      exact ⟨_, _, _, heq⟩
theorem State.foldl_takeItem_eq (l : List TapItem) (s : State) : ∃ g r, l.foldl State.takeItem s = { s with guest := g, raised := r } := by
  induction l generalizing s with
  | nil => exact ⟨s.guest, s.raised, rfl⟩
  | cons it l ih =>
    obtain ⟨_, _, _, hfirst⟩ := s.takeItem_keeps it
    obtain ⟨g, r, hrest⟩ := ih (s.takeItem it)
    exact ⟨g, r, hrest.trans (by rw [hfirst])⟩
theorem State.drainTaps_eq : ∃ g r, s.drainTaps = { s with guest := g, raised := r } := by
  obtain ⟨g, r, heq⟩ := State.foldl_takeItem_eq ((s.guest.fifos.flatMap fun e => e.2.items) ++ s.raised.map fun e => e.2.item)
    { s with raised := [], guest := { s.guest with fifos := s.guest.fifos.map fun (e : Nat × TapFifo) => (e.1, { e.2 with items := [] }) } }
  exact ⟨g, r, heq⟩
theorem State.closeWindow_eq (e : Nat) (b : Bool) : ∃ g r, s.closeWindow e b = { s with guest := g, raised := r } := by
  have hlost (l : List (Nat × Nat)) (t : State) : ∃ r, l.foldl (fun u e => u.scEvent St.tapItemsLost [e.1, e.2]) t = { t with raised := r } := by
    induction l generalizing t with
    | nil => exact ⟨t.raised, rfl⟩
    | cons x l ih =>
      obtain ⟨r, heq⟩ := ih (t.scEvent St.tapItemsLost [x.1, x.2])
      exact ⟨r, heq⟩
  unfold State.closeWindow
  extract_lets g lost rec0 g1 fresh len t t1
  obtain ⟨r, heq⟩ := hlost lost t1
  rw [heq]
  unfold t1
  split
  · exact ⟨_, _, rfl⟩
  · exact ⟨_, _, rfl⟩
theorem State.partialWindow_eq : ∃ g r, s.partialWindow = { s with guest := g, raised := r } := by
  unfold State.partialWindow
  split
  · exact ⟨s.guest, s.raised, rfl⟩
  · exact s.closeWindow_eq ..
theorem State.partialWindow_bearing : s.partialWindow.bearing = s.bearing := by
  obtain ⟨g, r, heq⟩ := s.partialWindow_eq
  rw [heq]
  rfl
theorem State.drainTaps_bearing : s.drainTaps.bearing = s.bearing := by
  obtain ⟨g, r, heq⟩ := s.drainTaps_eq
  rw [heq]
  rfl
/-- An orderly stop leaves the porter and the memory key as they were (R371, R496). -/
theorem State.leaveService_house : s.leaveService.bearing.house = s.bearing.house := by
  unfold State.leaveService
  rw [State.partialWindow_bearing, State.drainTaps_bearing, State.standDown_house, State.settleCommits_house]

end
end Sys2Proof.Machine

/-! ### Roles of the pair (12 R356 to R380) -/

namespace Sys2Proof.Machine

section

variable {s t u : State} {f : LanternIn}

@[simp] theorem signal_net (s t : State) : (s.signal t).net = t.net := by
  obtain ⟨o, v, b, heq⟩ := signal_eq s t
  rw [heq]

@[simp] theorem signal_disp (s t : State) : (s.signal t).disp = t.disp := by
  obtain ⟨o, v, b, heq⟩ := signal_eq s t
  rw [heq]

@[simp] theorem signal_cores (s t : State) : (s.signal t).cores = t.cores := by
  obtain ⟨o, v, b, heq⟩ := signal_eq s t
  rw [heq]

@[simp] theorem signal_mono (s t : State) : (s.signal t).mono = t.mono := by
  obtain ⟨o, v, b, heq⟩ := signal_eq s t
  rw [heq]

@[simp] theorem signal_seq (s t : State) : (s.signal t).seq = t.seq := by
  obtain ⟨o, v, b, heq⟩ := signal_eq s t
  rw [heq]

@[simp] theorem signal_store (s t : State) : (s.signal t).store = t.store := by
  obtain ⟨o, v, b, heq⟩ := signal_eq s t
  rw [heq]

/-! #### The fence (R376) -/

/-- A run of operations each of which touches the sequencer and the controller touches no more. -/
theorem State.foldl_seq_sc {α : Type} {g : State → α → State} (h : ∀ t a, ∃ q x, g t a = { t with seq := q, sc := x }) (l : List α) (s : State) :
    ∃ q x, l.foldl g s = { s with seq := q, sc := x } := by
  induction l generalizing s with
  | nil => exact ⟨s.seq, s.sc, rfl⟩
  | cons a l ih =>
    obtain ⟨q, x, hfirst⟩ := h s a
    obtain ⟨q', x', hrest⟩ := ih (g s a)
    exact ⟨q', x', hrest.trans (by rw [hfirst])⟩

theorem State.withdrawApply_eq (s : State) (g : Nat) (st : Status) : ∃ q x, s.withdrawApply g st = { s with seq := q, sc := x } := by
  unfold State.withdrawApply
  extract_lets ws cs t
  obtain ⟨q, x, hfirst⟩ : ∃ q x, t = { s with seq := q, sc := x } := by
    refine State.foldl_seq_sc (fun v w => ?_) ws s
    split
    · exact ⟨_, _, rfl⟩
    · exact ⟨v.seq, v.sc, rfl⟩
  have hanswer (v : State) (w : ScCommand) : ∃ q x, v.endWait w.req st (stageFail none) = { v with seq := q, sc := x } := ⟨v.seq, _, rfl⟩
  obtain ⟨q', x', hrest⟩ := State.foldl_seq_sc hanswer cs t
  exact ⟨q', x', hrest.trans (by rw [hfirst])⟩

theorem State.lockSlot_eq (s : State) (n : Nat) : ∃ o c, s.lockSlot n = { s with outputs := o, custody := c } := by
  have hset (v : State) (x : Slot) : ∃ c, v.setSlot n x = { v with custody := c } := by
    unfold State.setSlot
    split
    · exact ⟨_, rfl⟩
    · split
      · exact ⟨_, rfl⟩
      · exact ⟨v.custody, rfl⟩
  have hsend (v : State) : ∃ o c, v.tokenSend n .lock 9 = { v with outputs := o, custody := c } := by
    unfold State.tokenSend State.emitToken
    obtain ⟨c, heq⟩ := hset v { v.slot n with cmd := some { why := .lock, index := 9, arg := 0, data := [] } }
    rw [heq]
    exact ⟨_, c, rfl⟩
  have honly (v : State) (x : Slot) : ∃ o c, v.setSlot n x = { v with outputs := o, custody := c } := by
    obtain ⟨c, heq⟩ := hset v x
    exact ⟨v.outputs, c, heq⟩
  unfold State.lockSlot
  dsimp only
  split
  · split
    · exact honly ..
    · exact ⟨s.outputs, s.custody, rfl⟩
  next c' k' _ _ =>
    split
    · exact ⟨s.outputs, s.custody, rfl⟩
    · split
      · obtain ⟨c, hfirst⟩ := hset s { s.slot n with step := none }
        obtain ⟨o, c', hrest⟩ := hsend (s.setSlot n { s.slot n with step := none })
        exact ⟨o, c', hrest.trans (by rw [hfirst])⟩
      · exact honly ..
  · split
    · exact hsend s
    · exact ⟨s.outputs, s.custody, rfl⟩

/-- The end of a ceremony touches no session. -/
theorem State.closeCeremony_net (s : State) (c : Ceremony) (st : Status) : (s.closeCeremony c st).net = s.net := by
  have hlock (v : State) (n : Nat) : (v.lockSlot n).net = v.net := by
    obtain ⟨o, c, heq⟩ := v.lockSlot_eq n
    rw [heq]
  have hanswers (l : List ScCommand) (v : State) : ∃ q x, l.foldl (fun t w => match w.wait with
      | .ceremony _ => t.endWait w.req st (stageFail none)
      | _ => t.endWait w.req (if st = 0 then St.ceremonyMalformed else st)) v = { v with seq := q, sc := x } := by
    refine State.foldl_seq_sc (fun v w => ?_) l v
    split
    · exact ⟨v.seq, _, rfl⟩
    · exact ⟨v.seq, _, rfl⟩
  unfold State.closeCeremony
  extract_lets hit s1 s2
  obtain ⟨q, x, h1⟩ : ∃ q x, s1 = { s with seq := q, sc := x } := hanswers hit s
  have h2 : s2.net = s1.net := by
    unfold s2
    split
    · obtain ⟨q', x', heq⟩ := s1.withdrawApply_eq c.stage st
      rw [heq]
    · rfl
  rw [hlock, hlock]
  exact h2.trans (by rw [h1])

theorem State.abandonCeremony_net (s : State) (st : Status) : (s.abandonCeremony st).net = s.net := by
  unfold State.abandonCeremony
  split
  · rfl
  · dsimp only
    rw [State.closeCeremony_net]
    split <;> rfl

/-- A fenced unit: no session and no queued request is left. -/
theorem State.fencePair_result (s : State) : s.fencePair.pair.state = .fenced ∧ s.fencePair.net.sessions = [] ∧ s.fencePair.disp.queued = [] := by
  unfold State.fencePair
  extract_lets waiting undone seq disp s1 s2 s3 held heldNow ofRing pair s4
  have h2 : s2.standing = s1.standing := State.foldl_standing (fun v w => v.refuseCommit_standing ..) waiting s1
  have h3 : s3.standing = s2.standing := State.foldl_standing (fun v a => v.refuseCommit_standing ..) undone s2
  have hend : (s4.endAllSessions.abandonCeremony St.pairFenced).standing = s4.standing :=
    (State.abandonCeremony_standing ..).trans s4.endAllSessions_standing
  refine ⟨?_, ?_, ?_⟩
  · have hpair : (s4.endAllSessions.abandonCeremony St.pairFenced).pair = s4.pair := congrArg (fun x => x.bearing.pair) hend
    exact congrArg Pair.state hpair
  · exact congrArg Net.sessions (State.abandonCeremony_net ..)
  · have hqueued : s3.disp.queued = s1.disp.queued := congrArg Standing.queued (h3.trans h2)
    exact (congrArg Standing.queued hend).trans hqueued

/-- A claim that beats the unit's own while it serves fences it (R374, R376). -/
theorem State.learnClaim_fences {c n : Nat} (hbeats : beats c n s.pair.claim ownSerial = true)
    (hstate : s.pair.state = .active ∨ s.pair.state = .activeAlone ∨ s.pair.state = .isolated) :
    ∃ t : State, s.learnClaim c (some n) = t.fencePair := by
  unfold State.learnClaim
  dsimp only
  rw [if_pos hbeats]
  rcases hstate with hstate | hstate | hstate <;> exact ⟨_, by rw [hstate]⟩

theorem State.serves_of_fenced (h : s.pair.state = .fenced) : s.serves = false := by
  rw [State.serves, h]

/-! #### What sending changes of the pair -/

/-- The pair without what sending changes: frame numbers, counters, the prepared TAMPER frame, and the link that closes when its numbers
run out. -/
def Pair.stance (p : Pair) : Pair :=
  { p with linkOpen := false, txSeq := 0, ctrs := Vector.replicate 7 0, lanternTx := 0, tamperFrame := [] }

theorem State.mirSend_stance (s : State) (type : Nat) (body : Bytes) (recs : List Record) : (s.mirSend type body recs).pair.stance = s.pair.stance := by
  unfold State.mirSend
  split
  · rfl
  · split
    · rfl
    · rfl

theorem State.lanternSend_stance (s : State) (type : Nat) : (s.lanternSend type).pair.stance = s.pair.stance := by
  unfold State.lanternSend
  split <;> rfl

theorem State.raiseDurable_stance (s : State) : s.raiseDurable.pair.stance = s.pair.stance := by
  unfold State.raiseDurable
  extract_lets d seq t
  have ht : t.pair = s.pair := rfl
  split
  · split
    · exact (t.mirSend_stance ..).trans (congrArg Pair.stance ht)
    · exact congrArg Pair.stance ht
  · rfl

theorem State.raiseDurable_mono (s : State) : s.raiseDurable.mono = s.mono := by
  unfold State.raiseDurable
  extract_lets d seq t
  have ht : t.mono = s.mono := rfl
  split
  · split
    · obtain ⟨o, p, heq⟩ := t.mirSend_eq 0x10 [] []
      rw [heq]
    · exact ht
  · rfl

theorem State.random_bearing (s : State) (e len : Nat) : (s.random e len).2.bearing = s.bearing := by
  obtain ⟨x, r, heq⟩ := s.random_eq e len
  rw [heq]
  rfl

theorem State.sendFragments_standing (s : State) (port : Nat) (dst : Source) (type maxFrame : Nat) (body : Bytes) :
    (s.sendFragments port dst type maxFrame body).standing = s.standing := by
  unfold State.sendFragments
  refine State.foldl_standing (fun t e => ?_) _ s
  exact t.sendFrame_standing ..

/-- An announcement changes nothing of the pair. -/
theorem State.announce_bearing (s : State) : s.announce.bearing = s.bearing := by
  unfold State.announce
  split
  · rfl
  · split
    · rfl
    · refine (State.foldl_bearing (fun t e => ?_) _ _).trans (s.random_bearing 16 80)
      exact State.bearing_of_standing (State.sendFragments_standing ..)

/-- A new claim is one above the highest seen (R374). -/
theorem State.takeClaim_stance (s : State) : s.takeClaim.pair.stance =
    ({ s.pair with claim := s.pair.seen + 1, known := false, seen := s.pair.seen + 1, seenSerial := ownSerial, claimAt := some s.mono, claimLast := s.mono } : Pair).stance := by
  unfold State.takeClaim
  extract_lets c
  have hannounce (t : State) : t.announce.pair = t.pair := congrArg Bearing.pair t.announce_bearing
  rw [hannounce, State.lanternSend_stance, State.mirSend_stance]
  rfl

/-- A unit that goes on alone. -/
theorem State.becomeAlone_stance (s : State) : s.becomeAlone.pair.stance =
    ({ s.pair with state := .activeAlone, wasAlone := true, aloneCsn := some s.seq.applied, serving := false } : Pair).stance :=
  State.raiseDurable_stance _

/-! #### Application on a standby (R365) -/

theorem foreign_setsPair (r : Record) : ∀ i ∈ (foreign r).items, setsPair i = false := by
  intro i hin
  obtain ⟨-, hkept⟩ := List.mem_filter.mp hin
  unfold setsPair
  split
  · have hforeign : (0x0701 / 256 != 7) = true := hkept
    exact absurd hforeign (by decide)
  · rfl

/-- What a standby applies takes records off those received, and changes nothing else of the pair. -/
theorem State.applyUpTo_pair (mark fuel : Nat) (s : State) : ∃ l, (State.applyUpTo mark fuel s).pair = { s.pair with received := l } := by
  induction fuel generalizing s with
  | zero => exact ⟨s.pair.received, rfl⟩
  | succ fuel ih =>
    unfold State.applyUpTo
    split
    next r l hreceived =>
      split
      · split
        next u hivs => exact ⟨s.pair.received, congrArg (fun x => x.bearing.pair) (State.recordIvs_standing hivs)⟩
        next ivs u hivs =>
          have hu : u.pair = s.pair := congrArg (fun x => x.bearing.pair) (State.recordIvs_standing hivs)
          have hchange : ((u.setPair fun p => { p with received := l }).applyChange (foreign r) ivs).pair = { s.pair with received := l } := by
            refine (congrArg Bearing.pair (State.applyChange_bearing _ (foreign_setsPair r) ivs)).trans ?_
            exact congrArg (fun p : Pair => { p with received := l }) hu
          obtain ⟨l', hrest⟩ := ih { (u.setPair fun p => { p with received := l }).applyChange (foreign r) ivs with
            seq := { ((u.setPair fun p => { p with received := l }).applyChange (foreign r) ivs).seq with
              next := max ((u.setPair fun p => { p with received := l }).applyChange (foreign r) ivs).seq.next (r.csn + 1)
              durableBelow := max ((u.setPair fun p => { p with received := l }).applyChange (foreign r) ivs).seq.durableBelow r.csn } }
          refine ⟨l', hrest.trans ?_⟩
          rw [hchange]
      · exact ⟨s.pair.received, rfl⟩
    · exact ⟨s.pair.received, rfl⟩

/-! #### Takeover (R373) -/

/-- A takeover that has applied every record up to the mark ends in a unit that serves alone under a claim one above the highest seen. -/
theorem State.takeover_takes (hdone : ∀ r ∈ (State.applyUpTo s.pair.mark s.pair.received.length s).pair.received, s.pair.mark < r.csn) :
    s.takeover.pair.state = .activeAlone ∧ s.takeover.pair.claim = s.pair.seen + 1 ∧ s.takeover.pair.seen = s.pair.seen + 1 ∧
      s.takeover.pair.received = [] := by
  obtain ⟨l, hpair⟩ := State.applyUpTo_pair s.pair.mark s.pair.received.length s
  have hnone : ((State.applyUpTo s.pair.mark s.pair.received.length s).pair.received.any fun r =>
      decide (r.csn ≤ (State.applyUpTo s.pair.mark s.pair.received.length s).pair.mark)) = false := by
    rw [List.any_eq_false]
    intro r hr hle
    have hmark : (State.applyUpTo s.pair.mark s.pair.received.length s).pair.mark = s.pair.mark := by rw [hpair]
    rw [hmark] at hle
    exact absurd (hdone r hr) (Nat.not_lt.mpr (of_decide_eq_true hle))
  unfold State.takeover
  extract_lets s1 seq pair s2 s3
  rw [if_neg (ne_true_of_eq_false hnone)]
  have hseen : s2.pair.seen = s.pair.seen := (congrArg Pair.seen hpair :)
  have hclaim := (s2.newBlock.refillSlots).takeClaim_stance
  have halone := ((s2.newBlock.refillSlots).takeClaim).becomeAlone_stance
  refine ⟨(congrArg Pair.state halone :), ?_, ?_, ?_⟩
  · exact (congrArg Pair.claim halone :).trans ((congrArg Pair.claim hclaim :).trans (congrArg (· + 1) hseen))
  · exact (congrArg Pair.seen halone :).trans ((congrArg Pair.seen hclaim :).trans (congrArg (· + 1) hseen))
  · exact (congrArg Pair.received halone :).trans (congrArg Pair.received hclaim :)

/-- A claim that is not above the highest seen teaches a standby nothing. -/
theorem State.learnClaim_known {c : Nat} (hstate : s.pair.state = .standby) (hknown : c ≤ s.pair.seen) : s.learnClaim c none = s := by
  unfold State.learnClaim
  have hold : ¬ (s.pair.seen < c ∨ ((none : Option Nat).isSome = true ∧ beats c ((none : Option Nat).getD s.partnerNumber) s.pair.seen s.pair.seenSerial = true)) := by
    rintro (h | ⟨h, -⟩)
    · omega
    · cases h
  dsimp only
  rw [if_neg hold, hstate]
  split <;> rfl

/-- A standby that hears its partner's last word takes over. -/
theorem State.partnerFailed_standby {b : Bool} (hstate : s.pair.state = .standby) (hfailed : s.pair.failed = false) :
    s.partnerFailed b = ((s.setPair fun p => { p with failed := true }).scEvent St.partnerFailed).takeover := by
  have hnew : ((s.setPair fun p => { p with failed := true }).scEvent St.partnerFailed).pair.state = .standby := hstate
  unfold State.partnerFailed
  rw [if_neg (ne_true_of_eq_false hfailed)]
  dsimp only
  rw [hnew]

/-- What a lantern frame has changed of the pair when its own content acts on a standby that knew its claim. -/
theorem State.lanternTaken_pair (hstate : s.pair.state = .standby) (hclaim : f.claim ≤ s.pair.seen) :
    ∃ b, (s.lanternTaken f).pair = { s.pair with lanternRx := some f.seq, lanternSilent := false, lanternHeard := s.mono, known := b } := by
  let t := (s.setPair fun p => { p with lanternRx := some f.seq }).heardLantern
  have hheard : t.pair = { s.pair with lanternRx := some f.seq, lanternSilent := false, lanternHeard := s.mono } := by
    unfold t State.heardLantern
    dsimp only
    split <;> rfl
  obtain ⟨b, hseen⟩ : ∃ b, (t.seenBy f.state f.claim).pair = { t.pair with known := b } := by
    unfold State.seenBy
    split
    · exact ⟨true, rfl⟩
    · exact ⟨t.pair.known, rfl⟩
  have hpair : (t.seenBy f.state f.claim).pair = { s.pair with lanternRx := some f.seq, lanternSilent := false, lanternHeard := s.mono, known := b } := by
    rw [hseen, hheard]
  have hsame : s.lanternTaken f = t.seenBy f.state f.claim :=
    State.learnClaim_known (by rw [hpair]; exact hstate) (by rw [hpair]; exact hclaim)
  exact ⟨b, by rw [hsame]; exact hpair⟩

/-! #### The start wait (R379) -/

/-- The unit was alone with the highest claim that it has seen (R379). -/
abbrev State.aloneHighest (s : State) : Prop :=
  s.pair.wasAlone = true ∧ s.pair.claim = s.pair.seen ∧ (s.pair.claim = 0 ∨ s.pair.seenSerial = ownSerial)

theorem State.startWaitOver_waiting {n : Nat} (hrun : s.sc.mode = .running) (hstate : s.pair.state = .waiting) (hsince : s.pair.waitSince = some n) :
    s.startWaitOver =
      let u := ({ s with mono := max s.mono (n + s.cfg 0x0703 0 30 * 10 ^ 9) } : State).setPair fun p => { p with waitSince := none }
      if s.aloneHighest then u.becomeAlone else u.scEvent St.pairWaiting := by
  have hwaits : ¬ (s.scOn = false ∨ s.pair.state ≠ .waiting) := by
    simp only [State.scOn_of_running hrun, hstate, ne_eq, not_true_eq_false, Bool.true_eq_false, or_self, not_false_eq_true]
  unfold State.startWaitOver
  rw [hsince]
  exact if_neg hwaits

/-! #### Resynchronisation (R380) -/

/-- A draw is served where the expander can serve what is left of it (R319, R320). -/
theorem State.tryReads_served_iff (s : State) (e : Nat) (who : DrawReader) (lens : List Nat) :
    (s.tryReads e who lens).1 ≠ none ↔ s.canDraw e (readRequests (restReads lens (s.drawPart e who).length)) = true := by
  unfold State.tryReads
  dsimp only
  split
  next hcan => simp only [hcan, ne_eq, reduceCtorEq, not_false_eq_true]
  next hcan =>
    refine ⟨fun hsome => absurd ?_ hsome, fun hserved => absurd hserved hcan⟩
    split
    · split <;> rfl
    · rfl

/-- Whether the IVs of the record area can be drawn depends on the keys, the expanders and the generator. -/
theorem State.areaIvs_served (hdurable : t.durable = s.durable) (hexpanders : t.expanders = s.expanders) (hrng : t.rng = s.rng)
    (hserved : s.areaIvs.1 ≠ none) : t.areaIvs.1 ≠ none := by
  unfold State.areaIvs State.recordIvs at *
  rw [hdurable]
  split
  · exact Option.some_ne_none _
  next hn =>
    rw [if_neg hn, State.tryReads_served_iff] at hserved
    rw [State.tryReads_served_iff]
    unfold State.canDraw State.delivers State.maskPending State.drawPart at *
    rw [hexpanders, hrng]
    exact hserved

/-- Filling the record area touches the area alone, where no key stands in key slot RAM. -/
theorem State.fillArea_eq (s : State) (ivs : Bytes) (hslots : s.store.slots = []) :
    ∃ x, x.slots = [] ∧ s.fillArea ivs = { s with store := x } := by
  have hstep (recs : List (Nat × List Bytes)) (v : State) (ref : Nat) (hv : v.store.slots = []) :
      ∃ x, x.slots = [] ∧ State.syncRef recs v ref = { v with store := x } := by
    unfold State.syncRef
    split
    · refine ⟨_, ?_, rfl⟩
      exact hv
    · extract_lets w
      have hw : getK ref w.store.slots = none := by
        rw [show w.store.slots = [] from hv]
        rfl
      rw [hw]
      refine ⟨_, ?_, rfl⟩
      exact hv
  have hfold (recs : List (Nat × List Bytes)) (l : List Nat) (v : State) (hv : v.store.slots = []) :
      ∃ x, x.slots = [] ∧ l.foldl (State.syncRef recs) v = { v with store := x } := by
    induction l generalizing v with
    | nil => exact ⟨v.store, hv, rfl⟩
    | cons ref l ih =>
      obtain ⟨x, hx, hfirst⟩ := hstep recs v ref hv
      obtain ⟨y, hy, hrest⟩ := ih (State.syncRef recs v ref) (by rw [hfirst]; exact hx)
      exact ⟨y, hy, hrest.trans (by rw [hfirst])⟩
  exact hfold _ _ { s with store := { s.store with area := [] } } hslots

theorem State.applyReceived_none (h : s.pair.received = []) : s.applyReceived = s := by
  unfold State.applyReceived
  rw [h]
  rfl

theorem State.joinActive_none (h : s.pair.joinAt = none) : s.joinActive = s := by
  unfold State.joinActive
  rw [h]

/-- The state with a snapshot in place, before its record area is filled (R380). -/
theorem State.deriveBoughs_eq (s : State) : ∃ l, s.deriveBoughs = { s with store := { s.store with boughs := l } } := by
  unfold State.deriveBoughs
  split
  · exact ⟨_, rfl⟩
  · exact ⟨_, rfl⟩

theorem State.snapshotLoaded_loads {x : Snapshot} (hrun : s.sc.mode = .running) (hstate : s.pair.state = .resyncing) (hsnap : s.pair.snapS ≠ none)
    (hreceived : s.pair.received = []) (hjoin : s.pair.joinAt = none)
    (hivs : ({ s with durable := snapDurable x s.durable } : State).areaIvs.1 ≠ none) :
    (s.snapshotLoaded x).pair.snapS = none ∧ (s.snapshotLoaded x).pair.acked = x.csn ∧ (s.snapshotLoaded x).seq.applied = x.csn ∧
      (s.snapshotLoaded x).durable = snapDurable x s.durable ∧ (s.snapshotLoaded x).store.slots = [] := by
  have hresync : ¬ (s.scOn = false ∨ s.pair.state ≠ .resyncing ∨ s.pair.snapS.isNone = true) := by
    simp only [State.scOn_of_running hrun, hstate, Option.isNone_iff_eq_none, hsnap, ne_eq, not_true_eq_false, Bool.true_eq_false, or_self,
      not_false_eq_true]
  unfold State.snapshotLoaded
  rw [if_neg hresync]
  extract_lets rest top copy store seq pair t
  have hrest : rest = [] := by
    unfold rest
    rw [hreceived]
    rfl
  have htop : top = x.csn := by
    unfold top
    rw [hrest]
    rfl
  obtain ⟨l, hboughs⟩ := t.writeArea.deriveBoughs_eq
  have hserved : t.writeArea.deriveBoughs.areaIvs.1 ≠ none :=
    State.areaIvs_served (by rw [hboughs]; rfl) (by rw [hboughs]; rfl) (by rw [hboughs]; rfl) hivs
  split
  next ivs u heq =>
    obtain ⟨e, r, hdrawn⟩ := State.recordIvs_drawn heq
    have hslots : u.store.slots = [] := by
      rw [hdrawn, hboughs]
      rfl
    obtain ⟨y, hy, hfill⟩ := u.fillArea_eq ivs hslots
    let w := (u.fillArea ivs).fenceClusters
    have hwpair : w.pair = t.pair := by
      have hw : w.pair = (u.fillArea ivs).pair := rfl
      rw [hw, hfill, hdrawn, hboughs]
      rfl
    have hstance := (w.mirSend_stance 0x10 [] []).trans (congrArg Pair.stance hwpair)
    have hnorec : (w.mirSend 0x10).pair.received = [] := (congrArg Pair.received hstance).trans hrest
    have hnojoin : (w.mirSend 0x10).pair.joinAt = none := (congrArg Pair.joinAt hstance).trans hjoin
    rw [State.applyReceived_none hnorec, State.joinActive_none hnojoin]
    obtain ⟨o, p, hsend⟩ := w.mirSend_eq 0x10 [] []
    refine ⟨congrArg Pair.snapS hstance, (congrArg Pair.acked hstance).trans htop, ?_, ?_, ?_⟩
    · rw [hsend]
      have hw : w.seq = (u.fillArea ivs).seq := rfl
      exact congrArg Sequencer.applied (by rw [hw, hfill, hdrawn, hboughs] : w.seq = t.writeArea.seq)
    · rw [hsend]
      have hw : w.durable = (u.fillArea ivs).durable := rfl
      rw [hw, hfill, hdrawn, hboughs]
      rfl
    · rw [hsend]
      have hw : w.store = (u.fillArea ivs).store := rfl
      rw [hw, hfill]
      exact hy
  next u heq => exact absurd (congrArg Prod.fst heq) hserved

end

/-- Settles O53: the fence by `fencePair_result`, the takeover by `takeover_takes`, the start wait and resynchronisation by their own
branches. -/
theorem pairRoleResults : Obligations.PairRoleResults := by
  unfold Obligations.PairRoleResults
  intro s cb f x n hrun hpaired
  dsimp only
  refine ⟨fun hport hchecks hres hid hserial hbeats hstate => ?fences,
    fun hstate hfailed htype hmac hkey hepoch hres hlow hhigh hnew hclaim hdone => ?takesOver,
    fun hstate hfailed hkey hheard hsilent => ?isolated,
    fun hstate hsince => ⟨fun halone => ?servesAlone, fun halone => ?waits⟩,
    fun hstate hsnap => ⟨fun hreceived hjoin hivs => ?loads, fun hfull => ?restarts⟩⟩
  case fences =>
    obtain ⟨t, hfence⟩ := State.learnClaim_fences hbeats hstate
    obtain ⟨hfenced, hsessions, hqueued⟩ := t.fencePair_result
    refine ⟨_, claimAnnounce_accepted hrun hpaired hport hchecks hres hid hserial, ?_⟩
    rw [hfence]
    refine ⟨?_, State.serves_of_fenced ?_, ?_, ?_⟩ <;> simp only [signal_pair, signal_net, signal_disp, hfenced, hsessions, hqueued]
  case takesOver =>
    have hpair : s.inPair = true := State.inPair_iff.mpr ⟨hpaired, by rw [hstate]; decide⟩
    obtain ⟨b, htaken⟩ := State.lanternTaken_pair hstate hclaim
    have hstill : (s.lanternTaken f).pair.state = .standby := by rw [htaken]; exact hstate
    have hnot : (s.lanternTaken f).pair.failed = false := by rw [htaken]; exact hfailed
    let u := ((s.lanternTaken f).setPair fun p => { p with failed := true }).scEvent St.partnerFailed
    have hmark : u.pair.mark = s.pair.mark := (congrArg Pair.mark htaken :)
    have hlen : u.pair.received.length = s.pair.received.length := (congrArg (fun p : Pair => p.received.length) htaken :)
    have hseen : u.pair.seen = s.pair.seen := (congrArg Pair.seen htaken :)
    obtain ⟨halone, hnewClaim, hnewSeen, hnone⟩ := State.takeover_takes (s := u) (by rw [hmark, hlen]; exact hdone)
    refine ⟨_, (lanternFrame_failing_exec htype).trans (congrArg (fun t => Host.Outcome.next (s.signal t))
      (State.lanternFrame_taken hrun hpair hmac hkey hepoch hres hlow hhigh hnew)), ?_⟩
    rw [State.partnerFailed_standby hstill hnot, signal_pair]
    exact ⟨halone, hnewClaim.trans (congrArg (· + 1) hseen), hnewSeen.trans hnewClaim.symm, hnone⟩
  case isolated =>
    have hpair : s.inPair = true := State.inPair_iff.mpr ⟨hpaired, by rw [hstate]; decide⟩
    refine ⟨_, congrArg (fun t => Host.Outcome.next (s.signal t)) (State.pathSilent_link hrun hpair hkey hheard), ?_⟩
    dsimp only
    rw [if_pos hsilent, signal_pair, signal_cores]
    unfold State.partnerFailed
    dsimp only
    rw [if_neg (by exact ne_true_of_eq_false hfailed)]
    have hactive : ((((({ s with mono := max s.mono (s.pair.linkHeard + 500000) } : State).setPair fun q => { q with linkSilent := true }).setPair
      fun p => { p with failed := true }).scEvent St.partnerFailed)).pair.state = .active := hstate
    rw [hactive]
    exact ⟨rfl, rfl, rfl, rfl⟩
  case servesAlone =>
    refine ⟨_, congrArg (fun t => Host.Outcome.next (s.signal t))
      ((State.startWaitOver_waiting hrun hstate hsince).trans (if_pos halone)), ?_⟩
    rw [signal_pair, signal_mono]
    exact ⟨congrArg Pair.state (State.becomeAlone_stance _), State.raiseDurable_mono _⟩
  case waits =>
    refine ⟨_, congrArg (fun t => Host.Outcome.next (s.signal t))
      ((State.startWaitOver_waiting hrun hstate hsince).trans (if_neg halone)), ?_⟩
    rw [signal_pair, signal_raised]
    exact ⟨hstate, exists_mem_scEvent ..⟩
  case loads =>
    obtain ⟨hnone, hacked, happlied, hdurable, hslots⟩ := State.snapshotLoaded_loads (x := x) hrun hstate hsnap hreceived hjoin hivs
    refine ⟨_, rfl, ?_⟩
    rw [signal_pair, signal_seq, signal_durable, signal_store]
    exact ⟨hnone, hacked, happlied, hdurable, hslots⟩
  case restarts =>
    have hsome : s.pair.snapS.isSome = true := Option.isSome_iff_ne_none.mpr hsnap
    refine ⟨_, congrArg Host.Outcome.next (if_pos ⟨State.scOn_of_running hrun, hstate, hsome, hfull⟩), rfl, rfl, rfl, rfl, rfl,
      exists_mem_scEvent ..⟩

end Sys2Proof.Machine

/-! ### The start (14 R410, R414, R416, R425, R426; 11 R350; 16 R463, R467) -/

namespace Sys2Proof.Machine

/-- What every step of a start leaves alone of the porter; and no event that was recorded goes. -/
structure StartKeeps (s t : State) : Prop where
  power : t.porter.power = s.porter.power
  wakeSource : t.porter.wakeSource = s.porter.wakeSource
  alarm : t.porter.alarm = s.porter.alarm
  held : t.porter.held = s.porter.held
  raised : ∀ e ∈ s.raised, e ∈ t.raised

/-- The steps after the life-cycle state has been read leave it and its groups alone too. -/
structure BootKeeps (s t : State) : Prop extends StartKeeps s t where
  lifecycle : t.lifecycle = s.lifecycle
  otp : t.sc.otp = s.sc.otp

/-- The steps of the firmware leave its mode alone too. -/
structure RunKeeps (s t : State) : Prop extends BootKeeps s t where
  mode : t.sc.mode = s.sc.mode

section

variable {s t u : State}

theorem StartKeeps.trans (h : StartKeeps s t) (h' : StartKeeps t u) : StartKeeps s u :=
  ⟨h'.power.trans h.power, h'.wakeSource.trans h.wakeSource, h'.alarm.trans h.alarm, h'.held.trans h.held, fun e he => h'.raised e (h.raised e he)⟩
theorem BootKeeps.trans (h : BootKeeps s t) (h' : BootKeeps t u) : BootKeeps s u :=
  ⟨h.toStartKeeps.trans h'.toStartKeeps, h'.lifecycle.trans h.lifecycle, h'.otp.trans h.otp⟩
theorem RunKeeps.trans (h : RunKeeps s t) (h' : RunKeeps t u) : RunKeeps s u :=
  ⟨h.toBootKeeps.trans h'.toBootKeeps, h'.mode.trans h.mode⟩

/-- A step that touches neither the porter nor the controller nor the life-cycle state, and takes no event back. -/
theorem RunKeeps.of_eq (hporter : t.porter = s.porter) (hlife : t.lifecycle = s.lifecycle) (hsc : t.sc = s.sc)
    (hraised : ∀ e ∈ s.raised, e ∈ t.raised) : RunKeeps s t := by
  refine ⟨⟨⟨?_, ?_, ?_, ?_, hraised⟩, hlife, ?_⟩, ?_⟩
  · rw [hporter]
  · rw [hporter]
  · rw [hporter]
  · rw [hporter]
  · rw [hsc]
  · rw [hsc]
theorem RunKeeps.refl (s : State) : RunKeeps s s := RunKeeps.of_eq rfl rfl rfl fun _ he => he
theorem BootKeeps.refl (s : State) : BootKeeps s s := (RunKeeps.refl s).toBootKeeps
theorem StartKeeps.refl (s : State) : StartKeeps s s := (RunKeeps.refl s).toStartKeeps

theorem scEvent_runKeeps (s : State) (c : Status) (l : List Nat) : RunKeeps s (s.scEvent c l) :=
  RunKeeps.of_eq rfl rfl rfl fun _ he => List.mem_append_left _ he

/-! The controller's marks of a start, and the service port that comes up. -/

theorem resumed_bootKeeps (s : State) : BootKeeps s { s with sc := { s.sc with resumed := true } } :=
  ⟨⟨rfl, rfl, rfl, rfl, fun _ he => he⟩, rfl, rfl⟩
theorem scrap_bootKeeps (s : State) : BootKeeps s { s with sc := { s.sc with mode := .scrap } } := ⟨⟨rfl, rfl, rfl, rfl, fun _ he => he⟩, rfl, rfl⟩
theorem romBlank_bootKeeps (s : State) : BootKeeps s { s with sc := { s.sc with mode := .romBlank }, svc := { linkUp := true } } :=
  ⟨⟨rfl, rfl, rfl, rfl, fun _ he => he⟩, rfl, rfl⟩
theorem loader_bootKeeps (s : State) : BootKeeps s { s with svc := { linkUp := true } } := ⟨⟨rfl, rfl, rfl, rfl, fun _ he => he⟩, rfl, rfl⟩

theorem foldl_runKeeps {α : Type} {g : State → α → State} (h : ∀ t a, RunKeeps t (g t a)) (l : List α) (s : State) : RunKeeps s (l.foldl g s) := by
  induction l generalizing s with
  | nil => exact RunKeeps.refl s
  | cons a l ih => exact (h s a).trans (ih (g s a))

/-! #### Replay (R350) -/

theorem saturate_runKeeps (s : State) : RunKeeps s s.saturate := by
  unfold State.saturate
  split
  · exact RunKeeps.refl s
  · exact RunKeeps.of_eq rfl rfl rfl fun _ he => List.mem_append_left _ he
theorem fatalEvent_runKeeps (s : State) (c : Status) : RunKeeps s (s.fatalEvent c) := by
  have hwindow (w : Window) : RunKeeps s (s.setWindow w) := RunKeeps.of_eq rfl rfl rfl fun _ he => he
  unfold State.fatalEvent State.countEvent
  dsimp only
  split
  · exact hwindow _
  · split
    · exact RunKeeps.refl s
    · exact (hwindow _).trans (saturate_runKeeps _)
theorem replayEffect_runKeeps (s : State) (n : Nat) (i : CItem) : RunKeeps s (s.replayEffect n i) := by
  unfold State.replayEffect
  split
  · exact ⟨⟨⟨rfl, rfl, rfl, rfl, fun _ he => he⟩, rfl, rfl⟩, rfl⟩
  · exact RunKeeps.of_eq rfl rfl rfl fun _ he => he
  · exact RunKeeps.refl s
theorem replayRecord_runKeeps (s : State) (n : Nat) (r : Record) : RunKeeps s (s.replayRecord n r) := by
  unfold State.replayRecord
  dsimp only
  split
  · exact RunKeeps.of_eq rfl rfl rfl fun _ he => he
  · refine RunKeeps.trans (t := { s with durable := s.durable.applyRecord r, seq := { s.seq with applied := r.csn } }) ?_ ?_
    · exact RunKeeps.of_eq rfl rfl rfl fun _ he => he
    · exact foldl_runKeeps (fun v i => replayEffect_runKeeps v _ i) _ _
theorem cutFrom_runKeeps (s : State) (l : List Record) : RunKeeps s (s.cutFrom l) := RunKeeps.of_eq rfl rfl rfl fun _ he => he
theorem replayFrom_runKeeps (limit : Option Nat) (copyCsn areaCsn : Nat) (l : List Record) (prev : Nat) (s : State) (n : Nat) :
    RunKeeps s (State.replayFrom limit copyCsn areaCsn l prev s n).1 := by
  have hcut (m : List Record) (q : Sequencer) : RunKeeps s { s.cutFrom m with seq := q } := RunKeeps.of_eq rfl rfl rfl fun _ he => he
  induction l generalizing prev s n with
  | nil => exact RunKeeps.refl s
  | cons r l ih =>
    unfold State.replayFrom
    split
    · refine RunKeeps.trans (t := { s.cutFrom (r :: l) with seq := { (s.cutFrom (r :: l)).seq with outOfService := true, restored := [] } }) ?_ ?_
      · exact hcut ..
      · exact fatalEvent_runKeeps ..
    · split
      · exact cutFrom_runKeeps ..
      · split
        · exact ih prev s n hcut
        · have hrest : RunKeeps s (if r.csn ≤ copyCsn then State.replayFrom limit copyCsn areaCsn l r.csn s n
              else State.replayFrom limit copyCsn areaCsn l r.csn (s.replayRecord areaCsn r) (n + 1)).1 := by
            split
            · exact ih r.csn s n hcut
            · exact (replayRecord_runKeeps s areaCsn r).trans
                (ih r.csn _ (n + 1) fun m q => RunKeeps.of_eq rfl rfl rfl fun _ he => he)
          cases limit with
          | none => exact hrest
          | some c =>
            dsimp only
            split
            · exact hcut ..
            · exact hrest
theorem replayOf_runKeeps (s : State) (f : Record → Record) : RunKeeps s (s.replayOf f) := by
  unfold State.replayOf
  extract_lets s0 r lost top st seq t u
  have h0 : RunKeeps s s0 := RunKeeps.of_eq rfl rfl rfl fun _ he => he
  have hr : RunKeeps s0 r.1 := replayFrom_runKeeps ..
  have ht : RunKeeps r.1 t := RunKeeps.of_eq rfl rfl rfl fun _ he => he
  have hu : RunKeeps t u := by
    unfold u
    split
    · exact RunKeeps.refl t
    · exact scEvent_runKeeps ..
  exact (h0.trans (hr.trans (ht.trans hu))).trans (scEvent_runKeeps ..)
theorem writeArea_runKeeps (s : State) : RunKeeps s s.writeArea := RunKeeps.of_eq rfl rfl rfl fun _ he => he
theorem replay_runKeeps (s : State) : RunKeeps s s.replay := (replayOf_runKeeps s id).trans (writeArea_runKeeps _)
theorem dropStale_runKeeps (s : State) : RunKeeps s s.dropStale := by
  have hdrop (v : State) (q : Sequencer) (n : Nat) : RunKeeps v (({ v with seq := q } : State).scEvent St.keyDatabaseDiscarded [n]) :=
    RunKeeps.of_eq rfl rfl rfl fun _ he => List.mem_append_left _ he
  unfold State.dropStale
  extract_lets seq t
  have ht : RunKeeps s t := by
    unfold t
    split
    · exact hdrop ..
    · exact RunKeeps.refl s
  split
  · exact ht.trans (hdrop ..)
  · exact ht

/-! #### After a tamper (R464, R467) -/

theorem tamperWiped_runKeeps (s : State) : RunKeeps s s.tamperWiped := by
  unfold State.tamperWiped
  extract_lets seq u gone v
  have hu : RunKeeps s u := RunKeeps.of_eq rfl rfl rfl fun _ he => he
  have hv : RunKeeps u v := (foldl_runKeeps (fun w c => scEvent_runKeeps ..) gone u).trans (replayOf_runKeeps ..)
  exact (hu.trans hv).trans (RunKeeps.of_eq rfl rfl rfl fun _ he => he)
theorem ackTamper_runKeeps (s : State) : RunKeeps s s.ackTamper :=
  ⟨⟨⟨rfl, rfl, rfl, rfl, fun _ he => List.mem_append_left _ he⟩, rfl, rfl⟩, rfl⟩
theorem tamperFound_runKeeps (s : State) : RunKeeps s s.tamperFound := by
  unfold State.tamperFound
  extract_lets p lost guest t n u
  have ht : t.porter = s.porter ∧ t.lifecycle = s.lifecycle ∧ t.sc = s.sc ∧ t.raised = s.raised := by
    unfold t
    split <;> exact ⟨rfl, rfl, rfl, rfl⟩
  obtain ⟨-, hlife, hsc, hraised⟩ := ht
  refine ⟨⟨⟨rfl, rfl, rfl, rfl, fun e he => ?_⟩, hlife, (congrArg Sc.otp hsc :)⟩, (congrArg Sc.mode hsc :)⟩
  exact List.mem_append_left _ (show e ∈ t.raised by rw [hraised]; exact he)

/-! #### The slots (R416) -/

theorem slotOrder_runKeeps (s : State) : RunKeeps s s.slotOrder.2 := by
  unfold State.slotOrder
  extract_lets p o same
  split
  · split
    · exact scEvent_runKeeps ..
    · exact RunKeeps.refl s
  · exact RunKeeps.refl s
  · exact scEvent_runKeeps ..
  · exact (scEvent_runKeeps ..).trans (scEvent_runKeeps ..)

/-- A slot whose sections pass starts; where none does the wayside loader runs (R416). -/
theorem trySlots_result (l : List Nat) (s : State) :
    BootKeeps s (State.trySlots l s) ∧ ((State.trySlots l s).sc.mode = .starting ∨ (State.trySlots l s).sc.mode = .wayside) := by
  induction l generalizing s with
  | nil => exact ⟨⟨⟨rfl, rfl, rfl, rfl, fun _ he => List.mem_append_left _ he⟩, rfl, rfl⟩, .inr rfl⟩
  | cons n l ih =>
    have hfails := ih (s.scEvent St.bootSlotFailed [n, 5])
    have hnext : BootKeeps s (State.trySlots l (s.scEvent St.bootSlotFailed [n, 5])) :=
      (scEvent_runKeeps ..).toBootKeeps.trans hfails.1
    unfold State.trySlots
    split
    · split
      · exact ⟨⟨⟨rfl, rfl, rfl, rfl, fun _ he => he⟩, rfl, rfl⟩, .inl rfl⟩
      · exact ⟨hnext, hfails.2⟩
    · exact ⟨hnext, hfails.2⟩

/-! #### Firmware (R414) -/

theorem firmwareRuns_runKeeps (s : State) (cold : Bool) : RunKeeps s (s.firmwareRuns cold) := by
  unfold State.firmwareRuns
  extract_lets lc want src guest sc t ok st plat t1 v w gw u
  have ht : RunKeeps s t1 := ⟨⟨⟨rfl, rfl, rfl, rfl, fun _ he => he⟩, rfl, rfl⟩, rfl⟩
  have hv : RunKeeps t1 v := fatalEvent_runKeeps ..
  have hw : RunKeeps v w := by
    unfold w
    split <;> exact scEvent_runKeeps ..
  have hu : RunKeeps t1 u := by
    unfold u
    split
    · exact (hv.trans hw).trans (RunKeeps.of_eq rfl rfl rfl fun _ he => he)
    · exact RunKeeps.refl t1
  exact (ht.trans hu).trans (RunKeeps.of_eq rfl rfl rfl fun _ he => he)

/-! #### The life-cycle groups (R410, R425, R426) -/

theorem highestSet_eq (v : Vector Nat 5) : highestSet v =
    if groupSet v[4] then 5 else if groupSet v[3] then 4 else if groupSet v[2] then 3 else if groupSet v[1] then 2 else if groupSet v[0] then 1 else 0 :=
  rfl

theorem highestSet_le (v : Vector Nat 5) : highestSet v ≤ 5 := by
  rw [highestSet_eq]
  repeat' split
  all_goals omega

/-- The group of a transition above those that are set becomes the highest. -/
theorem highestSet_setDone {o : Otp} {n : Nat} (hlow : highestSet o.done < n) (hhigh : n ≤ 5) : highestSet (o.setDone n).done = n := by
  have hset : groupSet 8 = true := rfl
  rw [highestSet_eq] at hlow
  obtain rfl | rfl | rfl | rfl | rfl : n = 1 ∨ n = 2 ∨ n = 3 ∨ n = 4 ∨ n = 5 := by omega
  all_goals
    simp only [Otp.setDone, Nat.reduceSub, Nat.reduceLT, dite_true, highestSet_eq, Vector.getElem_set, Nat.reduceEqDiff, if_true, if_false, hset]
    repeat' split at hlow
    all_goals simp_all

theorem lcWipe_startKeeps (s : State) (n : Nat) : StartKeeps s (s.lcWipe n) ∧ (s.lcWipe n).sc.otp = s.sc.otp := by
  unfold State.lcWipe
  split <;> exact ⟨⟨rfl, rfl, rfl, rfl, fun _ he => he⟩, rfl⟩

/-- The life-cycle state is the one of the highest LC_DONE group. -/
def State.lifeRead (s : State) : Prop := s.lifecycle = lcOf (highestSet s.sc.otp.done)

theorem BootKeeps.lifeRead (h : BootKeeps s t) (hread : s.lifeRead) : t.lifeRead := by
  unfold State.lifeRead at *
  rw [h.lifecycle, h.otp]
  exact hread

theorem finishTransition_result {n : Nat} (hlow : highestSet s.sc.otp.done < n) (hhigh : n ≤ 5) :
    StartKeeps s (s.finishTransition n) ∧ (s.finishTransition n).lifeRead := by
  obtain ⟨hkeeps, hotp⟩ := lcWipe_startKeeps s n
  refine ⟨⟨hkeeps.power, hkeeps.wakeSource, hkeeps.alarm, hkeeps.held, fun e he => List.mem_append_left _ (hkeeps.raised e he)⟩, ?_⟩
  have hdone : highestSet ((s.lcWipe n).sc.otp.setDone n).done = n := by
    rw [hotp]
    exact highestSet_setDone hlow hhigh
  exact congrArg lcOf hdone.symm

theorem repairOtp_startKeeps (s : State) : StartKeeps s s.repairOtp := by
  unfold State.repairOtp
  extract_lets o bad k sc t
  have ht : StartKeeps s t := ⟨rfl, rfl, rfl, rfl, fun _ he => he⟩
  exact ht.trans (foldl_runKeeps (fun v _ => scEvent_runKeeps v _ _) _ _).toStartKeeps

/-! #### The whole start -/

/-- The modes that a start ends in: scrap, the ROM in BLANK, the wayside loader, or the start sequence (R414). -/
def ScMode.startEnds (m : ScMode) : Prop := m = .scrap ∨ m = .romBlank ∨ m = .wayside ∨ m = .starting

/-- A start takes the life-cycle state from the LC_DONE groups, ends in one of the four modes, and leaves the porter's power state alone. -/
theorem State.start_result (s : State) (cold : Bool) :
    StartKeeps s (s.start cold) ∧ (s.start cold).lifeRead ∧ (s.start cold).sc.mode.startEnds := by
  unfold State.start
  extract_lets r sc s1 n s2 t0 sc0 s3 s' scrapSc v blankSc o t u
  have h1 : StartKeeps s s2 := (repairOtp_startKeeps s).trans ⟨rfl, rfl, rfl, rfl, fun _ he => he⟩
  have h3 : StartKeeps s2 s3 ∧ s3.lifeRead := by
    unfold s3
    split
    next hlow =>
      have hevent := scEvent_runKeeps s2 St.lcTransitionResumed [n]
      obtain ⟨hkeeps, hread⟩ := finishTransition_result (s := s2.scEvent St.lcTransitionResumed [n]) (n := n) hlow (highestSet_le _)
      have hresumed := resumed_bootKeeps t0
      exact ⟨hevent.toStartKeeps.trans (hkeeps.trans hresumed.toStartKeeps), hresumed.lifeRead hread⟩
    · exact ⟨StartKeeps.refl s2, rfl⟩
  have hs : BootKeeps s3 s' := by
    unfold s'
    split
    · exact (tamperFound_runKeeps s3).toBootKeeps
    · exact BootKeeps.refl s3
  have hkept : StartKeeps s s' := h1.trans (h3.1.trans hs.toStartKeeps)
  have hread : s'.lifeRead := hs.lifeRead h3.2
  split
  · have hscrap := scrap_bootKeeps s'
    exact ⟨hkept.trans hscrap.toStartKeeps, hscrap.lifeRead hread, .inl rfl⟩
  · have hv : RunKeeps s' v := by
      unfold v
      split
      · exact ackTamper_runKeeps s'
      · exact RunKeeps.refl s'
    have hblank := hv.toBootKeeps.trans (romBlank_bootKeeps v)
    exact ⟨hkept.trans hblank.toStartKeeps, hblank.lifeRead hread, .inr (.inl rfl)⟩
  · obtain ⟨htry, hmode⟩ := trySlots_result o.1 o.2
    have ht : BootKeeps s' t := (slotOrder_runKeeps s').toBootKeeps.trans htry
    have htmode : t.sc.mode = .starting ∨ t.sc.mode = .wayside := hmode
    clear_value t
    split
    next hstarting =>
      have hu : RunKeeps t u := by
        unfold u
        split
        · exact tamperWiped_runKeeps t
        · exact (dropStale_runKeeps t).trans (replay_runKeeps _)
      have hw : RunKeeps u (if u.porter.latch = true ∧ u.lifecycle = .test then u.ackTamper else u) := by
        split
        · exact ackTamper_runKeeps u
        · exact RunKeeps.refl u
      have hend := (hu.trans hw).trans (firmwareRuns_runKeeps _ cold)
      exact ⟨hkept.trans (ht.trans hend.toBootKeeps).toStartKeeps, (ht.trans hend.toBootKeeps).lifeRead hread,
        .inr (.inr (.inr (hend.mode.trans hstarting)))⟩
    next hnot =>
      have hwayside : t.sc.mode = .wayside := htmode.resolve_left hnot
      have hloader := ht.trans (loader_bootKeeps t)
      exact ⟨hkept.trans hloader.toStartKeeps, hloader.lifeRead hread, .inr (.inr (.inl hwayside))⟩

@[simp] theorem signal_sc (s t : State) : (s.signal t).sc = t.sc := by
  obtain ⟨o, v, b, heq⟩ := signal_eq s t
  rw [heq]
@[simp] theorem signal_porter (s t : State) : (s.signal t).porter = t.porter := by
  obtain ⟨o, v, b, heq⟩ := signal_eq s t
  rw [heq]
@[simp] theorem signal_lifecycle (s t : State) : (s.signal t).lifecycle = t.lifecycle := by
  obtain ⟨o, v, b, heq⟩ := signal_eq s t
  rw [heq]

end

/-- Settles O35: the two commands by their own branches, the starts by `start_result`. -/
theorem startResults : Obligations.StartResults := by
  unfold Obligations.StartResults
  intro s
  refine ⟨fun hpower hactive => ?holds, fun hpower hclear => ?starts, fun hpower => ?ignored, fun hoff hfatal hrail hheld hpower => ?warm,
    fun hmode => ?warmIgnored⟩
  case holds =>
    have hcold : ¬ s.porter.power ≠ .s4 := not_not_intro hpower
    refine ⟨_, congrArg (fun t => Host.Outcome.next (s.signal t)) ((if_neg hcold).trans (if_pos hactive)), ?_⟩
    rw [signal_porter, signal_sc, signal_cores]
    exact ⟨rfl, hactive, hactive, rfl, rfl⟩
  case starts =>
    have hcold : ¬ s.porter.power ≠ .s4 := not_not_intro hpower
    have hnot := ne_true_of_eq_false hclear
    refine ⟨_, congrArg (fun t => Host.Outcome.next (s.signal t)) ((if_neg hcold).trans (if_neg hnot)), ?_⟩
    rw [signal_porter, signal_sc, signal_lifecycle]
    obtain ⟨hkeeps, hread, hmode⟩ := State.start_result _ true
    exact ⟨hkeeps.power, hkeeps.held.trans hclear, hmode, hread⟩
  case ignored => exact congrArg (fun t => Host.Outcome.next (s.signal t)) (if_pos hpower)
  case warm =>
    refine ⟨_, congrArg (fun t => Host.Outcome.next (s.signal t)) (if_pos ⟨hoff, hfatal, hrail, hheld, hpower⟩), ?_⟩
    rw [signal_sc, signal_lifecycle]
    obtain ⟨-, hread, hmode⟩ := State.start_result ({ s with porter := { s.porter with coldDue := false } } : State) s.porter.coldDue
    exact ⟨hmode, hread⟩
  case warmIgnored => exact congrArg (fun t => Host.Outcome.next (s.signal t)) (if_neg fun h => hmode h.1)

end Sys2Proof.Machine

/-! ### Tampers and losses of power (16 R461 to R477, 19 R538, R539) -/

namespace Sys2Proof.Machine

@[simp] theorem signal_lneJobs (s t : State) : (s.signal t).lneJobs = t.lneJobs := by
  obtain ⟨o, v, b, heq⟩ := signal_eq s t
  rw [heq]
@[simp] theorem signal_laneJobs (s t : State) : (s.signal t).laneJobs = t.laneJobs := by
  obtain ⟨o, v, b, heq⟩ := signal_eq s t
  rw [heq]
@[simp] theorem signal_custody (s t : State) : (s.signal t).custody = t.custody := by
  obtain ⟨o, v, b, heq⟩ := signal_eq s t
  rw [heq]

section
variable (s : State)

/-! #### A trip -/

/-- A trip takes the porter's part; in S3 what was retained goes, and with main power the main domain is reset (R463). -/
theorem tamperTrip_eq {x : Sensor} (hx : x ≠ .aonLost) : s.tamperTrip x =
    if s.mainUp then { s.tripOutputs.mainReset with
      porter := { s.porter.trip (causeBit x) s.mono with power := .s0 }, sc := { s.tripOutputs.mainReset.sc with memKey := none } }
    else if s.porter.power = .s3 then { s with porter := s.porter.trip (causeBit x) s.mono, sc := { s.sc with retained := [], memKey := none } }
    else { s with porter := s.porter.trip (causeBit x) s.mono } := by
  cases x with
  | aonLost => exact absurd rfl hx
  | _ => rfl

/-- The porter records the trip in every power state. -/
theorem tamperTrip_porter {x : Sensor} (hx : x ≠ .aonLost) : (s.tamperTrip x).porter =
    { s.porter.trip (causeBit x) s.mono with power := if s.mainUp then .s0 else s.porter.power } := by
  rw [tamperTrip_eq s hx]
  split
  · rfl
  · split <;> rfl

/-- The main rail is down in S3. -/
theorem mainUp_s3 (hpower : s.porter.power = .s3) : s.mainUp = false := by
  unfold State.mainUp
  rw [hpower]
  exact Bool.and_false _

/-! #### The loss of main power -/

@[simp] theorem State.slotStatus_standing (n : Nat) (st : Status) : (s.slotStatus n st).standing = s.standing := State.setSlot_standing ..
@[simp] theorem State.slotEvent_standing (n : Nat) (st : Status) (l : List Nat) : (s.slotEvent n st l).standing = s.standing :=
  State.slotStatus_standing ..
@[simp] theorem State.tokenEnd_standing (n : Nat) (st : Status) (b : Bytes) : (s.tokenEnd n st b).standing = s.standing := by
  have hwait (t : State) (q : Request) : (t.endWait q st b).standing = t.standing := rfl
  unfold State.tokenEnd
  split
  · split
    · exact hwait s _
    · exact (hwait _ _).trans (s.slotStatus_standing n st)
  · rfl
@[simp] theorem State.loseWrite_standing (n : Nat) : (s.loseWrite n).standing = s.standing := by
  unfold State.loseWrite
  dsimp only
  split
  · rfl
  · split
    · rfl
    · split
      · rw [State.setCeremony_standing, State.slotEvent_standing, State.setSlot_standing]
      · rw [State.slotEvent_standing, State.setSlot_standing]
@[simp] theorem State.tokenUnpower_standing (n : Nat) (st : Status) : (s.tokenUnpower n st).standing = s.standing := by
  have hemit (t : State) (o : Output) : (t.emit o).standing = t.standing := rfl
  unfold State.tokenUnpower
  dsimp only
  split
  · rw [hemit, State.setSlot_standing, State.tokenEnd_standing, State.loseWrite_standing]
  · rw [State.setSlot_standing, State.tokenEnd_standing, State.loseWrite_standing]

/-- What a loss of main power takes and what it keeps (R477). -/
structure PowerLost (s t : State) : Prop where
  trunk : t.porter.trunk = s.porter.trunk
  latch : t.porter.latch = s.porter.latch
  cause : t.porter.cause = s.porter.cause
  cores : t.cores = []
  mode : t.sc.mode = .off
  power : t.porter.power = if s.porter.standby then .s3 else .s4
  memKey : s.porter.standby = false → t.sc.memKey = none

/-- The end of S3 entry by a state with the same porter as the unit at the loss. -/
theorem powerLost_enterS3 {s t : State} (h : t.bearing.house = s.bearing.house) (n : Option Nat) : PowerLost s (t.enterS3 n) := by
  have hporter := congrArg Bearing.porter h
  have htrunk : t.porter.trunk = s.porter.trunk := (congrArg Porter.trunk hporter :)
  have hlatch : t.porter.latch = s.porter.latch := (congrArg Porter.latch hporter :)
  have hcause : t.porter.cause = s.porter.cause := (congrArg Porter.cause hporter :)
  have hstandby : t.porter.standby = s.porter.standby := (congrArg Porter.standby hporter :)
  have hends := congrArg Bearing.porter (State.bearing_of_standing t.endAllSessions_standing)
  have etrunk : t.endAllSessions.porter.trunk = t.porter.trunk := (congrArg Porter.trunk hends :)
  have elatch : t.endAllSessions.porter.latch = t.porter.latch := (congrArg Porter.latch hends :)
  have ecause : t.endAllSessions.porter.cause = t.porter.cause := (congrArg Porter.cause hends :)
  unfold State.enterS3
  extract_lets regions st u
  cases hrail : t.porter.standby with
  | true => exact ⟨etrunk.trans htrunk, elatch.trans hlatch, ecause.trans hcause, rfl, rfl, by rw [← hstandby, hrail]; rfl,
      fun hoff => absurd (hoff.symm.trans (hstandby.symm.trans hrail)) Bool.false_ne_true⟩
  | false => exact ⟨etrunk.trans htrunk, elatch.trans hlatch, ecause.trans hcause, rfl, rfl, by rw [← hstandby, hrail]; rfl, fun _ => rfl⟩

theorem powerLost_scEvent {s t : State} (h : PowerLost s t) : PowerLost s (t.scEvent St.mainPowerLost) :=
  ⟨h.trunk, h.latch, h.cause, h.cores, h.mode, h.power, h.memKey⟩
theorem powerLost_recordLostS3 {s t : State} (h : PowerLost s t) : PowerLost s t.recordLostS3 := by
  unfold State.recordLostS3
  split
  · exact ⟨h.trunk, h.latch, h.cause, h.cores, h.mode, h.power, h.memKey⟩
  · exact h
theorem recordLostS3_bearing : s.recordLostS3.bearing = s.bearing := by
  unfold State.recordLostS3
  split <;> rfl

/-- A loss with the main rail up: nothing runs afterwards, the trunk and the latch stay. -/
theorem powerLost_result (hsupply : s.porter.p12v = true) (hup : s.mainUp = true) :
    PowerLost s s.powerLost ∧ s.powerLost.porter.p12v = false := by
  have hoff (t : State) (h : PowerLost s t) : PowerLost s { t with porter := { t.porter with p12v := false } } :=
    ⟨h.trunk, h.latch, h.cause, h.cores, h.mode, h.power, h.memKey⟩
  have htokens (t : State) : ((t.tokenUnpower 0 St.tokenNoResponse).tokenUnpower 1 St.tokenNoResponse).bearing = t.bearing :=
    State.bearing_of_standing ((State.tokenUnpower_standing ..).trans (State.tokenUnpower_standing ..))
  unfold State.powerLost
  rw [if_neg (ne_false_of_eq_true hsupply), if_neg (ne_false_of_eq_true hup)]
  split
  · have hstood := (congrArg Bearing.house (htokens (s.scEvent St.mainPowerLost).settleCommits.standDown)).trans
      ((State.standDown_house _).trans (State.settleCommits_house (s.scEvent St.mainPowerLost)))
    have hevent : (s.scEvent St.mainPowerLost).bearing.house = s.bearing.house := rfl
    have hleft := (State.partialWindow_bearing _).trans ((State.drainTaps_bearing _).trans (recordLostS3_bearing
      (((s.scEvent St.mainPowerLost).settleCommits.standDown.tokenUnpower 0 St.tokenNoResponse).tokenUnpower 1 St.tokenNoResponse)))
    exact ⟨hoff _ (powerLost_enterS3 ((congrArg Bearing.house hleft).trans (hstood.trans hevent)) none), rfl⟩
  · have hgone := powerLost_enterS3 (congrArg Bearing.house (htokens s)) none
    exact ⟨hoff _ (powerLost_recordLostS3 (powerLost_scEvent hgone)), rfl⟩

/-- Both losses of the supply: with the main rail down only the supply is marked gone. -/
theorem signal_powerLost (hsupply : s.porter.p12v = true) : ∃ t, Host.Outcome.next (s.signal s.powerLost) = (.next t : Out) ∧
    t.porter.p12v = false ∧ t.porter.trunk = s.porter.trunk ∧ t.porter.latch = s.porter.latch ∧ t.porter.cause = s.porter.cause ∧
    (s.mainUp = true → t.cores = [] ∧ t.sc.mode = .off ∧ t.porter.power = (if s.porter.standby then .s3 else .s4) ∧
      (s.porter.standby = false → t.sc.memKey = none)) ∧
    (s.mainUp = false → t.porter.power = s.porter.power) := by
  refine ⟨_, rfl, ?_⟩
  rw [signal_porter, signal_cores, signal_sc]
  cases hup : s.mainUp with
  | true =>
    obtain ⟨hlost, hoff⟩ := powerLost_result s hsupply hup
    exact ⟨hoff, hlost.trunk, hlost.latch, hlost.cause, fun _ => ⟨hlost.cores, hlost.mode, hlost.power, hlost.memKey⟩,
      fun hdown => absurd hdown.symm Bool.false_ne_true⟩
  | false =>
    have heq : s.powerLost = { s with porter := { s.porter with p12v := false } } :=
      (if_neg (ne_false_of_eq_true hsupply)).trans (if_pos hup)
    rw [heq]
    exact ⟨rfl, rfl, rfl, rfl, fun h => absurd h Bool.false_ne_true, fun _ => rfl⟩

end

/-- Settles O41: the trip by `tamperTrip_eq`, the losses of power by `powerLost_result`, the rest by the commands' own branches. -/
theorem tamperAndPowerLossResults : Obligations.TamperAndPowerLossResults := by
  unfold Obligations.TamperAndPowerLossResults
  intro s x hx harmed
  have htrip : exec (.tamperTrip x) s = .next (s.signal (s.tamperTrip x)) :=
    congrArg (fun t => Host.Outcome.next (s.signal t)) (if_neg fun h => harmed.elim (· h.1) fun hrail => ne_true_of_eq_false h.2 hrail)
  refine ⟨?porter, fun hup => ?main, fun hpower => ?s3, fun hpower => ?aon, fun hheld hlatch => ⟨fun hdue => ?release, fun n hdue => ?wakes⟩,
    fun hsupply => signal_powerLost s hsupply, fun hsupply => signal_powerLost s hsupply, ?standby⟩
  case porter =>
    refine ⟨_, htrip, ?_⟩
    rw [signal_porter, tamperTrip_porter s hx]
    exact ⟨rfl, rfl, rfl, rfl, rfl, rfl, rfl⟩
  case main =>
    refine ⟨_, htrip, ?_⟩
    rw [signal_porter, signal_cores, signal_store, signal_net, signal_custody, signal_lneJobs, signal_laneJobs, signal_sc, tamperTrip_eq s hx, if_pos hup]
    exact ⟨rfl, rfl, rfl, rfl, rfl, rfl, rfl, rfl, rfl, rfl⟩
  case s3 =>
    refine ⟨_, htrip, ?_⟩
    rw [signal_porter, signal_sc, tamperTrip_eq s hx, if_neg (ne_true_of_eq_false (mainUp_s3 s hpower)), if_pos hpower]
    exact ⟨rfl, rfl, rfl, hpower⟩
  case aon => exact congrArg (fun t => Host.Outcome.next (s.signal t)) (if_pos hpower)
  case release =>
    refine congrArg (fun t => Host.Outcome.next (s.signal t)) ((if_pos ⟨hheld, hlatch⟩).trans ?_)
    unfold State.releaseTamper
    rw [hdue]
  case wakes =>
    refine congrArg (fun t => Host.Outcome.next (s.signal t)) ((if_pos ⟨hheld, hlatch⟩).trans ?_)
    unfold State.releaseTamper
    rw [hdue]
  case standby =>
    refine ⟨_, rfl, ?_⟩
    rw [signal_porter, signal_cores, signal_durable]
    by_cases hpower : s.porter.power = .s3
    · rw [if_pos hpower, if_pos hpower]
      exact ⟨rfl, rfl, rfl, rfl, rfl⟩
    · rw [if_neg hpower, if_neg hpower]
      exact ⟨rfl, rfl, rfl, rfl, rfl⟩

end Sys2Proof.Machine

/-! ### Firmware uploads, boot status and debug (14 R418 to R420, R428, R430) -/

namespace Sys2Proof.Machine

section
variable {s t v : State} {code : Nat} {q : Request} {g : State → Request → State}

/-- A command that is taken does what its handler does with the request. -/
theorem next_command (h : scTakes s t code q) (hg : g t q = v) : Host.Outcome.next (s.command code g) = (.next v : Out) :=
  congrArg Host.Outcome.next ((command_taken h).trans hg)
theorem next_signal_command (h : scTakes s t code q) (hg : g t q = v) :
    Host.Outcome.next (s.signal (s.command code g)) = (.next (s.signal v) : Out) :=
  congrArg (fun w => Host.Outcome.next (s.signal w)) ((command_taken h).trans hg)

/-- A command that draws is taken once its slot is free and the expander delivers. -/
theorem commandDraw_taken {draws free : Request → Bool} (h : scTakes s t code q)
    (hserved : draws q = true → free q = true ∧ s.canDraw 12 = true) :
    s.commandDraw code draws free g = g { t with sc := { t.sc with stall := none } } q := by
  obtain ⟨hmode, hverb, l, hqueue, rfl⟩ := h
  have hhandles : s.scHandles code = true := by
    unfold State.scHandles
    rw [hmode]
  have hready : ¬ (q.verb ≠ code ∨ s.scHandles code = false ∨ (draws q = true ∧ free q = false)) := by
    rintro (hother | hbusy | ⟨hdraws, hheld⟩)
    · exact hother hverb
    · exact ne_false_of_eq_true hhandles hbusy
    · exact ne_false_of_eq_true (hserved hdraws).1 hheld
  have hdelivers : ¬ (draws q = true ∧ s.canDraw 12 = false) := fun hdry => ne_false_of_eq_true (hserved hdry.1).2 hdry.2
  have htaken : scTakes { s with sc := { s.sc with stall := none } } { s with sc := { s.sc with stall := none, queue := l } } code q :=
    ⟨hmode, hverb, l, hqueue, rfl⟩
  unfold State.commandDraw
  rw [hqueue]
  exact (if_neg hready).trans ((if_neg hdelivers).trans (command_taken htaken))

/-- An event of the controller is recorded with its code and arguments. -/
theorem exists_mem_scEvent_args (t : State) (c : Status) (args : List Nat) :
    ∃ e ∈ (t.scEvent c args).raised, e.2.code = c ∧ e.2.args = args :=
  ⟨_, List.mem_append_right _ (List.mem_singleton_self _), rfl, rfl⟩
theorem endGrant_eq {r e : Nat} (hgrant : s.sc.grant = some (r, e)) :
    s.endGrant = ({ s with sc := { s.sc with grant := none } } : State).scEvent St.debugEnded [r] := by
  unfold State.endGrant
  rw [hgrant]

end

/-- Settles O34: each command by `next_command` and its own branches. -/
theorem firmwareAndDebugResults : Obligations.FirmwareAndDebugResults := by
  unfold Obligations.FirmwareAndDebugResults
  intro s t q u r e
  dsimp only
  refine ⟨fun h hlen hidle hroot => next_command h ?begin, fun h hlen hopen => next_command h ?busy,
    fun h hopen hlen hzero hmin hmax hoff => next_command h ?data,
    fun h hempty hopen => ⟨fun hwhole hpass hsame => next_signal_command h ?passes, fun hfails => next_signal_command h ?fails,
      fun hwhole hpass hambiguous => next_signal_command h ?ambiguous⟩,
    fun h hempty => next_command h (if_neg (not_not_intro hempty)), fun h hempty hdraw => ?challenge, fun hgrant => ?grantEnds⟩
  case begin =>
    refine (if_neg (not_not_intro hlen)).trans ((if_neg ?_).trans ?_)
    · rw [hidle]
      exact Bool.false_ne_true
    · rw [hroot]
      rfl
  case busy =>
    refine (if_neg (not_not_intro hlen)).trans (if_pos ?_)
    rw [hopen]
    rfl
  case data =>
    dsimp only
    rw [hopen]
    refine if_neg ?_
    simp only [not_or, Classical.not_not, Nat.not_lt]
    exact ⟨by omega, hzero, by omega, hmax, hlen, hoff⟩
  case passes =>
    dsimp only
    rw [if_pos hempty, hopen]
    have hmode : t.sc.mode ≠ .recovery := by
      obtain ⟨hrunning, -, -, -, rfl⟩ := h
      exact fun hrec => ScMode.noConfusion (hrunning.symm.trans hrec)
    exact (if_neg (by rintro (hlen | hbad) <;> contradiction)).trans
      ((if_neg (ne_true_of_eq_false hsame)).trans (if_neg hmode))
  case fails =>
    dsimp only
    rw [if_pos hempty, hopen]
    exact if_pos hfails
  case ambiguous =>
    dsimp only
    rw [if_pos hempty, hopen]
    exact (if_neg (by rintro (hlen | hbad) <;> contradiction)).trans (if_pos hambiguous)
  case challenge =>
    have htaken := commandDraw_taken (draws := fun q => q.body.isEmpty) (free := fun _ => true) (g := fun t q =>
      if q.body ≠ [] then t.answer q St.bootMalformed
      else { (t.random 12 32).2 with sc := { (t.random 12 32).2.sc with challenge := some ((t.random 12 32).1, t.mono, false) } }.answer q 0
        (t.random 12 32).1) h fun _ => ⟨rfl, hdraw⟩
    refine ⟨_, congrArg Host.Outcome.next (htaken.trans (if_neg (not_not_intro hempty))), ?_⟩
    obtain ⟨x, r, heq⟩ := State.random_eq ({ t with sc := { t.sc with stall := none } } : State) 12 32
    obtain ⟨-, -, l, -, rfl⟩ := h
    rw [heq]
    exact ⟨rfl, _, rfl, rfl, rfl, rfl⟩
  case grantEnds =>
    have hexec : exec .debugGrantExpiry s = .next ({ s with mono := max s.mono e } : State).endGrant := by
      unfold exec execDebugGrantExpiry
      rw [hgrant]
    refine ⟨_, hexec, ?_⟩
    rw [endGrant_eq (s := ({ s with mono := max s.mono e } : State)) hgrant]
    exact ⟨rfl, rfl, exists_mem_scEvent_args ..⟩

end Sys2Proof.Machine

/-! ### Token slots (13 R385 to R404) -/

namespace Sys2Proof.Machine

section
variable (s : State) {n : Nat}

/-! #### What a slot holds after each operation -/

@[simp] theorem State.slot_setSlot (hn : n < 2) (x : Slot) : (s.setSlot n x).slot n = x := by
  obtain rfl | rfl : n = 0 ∨ n = 1 := by omega
  all_goals rfl
@[simp] theorem State.slot_emit (o : Output) (m : Nat) : (s.emit o).slot m = s.slot m := rfl
@[simp] theorem State.slot_signal (t : State) (m : Nat) : (s.signal t).slot m = t.slot m := by
  unfold State.slot
  rw [signal_custody]
@[simp] theorem State.slot_slotStatus (hn : n < 2) (st : Status) : (s.slotStatus n st).slot n = { s.slot n with lastStatus := st % 256 } :=
  s.slot_setSlot hn _
@[simp] theorem State.slot_slotEvent (hn : n < 2) (st : Status) (l : List Nat) :
    (s.slotEvent n st l).slot n = { s.slot n with lastStatus := st % 256 } := (s.scEvent st (n :: l)).slot_slotStatus hn st
/-- A command that goes out is the slot's command from then on. -/
@[simp] theorem State.slot_tokenSend (hn : n < 2) (w : TokenPurpose) (i a : Nat) (l : Bytes) :
    (s.tokenSend n w i a l).slot n = { s.slot n with cmd := some { why := w, index := i, arg := a, data := l } } := s.slot_setSlot hn _
@[simp] theorem State.slot_cmdDone (hn : n < 2) : (s.cmdDone n).slot n = { s.slot n with cmd := none } := s.slot_setSlot hn _
theorem State.slot_tokenEnd (hn : n < 2) (st : Status) (b : Bytes) :
    ∃ l, (s.tokenEnd n st b).slot n = { s.slot n with lastStatus := l } := by
  unfold State.tokenEnd
  split
  · split
    · exact ⟨(s.slot n).lastStatus, rfl⟩
    · exact ⟨_, s.slot_slotStatus hn st⟩
  · exact ⟨(s.slot n).lastStatus, rfl⟩
theorem State.slot_loseWrite (hn : n < 2) : ∃ w l, (s.loseWrite n).slot n = { s.slot n with writeIncomplete := w, lastStatus := l } := by
  have hlost (m : List Nat) : ((s.setSlot n { s.slot n with writeIncomplete := true }).slotEvent n St.tokenWriteIncomplete m).slot n =
      { s.slot n with writeIncomplete := true, lastStatus := St.tokenWriteIncomplete % 256 } := by
    rw [State.slot_slotEvent _ hn, State.slot_setSlot _ hn]
  unfold State.loseWrite
  dsimp only
  split
  · exact ⟨_, _, rfl⟩
  · split
    · exact ⟨_, _, rfl⟩
    · split
      · exact ⟨_, _, hlost _⟩
      · exact ⟨_, _, hlost _⟩
/-- Without VCC a slot has no command, no step and no authentication. -/
theorem State.slot_tokenUnpower (hn : n < 2) (st : Status) : ∃ w l, (s.tokenUnpower n st).slot n =
    { s.slot n with powered := false, mode := 0, unlocked := false, cmd := none, step := none, writeIncomplete := w, lastStatus := l } := by
  obtain ⟨w, l, hwrite⟩ := s.slot_loseWrite hn
  obtain ⟨l', hend⟩ := (s.loseWrite n).slot_tokenEnd hn st []
  refine ⟨w, l', ?_⟩
  unfold State.tokenUnpower
  dsimp only
  split
  · rw [State.slot_emit, State.slot_setSlot _ hn, hend, hwrite]
  · rw [State.slot_setSlot _ hn, hend, hwrite]
/-- A token that is started has power and GO_IDLE outstanding. -/
theorem State.slot_tokenStart (hn : n < 2) : (s.tokenStart n).slot n =
    { s.slot n with powered := true, mode := 1, unlocked := false, cmd := some { why := .idle, index := 0 }, step := none } := by
  unfold State.tokenStart
  rw [State.slot_tokenSend _ hn, State.slot_emit, State.slot_setSlot _ hn]
theorem State.slot_tokenResend (hn : n < 2) (c : TokenCmd) : (s.tokenResend n c).slot n = { s.slot n with cmd := some c } := by
  unfold State.tokenResend State.emitToken
  rw [State.slot_emit, State.slot_setSlot _ hn]
theorem mem_emit_outputs (s : State) (o : Output) : o ∈ (s.emit o).outputs := List.mem_cons_self
/-- A command that goes out again is on the lines. -/
theorem State.mem_tokenResend (hn : n < 2) (c : TokenCmd) :
    Output.token n c.index c.arg c.data (tokenFrame c.index c.arg) (tokenLines ((s.slot n).mode == 3) c.data) ∈ (s.tokenResend n c).outputs := by
  unfold State.tokenResend State.emitToken
  rw [State.slot_setSlot _ hn]
  exact mem_emit_outputs ..

/-! #### Answers (R387 to R392) -/

/-- An answer that arrived whole, from the command that is outstanding and without error. -/
structure AnswersWell (x : Slot) (k : TokenCmd) (r : TokenResp) (d : Bytes) : Prop where
  held : k.held = none
  missing : r.missing = false
  crc : respCrcOk r = true
  index : respIndex r = k.index
  status : respStatus r = 0
  block : x.answerBlock k r = some d
  blockStatus : k.data = [] ∨ r.blockStatus = 2

variable {s} {k : TokenCmd} {r : TokenResp} {d : Bytes}

/-- Such an answer is worked off, at once or at the end of busy. -/
theorem tokenResponse_good (hcmd : (s.slot n).cmd = some k) (hgood : AnswersWell (s.slot n) k r d) : s.tokenResponse n r =
    if holdsBusy k 0 then s.setSlot n { s.slot n with cmd := some { k with held := some r } } else s.tokenAnswer n k r := by
  obtain ⟨hheld, hmissing, hcrc, hindex, hstatus, hblock, hdata⟩ := hgood
  unfold State.tokenResponse
  rw [hcmd]
  have hblockStatus : ¬ (k.data ≠ [] ∧ r.blockStatus ≠ 2) := fun h => hdata.elim h.1 h.2
  simp [hheld, hmissing, hcrc, hindex, hstatus, hblock, hblockStatus]
theorem exec_tokenResponse (hn : n < 2) : exec (.tokenResponse n r) s = .next (s.signal (s.tokenResponse n r)) :=
  congrArg (fun t => Host.Outcome.next (s.signal t)) (if_pos hn)
/-- A first answer that is missing, or whose frame fails its CRC, has the command sent again. -/
theorem tokenResponse_bad (hcmd : (s.slot n).cmd = some k) (hwhy : k.why ≠ .readCheck) (hheld : k.held = none) (hfirst : k.resent = false)
    (hbad : r.missing = true ∨ respCrcOk r = false) : s.tokenResponse n r = s.tokenResend n { k with resent := true } := by
  unfold State.tokenResponse
  rw [hcmd]
  obtain hmissing | hcrc := hbad
  · simp [hheld, hwhy, hmissing, hfirst]
  · simp [hheld, hwhy, hcrc, hfirst]

/-! What an answer does, by the purpose of its command. -/

theorem tokenAnswer_identify (hwhy : k.why = .identify) (hstatus : respStatus r = 0) (hblock : (s.slot n).answerBlock k r = some d)
    {e : Bytes × Bytes} (hid : identityOf d = e) :
    let t := s.setSlot n { s.slot n with tokenId := e.1, pub := e.2 }
    s.tokenAnswer n k r = if (s.slot n).fallback then t.setSlot n { t.slot n with cmd := none, mode := 2 } else t.tokenSend n .switchMode 2 0x31 := by
  unfold State.tokenAnswer
  rw [hwhy]
  dsimp only
  rw [if_pos hstatus, if_pos hstatus, hblock, Option.getD_some, hid]
theorem tokenAnswer_unlock {dg : Bytes} (hwhy : k.why = .unlock dg) (hstatus : respStatus r = 0) :
    s.tokenAnswer n k r = (s.setSlot n { s.slot n with unlocked := true }).tokenSend n (.sign dg) 21 0 dg := by
  unfold State.tokenAnswer
  rw [hwhy]
  exact if_neg (not_not_intro hstatus)
theorem tokenAnswer_lock (hwhy : k.why = .lock) (hindex : k.index = 9) :
    s.tokenAnswer n k r = (s.cmdDone n).setSlot n { s.slot n with cmd := none, unlocked := false } := by
  unfold State.tokenAnswer
  rw [hwhy]
  exact if_pos hindex

/-! #### The end of a ceremony (R404) -/

theorem State.setSlot_ceremony (s : State) (m : Nat) (x : Slot) : (s.setSlot m x).custody.ceremony = s.custody.ceremony := by
  unfold State.setSlot
  split
  · rfl
  · split <;> rfl
theorem State.lockSlot_ceremony (s : State) (m : Nat) : (s.lockSlot m).custody.ceremony = s.custody.ceremony := by
  have hsend (t : State) : (t.tokenSend m .lock 9).custody.ceremony = t.custody.ceremony := t.setSlot_ceremony ..
  unfold State.lockSlot
  dsimp only
  split
  · split
    · exact s.setSlot_ceremony ..
    · rfl
  · split
    · rfl
    · split
      · exact (hsend _).trans (s.setSlot_ceremony ..)
      · exact s.setSlot_ceremony ..
  · split
    · exact hsend s
    · rfl
theorem State.lockSlot_mono (s : State) (m : Nat) : (s.lockSlot m).mono = s.mono := by
  obtain ⟨o, c, heq⟩ := s.lockSlot_eq m
  rw [heq]
theorem State.closeCeremony_ceremony (s : State) (c : Ceremony) (st : Status) : (s.closeCeremony c st).custody.ceremony = none := by
  unfold State.closeCeremony
  extract_lets hit s1 s2
  rw [State.lockSlot_ceremony, State.lockSlot_ceremony]
  rfl
theorem State.closeCeremony_mono (s : State) (c : Ceremony) (st : Status) : (s.closeCeremony c st).mono = s.mono := by
  unfold State.closeCeremony
  extract_lets hit s1 s2
  rw [State.lockSlot_mono, State.lockSlot_mono]
  obtain ⟨q, x, h1⟩ : ∃ q x, s1 = { s with seq := q, sc := x } := by
    refine State.foldl_seq_sc (fun v w => ?_) hit s
    split
    · exact ⟨v.seq, _, rfl⟩
    · exact ⟨v.seq, _, rfl⟩
  have h2 : s2.mono = s1.mono := by
    unfold s2
    split
    · obtain ⟨q', x', heq⟩ := s1.withdrawApply_eq c.stage st
      rw [heq]
    · rfl
  exact h2.trans (by rw [h1])
/-- A ceremony that is abandoned is closed, at the same time. -/
theorem State.abandonCeremony_result (s : State) (st : Status) :
    (s.abandonCeremony st).custody.ceremony = none ∧ (s.abandonCeremony st).mono = s.mono := by
  unfold State.abandonCeremony
  split
  next hnone => exact ⟨hnone, rfl⟩
  · refine ⟨State.closeCeremony_ceremony .., (State.closeCeremony_mono ..).trans ?_⟩
    split <;> rfl

end

/-- Settles O33: each event by what its slot then holds. -/
theorem tokenEventResults : Obligations.TokenEventResults := by
  unfold Obligations.TokenEventResults
  intro s n id pub dg d empty bd r k c e hn
  dsimp only
  have hwell : (k.held = none ∧ r.missing = false ∧ respCrcOk r = true ∧ respIndex r = k.index ∧ respStatus r = 0 ∧
      (s.slot n).answerBlock k r = some d ∧ (k.data = [] ∨ r.blockStatus = 2)) → AnswersWell (s.slot n) k r d :=
    fun ⟨hheld, hmissing, hcrc, hindex, hstatus, hblock, hdata⟩ => ⟨hheld, hmissing, hcrc, hindex, hstatus, hblock, hdata⟩
  refine ⟨fun hmode hempty => ?inserted, fun hcmd hgood hwhy hindex hid => ?identified, fun hpresent => ?removed, fun hpowered => ?overcurrent,
    fun hcmd hgood hwhy hindex => ?unlockWaits, fun hcmd hwhy hheld hstatus => ?unlocked, fun hcmd hgood hwhy hindex => ?locked,
    fun hcmd hwhy hheld hfirst hbad => ?askedAgain, fun hcmd hheld hfirst => ?sentAgain, fun i hceremony hcount => ?lapses, fun hceremony => ?ends⟩
  case inserted =>
    have hon : n < 2 ∧ s.slotsOn = true ∧ (s.slot n).present = false := ⟨hn, by rw [State.slotsOn, hmode], hempty⟩
    have hnot : s.sc.mode ≠ .wayside := fun h => ScMode.noConfusion (hmode.symm.trans h)
    refine ⟨_, congrArg (fun t => Host.Outcome.next (s.signal t)) ((if_pos hon).trans (if_neg hnot)), ?_⟩
    rw [State.slot_signal, State.slot_tokenStart _ hn, State.slot_slotEvent _ hn, State.slot_setSlot _ hn]
    exact ⟨rfl, rfl, rfl, rfl, rfl⟩
  case identified =>
    have hgood := hwell hgood
    have hidle : ¬ holdsBusy k 0 = true := by simp [holdsBusy, hindex]
    refine ⟨_, exec_tokenResponse hn, ?_⟩
    rw [State.slot_signal, tokenResponse_good hcmd hgood, if_neg hidle, tokenAnswer_identify hwhy hgood.status hgood.block hid]
    dsimp only
    split
    · rw [State.slot_setSlot _ hn, State.slot_setSlot _ hn]
      exact ⟨rfl, rfl, rfl⟩
    · rw [State.slot_tokenSend _ hn, State.slot_setSlot _ hn]
      exact ⟨rfl, rfl, rfl⟩
  case removed =>
    refine ⟨_, congrArg (fun t => Host.Outcome.next (s.signal t)) (if_pos ⟨hn, hpresent⟩), ?_⟩
    obtain ⟨w, l, hoff⟩ := s.slot_tokenUnpower hn St.tokenNotPresent
    rw [State.slot_signal, State.slot_setSlot _ hn, State.slot_slotEvent _ hn, hoff]
    exact ⟨rfl, rfl, rfl, rfl, rfl⟩
  case overcurrent =>
    refine ⟨_, congrArg (fun t => Host.Outcome.next (s.signal t)) (if_pos ⟨hn, hpowered⟩), ?_⟩
    obtain ⟨w, l, hoff⟩ := s.slot_tokenUnpower hn St.tokenNoResponse
    rw [State.slot_signal, State.slot_setSlot _ hn, State.slot_slotEvent _ hn, hoff]
    exact ⟨rfl, rfl, rfl, rfl⟩
  case unlockWaits =>
    have hbusy : holdsBusy k 0 = true := by simp [holdsBusy, hindex]
    refine ⟨_, exec_tokenResponse hn, ?_⟩
    rw [State.slot_signal, tokenResponse_good hcmd (hwell hgood), if_pos hbusy, State.slot_setSlot _ hn]
  case unlocked =>
    have hready : s.tokenReady n = s.tokenAnswer n k r := by
      unfold State.tokenReady
      rw [hcmd]
      dsimp only
      rw [hheld]
    refine ⟨_, congrArg (fun t => Host.Outcome.next (s.signal t)) ((if_pos hn).trans hready), ?_⟩
    rw [State.slot_signal, tokenAnswer_unlock hwhy hstatus, State.slot_tokenSend _ hn, State.slot_setSlot _ hn]
    exact ⟨rfl, rfl⟩
  case locked =>
    have hidle : ¬ holdsBusy k 0 = true := by simp [holdsBusy, hindex]
    refine ⟨_, exec_tokenResponse hn, ?_⟩
    rw [State.slot_signal, tokenResponse_good hcmd (hwell hgood), if_neg hidle, tokenAnswer_lock hwhy hindex, State.slot_setSlot _ hn]
    exact ⟨rfl, rfl⟩
  case askedAgain =>
    refine ⟨_, exec_tokenResponse hn, ?_⟩
    rw [State.slot_signal, tokenResponse_bad hcmd hwhy hheld hfirst hbad, State.slot_tokenResend _ hn]
    exact ⟨rfl, mem_signal_outputs (s.mem_tokenResend hn { k with resent := true })⟩
  case sentAgain =>
    have hexec : exec (.tokenBusyTimeout n) s = .next (s.signal (s.tokenResend n { k with resent := true, held := none })) := by
      change execTokenBusyTimeout n s = _
      unfold execTokenBusyTimeout
      rw [hcmd]
      dsimp only
      rw [if_pos ⟨hn, hheld⟩, if_neg (ne_true_of_eq_false hfirst)]
    refine ⟨_, hexec, ?_⟩
    rw [State.slot_signal, State.slot_tokenResend _ hn]
  case lapses =>
    have hexec : exec (.tokenCountExpiry i) s = .next (({ s with mono := max s.mono (e.2 + 300 * 10 ^ 9) } : State).setCeremony
        (some { c with counts := c.counts.eraseIdx i })) := by
      change execTokenCountExpiry i s = _
      unfold execTokenCountExpiry
      rw [hceremony]
      dsimp only
      rw [hcount]
    exact ⟨_, hexec, rfl, rfl⟩
  case ends =>
    have hexec : exec .ceremonyTimeout s = .next (State.abandonCeremony (({ s with
        mono := max s.mono (min (c.lastStep + 300 * 10 ^ 9) (c.opened + 3600 * 10 ^ 9)) } : State).scEvent St.ceremonyTimeout [c.id])
        St.ceremonyTimeout) := by
      change execCeremonyTimeout s = _
      unfold execCeremonyTimeout
      rw [hceremony]
    exact ⟨_, hexec, State.abandonCeremony_result ..⟩

end Sys2Proof.Machine

/-! ### Ceremony and token commands (13 R400 to R405) -/

namespace Sys2Proof.Machine

section
variable (s : State)

/-! #### A raised token step (R94, R95) -/

theorem State.takeTicket_keeps : s.takeTicket.2.custody = s.custody ∧ s.takeTicket.2.sc.waiting = s.sc.waiting ∧ s.takeTicket.2.egress = s.egress := by
  unfold State.takeTicket
  dsimp only
  split <;> exact ⟨rfl, rfl, rfl⟩
theorem State.cancelSleep_keeps : s.cancelSleep.custody = s.custody ∧ s.cancelSleep.sc.waiting = s.sc.waiting ∧ s.cancelSleep.egress = s.egress := by
  unfold State.cancelSleep
  split <;> exact ⟨rfl, rfl, rfl⟩
/-- A request that joins its queue leaves the slots, the waiting commands and the responses alone. -/
theorem State.stampRequest_keeps (r : Request) : (s.stampRequest r none).custody = s.custody ∧
    (s.stampRequest r none).sc.waiting = s.sc.waiting ∧ (s.stampRequest r none).egress = s.egress := by
  have hqueued (d : Dispatcher) : ({ s.takeTicket.2 with disp := d } : State).cancelSleep.custody = s.custody ∧
      ({ s.takeTicket.2 with disp := d } : State).cancelSleep.sc.waiting = s.sc.waiting ∧
      ({ s.takeTicket.2 with disp := d } : State).cancelSleep.egress = s.egress := by
    obtain ⟨hcustody, hwaiting, hegress⟩ := State.cancelSleep_keeps ({ s.takeTicket.2 with disp := d } : State)
    obtain ⟨hcustody', hwaiting', hegress'⟩ := s.takeTicket_keeps
    exact ⟨hcustody.trans hcustody', hwaiting.trans hwaiting', hegress.trans hegress'⟩
  unfold State.stampRequest
  dsimp only
  split
  · exact hqueued _
  · exact hqueued _

theorem State.setSlot_keeps (n : Nat) (x : Slot) : (s.setSlot n x).sc = s.sc ∧ (s.setSlot n x).egress = s.egress := by
  unfold State.setSlot
  split
  · exact ⟨rfl, rfl⟩
  · split <;> exact ⟨rfl, rfl⟩

/-- A raised step stands in its slot under the slot's next number, and a request of the controller's own waits for dispatch. -/
theorem State.raiseStep_result {n : Nat} (hn : n < 2) (w : TokenPurpose) (i a : Nat) (l : Bytes) :
    ((s.raiseStep n w i a l).slot n).step = some ((s.slot n).steps, { why := w, index := i, arg := a, data := l }) ∧
    (s.raiseStep n w i a l).sc.waiting = s.sc.waiting ∧ (s.raiseStep n w i a l).egress = s.egress ∧
    (s.raiseStep n w i a l).custody.ceremony = s.custody.ceremony := by
  unfold State.raiseStep
  extract_lets x k
  obtain ⟨hcustody, hwaiting, hegress⟩ := State.stampRequest_keeps (s.setSlot n { x with step := some (x.steps, k), steps := x.steps + 1 })
    { partition := 0, queue := 15, body := leBytes 1 n ++ leBytes 8 x.steps, origin := .internal }
  obtain ⟨hsc, hout⟩ := s.setSlot_keeps n { x with step := some (x.steps, k), steps := x.steps + 1 }
  have hslot := s.slot_setSlot hn { x with step := some (x.steps, k), steps := x.steps + 1 }
  refine ⟨?_, hwaiting.trans (congrArg Sc.waiting hsc), hegress.trans hout, (congrArg Custody.ceremony hcustody).trans (s.setSlot_ceremony ..)⟩
  have hsame : (State.stampRequest (s.setSlot n { x with step := some (x.steps, k), steps := x.steps + 1 })
      { partition := 0, queue := 15, body := leBytes 1 n ++ leBytes 8 x.steps, origin := .internal } none).slot n =
      (s.setSlot n { x with step := some (x.steps, k), steps := x.steps + 1 }).slot n := by
    unfold State.slot
    rw [hcustody]
  rw [hsame, hslot]

/-- The first command of a step goes out when the step is dispatched. -/
theorem State.beginStep_eq {n no : Nat} {k : TokenCmd} (hstep : (s.slot n).step = some (no, k)) :
    s.beginStep n no = (s.setSlot n { s.slot n with step := none }).tokenSend n k.why k.index k.arg k.data := by
  unfold State.beginStep
  rw [hstep]
  exact if_pos rfl
theorem State.mem_tokenSend {n : Nat} (hn : n < 2) (w : TokenPurpose) (i a : Nat) (l : Bytes) :
    Output.token n i a l (tokenFrame i a) (tokenLines ((s.slot n).mode == 3) l) ∈ (s.tokenSend n w i a l).outputs := by
  unfold State.tokenSend State.emitToken
  rw [State.slot_setSlot _ hn]
  exact mem_emit_outputs ..

/-! #### The forms of the commands -/

variable {s} {t v : State} {code : Nat} {q : Request} {c : Ceremony}

/-- A command that waits for its slot is taken once the slot is ready. -/
theorem commandWhen_taken {ok : Request → Bool} {g : State → Request → State} (h : scTakes s t code q) (hok : ok q = true) :
    s.commandWhen code ok g = g t q := by
  have htaken : s.command code g = g t q := command_taken h
  obtain ⟨-, -, l, hqueue, -⟩ := h
  unfold State.commandWhen
  rw [hqueue]
  exact (if_pos hok).trans htaken
/-- A command that names a ceremony which is open is served for it. -/
theorem namedCeremony_taken {g : State → Request → Ceremony → State} (h : scTakes s t code q) (hlen : q.body.length = 8)
    (hzero : allZero (q.body.drop 4) = true) (hfor : t.ceremonyFor q (leAt q.body 0 4) false = some c) : s.namedCeremony code g = g t q c := by
  unfold State.namedCeremony
  rw [command_taken h, if_neg (by simp [hlen, hzero]), hfor]
theorem openCeremony_waits {op stage p : Nat} {body digest : Bytes} (hpart : q.partition = p) (hwaits : t.openCompletes op body = false) :
    t.openCeremony q op stage body digest =
    let cer : Ceremony := { id := t.custody.nextId, op := op, partition := p, origin := q, stage := stage, body := body, digest := digest,
                            opened := t.mono, lastStep := t.mono }
    let u : State := { t with custody := { t.custody with ceremony := some cer, nextId := t.custody.nextId + 1, last := none } }
    (if op = 3 then u.useChallenge else u).answer q 0 (leBytes 4 t.custody.nextId ++ zeros 4 ++ digest) := by
  subst hpart
  exact if_neg (ne_true_of_eq_false hwaits)
theorem ceremonyFor_some {id : Nat} {officers : Bool} (h : t.ceremonyFor q id officers = some c) : t.custody.ceremony = some c := by
  unfold State.ceremonyFor at h
  split at h
  next c' hopen =>
    split at h
    · exact hopen.trans h
    · cases h
  · cases h
/-- CEREMONY_PASSWORD raises the status step of its slot and waits for it. -/
theorem askPassword_result {n : Nat} (hn : n < 2) : ∃ k, ((t.askPassword q c n).slot n).step = some ((t.slot n).steps, k) ∧ k.index = 24 ∧
    (t.askPassword q c n).sc.waiting = t.sc.waiting ++ [{ req := { q with body := q.body.take 8 }, wait := .token n }] ∧
    (t.askPassword q c n).egress = t.egress ∧ (t.askPassword q c n).custody.ceremony = t.custody.ceremony := by
  unfold State.askPassword
  extract_lets r pw
  obtain ⟨x, e, hdrawn⟩ : ∃ x e, r.2 = { t with expanders := x, raised := e } := t.random_eq 12 32
  obtain ⟨hstep, hwaiting, hegress, hceremony⟩ := State.raiseStep_result (r.2.await { q with body := q.body.take 8 } (.token n)) hn
    (.status pw (challengeDigest c r.1)) 24 0 []
  generalize State.raiseStep _ _ _ _ = u at *
  rw [hdrawn] at hstep hwaiting hegress hceremony
  exact ⟨_, hstep, rfl, hwaiting, hegress, hceremony⟩
/-- Every state but ANALYSIS permits the ceremony of a stage (R424). -/
theorem opPermitted_stage {l : Lifecycle} (h : l ≠ .analysis) : opPermitted l 1 = true := by
  cases l with
  | analysis => exact absurd rfl h
  | _ => rfl
theorem passwordMalformed_slot {b : Bytes} (h : passwordMalformed b = false) : leAt b 4 1 < 2 := by
  simp [passwordMalformed] at h
  omega
theorem setPasswordMalformed_slot {b : Bytes} (h : setPasswordMalformed b = false) : leAt b 0 1 < 2 := by
  simp [setPasswordMalformed] at h
  omega

end

/-- Settles O32: each command by its form and its own branches, the token steps by `raiseStep_result`. -/
theorem ceremonyCommandResults : Obligations.CeremonyCommandResults := by
  unfold Obligations.CeremonyCommandResults
  intro s t q c g
  dsimp only
  refine ⟨fun h hlen hop hzero hsize hres hclear hstate => ⟨fun hopen => next_signal_command h ?busy, fun hidle hstage => next_signal_command h ?stage⟩,
    fun h hlen hmin hmax hzero hstage hres hpart hclear hpermitted hidle haccepts hwaits => next_signal_command h ?other,
    fun h hform hfor hused => ⟨fun habsent => ?noToken, fun hpresent hfree hdraw henrolled => ?password⟩,
    fun hlen hzero hfor => ⟨fun h => ?status, fun h => ?cancel⟩, fun h hlen hzero hfor hoff hfits => next_command h ?data,
    fun h hlen hlast hid hpart hmax hoff => next_command h ?result,
    fun h hform hused => ⟨fun habsent => ?setNoToken, fun hpresent hfree => ?setPassword⟩,
    fun h hlen hn hzero hpart hused hpresent hfree => ?erase, fun no k hn hstep => ?begins⟩
  case busy =>
    have hform : ¬ (q.body.length < 16 ∨ q.body.length ≠ 16 + leAt q.body 8 4 ∨ leAt q.body 2 2 ≠ 0 ∨ leAt q.body 12 4 ≠ 0 ∨ leAt q.body 0 2 = 0 ∨
        6 < leAt q.body 0 2 ∨ (leAt q.body 0 2 = 1 ∧ leAt q.body 8 4 ≠ 0) ∨ (leAt q.body 0 2 ≠ 1 ∧ (leAt q.body 4 4 ≠ 0 ∨ q.partition ≠ 0))) := by
      omega
    have hpermitted : opPermitted t.lifecycle (leAt q.body 0 2) = true := by rw [hop]; exact opPermitted_stage hstate
    dsimp only
    rw [if_neg hform, if_neg (by simp [hclear]), if_neg (ne_false_of_eq_true hpermitted), hopen]
    rfl
  case stage =>
    have hform : ¬ (q.body.length < 16 ∨ q.body.length ≠ 16 + leAt q.body 8 4 ∨ leAt q.body 2 2 ≠ 0 ∨ leAt q.body 12 4 ≠ 0 ∨ leAt q.body 0 2 = 0 ∨
        6 < leAt q.body 0 2 ∨ (leAt q.body 0 2 = 1 ∧ leAt q.body 8 4 ≠ 0) ∨ (leAt q.body 0 2 ≠ 1 ∧ (leAt q.body 4 4 ≠ 0 ∨ q.partition ≠ 0))) := by
      omega
    have hpermitted : opPermitted t.lifecycle (leAt q.body 0 2) = true := by rw [hop]; exact opPermitted_stage hstate
    dsimp only
    rw [if_neg hform, if_neg (by simp [hclear]), if_neg (ne_false_of_eq_true hpermitted), if_neg (by simp [hidle]), if_pos hop, hstage]
    exact openCeremony_waits rfl rfl
  case other =>
    have hform : ¬ (q.body.length < 16 ∨ q.body.length ≠ 16 + leAt q.body 8 4 ∨ leAt q.body 2 2 ≠ 0 ∨ leAt q.body 12 4 ≠ 0 ∨ leAt q.body 0 2 = 0 ∨
        6 < leAt q.body 0 2 ∨ (leAt q.body 0 2 = 1 ∧ leAt q.body 8 4 ≠ 0) ∨ (leAt q.body 0 2 ≠ 1 ∧ (leAt q.body 4 4 ≠ 0 ∨ q.partition ≠ 0))) := by
      omega
    dsimp only
    rw [if_neg hform, if_neg fun hheld => hheld.2 (hclear hheld.1), if_neg (ne_false_of_eq_true hpermitted), if_neg (by simp [hidle]),
      if_neg (by omega), haccepts]
    exact openCeremony_waits hpart hwaits
  case noToken =>
    have hdraws : s.passwordStep q = false := by
      obtain ⟨-, -, l, -, rfl⟩ := h
      have habsent : (s.slot (leAt q.body 4 1)).present = false := habsent
      simp [State.passwordStep, habsent]
    refine congrArg Host.Outcome.next ((commandDraw_taken h fun hdraw => absurd (hdraws.symm.trans hdraw) Bool.false_ne_true).trans ?_)
    dsimp only
    have hfor' : ({ t with sc := { t.sc with stall := none } } : State).ceremonyFor q (leAt q.body 0 4) true = some c := hfor
    rw [if_neg (ne_true_of_eq_false hform), hfor']
    exact if_pos habsent
  case password =>
    have hslot := passwordMalformed_slot hform
    have hready : (s.slot (leAt q.body 4 1)).free = true ∧ s.canDraw 12 = true := by
      obtain ⟨-, -, l, -, rfl⟩ := h
      exact ⟨hfree, hdraw⟩
    have htaken : exec .ceremonyPassword s = .next (({ t with sc := { t.sc with stall := none } } : State).askPassword q c (leAt q.body 4 1)) := by
      refine congrArg Host.Outcome.next ((commandDraw_taken h fun _ => hready).trans ?_)
      have hfor' : ({ t with sc := { t.sc with stall := none } } : State).ceremonyFor q (leAt q.body 0 4) true = some c := hfor
      dsimp only
      rw [if_neg (ne_true_of_eq_false hform), hfor']
      refine (if_neg (ne_false_of_eq_true hpresent)).trans ((if_neg (ne_true_of_eq_false hused)).trans (if_neg ?_))
      exact fun hnone => Bool.false_ne_true ((Option.isNone_eq_false_iff.mpr henrolled).symm.trans hnone)
    obtain ⟨k, hstep, hindex, hwaiting, hegress, hceremony⟩ :=
      askPassword_result (t := { t with sc := { t.sc with stall := none } }) (q := q) (c := c) hslot
    exact ⟨_, k, htaken, hstep, hindex, hwaiting, hegress, hceremony.trans (ceremonyFor_some hfor)⟩
  case status => exact congrArg Host.Outcome.next (namedCeremony_taken h hlen hzero hfor)
  case cancel => exact congrArg Host.Outcome.next (namedCeremony_taken h hlen hzero hfor)
  case data =>
    obtain ⟨m, hblob, hroom⟩ := hfits
    have hfit : ¬ (leAt q.body 8 8 ≠ c.upload.length ∨ m < c.upload.length + (q.body.drop 16).length) := by
      rw [List.length_drop]
      omega
    dsimp only
    rw [if_neg (by omega), hfor]
    dsimp only
    rw [hblob]
    dsimp only
    rw [if_neg hfit, List.length_drop]
  case result =>
    dsimp only
    rw [if_pos hlen, hlast]
    exact if_neg (by omega)
  case setNoToken =>
    have hready : (setPasswordMalformed q.body || s.slotReady (leAt q.body 0 1)) = true := by
      obtain ⟨-, -, l, -, rfl⟩ := h
      have habsent : (s.slot (leAt q.body 0 1)).present = false := habsent
      simp [State.slotReady, habsent]
    refine congrArg Host.Outcome.next ((commandWhen_taken h hready).trans ?_)
    exact (if_neg (ne_true_of_eq_false hform)).trans (if_pos habsent)
  case setPassword =>
    have hslot := setPasswordMalformed_slot hform
    have hready : (setPasswordMalformed q.body || s.slotReady (leAt q.body 0 1)) = true := by
      obtain ⟨-, -, l, -, rfl⟩ := h
      have hfree : (s.slot (leAt q.body 0 1)).free = true := hfree
      simp [State.slotReady, hfree]
    have hraises (w : TokenPurpose) (i : Nat) (l : Bytes) := State.raiseStep_result (n := leAt q.body 0 1)
      (t.await { q with body := q.body.take 8 } (.token (leAt q.body 0 1))) hslot w i 0 l
    cases hunlocked : (t.slot (leAt q.body 0 1)).unlocked with
    | true =>
      refine ⟨_, _, congrArg Host.Outcome.next ((commandWhen_taken h hready).trans ((if_neg (ne_true_of_eq_false hform)).trans
        ((if_neg (ne_false_of_eq_true hpresent)).trans ((if_neg (ne_true_of_eq_false hused)).trans (if_pos hunlocked))))), (hraises ..).1, rfl,
        (hraises ..).2.1⟩
    | false =>
      refine ⟨_, _, congrArg Host.Outcome.next ((commandWhen_taken h hready).trans ((if_neg (ne_true_of_eq_false hform)).trans
        ((if_neg (ne_false_of_eq_true hpresent)).trans ((if_neg (ne_true_of_eq_false hused)).trans (if_neg (ne_true_of_eq_false hunlocked)))))), (hraises ..).1, rfl,
        (hraises ..).2.1⟩
  case erase =>
    have hready : (q.partition != 0 || s.slotReady (leAt q.body 0 1)) = true := by
      obtain ⟨-, -, l, -, rfl⟩ := h
      have hfree : (s.slot (leAt q.body 0 1)).free = true := hfree
      simp [State.slotReady, hfree]
    have hexec : exec .tokenErase s = .next ((t.await q (.token (leAt q.body 0 1))).raiseStep (leAt q.body 0 1) .erase 11) := by
      refine congrArg Host.Outcome.next ((commandWhen_taken h hready).trans ((if_neg ?_).trans ?_))
      · simp only [not_or, Classical.not_not, Nat.not_lt, Bool.not_eq_false]
        exact ⟨hlen, hn, hzero, hpart⟩
      · exact (if_neg (ne_false_of_eq_true hpresent)).trans (if_neg (ne_true_of_eq_false hused))
    obtain ⟨hstep, hwaiting, -, -⟩ := (t.await q (.token (leAt q.body 0 1))).raiseStep_result (n := leAt q.body 0 1) (by omega) .erase 11 0 []
    exact ⟨_, _, hexec, hstep, rfl, hwaiting⟩
  case begins =>
    have hslot : leAt q.body 0 1 < 2 := by omega
    rw [State.beginStep_eq t hstep, State.slot_tokenSend _ hslot, State.slot_setSlot _ hslot]
    refine ⟨rfl, rfl, _, State.mem_tokenSend _ hslot .., ?_⟩
    rw [State.slot_setSlot _ hslot]

end Sys2Proof.Machine

/-! ### The platform: commands and sequence (15 R433 to R451) -/

namespace Sys2Proof.Machine

@[simp] theorem signal_plat (s t : State) : (s.signal t).plat = t.plat := by
  obtain ⟨o, v, b, heq⟩ := signal_eq s t
  rw [heq]

section
variable {s t : State} {code : Nat} {q : Request}

theorem platOn_of_running (hmode : s.sc.mode = .running) : s.platOn = true := by
  unfold State.platOn
  rw [hmode]
/-- A platform command with an empty body is served. -/
theorem platCommand_taken {g : State → Request → State} (h : scTakes s t code q) (hempty : q.body = []) : s.platCommand code g = g t q :=
  (command_taken h).trans (if_neg (not_not_intro hempty))

/-! #### Recovery (R446 to R448) -/

/-- With a valid set an attempt begins: the outputs are withdrawn, the platform has power. -/
theorem recoveryStart_plat (n : Nat) (hset : s.plat.set.state = 1) : (s.recoveryStart n).plat =
    { (if s.plat.pwrEn then s.plat.quiet else { s.plat.quiet with pwrEn := true, restartOff := false, risen := false, outAt := s.mono }) with
      attempt := n, lastStatus := St.platformRecoveryStarted % 256, recovering := true } := by
  unfold State.recoveryStart
  cases hpower : s.plat.pwrEn with
  | true =>
    simp only [State.setPlat, hpower, if_true]
    exact congrArg State.plat (if_pos hset)
  | false =>
    simp only [State.setPlat, hpower, Bool.false_eq_true, if_false]
    exact congrArg State.plat (if_pos hset)

/-- An attempt under way: nothing is released. -/
structure Recovers (p : Platform) (n : Nat) : Prop where
  rst : p.rst = 0
  outEn : p.outEn = 0
  recovering : p.recovering = true
  attempt : p.attempt = n
  pwrEn : p.pwrEn = true

theorem recoveryStart_recovers (n : Nat) (hset : s.plat.set.state = 1) :
    Recovers (s.recoveryStart n).plat n ∧ (s.recoveryStart n).plat.held = s.plat.held := by
  rw [recoveryStart_plat n hset]
  split
  next hpower => exact ⟨⟨rfl, rfl, rfl, rfl, hpower⟩, rfl⟩
  · exact ⟨⟨rfl, rfl, rfl, rfl, rfl⟩, rfl⟩
/-- Outside recovery's own sequence a failed measurement starts the next attempt (R441). -/
theorem platFail_recovers (hattempt : s.plat.attempt = 0) (hset : s.plat.set.state = 1) : Recovers s.platFail.plat (s.plat.failures + 1) := by
  have heq : s.platFail = (s.setPlat Platform.quiet).recoveryStart (s.plat.failures + 1) := if_pos hattempt
  rw [heq]
  exact (recoveryStart_recovers (s := s.setPlat Platform.quiet) _ hset).1

theorem mem_foldl_emit {α : Type} {g : α → Output} {l : List α} {w : α} (hw : w ∈ l) (u : State) :
    g w ∈ (l.foldl (fun (v : State) e => v.emit (g e)) u).outputs := by
  have hkeep (l : List α) (v : State) {o : Output} (ho : o ∈ v.outputs) : o ∈ (l.foldl (fun (v : State) e => v.emit (g e)) v).outputs := by
    induction l generalizing v with
    | nil => exact ho
    | cons a l ih => exact ih (v.emit (g a)) (List.mem_cons_of_mem _ ho)
  induction l generalizing u with
  | nil => exact absurd hw (List.not_mem_nil)
  | cons a l ih =>
    obtain rfl | hrest := List.mem_cons.mp hw
    · exact hkeep l (u.emit (g w)) (mem_emit_outputs ..)
    · exact ih hrest (u.emit (g a))

/-! #### Identity trees (R451) -/

theorem State.foldl_plat {α : Type} {f : State → α → State} (h : ∀ s a, (f s a).plat = s.plat) (l : List α) (s : State) :
    (l.foldl f s).plat = s.plat := by
  induction l generalizing s with
  | nil => rfl
  | cons a l ih => exact (ih (f s a)).trans (h s a)
/-- Jobs that have left are forgotten; the rest of the building stays. -/
theorem treeCollect_plat {y : TreeBuild} (hbuild : s.plat.build = some y) : ∃ l, s.treeCollect.plat = { s.plat with build := some { y with jobs := l } } ∧
    ((∀ h ∈ y.jobs, s.lneJob? h = none) → l = []) := by
  unfold State.treeCollect
  split
  next hnone => cases hnone.symm.trans hbuild
  next b hsome =>
  cases hsome.symm.trans hbuild
  extract_lets ended u
  have hu : u.plat = s.plat := by
    refine State.foldl_plat (fun v h => ?_) ended s
    split
    · exact v.dropLneJob_plat _
    · rfl
  refine ⟨y.jobs.filter fun h => !ended.contains h,
    congrArg (fun p : Platform => { p with build := some { y with jobs := y.jobs.filter fun h => !ended.contains h } }) hu, fun hgone => ?_⟩
  have hall : ∀ h ∈ y.jobs, h ∈ ended := fun h hmem => List.mem_filter.mpr ⟨hmem, by rw [hgone h hmem]⟩
  simpa using hall

end

/-- Settles O37: each command by its own branches, the trees by `treeCollect_plat`. -/
theorem platformCommandResults : Obligations.PlatformCommandResults := by
  unfold Obligations.PlatformCommandResults
  intro s t q
  dsimp only
  refine ⟨fun h hempty => congrArg Host.Outcome.next (platCommand_taken h hempty), fun h hlen hch hzero hpages hmax hidle => next_command h ?begin,
    fun h hlen hzero hmin hmax hopen hch hoff hroom => next_command h ?data,
    fun h hempty hopen => ⟨fun hok => ?setPasses, fun hbad => ?setFails⟩,
    fun h hempty => ⟨fun hvalid hidle => ?recovers, fun hopen => ?recoverBusy⟩, fun h hempty hidle => ?restarts,
    fun h hempty => congrArg Host.Outcome.next (platCommand_taken h hempty),
    fun y hmode hcache hbuild => ⟨fun hleft hgone => ?treeBuilt, fun hleft => ?treeOpen⟩, fun hmode hcache => ?rebuilt⟩
  case begin =>
    refine (if_neg ?_).trans (if_neg (ne_true_of_eq_false hidle))
    simp only [not_or, Classical.not_not, Nat.not_lt, Bool.not_eq_false]
    exact ⟨hlen, hch, hzero, hpages, hmax⟩
  case data =>
    refine if_neg ?_
    simp only [not_or, Classical.not_not, Nat.not_lt, Bool.not_eq_false]
    exact ⟨by omega, hzero, by omega, hmax, hlen, hopen, hch, hoff, hroom⟩
  case setPasses =>
    exact congrArg Host.Outcome.next ((platCommand_taken h hempty).trans ((if_neg (not_not_intro hopen)).trans (if_pos hok)))
  case setFails =>
    exact congrArg Host.Outcome.next ((platCommand_taken h hempty).trans
      ((if_neg (not_not_intro hopen)).trans (if_neg (ne_true_of_eq_false hbad))))
  case recovers =>
    have hfree : ¬ t.plat.busy = true := by simp [Platform.busy, hidle, hvalid]
    refine ⟨_, congrArg (fun v => Host.Outcome.next (s.signal v)) ((platCommand_taken h hempty).trans (if_neg hfree)), ?_⟩
    obtain ⟨hrecovers, hheld⟩ := recoveryStart_recovers
      (s := t.setPlat fun p => { p with failures := 0, held := false, heldReason := 0 }) 1 hvalid
    rw [signal_plat, State.answer_plat]
    exact ⟨hrecovers.recovering, hrecovers.attempt, hrecovers.pwrEn, hrecovers.rst, hheld⟩
  case recoverBusy =>
    have hbusy : t.plat.busy = true := by simp [Platform.busy, hopen]
    exact congrArg (fun v => Host.Outcome.next (s.signal v)) ((platCommand_taken h hempty).trans (if_pos hbusy))
  case restarts =>
    refine ⟨_, congrArg (fun v => Host.Outcome.next (s.signal v)) ((platCommand_taken h hempty).trans (if_neg (ne_true_of_eq_false hidle))), ?_⟩
    rw [signal_plat]
    exact ⟨rfl, rfl, rfl, rfl, rfl⟩
  case treeBuilt =>
    obtain ⟨l, hplat, hempty⟩ := treeCollect_plat hbuild
    have hdone : s.treeCollect.treeEnd = { s.treeCollect with plat := { s.treeCollect.plat with build := none, treeNext := true } } := by
      unfold State.treeEnd
      rw [hplat]
      exact if_pos ⟨hleft, hempty hgone⟩
    refine ⟨_, congrArg Host.Outcome.next ((if_neg (ne_false_of_eq_true (platOn_of_running hmode))).trans
      ((if_neg (ne_false_of_eq_true hcache)).trans hdone)), rfl, rfl⟩
  case treeOpen =>
    obtain ⟨l, hplat, -⟩ := treeCollect_plat hbuild
    have hopen : s.treeCollect.treeEnd = s.treeCollect := by
      unfold State.treeEnd
      rw [hplat]
      exact if_neg fun h => hleft h.1
    exact ⟨_, congrArg Host.Outcome.next ((if_neg (ne_false_of_eq_true (platOn_of_running hmode))).trans
      ((if_neg (ne_false_of_eq_true hcache)).trans hopen)), by rw [hplat]⟩
  case rebuilt =>
    exact ⟨_, congrArg Host.Outcome.next ((if_neg (ne_false_of_eq_true (platOn_of_running hmode))).trans (if_pos hcache)), rfl⟩

end Sys2Proof.Machine

/-! ### The platform's sequence (15 R433 to R448) -/

namespace Sys2Proof.Machine

section
variable {s : State} {m : Manifest} {i : Nat} {r : Region}

theorem measureSoFar_mono (s : State) : s.measureSoFar.mono = s.mono := by
  unfold State.measureSoFar
  split
  · split <;> rfl
  · rfl

/-- A measured region whose hash differs, hashed after early release, fails the measurement of the manifest in force. -/
theorem regionFails_recovers (hmanifest : s.plat.manifest = some m) (hregion : m.regions[i]? = some r) (hmeasured : measured r = true)
    (hopen : getK i s.plat.results = some 0) (hattempt : s.plat.attempt = 0) (hset : s.plat.set.state = 1) :
    Recovers (s.regionFails m i).plat (s.plat.failures + 1) := by
  unfold State.regionFails
  rw [hregion]
  dsimp only
  rw [hmanifest]
  dsimp only [Option.isNone_some]
  rw [if_pos ⟨hmeasured, rfl, by simpa using hopen⟩]
  exact platFail_recovers hattempt hset

end

/-- Settles O38: each event by its own branch, what recovery leaves by `Recovers`. -/
theorem platformSequenceResults : Obligations.PlatformSequenceResults := by
  unfold Obligations.PlatformSequenceResults
  intro s man fl m i r hmode
  have hon := platOn_of_running hmode
  refine ⟨fun hlow hpower hidle => ⟨fun hfilter => ?measures, fun hoff => ?releases⟩, fun hhigh hpower hidle => ?falls,
    fun hfilter hpower hnever => ?waits,
    fun hmeasuring hgood => ⟨fun hphase hnot => ⟨fun hpasses => ?early, fun hbad hattempt hset => ?unsupported⟩,
      fun hmanifest hphase => ⟨?verified, fun hregion hmeasured hopen hattempt hset => ?mismatch⟩⟩,
    fun hphase => ?timeout, fun hrecovering hgood => ?written, fun hrestart => ?restarted⟩
  case measures =>
    have hup : s.powerGood = _ := (if_neg (by simp [hon, hpower])).trans ((if_pos hfilter).trans (if_neg (ne_true_of_eq_false hidle)))
    refine ⟨_, congrArg (fun t => Host.Outcome.next (s.signal t)) ((if_neg (ne_true_of_eq_false hlow)).trans hup), ?_⟩
    rw [signal_plat]
    exact ⟨rfl, rfl, rfl, rfl, rfl⟩
  case releases =>
    have hup : s.powerGood = _ := (if_neg (by simp [hon, hpower])).trans (if_neg (ne_true_of_eq_false hoff))
    refine ⟨_, congrArg (fun t => Host.Outcome.next (s.signal t)) ((if_neg (ne_true_of_eq_false hlow)).trans hup), ?_⟩
    rw [signal_plat]
    exact ⟨rfl, rfl, rfl⟩
  case falls =>
    have hdown : s.powerFell = _ := (if_neg (by simp [hon, hpower])).trans (if_neg (ne_true_of_eq_false hidle))
    refine ⟨_, congrArg (fun t => Host.Outcome.next (s.signal t)) ((if_pos hhigh).trans hdown), ?_⟩
    rw [signal_plat, signal_raised]
    exact ⟨rfl, rfl, rfl, rfl, _, List.mem_append_right _ (List.mem_singleton_self _), rfl⟩
  case waits =>
    refine ⟨_, congrArg (fun t => Host.Outcome.next (s.signal t)) (if_pos ⟨hon, hfilter, hpower, hnever⟩), ?_⟩
    rw [signal_plat, signal_mono]
    exact ⟨rfl, rfl, rfl, rfl⟩
  case early =>
    have hexec : exec (.platformReleasedEarly man fl) s = .next (s.signal (((s.platFlash fl).setPlat fun p =>
        { p with phase := .serve, rst := (parseManifest man).resetEarly, manifest := some (parseManifest man),
                 results := bootResults (parseManifest man) }).platEvent St.platformReleasedEarly)) := by
      refine congrArg (fun t => Host.Outcome.next (s.signal t)) ((if_pos ⟨hon, hmeasuring, hphase, hnot, hgood⟩).trans ?_)
      rw [hpasses]
    refine ⟨_, hexec, ?_⟩
    rw [signal_plat]
    exact ⟨rfl, rfl, rfl, rfl⟩
  case unsupported =>
    have hfails : s.badStart man fl = some ((s.platFlash fl).platEvent St.flashUnsupported).platFail := if_pos hbad
    have hexec : exec (.platformReleasedEarly man fl) s = .next (s.signal ((s.platFlash fl).platEvent St.flashUnsupported).platFail) := by
      refine congrArg (fun t => Host.Outcome.next (s.signal t)) ((if_pos ⟨hon, hmeasuring, hphase, hnot, hgood⟩).trans ?_)
      rw [hfails]
    refine ⟨_, hexec, ?_⟩
    rw [signal_plat]
    have hrecovers := platFail_recovers (s := (s.platFlash fl).platEvent St.flashUnsupported) hattempt hset
    exact ⟨hrecovers.recovering, hrecovers.rst⟩
  case verified =>
    have hexec : exec .platformVerified s = .next (s.signal (s.platRun m)) := by
      change execPlatformVerified s = _
      unfold execPlatformVerified
      rw [hmanifest]
      exact congrArg (fun t => Host.Outcome.next (s.signal t)) (if_pos ⟨hon, hmeasuring, hgood, .inl hphase⟩)
    refine ⟨_, hexec, ?_⟩
    rw [signal_plat]
    exact ⟨rfl, rfl, rfl, rfl⟩
  case mismatch =>
    have hexec : exec (.regionMismatch (.region man i)) s = .next (s.signal (s.regionFails m i)) := by
      refine congrArg (fun t => Host.Outcome.next (s.signal t)) ((if_pos ⟨hon, hmeasuring, hgood⟩).trans ?_)
      dsimp only
      rw [hmanifest]
    refine ⟨_, hexec, ?_⟩
    rw [signal_plat]
    have hrecovers := regionFails_recovers hmanifest hregion hmeasured hopen hattempt hset
    exact ⟨hrecovers.rst, hrecovers.outEn, hrecovers.recovering, hrecovers.attempt⟩
  case timeout =>
    refine ⟨_, congrArg (fun t => Host.Outcome.next (s.signal t)) (if_pos ⟨hon, hphase⟩), ?_⟩
    rw [signal_plat, signal_mono]
    exact ⟨rfl, rfl, rfl, rfl, measureSoFar_mono _⟩
  case written =>
    refine ⟨_, congrArg (fun t => Host.Outcome.next (s.signal t)) (if_pos ⟨hon, hrecovering, hgood⟩), ?_⟩
    rw [signal_plat]
    exact ⟨rfl, rfl, rfl, fun w hw => mem_signal_outputs (mem_foldl_emit (g := fun e => .flashWrite e.1 e.2.1 e.2.2) hw _)⟩
  case restarted =>
    refine ⟨_, congrArg (fun t => Host.Outcome.next (s.signal t)) (if_pos ⟨hon, hrestart⟩), ?_⟩
    rw [signal_plat, signal_mono]
    exact ⟨rfl, rfl, rfl⟩

end Sys2Proof.Machine

/-! ### Sleep states and the wakes from them (16 R470 to R478, 14 R415) -/

namespace Sys2Proof.Machine

@[simp] theorem signal_clusters (s t : State) : (s.signal t).clusters = t.clusters := by
  obtain ⟨o, v, b, heq⟩ := signal_eq s t
  rw [heq]
@[simp] theorem signal_allQuiet (s t : State) : (s.signal t).allQuiet = t.allQuiet := by
  obtain ⟨o, v, b, heq⟩ := signal_eq s t
  rw [heq]
  rfl

section
variable {s : State}

/-! #### The wake from S3 (R415, R477) -/

/-- The fast path leaves the porter's power state alone, and no event goes. -/
theorem fastWake_startKeeps (s : State) : StartKeeps s s.fastWake := by
  unfold State.fastWake
  split
  · split
    · exact ⟨rfl, rfl, rfl, rfl, fun _ he => he⟩
    · exact StartKeeps.refl s
  · exact StartKeeps.refl s

/-- What a wake from S3 leaves: S0, its source, no alarm, and the event. -/
structure Woken (v : State) (code : Nat) : Prop where
  power : v.porter.power = .s0
  wakeSource : v.porter.wakeSource = code
  alarm : v.porter.alarm = none
  event : ∃ e ∈ v.raised, e.2.code = St.powerWake ∧ e.2.args = [code]

theorem Woken.of_keeps {t v : State} {n : Nat} (h : Woken t n) (hkeeps : StartKeeps t v) : Woken v n := by
  obtain ⟨e, he, hcode, hargs⟩ := h.event
  exact ⟨hkeeps.power.trans h.power, hkeeps.wakeSource.trans h.wakeSource, hkeeps.alarm.trans h.alarm, e, hkeeps.raised e he, hcode, hargs⟩

/-- A wake by the porter with the main rail there and no sensor holding the reset. -/
theorem wakeS3_woken (n : Nat) (hpower : s.porter.power = .s3) (hsupply : s.porter.p12v = true) (hheld : s.porter.held = false) :
    Woken (s.wakeS3 n) n := by
  unfold State.wakeS3
  rw [if_neg (by simp [hpower, hsupply]), if_neg (ne_true_of_eq_false hheld)]
  extract_lets p t sc u
  have ht : Woken t n := ⟨rfl, rfl, rfl, exists_mem_scEvent_args ..⟩
  have hu : StartKeeps t u := ⟨rfl, rfl, rfl, rfl, fun _ he => he⟩
  split
  · exact ht.of_keeps (hu.trans (fastWake_startKeeps u))
  · refine ht.of_keeps (hu.trans (StartKeeps.trans ?_ (State.start_result _ false).1))
    exact ⟨rfl, rfl, rfl, rfl, fun _ he => List.mem_append_left _ he⟩

/-- Such a wake as the end of a command. -/
theorem next_woken {t : State} {n : Nat} (h : Woken t n) : ∃ v, Host.Outcome.next (s.signal t) = (.next v : Out) ∧ v.porter.power = .s0 ∧
    v.porter.wakeSource = n ∧ v.porter.alarm = none ∧ ∃ e ∈ v.raised, e.2.code = St.powerWake ∧ e.2.args = [n] := by
  refine ⟨_, rfl, ?_⟩
  rw [signal_porter, signal_raised]
  exact ⟨h.power, h.wakeSource, h.alarm, h.event⟩

/-- Where every condition of the fast path holds, the retained firmware goes on. -/
theorem wakeS3_fast {x : S3Store} {i : FwImage} (n : Nat) (hpower : s.porter.power = .s3) (hsupply : s.porter.p12v = true)
    (hheld : s.porter.held = false) (hmatch : s.wakeMismatch = none) (hstored : s.porter.s3 = some x) (hslot : s.sc.slot x.slot = .image i) :
    (s.wakeS3 n).sc.mode = .starting ∧ (s.wakeS3 n).sc.running = x.slot ∧ (s.wakeS3 n).sc.runImage = some i ∧
    (s.wakeS3 n).durable = s.durable ∧ (s.wakeS3 n).sc.coldCount = s.sc.coldCount := by
  unfold State.wakeS3
  rw [if_neg (by simp [hpower, hsupply]), if_neg (ne_true_of_eq_false hheld)]
  extract_lets p t sc u
  have ht : t.wakeMismatch = none := hmatch
  have hfast (v : State) (hs3 : v.porter.s3 = some x) (himage : v.sc.slot x.slot = .image i) : v.fastWake.sc.mode = .starting ∧
      v.fastWake.sc.running = x.slot ∧ v.fastWake.sc.runImage = some i ∧ v.fastWake.durable = v.durable ∧
      v.fastWake.sc.coldCount = v.sc.coldCount := by
    unfold State.fastWake
    rw [hs3]
    dsimp only
    rw [himage]
    exact ⟨rfl, rfl, rfl, rfl, rfl⟩
  rw [ht]
  exact hfast u hstored hslot

theorem standby_of_house {s t : State} (h : t.bearing.house = s.bearing.house) : t.porter.standby = s.porter.standby :=
  (congrArg (fun b => b.porter.standby) h :)
/-- With the standby rail the alarm is set at the entry to S3. -/
theorem enterS3_alarm (hrail : s.porter.standby = true) (n : Option Nat) :
    (s.enterS3 n).porter.entering = none ∧ (s.enterS3 n).porter.alarm = n := by
  unfold State.enterS3
  rw [if_pos hrail]
  exact ⟨rfl, rfl⟩

/-! #### S2 (R472 to R474) -/

theorem endGrant_keeps (s : State) : s.endGrant.porter = s.porter ∧ s.endGrant.clusters = s.clusters ∧ s.endGrant.cores = s.cores := by
  unfold State.endGrant
  split <;> exact ⟨rfl, rfl, rfl⟩
/-- S1 is entered from S0 where nothing holds work. -/
theorem enterS1_result (hpower : s.porter.power = .s0) : s.enterS1.porter.power = (if s.enterS1.allQuiet then .s1 else .s0) ∧
    s.enterS1.porter.wakeSource = s.porter.wakeSource ∧ s.enterS1.clusters = s.clusters ∧ s.enterS1.cores = s.cores ∧
    s.enterS1.raised = s.raised := by
  have hquiet : s.enterS1.allQuiet = s.allQuiet := by
    unfold State.enterS1
    split <;> rfl
  rw [hquiet]
  unfold State.enterS1
  cases hq : s.allQuiet with
  | true => rw [if_pos ⟨hpower, rfl⟩]; exact ⟨rfl, rfl, rfl, rfl, rfl⟩
  | false => rw [if_neg fun h => Bool.false_ne_true h.2]; exact ⟨hpower, rfl, rfl, rfl, rfl⟩

/-- The end of a wake from S2: a grant ends, the event is recorded, S1 follows where nothing holds work. -/
theorem wakeS2_end (t : State) (n : Nat) (hs0 : t.porter.power = .s0) :
    let v := (t.endGrant.scEvent St.powerWake [n]).enterS1
    v.porter.power = (if v.allQuiet then .s1 else .s0) ∧ v.porter.wakeSource = t.porter.wakeSource ∧ v.clusters = t.clusters ∧
      v.cores = t.cores ∧ ∃ e ∈ v.raised, e.2.code = St.powerWake ∧ e.2.args = [n] := by
  obtain ⟨hporter, hclusters, hcores⟩ := endGrant_keeps t
  have hpower : (t.endGrant.scEvent St.powerWake [n]).porter.power = .s0 := (congrArg Porter.power hporter).trans hs0
  obtain ⟨hend, hsource, hclusters', hcores', hraised⟩ := enterS1_result hpower
  exact ⟨hend, hsource.trans (congrArg Porter.wakeSource hporter), hclusters'.trans hclusters, hcores'.trans hcores,
    by rw [hraised]; exact exists_mem_scEvent_args ..⟩
/-- A wake from S2: S0, or S1 where nothing holds work, and the clusters kept awake resume. -/
theorem wakeS2_result {w : WakeSource} (hpower : s.porter.power = .s2) (hheld : s.porter.held = false)
    (hsource : w = .frame ∨ w = .doorbell ∨ w = .token) : (s.wakeS2 w).porter.power = (if (s.wakeS2 w).allQuiet then .s1 else .s0) ∧
      (s.wakeS2 w).porter.wakeSource = wakeCode w ∧ (∀ c ∈ (s.wakeS2 w).clusters, c.1 < s.minAwake → c.2.power = .idle s.mono) ∧
      (s.wakeS2 w).cores = s.cores ∧ ∃ e ∈ (s.wakeS2 w).raised, e.2.code = St.powerWake ∧ e.2.args = [wakeCode w] := by
  have hawake (l : List (Nat × Cluster)) (c : Nat × Cluster) (hmin : c.1 < s.minAwake) (hc : c ∈ l.map fun (e : Nat × Cluster) =>
      if e.1 < s.minAwake then (e.1, { e.2 with power := .idle s.mono, epochs := s.currentEpochs }) else e) : c.2.power = .idle s.mono := by
    obtain ⟨e, -, rfl⟩ := List.mem_map.mp hc
    split
    · rfl
    next hout =>
      rw [if_neg hout] at hmin
      exact absurd hmin hout
  unfold State.wakeS2
  rw [if_pos ⟨hpower, hheld, hsource⟩]
  obtain ⟨hend, hsource', hclusters, hcores, hevent⟩ := wakeS2_end ({ s with
    porter := { s.porter with power := .s0, wakeSource := wakeCode w, wake := [] },
    clusters := s.clusters.map fun (e : Nat × Cluster) =>
      if e.1 < s.minAwake then (e.1, { e.2 with power := .idle s.mono, epochs := s.currentEpochs }) else e } : State) (wakeCode w) rfl
  exact ⟨hend, hsource', fun c hc hmin => hawake s.clusters c hmin ((congrArg (c ∈ ·) hclusters).mp hc), hcores, hevent⟩

end

/-- Settles O40: the wakes by `wakeS3_woken`, the rest by the commands' own branches. -/
theorem powerAndSleepResults : Obligations.PowerAndSleepResults := by
  unfold Obligations.PowerAndSleepResults
  intro s t q w a
  dsimp only
  refine ⟨fun h hlen htarget hzero hmax => ⟨fun hallowed => next_command h ?enters, fun hrefused => next_command h ?refused⟩,
    fun h hempty => next_command h (if_neg (not_not_intro hempty)), fun hmode hset hnone hruns hidle hclear hrights => ?idle,
    fun hentering hmode hqueued hqueue hwaiting hegress hquiet => ?s2, fun hpower hheld hsource => ?wakesS2,
    fun hentering hmode hdrained hrail => ?s3, fun hpower hheld => ⟨fun hsupply => ?returns, fun hsupply => ⟨?pin, fun halarm => ?alarm⟩,
      fun x i hsupply hlatch hmatch hstored hslot => ?fast⟩⟩
  case enters =>
    refine (if_neg ?_).trans (if_neg (ne_true_of_eq_false hallowed))
    simp only [hlen, hzero, not_true_eq_false, ne_eq, false_or, Bool.true_eq_false, not_or, Classical.not_and_iff_not_or_not, Classical.not_not, Nat.not_lt]
    exact ⟨htarget, hmax⟩
  case refused =>
    refine (if_neg ?_).trans (if_pos hrefused)
    simp only [hlen, hzero, not_true_eq_false, ne_eq, false_or, Bool.true_eq_false, not_or, Classical.not_and_iff_not_or_not, Classical.not_not, Nat.not_lt]
    exact ⟨htarget, hmax⟩
  case idle =>
    have hon := State.scOn_of_running hmode
    exact congrArg Host.Outcome.next (if_pos ⟨hon, hset, by rw [hnone]; rfl, hruns, hidle, hclear, hrights⟩)
  case s2 =>
    have hon := State.scOn_of_running hmode
    have hexec : exec .s2EntryDone s = .next (s.signal (({ s with
        porter := { s.porter with power := .s2, entering := none }
        clusters := s.clusters.map fun (e : Nat × Cluster) => (e.1, { e.2 with power := .gated }) } : State).scEvent St.powerStateEntered [2])) := by
      change execS2EntryDone s = _
      unfold execS2EntryDone
      rw [hentering]
      exact congrArg (fun v => Host.Outcome.next (s.signal v)) (if_pos ⟨hon, hqueued, hqueue, hwaiting, hegress, hquiet⟩)
    refine ⟨_, hexec, ?_⟩
    rw [signal_porter, signal_mono, signal_clusters, signal_raised]
    refine ⟨rfl, rfl, rfl, fun c hc => ?_, exists_mem_scEvent_args ..⟩
    obtain ⟨e, -, rfl⟩ := List.mem_map.mp hc
    rfl
  case wakesS2 =>
    refine ⟨_, rfl, ?_⟩
    rw [signal_porter, signal_allQuiet, signal_clusters, signal_cores, signal_raised]
    exact wakeS2_result hpower hheld hsource
  case s3 =>
    have hon := State.scOn_of_running hmode
    have hexec : exec .s3EntryDone s = .next (s.signal ((s.scEvent St.powerStateEntered [3]).leaveService.enterS3
        (if a = 0 then none else some (s.mono + a * 10 ^ 9)))) := by
      change execS3EntryDone s = _
      unfold execS3EntryDone
      rw [hentering]
      exact congrArg (fun v => Host.Outcome.next (s.signal v)) (if_pos ⟨hon, hdrained⟩)
    refine ⟨_, hexec, ?_⟩
    have hleft := State.leaveService_house (s.scEvent St.powerStateEntered [3])
    have hlost := powerLost_enterS3 hleft (if a = 0 then none else some (s.mono + a * 10 ^ 9))
    have hkept : (s.scEvent St.powerStateEntered [3]).leaveService.porter.standby = true :=
      (standby_of_house hleft).trans hrail
    have halarm := enterS3_alarm hkept (if a = 0 then none else some (s.mono + a * 10 ^ 9))
    rw [signal_porter, signal_cores, signal_sc]
    exact ⟨hlost.power.trans (if_pos hrail), halarm.1, halarm.2, hlost.cores, hlost.mode, hlost.trunk⟩
  case returns =>
    have hexec : exec (.s3Wake .mainReturn) s = .next (s.signal (({ s with porter := { s.porter with p12v := true } } : State).wakeS3 6)) :=
      congrArg (fun v => Host.Outcome.next (s.signal v)) (if_neg (ne_true_of_eq_false hsupply))
    rw [hexec]
    exact next_woken (wakeS3_woken (s := { s with porter := { s.porter with p12v := true } }) 6 hpower rfl hheld)
  case pin => exact next_woken (wakeS3_woken 4 hpower hsupply hheld)
  case alarm =>
    have hexec : exec .porterAlarm s = .next (s.signal
        (({ s with mono := max s.mono a, porter := { s.porter with alarm := none } } : State).wakeS3 5)) := by
      change execPorterAlarm s = _
      unfold execPorterAlarm
      rw [halarm]
      exact congrArg (fun v => Host.Outcome.next (s.signal v)) (if_pos hpower)
    rw [hexec]
    exact next_woken (wakeS3_woken (s := { s with mono := max s.mono a, porter := { s.porter with alarm := none } }) 5 hpower hsupply hheld)
  case fast =>
    refine ⟨_, rfl, ?_⟩
    rw [signal_sc, signal_durable]
    exact wakeS3_fast _ hpower hsupply hheld hmatch hstored hslot

end Sys2Proof.Machine

/-! ### The end of the start sequence, and the wayside loader (14 R414, R421, R422, R425, R455; 18 R526) -/

namespace Sys2Proof.Machine

@[simp] theorem signal_lanes (s t : State) : (s.signal t).lanes = t.lanes := by
  obtain ⟨o, v, b, heq⟩ := signal_eq s t
  rw [heq]
@[simp] theorem signal_lnes (s t : State) : (s.signal t).lnes = t.lnes := by
  obtain ⟨o, v, b, heq⟩ := signal_eq s t
  rw [heq]

/-! #### What the start's last steps leave alone -/

/-- The variant, the time and the platform's state: what runs up to the session identity leaves them alone. -/
structure Ground where
  variant : Variant
  mono : Nat
  plat : Platform
def State.ground (s : State) : Ground := { variant := s.variant, mono := s.mono, plat := s.plat }

theorem State.foldl_ground {α : Type} {f : State → α → State} (h : ∀ s a, (f s a).ground = s.ground) (l : List α) (s : State) :
    (l.foldl f s).ground = s.ground := by
  induction l generalizing s with
  | nil => rfl
  | cons a l ih => exact (ih (f s a)).trans (h s a)

/-- Clusters, lanes, the number of engines and the session identity: what the engines' jobs leave alone. -/
structure Released where
  clusters : List (Nat × Cluster)
  lanes : List (Nat × Lane)
  engines : Nat
  identity : Option (Bytes × Bytes)
def State.released (s : State) : Released :=
  { clusters := s.clusters, lanes := s.lanes, engines := s.lnes.length, identity := s.sc.identity }

theorem State.foldl_released {α : Type} {f : State → α → State} (h : ∀ s a, (f s a).released = s.released) (l : List α) (s : State) :
    (l.foldl f s).released = s.released := by
  induction l generalizing s with
  | nil => rfl
  | cons a l ih => exact (ih (f s a)).trans (h s a)

/-- A value put at a key that stands in the list leaves the list as long as it was. -/
theorem length_setK_of_mem {β : Type} {n : Nat} (v : β) {l : List (Nat × β)} (h : n ∈ l.map (·.1)) : (setK n v l).length = l.length := by
  induction l with
  | nil => cases h
  | cons a l ih =>
    obtain ⟨m, w⟩ := a
    unfold setK
    split
    · rfl
    next hne => exact congrArg (· + 1) (ih ((List.mem_cons.mp h).resolve_left hne))
theorem mem_keys_of_getK {β : Type} {n : Nat} {v : β} {l : List (Nat × β)} (h : getK n l = some v) : n ∈ l.map (·.1) := by
  induction l with
  | nil => cases h
  | cons a l ih =>
    obtain ⟨m, w⟩ := a
    unfold getK at h
    split at h
    next heq => exact List.mem_cons.mpr (.inl heq)
    · exact List.mem_cons_of_mem _ (ih h)

section
variable (s : State)

theorem dropStale_ground : s.dropStale.ground = s.ground := by
  unfold State.dropStale
  extract_lets seq t
  have ht : t.ground = s.ground := by
    unfold t
    split <;> rfl
  split
  · exact ht
  · exact ht
theorem deriveKeys_ground : s.deriveKeys.ground = s.ground := by
  unfold State.deriveKeys
  split <;> rfl
theorem fillArea_ground (ivs : Bytes) : (s.fillArea ivs).ground = s.ground := by
  unfold State.fillArea
  refine (State.foldl_ground (fun t ref => ?_) _ _).trans rfl
  unfold State.syncRef
  split
  · rfl
  · dsimp only
    split <;> rfl
theorem loadMicrocode_ground : s.loadMicrocode.ground = s.ground := by
  unfold State.loadMicrocode
  refine (State.foldl_ground (fun t e => ?_) _ _).trans ?_
  · rfl
  · rfl

theorem resumeLne_released (n : Nat) : (s.resumeLne n).released = s.released := by
  obtain ⟨g, p, heq, -⟩ := s.resumeLne_eq n
  rw [heq]
  rfl
theorem wakeLne_released : s.wakeLne.released = s.released := by
  have hset (n : Nat) (e : Lne) (g : Nat) (f : LneJob → LneJob) (hn : n ∈ s.lnes.map (·.1)) :
      (({ s with lnes := setK n e s.lnes } : State).updLneJob g f).released = s.released :=
    congrArg (fun m => ({ clusters := s.clusters, lanes := s.lanes, engines := m, identity := s.sc.identity } : Released))
      (length_setK_of_mem e hn)
  unfold State.wakeLne
  split
  · rfl
  · split
    · rfl
    · split
      next n hmin =>
        obtain ⟨e, he, rfl⟩ := List.mem_map.mp (List.min?_mem hmin)
        exact hset _ _ _ _ (List.mem_map_of_mem (List.mem_filter.mp he).1)
      · rfl
theorem dropLneJob_released (j : LneJob) : (s.dropLneJob j).released = s.released := by
  unfold State.dropLneJob
  split
  · split
    next e he =>
      rw [wakeLne_released, resumeLne_released]
      exact congrArg (fun m => ({ clusters := s.clusters, lanes := s.lanes, engines := m, identity := s.sc.identity } : Released))
        (length_setK_of_mem _ (mem_keys_of_getK he))
    · rfl
  · rw [wakeLne_released]
    rfl
theorem takeTicket_released : s.takeTicket.2.released = s.released := by
  unfold State.takeTicket
  dsimp only
  split <;> rfl
theorem treeCollect_released : s.treeCollect.released = s.released := by
  unfold State.treeCollect
  split
  · rfl
  · refine State.foldl_released (fun u h => ?_) _ s
    split
    · exact dropLneJob_released ..
    · rfl
theorem treeSubmit_released : s.treeSubmit.released = s.released := by
  unfold State.treeSubmit
  split
  · rfl
  · split
    · rfl
    · exact (wakeLne_released _).trans (takeTicket_released s)
theorem treeWork_released : s.treeWork.released = s.released := by
  unfold State.treeWork
  dsimp only
  rw [treeSubmit_released, treeSubmit_released, treeCollect_released]
  split <;> rfl
theorem issueIndex_released : s.issueIndex.2.released = s.released := by
  unfold State.issueIndex
  dsimp only
  split <;> rfl

/-- The building of a tree goes on beside the units that are released. -/
theorem treeWork_keeps (t : State) : t.treeWork.plat.index = t.plat.index ∧ t.treeWork.clusters = t.clusters ∧ t.treeWork.lanes = t.lanes ∧
    t.treeWork.lnes.length = t.lnes.length ∧ t.treeWork.sc.identity = t.sc.identity := by
  have hreleased := treeWork_released t
  exact ⟨congrArg (·.1) t.treeWork_signing, congrArg Released.clusters hreleased, congrArg Released.lanes hreleased,
    congrArg Released.engines hreleased, congrArg Released.identity hreleased⟩
/-- The session identity takes the next index; the units stay as they are. -/
theorem makeIdentity_result (hindex : s.plat.index < 2 ^ 40) : s.makeIdentity.plat.index = s.plat.index + 1 ∧
    s.makeIdentity.clusters = s.clusters ∧ s.makeIdentity.lanes = s.lanes ∧ s.makeIdentity.lnes.length = s.lnes.length ∧
    s.makeIdentity.sc.identity.isSome = true := by
  unfold State.makeIdentity
  rw [if_neg (Nat.not_le_of_lt hindex)]
  extract_lets r k w sc
  obtain ⟨x, e, hr⟩ : ∃ x e, r.2 = { s with expanders := x, raised := e } := s.random_eq 12 64
  obtain ⟨-, hissued⟩ := State.issueIndex_eq r.2
  have hrest : k.2.released = s.released := (issueIndex_released r.2).trans (by rw [hr]; rfl)
  have hnext : k.2.plat.index = s.plat.index + 1 := (congrArg (·.1) hissued).trans (by rw [hr])
  obtain ⟨hwork, hclusters, hlanes, hlnes, hidentity⟩ := treeWork_keeps ({ k.2 with sc := { k.2.sc with identity := some (r.1, w) } } : State)
  exact ⟨hwork.trans hnext, hclusters.trans (congrArg Released.clusters hrest), hlanes.trans (congrArg Released.lanes hrest),
    hlnes.trans (congrArg Released.engines hrest), by rw [hidentity]; rfl⟩

/-- The units leave reset idle, as many as the variant has. -/
theorem releaseUnits_result : s.releaseUnits.clusters.length = s.clusterCount ∧ s.releaseUnits.lanes.length = s.laneCount ∧
    s.releaseUnits.lnes.length = s.lneCount ∧ ∀ c ∈ s.releaseUnits.clusters, c.2.power = .idle s.mono := by
  refine ⟨by simp [State.releaseUnits], by simp [State.releaseUnits], by simp [State.releaseUnits], fun c hc => ?_⟩
  obtain ⟨n, -, rfl⟩ := List.mem_map.mp hc
  rfl

variable {s} {u : State} {ivs : Bytes}

theorem areaIvs_ground (h : s.areaIvs = (some ivs, u)) : u.ground = s.ground := by
  obtain ⟨e, r, rfl⟩ := State.recordIvs_drawn h
  rfl

/-- What a module that has started has. -/
structure Started (s t : State) : Prop where
  mode : t.sc.mode = .running
  identity : t.sc.identity.isSome = true
  clusters : t.clusters.length = s.clusterCount
  lanes : t.lanes.length = s.laneCount
  lnes : t.lnes.length = s.lneCount
  idle : ∀ c ∈ t.clusters, c.2.power = .idle s.mono
  index : t.plat.index = s.plat.index + 1
  event : ∃ e ∈ t.raised, e.2.code = St.moduleStarted

/-- The start's last steps from a state with the ground of the module that starts. -/
theorem released_identity {t : State} (hground : t.ground = s.ground) (hindex : s.plat.index < 2 ^ 40) :
    let v := t.releaseUnits.enterWaiting.makeIdentity
    v.plat.index = s.plat.index + 1 ∧ v.clusters.length = s.clusterCount ∧ v.lanes.length = s.laneCount ∧ v.lnes.length = s.lneCount ∧
      (∀ c ∈ v.clusters, c.2.power = .idle s.mono) ∧ v.sc.identity.isSome = true := by
  have hvariant : t.variant = s.variant := congrArg Ground.variant hground
  have hmono : t.mono = s.mono := congrArg Ground.mono hground
  have hplat : t.plat = s.plat := congrArg Ground.plat hground
  have hcounts : t.clusterCount = s.clusterCount ∧ t.laneCount = s.laneCount ∧ t.lneCount = s.lneCount := by
    unfold State.clusterCount State.laneCount State.lneCount
    rw [hvariant]
    exact ⟨rfl, rfl, rfl⟩
  obtain ⟨hcc, hlc, hec⟩ := hcounts
  obtain ⟨hclusters, hlanes, hlnes, hidle⟩ := releaseUnits_result t
  obtain ⟨hnext, hc, hl, he, hidentity⟩ := makeIdentity_result t.releaseUnits.enterWaiting (by rw [← hplat] at hindex; exact hindex)
  refine ⟨hnext.trans (congrArg (·.index + 1) hplat), ?_, ?_, ?_, fun c hmem => ?_, hidentity⟩
  · rw [hc]
    exact hclusters.trans hcc
  · rw [hl]
    exact hlanes.trans hlc
  · exact he.trans (hlnes.trans hec)
  · rw [hc] at hmem
    exact (hidle c hmem).trans (by rw [hmono])

theorem moduleStarted_started (hmode : s.sc.mode = .starting) (hrng : s.rng.started = true) (htrunk : s.rng.trunkWanted = false)
    (hsign : s.plat.canSign = true) (hivs : s.dropStale.deriveKeys.areaIvs = (some ivs, u)) (hdraw : u.canDraw 12 2 = true) :
    Started s s.moduleStarted := by
  have hindex : s.plat.index < 2 ^ 40 := by
    simp only [Platform.canSign, Bool.and_eq_true, decide_eq_true_eq] at hsign
    exact hsign.1.2
  have hground : ((u.fillArea ivs).loadMicrocode).ground = s.ground := by
    rw [loadMicrocode_ground, fillArea_ground, areaIvs_ground hivs, deriveKeys_ground, dropStale_ground]
  unfold State.moduleStarted
  rw [if_pos ⟨hmode, hrng, htrunk, .inl hsign⟩]
  extract_lets s1
  rw [show s1.areaIvs = (some ivs, u) from hivs]
  dsimp only
  rw [if_neg (ne_false_of_eq_true hdraw)]
  obtain ⟨hnext, hclusters, hlanes, hlnes, hidle, hidentity⟩ := released_identity hground hindex
  generalize ((u.fillArea ivs).loadMicrocode).releaseUnits.enterWaiting.makeIdentity = t at *
  obtain ⟨x, e, hr⟩ := t.random_eq 12 32
  refine ⟨rfl, ?_, ?_, ?_, ?_, ?_, ?_, exists_mem_scEvent ..⟩
  all_goals
    simp only [State.scEvent_sc, State.scEvent_clusters, State.scEvent_lanes, State.scEvent_lnes, State.scEvent_plat]
    rw [hr]
  · exact hidentity
  · exact hclusters
  · exact hlanes
  · exact hlnes
  · exact hidle
  · exact hnext

/-! #### The wayside loader -/

/-- A GO that the wayside registers take is handled. -/
theorem wayGo_taken {ctrl : BitVec 32} {op : Nat} {f : State → Nat → Nat → State}
    (h : s.waysideOn = true ∧ bit ctrl.toNat 31 = true ∧ ctrl.toNat % 16 = op ∧ s.svc.wayState ≠ 1) :
    s.wayGo ctrl op f = f
      { s with svc := { s.svc with wayOp := ctrl.toNat % 16, wayArg := bits ctrl.toNat 11 8, waySlot := bits ctrl.toNat 7 6, wayResult := 0 } }
      (bits ctrl.toNat 11 8) (bits ctrl.toNat 7 6) := by
  obtain ⟨hon, hgo, rfl, hfree⟩ := h
  exact if_pos ⟨hon, hgo, rfl, hfree⟩
theorem next_wayGo {ctrl : BitVec 32} {op : Nat} {f : State → Nat → Nat → State} {v : State}
    (h : s.waysideOn = true ∧ bit ctrl.toNat 31 = true ∧ ctrl.toNat % 16 = op ∧ s.svc.wayState ≠ 1)
    (hv : f { s with svc := { s.svc with wayOp := ctrl.toNat % 16, wayArg := bits ctrl.toNat 11 8, waySlot := bits ctrl.toNat 7 6, wayResult := 0 } }
      (bits ctrl.toNat 11 8) (bits ctrl.toNat 7 6) = v) :
    Host.Outcome.next (s.signal (s.wayGo ctrl op f)) = (.next (s.signal v) : Out) :=
  congrArg (fun t => Host.Outcome.next (s.signal t)) ((wayGo_taken h).trans hv)

end

/-- Settles O36: the end of the start by `moduleStarted_started`, the wayside operations by their own branches. -/
theorem startedAndWaysideResults : Obligations.StartedAndWaysideResults := by
  unfold Obligations.StartedAndWaysideResults
  intro s u ctrl i ivs
  dsimp only
  have hform (hslot : bits ctrl.toNat 7 6 ≤ 2) (halign : s.svc.wayAddr % 4096 = 0) (hmax : s.svc.wayLen ≤ 268435456) :
      ¬ (2 < bits ctrl.toNat 7 6 ∨ s.svc.wayAddr % 4096 ≠ 0 ∨ 268435456 < s.svc.wayLen) := by omega
  refine ⟨fun hmode hrng htrunk hsign hivs hdraw => ?started,
    fun hgo hmode hslot halign hmax => ⟨fun hlen hpass => next_wayGo hgo ?loads, fun hfails => next_wayGo hgo ?refusesImage⟩,
    fun hgo hroot haccepts => next_wayGo hgo ?revokes, fun hgo hroot => next_wayGo hgo (if_pos hroot),
    fun hgo hmode => next_wayGo hgo (if_pos hmode),
    fun hgo hmode htoken => next_wayGo hgo ((if_neg (not_not_intro hmode)).trans (if_pos htoken)),
    fun hgo hmode htoken => next_wayGo hgo ((if_neg (not_not_intro hmode)).trans (if_neg (not_not_intro htoken)))⟩
  case started =>
    have hstarted := moduleStarted_started hmode hrng htrunk hsign hivs hdraw
    have hdone : s.moduleStarted.recoveryUp = s.moduleStarted :=
      if_neg fun h => ScMode.noConfusion (hstarted.mode.symm.trans h.1)
    refine ⟨s.signal s.moduleStarted, congrArg (fun t => Host.Outcome.next (s.signal t)) hdone, ?_⟩
    rw [signal_sc, signal_clusters, signal_lanes, signal_lnes, signal_plat, signal_raised]
    exact ⟨hstarted.mode, hstarted.identity, hstarted.clusters, hstarted.lanes, hstarted.lnes, hstarted.idle, hstarted.index, hstarted.event⟩
  case loads =>
    refine (if_neg hmode).trans ((if_neg (hform hslot halign hmax)).trans (if_neg ?_))
    rintro (hother | hbad)
    · exact hother hlen
    · exact hbad hpass
  case refusesImage => exact (if_neg hmode).trans ((if_neg (hform hslot halign hmax)).trans (if_pos hfails))
  case revokes =>
    refine (if_neg (Nat.not_le_of_lt hroot)).trans ?_
    split
    next st hrefuses => cases hrefuses.symm.trans haccepts
    · rfl

end Sys2Proof.Machine

/-! ### The service port: rings, stages, requests (18 R511 to R532) -/

namespace Sys2Proof.Machine

/-! #### What a run of operations leaves of the stages -/

/-- Each stage stays, under its number and its session; one whose number is not among those given stays as it is. -/
def StagesKept (gone : List Nat) (s t : State) : Prop :=
  ∃ f : Stage → Stage, t.seq.stages = s.seq.stages.map f ∧ ∀ x, (f x).id = x.id ∧ (f x).session = x.session ∧ (x.id ∉ gone → f x = x)

section
variable {gone : List Nat} {s t u : State}

theorem StagesKept.of_eq (h : t.seq.stages = s.seq.stages) : StagesKept gone s t :=
  ⟨id, by rw [h, List.map_id], fun _ => ⟨rfl, rfl, fun _ => rfl⟩⟩
theorem StagesKept.trans (h : StagesKept gone s t) (h' : StagesKept gone t u) : StagesKept gone s u := by
  obtain ⟨f, hf, hkeeps⟩ := h
  obtain ⟨g, hg, hkeeps'⟩ := h'
  refine ⟨g ∘ f, by rw [hg, hf, List.map_map], fun x => ?_⟩
  obtain ⟨hid, hsession, hsame⟩ := hkeeps x
  obtain ⟨hid', hsession', hsame'⟩ := hkeeps' (f x)
  refine ⟨hid'.trans hid, hsession'.trans hsession, fun hx => ?_⟩
  exact (hsame' (by rw [hid]; exact hx)).trans (hsame hx)
theorem StagesKept.foldl {α : Type} {f : State → α → State} {l : List α} (h : ∀ v, ∀ a ∈ l, StagesKept gone v (f v a)) (s : State) :
    StagesKept gone s (l.foldl f s) := by
  induction l generalizing s with
  | nil => exact StagesKept.of_eq rfl
  | cons a l ih => exact (h s a List.mem_cons_self).trans (ih (fun v b hb => h v b (List.mem_cons_of_mem _ hb)) (f s a))

/-- A STAGE_APPLY that is given up touches its own stage. -/
theorem withdrawApply_stagesKept (s : State) {g : Nat} (hg : g ∈ gone) (st : Status) : StagesKept gone s (s.withdrawApply g st) := by
  have hanswer (v : State) (q : Request) (b : Bytes) : StagesKept gone v (v.endWait q st b) := StagesKept.of_eq rfl
  have hupd (v : State) : StagesKept gone v (v.updStage g fun x => { x with applying := none }) := by
    refine ⟨fun x => if x.id = g then { x with applying := none } else x, rfl, fun x => ?_⟩
    dsimp only
    split
    next hid => exact ⟨rfl, rfl, fun hx => absurd (hid ▸ hg) hx⟩
    · exact ⟨rfl, rfl, fun _ => rfl⟩
  unfold State.withdrawApply
  refine StagesKept.trans (StagesKept.foldl (fun v w _ => ?_) s) (StagesKept.foldl (fun v w _ => hanswer ..) _)
  split
  · exact StagesKept.trans (StagesKept.of_eq rfl) (hupd _)
  · exact StagesKept.of_eq rfl

/-- Stages that are dropped are those of a test whose commit is not accepted; nothing else of the sequencer's stages changes. -/
theorem dropStages_stages (s : State) (f : Stage → Bool) :
    let gone := s.seq.stages.filter fun g => f g && !s.applyAccepted g.id
    ∃ t : State, StagesKept (gone.map (·.id)) s t ∧
      (s.dropStages f).seq.stages = t.seq.stages.filter fun x => gone.all fun g => g.id != x.id := by
  intro gone
  refine ⟨gone.foldl (fun t g => t.withdrawApply g.id St.stageNotFound) s,
    StagesKept.foldl (fun v g hg => withdrawApply_stagesKept v (List.mem_map_of_mem hg) _) s, ?_⟩
  have hevents (l : List Stage) (v : State) : (l.foldl (fun t g => t.scEvent St.stageDiscarded [g.id]) v).seq = v.seq := by
    induction l generalizing v with
    | nil => rfl
    | cons g l ih => exact ih _
  exact congrArg Sequencer.stages (hevents ..)

/-- Dropping stages changes the sequencer, the waiting commands and the events alone. -/
theorem dropStages_eq (s : State) (f : Stage → Bool) : ∃ q x r, s.dropStages f = { s with seq := q, sc := x, raised := r } := by
  have hfold {α : Type} {g : State → α → State} (h : ∀ t a, ∃ q x r, g t a = { t with seq := q, sc := x, raised := r }) (l : List α) (t : State) :
      ∃ q x r, l.foldl g t = { t with seq := q, sc := x, raised := r } := by
    induction l generalizing t with
    | nil => exact ⟨t.seq, t.sc, t.raised, rfl⟩
    | cons a l ih =>
      obtain ⟨q, x, r, hfirst⟩ := h t a
      obtain ⟨q', x', r', hrest⟩ := ih (g t a)
      exact ⟨q', x', r', hrest.trans (by rw [hfirst])⟩
  unfold State.dropStages
  extract_lets gone t
  obtain ⟨q, x, r, ht⟩ := hfold (fun v (g : Stage) => by
    obtain ⟨q, x, heq⟩ := v.withdrawApply_eq g.id St.stageNotFound
    exact ⟨q, x, v.raised, heq⟩) gone s
  obtain ⟨q', x', r', hrest⟩ := hfold (g := fun (t : State) (g : Stage) => t.scEvent St.stageDiscarded [g.id])
    (fun v g => ⟨v.seq, v.sc, _, rfl⟩) gone
    { t with seq := { t.seq with stages := t.seq.stages.filter fun x => gone.all fun g => g.id != x.id } }
  refine ⟨q', x', r', hrest.trans ?_⟩
  rw [show t = _ from ht]

/-! #### The end of the port's session (R512, R532) -/

/-- A step that changes no field that the interrupt register watches leaves the service port to its own effect. -/
theorem signal_svc (h : intBits s t = 0) : (s.signal t).svc = t.svc := by
  have hquiet : intBits s { t with smb := { t.smb with alert := t.smb.alert ||| alertBits s t } } = 0 := h
  unfold State.signal
  dsimp only
  rw [if_neg fun hraise => hraise.1 hquiet]
/-- No field of the interrupt register changes between states of one mode that differ elsewhere. -/
theorem intBits_eq_zero (hmode : t.sc.mode = s.sc.mode) (hporter : t.porter = s.porter) (hguest : t.guest = s.guest)
    (hcustody : t.custody = s.custody) (hplat : t.plat = s.plat) (hpair : t.pair = s.pair) : intBits s t = 0 := by
  have hstatus : t.statusFields = s.statusFields := by
    unfold State.statusFields State.ready State.waysideOn State.fatalHalted
    rw [hmode, hporter, hguest]
  have hcode : t.pairCode = s.pairCode := by
    unfold State.pairCode
    rw [hpair]
  unfold intBits
  rw [hstatus, hcode, hcustody, hplat, hguest]
  simp

/-- What an end of the service port's session leaves: reset registers, everything ticketed, and the stages that are no ring's or whose commit is
accepted. -/
theorem endService_result (hup : s.svc.linkUp = true) : ∃ t, (.next (s.signal s.endService) : Out) = .next t ∧
    t.svc = { linkUp := true, gen := s.svc.gen } ∧ t.disp = s.disp ∧ t.cores = s.cores ∧
    (∀ g ∈ t.seq.stages, g.session = none → s.applyAccepted g.id = true) ∧
    (∀ g ∈ s.seq.stages, (∀ x ∈ s.seq.stages, x.id = g.id → x.session ≠ none) → g ∈ t.seq.stages) ∧ t.durable = s.durable := by
  have hend : s.endService = { s.dropStages (fun g => g.session.isNone) with svc := { linkUp := true, gen := s.svc.gen } } :=
    if_neg (ne_false_of_eq_true hup)
  obtain ⟨q, x, r, hdrop⟩ := dropStages_eq s fun g => g.session.isNone
  have hmode : (s.dropStages fun g => g.session.isNone).sc.mode = s.sc.mode := congrArg Steady.mode (State.dropStages_steady ..)
  have hquiet : intBits s s.endService = 0 := by
    rw [hend]
    rw [hdrop] at hmode ⊢
    exact intBits_eq_zero hmode rfl rfl rfl rfl rfl
  obtain ⟨t, ⟨f, hstages, hkeeps⟩, hleft⟩ := dropStages_stages s fun g => g.session.isNone
  refine ⟨_, rfl, ?_⟩
  rw [signal_svc hquiet, signal_disp, signal_cores, signal_seq, signal_durable, hend]
  refine ⟨rfl, by rw [hdrop], by rw [hdrop], fun g hg hring => ?_, fun g hg hsession => ?_, by rw [hdrop]⟩
  · rw [hleft, hstages] at hg
    obtain ⟨hmem, hall⟩ := List.mem_filter.mp hg
    obtain ⟨y, hy, rfl⟩ := List.mem_map.mp hmem
    obtain ⟨hid, hses, -⟩ := hkeeps y
    refine Decidable.byContradiction fun hopen => ?_
    have hgone : y ∈ s.seq.stages.filter fun g => g.session.isNone && !s.applyAccepted g.id := by
      rw [hid] at hopen
      refine List.mem_filter.mpr ⟨hy, ?_⟩
      rw [← hses, hring, eq_false_of_ne_true hopen]
      rfl
    have hne := List.all_eq_true.mp hall y hgone
    rw [hid] at hne
    simp at hne
  · have hother : ∀ y ∈ s.seq.stages.filter (fun g => g.session.isNone && !s.applyAccepted g.id), y.id ≠ g.id := by
      intro y hy hid
      obtain ⟨hmem, hnone⟩ := List.mem_filter.mp hy
      rw [Bool.and_eq_true, Option.isNone_iff_eq_none] at hnone
      exact hsession y hmem hid hnone.1
    rw [hleft, hstages]
    have hsame : f g = g := by
      refine (hkeeps g).2.2 fun hmem => ?_
      obtain ⟨y, hy, hid⟩ := List.mem_map.mp hmem
      exact hother y hy hid
    refine List.mem_filter.mpr ⟨List.mem_map.mpr ⟨g, hg, hsame⟩, List.all_eq_true.mpr fun y hy => ?_⟩
    exact bne_iff_ne.mpr (hother y hy)

/-! #### Rings -/

section
variable {n m : Nat} {r : Ring}

theorem setRing_eq (hn : n < 8) (s : State) (r : Ring) : s.setRing n r = { s with svc := { s.svc with rings := s.svc.rings.set n r } } := dif_pos hn
@[simp] theorem State.ring_setRing (hn : n < 8) (s : State) (r : Ring) : (s.setRing n r).ring n = r := by
  rw [setRing_eq hn]
  unfold State.ring
  rw [dif_pos hn]
  exact Vector.getElem_set_self ..
@[simp] theorem State.ring_emit (s : State) (o : Output) : (s.emit o).ring m = s.ring m := rfl
@[simp] theorem State.ring_raiseInt (s : State) (b : BitVec 6) : (s.raiseInt b).ring m = s.ring m := by
  unfold State.raiseInt
  dsimp only
  split <;> rfl
@[simp] theorem State.ring_signal (s t : State) : (s.signal t).ring m = t.ring m := by
  unfold State.signal
  dsimp only
  split
  · exact State.ring_raiseInt ..
  · rfl
/-- A signalled ring has signalled all its completions. -/
theorem State.ring_signalRing (hn : n < 8) (s : State) : (s.signalRing n).ring n = { s.ring n with unsignalled := 0 } := by
  unfold State.signalRing
  dsimp only
  split
  · exact State.ring_setRing hn ..
  · rw [State.ring_emit, State.ring_setRing hn]
theorem mem_signalRing_outputs {o : Output} (hn : n < 8) (ho : o ∈ s.outputs) : o ∈ (s.signalRing n).outputs := by
  unfold State.signalRing
  dsimp only
  rw [setRing_eq hn]
  split
  · exact ho
  · exact List.mem_cons_of_mem _ ho

theorem lt_of_ringOn (hon : s.ringOn n = true) : n < 8 := by
  simp only [State.ringOn, Bool.and_eq_true, decide_eq_true_eq] at hon
  exact hon.2

end

/-! #### The request of an entry (R39, R523) -/

theorem mem_insertRanked {rank : Request → Nat} {q a : Request} {l : List Request} : a ∈ insertRanked rank q l ↔ a = q ∨ a ∈ l := by
  induction l with
  | nil => simp [insertRanked]
  | cons x l ih =>
    unfold insertRanked
    split
    · exact List.mem_cons
    · rw [List.mem_cons, ih, List.mem_cons]
      exact or_left_comm
theorem length_insertRanked (rank : Request → Nat) (q : Request) (l : List Request) : (insertRanked rank q l).length = l.length + 1 := by
  induction l with
  | nil => rfl
  | cons x l ih =>
    unfold insertRanked
    split
    · rfl
    · exact congrArg (· + 1) ih
/-- The order of stamping has the requests of the run, no more and no less. -/
theorem mem_ranked {rank : Request → Nat} {a : Request} (run l : List Request) (h : a ∈ run ∨ a ∈ l) :
    a ∈ run.foldl (fun l q => insertRanked rank q l) l := by
  induction run generalizing l with
  | nil => exact h.resolve_left List.not_mem_nil
  | cons q run ih =>
    refine ih _ ?_
    rw [mem_insertRanked, ← or_assoc, or_comm (b := a = q), ← List.mem_cons]
    exact h
theorem length_ranked (rank : Request → Nat) (run l : List Request) :
    (run.foldl (fun l q => insertRanked rank q l) l).length = run.length + l.length := by
  induction run generalizing l with
  | nil => exact (Nat.zero_add _).symm
  | cons q run ih =>
    refine (ih _).trans ?_
    rw [length_insertRanked, List.length_cons]
    omega

/-- Requests of a cycle keep all but their tickets when these are put in order. -/
theorem orderStamps_queued (s : State) {run : List Request} {q : Request} (hq : q ∈ run) :
    ∃ n, { q with ticket := n } ∈ (s.orderStamps run).disp.queued := by
  have hmem : q ∈ run.foldl (fun l q => insertRanked s.sourceRank q l) [] := mem_ranked run [] (.inl hq)
  have hlen : (run.foldl (fun l q => insertRanked s.sourceRank q l) []).length ≤ (run.map (·.ticket)).length := by
    rw [length_ranked, List.length_map]
    exact Nat.le_refl _
  rw [← List.map_fst_zip hlen] at hmem
  obtain ⟨e, he, rfl⟩ := List.mem_map.mp hmem
  exact ⟨e.2, List.mem_append_right _ (List.mem_map.mpr ⟨e, he, rfl⟩)⟩

theorem cancelSleep_disp (s : State) : s.cancelSleep.disp = s.disp ∧ s.cancelSleep.svc = s.svc := by
  unfold State.cancelSleep
  split <;> exact ⟨rfl, rfl⟩
theorem takeTicket_queued (s : State) : s.takeTicket.2.disp.queued = s.disp.queued ∧ s.takeTicket.2.svc = s.svc := by
  unfold State.takeTicket
  dsimp only
  split <;> exact ⟨rfl, rfl⟩

/-- A request that is stamped joins the queued ones; the ports' registers stay. -/
theorem stampRequest_joins (s : State) (r : Request) : (s.stampRequest r none).svc = s.svc ∧
    ∃ q, q ∈ (s.stampRequest r none).disp.queued ∧ (s.stampedNow = [] →
      (s.stampRequest r none).disp.queued = s.disp.queued ++ [q] ∧ q.ticket = s.disp.nextTicket) ∧
      ∃ k, q = { r with ticket := k, at0 := s.mono, cycle := s.cycle } := by
  obtain ⟨hqueued, hsvc⟩ := takeTicket_queued s
  unfold State.stampRequest
  dsimp only
  obtain ⟨hdisp, hsvc'⟩ := cancelSleep_disp ({ s.takeTicket.2 with disp := { s.takeTicket.2.disp with
    queued := s.takeTicket.2.disp.queued ++ [{ r with ticket := s.takeTicket.1, at0 := s.mono, cycle := s.cycle }] } } : State)
  split
  · refine ⟨hsvc'.trans hsvc, { r with ticket := s.takeTicket.1, at0 := s.mono, cycle := s.cycle }, ?_, fun _ => ⟨?_, rfl⟩, _, rfl⟩
    · rw [hdisp]
      exact List.mem_append_right _ (List.mem_singleton_self _)
    · rw [hdisp]
      exact congrArg (· ++ _) hqueued
  next hrun =>
    obtain ⟨k, hk⟩ := orderStamps_queued (State.cancelSleep ({ s.takeTicket.2 with disp := { s.takeTicket.2.disp with
      queued := s.takeTicket.2.disp.queued ++ [{ r with ticket := s.takeTicket.1, at0 := s.mono, cycle := s.cycle }] } } : State))
      (run := s.stampedNow ++ [{ r with ticket := s.takeTicket.1, at0 := s.mono, cycle := s.cycle }])
      (List.mem_append_right _ (List.mem_singleton_self _))
    exact ⟨hsvc'.trans hsvc, _, hk, fun hempty => absurd (.inl (by rw [hempty]; rfl)) hrun, k, rfl⟩

end

end Sys2Proof.Machine

/-! ### The service port's commands (18 R511 to R532) -/

namespace Sys2Proof.Machine

section
variable {s : State} {n off res x64 : Nat} {e : SqEntry} {item : Bytes} {sp : Bool}

theorem spillCheck_keeps (s : State) (p : Nat) (b : Bool) : (s.spillCheck p b).svc = s.svc ∧ (s.spillCheck p b).disp = s.disp := by
  unfold State.spillCheck
  split <;> exact ⟨rfl, rfl⟩

theorem ring_of_svc {s t : State} {m : Nat} (h : t.svc = s.svc) : t.ring m = s.ring m := by
  unfold State.ring
  rw [h]

/-- A sound entry whose request is admitted takes its place in its ring, and the request joins queue 3 of partition 0 (R523). -/
theorem ringFetch_taken (hon : s.ringOn n = true) (hruns : s.fabricRuns = true) (henabled : (s.ring n).enable = true)
    (hsome : (s.ring n).sqHead ≠ (s.ring n).sqTail) (hroom : (s.ring n).load + 1 < (s.ring n).cqSize) (hsound : entryBad e = false)
    (hform : ringItemError (itemHeader item) e = none) (hopen : s.arrivalRefusal (itemHeader item).verb = none)
    (htaken : s.admitCharge 0 3 (chargeOf (itemHeader item).bodyLen) = .taken res sp) :
    ∃ q, ((s.ringFetch n e (some item)).ring n).sqHead = ((s.ring n).sqHead + 1) % (s.ring n).sqSize ∧
      ((s.ringFetch n e (some item)).ring n).slots = (s.ring n).slots ++
        [{ key := s.svc.gen, index := (s.ring n).sqHead, addr := e.respAddr, max := e.respMax, reqId := beAt item 0 8 }] ∧
      q ∈ (s.ringFetch n e (some item)).disp.queued ∧
      (s.stampedNow = [] → (s.ringFetch n e (some item)).disp.queued = s.disp.queued ++ [q] ∧ q.ticket = s.disp.nextTicket) ∧
      q.partition = 0 ∧ q.queue = 3 ∧ q.verb = (itemHeader item).verb ∧ q.body = slice item 24 (itemHeader item).bodyLen ∧
      q.origin = .ring n s.svc.gen := by
  have hn := lt_of_ringOn hon
  unfold State.ringFetch
  dsimp only
  rw [if_neg (by simp [hon, hruns, henabled, hsome]; omega), if_neg (ne_true_of_eq_false hsound)]
  have hplace := State.ring_setRing hn ({ s with svc := { s.svc with gen := s.svc.gen + 1 } } : State)
    { s.ring n with
      sqHead := ((s.ring n).sqHead + 1) % (s.ring n).sqSize,
      slots := (s.ring n).slots ++ [{ key := s.svc.gen, index := (s.ring n).sqHead, addr := e.respAddr, max := e.respMax, reqId := beAt item 0 8 }] }
  rw [setRing_eq hn] at hplace ⊢
  unfold State.ringRequest
  dsimp only
  rw [hform]
  dsimp only at hplace ⊢
  generalize hs' : ({ s with svc := _ } : State) = s' at hplace ⊢
  have hopen' : s'.arrivalRefusal (itemHeader item).verb = none := by
    rw [← hs']
    exact hopen
  have htaken' : s'.admitCharge 0 3 (chargeOf (itemHeader item).bodyLen) = .taken res sp := by
    rw [← hs']
    exact htaken
  rw [hopen']
  dsimp only
  rw [htaken']
  dsimp only
  have hstamped : s'.stampedNow = s.stampedNow := by
    rw [← hs']
    rfl
  have hdisp : s'.disp = s.disp := by rw [← hs']
  obtain ⟨hsvc, q, hq, hlast, k, hk⟩ := stampRequest_joins s'
    { partition := 0, queue := 3, verb := (itemHeader item).verb, body := slice item 24 (itemHeader item).bodyLen,
      charge := chargeOf (itemHeader item).bodyLen, reserved := res, spilled := sp, origin := .ring n s.svc.gen }
  obtain ⟨hsvc', hdisp'⟩ := spillCheck_keeps (s'.stampRequest
    { partition := 0, queue := 3, verb := (itemHeader item).verb, body := slice item 24 (itemHeader item).bodyLen,
      charge := chargeOf (itemHeader item).bodyLen, reserved := res, spilled := sp, origin := .ring n s.svc.gen } none) 0 sp
  rw [ring_of_svc (hsvc'.trans hsvc), hplace, hdisp']
  rw [hstamped, hdisp] at hlast
  subst hk
  exact ⟨_, rfl, rfl, hq, hlast, rfl, rfl, rfl, rfl, rfl⟩

/-! #### Completions (R519, R521, R524) -/

section
variable {key : Nat} {resp : Response} {l : List (Nat × Response)} {x : RingSlot}

/-- The interrupt message that may follow a completion touches the count of those without one. -/
theorem signalRing_after {r : Ring} {o : Output} {c : Prop} [Decidable c] (hn : n < 8) (s : State) :
    let t := if c then ((s.emit o).setRing n r).signalRing n else (s.emit o).setRing n r
    ((t.ring n).ready = r.ready ∧ (t.ring n).slots = r.slots ∧ (t.ring n).cqTail = r.cqTail ∧ (t.ring n).phase = r.phase) ∧ o ∈ t.outputs := by
  have hout : o ∈ ((s.emit o).setRing n r).outputs := by
    rw [setRing_eq hn]
    exact mem_emit_outputs s o
  dsimp only
  split
  · rw [State.ring_signalRing hn, State.ring_setRing hn]
    exact ⟨⟨rfl, rfl, rfl, rfl⟩, mem_signalRing_outputs hn hout⟩
  · rw [State.ring_setRing hn]
    exact ⟨⟨rfl, rfl, rfl, rfl⟩, hout⟩
/-- A completion that is written takes its response and its entry from the ring. -/
theorem ringComplete_written (hon : s.ringOn n = true) (hready : (s.ring n).ready = (key, resp) :: l)
    (hslot : (s.ring n).slots.find? (·.key == key) = some x) :
    let r := s.ring n
    let out := if resp.streamPart = 3 then [] else responseHeader x.reqId resp false false ++ resp.body
    let t := s.ringComplete n true
    ((t.ring n).ready = l ∧ (t.ring n).slots = r.slots.filter (fun y => y.key != key) ∧
      (t.ring n).cqTail = (if r.cqTail + 1 < r.cqSize then r.cqTail + 1 else 0) ∧
      (t.ring n).phase = (if r.cqTail + 1 < r.cqSize then r.phase else !r.phase)) ∧
    .completion n x.index out.length resp.status r.phase (decide (x.max < out.length)) x.addr (out.take x.max) ∈ t.outputs := by
  have hn := lt_of_ringOn hon
  unfold State.ringComplete
  dsimp only
  rw [hready]
  dsimp only
  rw [hslot]
  dsimp only
  rw [if_neg (Bool.true_eq_false ▸ not_false)]
  have hwrap : (if (if (s.ring n).cqTail + 1 < (s.ring n).cqSize then (s.ring n).cqTail + 1 else 0) = 0 then !(s.ring n).phase else (s.ring n).phase) =
      if (s.ring n).cqTail + 1 < (s.ring n).cqSize then (s.ring n).phase else !(s.ring n).phase := by
    by_cases htail : (s.ring n).cqTail + 1 < (s.ring n).cqSize
    · rw [if_pos htail, if_pos htail, if_neg (Nat.succ_ne_zero _)]
    · rw [if_neg htail, if_neg htail, if_pos rfl]
  obtain ⟨⟨hleft, hslots, htail, hphase⟩, hout⟩ := signalRing_after
    (r := { s.ring n with
      ready := l, slots := (s.ring n).slots.filter fun y => y.key != key,
      cqTail := if (s.ring n).cqTail + 1 < (s.ring n).cqSize then (s.ring n).cqTail + 1 else 0,
      phase := if (if (s.ring n).cqTail + 1 < (s.ring n).cqSize then (s.ring n).cqTail + 1 else 0) = 0 then !(s.ring n).phase else (s.ring n).phase,
      unsignalled := (s.ring n).unsignalled + 1, firstUnsignalled := if (s.ring n).unsignalled = 0 then s.mono else (s.ring n).firstUnsignalled })
    (o := .completion n x.index (if resp.streamPart = 3 then [] else responseHeader x.reqId resp false false ++ resp.body).length resp.status
      (s.ring n).phase (decide (x.max < (if resp.streamPart = 3 then [] else responseHeader x.reqId resp false false ++ resp.body).length)) x.addr
      ((if resp.streamPart = 3 then [] else responseHeader x.reqId resp false false ++ resp.body).take x.max))
    (c := max 1 (s.ring n).count ≤ (s.ring n).unsignalled + 1) hn s
  exact ⟨⟨hleft, hslots, htail, hphase.trans hwrap⟩, hout⟩
/-- A completion that cannot be written stops the ring. -/
theorem ringComplete_fails (hready : (s.ring n).ready = (key, resp) :: l) (hslot : (s.ring n).slots.find? (·.key == key) = some x) :
    s.ringComplete n false = (s.setRing n { s.ring n with slots := [], ready := [] }).stopRing n 4 := by
  unfold State.ringComplete
  dsimp only
  rw [hready]
  dsimp only
  rw [hslot]
  exact if_pos rfl

end

/-! #### Registers (R511, R513, R514, R518) -/

theorem reg64_lt {v : Nat} (h : s.reg64 off = some v) : off < 0x2000 := by
  unfold State.reg64 at h
  split at h
  · omega
  · split at h
    · omega
    · split at h
      · omega
      · split at h
        · omega
        · cases h
/-- A 64-bit register's low word is read as such, and its high word is latched. -/
theorem readReg_low (hready : s.ready = true) (h : s.reg64 off = some x64) : s.readReg off = x64 % 2 ^ 32 := by
  have hlow := reg64_lt h
  unfold State.readReg
  rw [if_neg (by omega), if_neg (by simp [hready]), h]
theorem readReg_high (hready : s.ready = true) (h : s.reg64 off = none) (hhigh : s.isHigh off = true) : s.readReg off = s.svc.latch := by
  have hlow : off < 0x2004 := by
    simp only [State.isHigh, Bool.and_eq_true, decide_eq_true_eq] at hhigh
    obtain ⟨v, hv⟩ := Option.isSome_iff_exists.mp hhigh.2
    have := reg64_lt hv
    omega
  unfold State.readReg
  rw [if_neg (by omega), if_neg (by simp [hready]), h]
  exact if_pos hhigh

/-- A register outside the wayside ones is written once READY is set. -/
theorem exec_registerWrite {v : BitVec 32} {t : State} (h : s.writeReg off v = t) : exec (.registerWrite off v) s = .next (s.signal t) :=
  congrArg (fun t => Host.Outcome.next (s.signal t)) h

end

/-- Settles O54: the ends by `endService_result`, the entries by `ringFetch_taken`, the rest by the commands' own branches. -/
theorem servicePortResults : Obligations.ServicePortResults := by
  unfold Obligations.ServicePortResults
  intro s n off v e item res key x64 resp l x
  dsimp only
  refine ⟨fun hup => endService_result hup, fun hup => endService_result hup, fun hup => endService_result hup, fun hup => endService_result hup,
    fun hon henabled => ⟨fun hin => ?sqMoves, fun hout => ?sqStops, fun hin => ?cqMoves, fun hout => ?cqStops⟩,
    fun hon => ⟨fun heven => ?disables, fun hodd hoff hsound => ?starts, fun hodd hoff hunsound => ?unsound⟩,
    fun hon hruns henabled hsome hroom => ⟨fun i hbad => ?bad, fun hsound => ?unreadable, fun hsound hform hopen sp htaken => ?taken⟩,
    fun hon hready hslot => ⟨?completes, ?stops⟩, fun hon hsome => congrArg Host.Outcome.next (if_pos ⟨hon, hsome⟩),
    fun hup haligned hready => ⟨fun hlow => ?low, fun hnone hhigh => ?high⟩,
    fun hup hready => ⟨⟨?clears, rfl⟩, ?enables, ?clearsSlot, fun o ho => ?readOnly⟩⟩
  case sqMoves =>
    exact congrArg (fun t => Host.Outcome.next (s.signal t)) ((if_neg (by simp [hon, henabled])).trans (if_neg (Nat.not_le_of_lt hin)))
  case sqStops => exact congrArg (fun t => Host.Outcome.next (s.signal t)) ((if_neg (by simp [hon, henabled])).trans (if_pos hout))
  case cqMoves =>
    exact congrArg (fun t => Host.Outcome.next (s.signal t)) ((if_neg (by simp [hon, henabled])).trans (if_neg (Nat.not_le_of_lt hin)))
  case cqStops => exact congrArg (fun t => Host.Outcome.next (s.signal t)) ((if_neg (by simp [hon, henabled])).trans (if_pos hout))
  case disables =>
    have hn := lt_of_ringOn hon
    refine ⟨_, congrArg (fun t => Host.Outcome.next (s.signal t)) ((if_neg (ne_false_of_eq_true hon)).trans (if_pos heven)), ?_⟩
    rw [State.ring_signal, State.ring_setRing hn]
  case starts =>
    have hn := lt_of_ringOn hon
    refine ⟨_, congrArg (fun t => Host.Outcome.next (s.signal t)) ((if_neg (ne_false_of_eq_true hon)).trans
      ((if_neg (by omega)).trans ((if_neg (ne_true_of_eq_false hoff)).trans (if_neg (ne_false_of_eq_true hsound))))), ?_⟩
    rw [State.ring_signal, State.ring_setRing hn]
    exact ⟨rfl, rfl, rfl, rfl, rfl, rfl⟩
  case unsound =>
    have hn := lt_of_ringOn hon
    refine ⟨_, congrArg (fun t => Host.Outcome.next (s.signal t)) ((if_neg (ne_false_of_eq_true hon)).trans
      ((if_neg (by omega)).trans ((if_neg (ne_true_of_eq_false hoff)).trans (if_pos hunsound)))), ?_⟩
    rw [State.ring_signal, State.ring_setRing hn]
    exact ⟨hoff, rfl⟩
  case bad =>
    exact congrArg (fun t => Host.Outcome.next (s.signal t)) ((if_neg (by simp [hon, hruns, henabled, hsome]; omega)).trans (if_pos hbad))
  case unreadable =>
    exact congrArg (fun t => Host.Outcome.next (s.signal t)) ((if_neg (by simp [hon, hruns, henabled, hsome]; omega)).trans
      (if_neg (ne_true_of_eq_false hsound)))
  case taken =>
    obtain ⟨q, hhead, hslots, hqueued, hlast, hrest⟩ := ringFetch_taken hon hruns henabled hsome hroom hsound hform hopen htaken
    refine ⟨s.signal (s.ringFetch n e (some item)), q, rfl, ?_⟩
    rw [State.ring_signal, signal_disp]
    exact ⟨hhead, hslots, hqueued, hlast, hrest⟩
  case completes =>
    obtain ⟨hrings, hout⟩ := ringComplete_written hon hready hslot
    refine ⟨_, congrArg (fun t => Host.Outcome.next (s.signal t)) (if_pos hon), mem_signal_outputs hout, ?_⟩
    rw [State.ring_signal]
    exact hrings
  case stops => exact congrArg (fun t => Host.Outcome.next (s.signal t)) ((if_pos hon).trans (ringComplete_fails hready hslot))
  case low =>
    have hopen : ¬ (s.svc.linkUp = false ∨ off % 4 ≠ 0) := by simp [hup, haligned]
    refine congrArg Host.Outcome.next ((if_neg hopen).trans ?_)
    dsimp only
    rw [hlow, readReg_low hready hlow]
    exact if_pos hready
  case high =>
    have hopen : ¬ (s.svc.linkUp = false ∨ off % 4 ≠ 0) := by simp [hup, haligned]
    refine congrArg Host.Outcome.next ((if_neg hopen).trans ?_)
    dsimp only
    rw [hnone, readReg_high hready hnone hhigh]
  case clears => exact exec_registerWrite (by simp [State.writeReg, hup, hready])
  case enables => exact exec_registerWrite (by simp [State.writeReg, hup, hready])
  case clearsSlot => exact exec_registerWrite (by simp [State.writeReg, hup, hready])
  case readOnly =>
    refine exec_registerWrite ?_
    simp only [List.mem_cons, List.not_mem_nil, or_false] at ho
    obtain rfl | rfl | rfl | rfl | rfl | rfl | rfl | rfl | rfl | rfl | rfl | rfl := ho
    all_goals simp [State.writeReg, hup, hready]

end Sys2Proof.Machine

/-! ### The Guestbook's counting, tap FIFOs and windows (17 R482 to R496) -/

namespace Sys2Proof.Machine

@[simp] theorem signal_guest (s t : State) : (s.signal t).guest = t.guest := by
  obtain ⟨o, v, b, heq⟩ := signal_eq s t
  rw [heq]

section
variable {α β : Type} [DecidableEq α] {k k' : α} {v d : β} {l : List (α × β)}

theorem getD_setK_same : getD k d (setK k v l) = v := by
  unfold getD
  rw [getK_setK_same]
  rfl
theorem getD_setK_other (h : k' ≠ k) : getD k' d (setK k v l) = getD k' d l := by
  unfold getD
  rw [getK_setK_other h]

end

/-! #### Counts rise -/

section
variable {s : State}

/-- A count below its limit rises. -/
theorem countEvent_rises {i : Nat} (hlow : getD i 0 s.guest.window.counts < 2 ^ 32 - 1) :
    getD i 0 (s.countEvent i).guest.window.counts = getD i 0 s.guest.window.counts + 1 := by
  have heq : s.countEvent i = s.setWindow { s.guest.window with counts := setK i (getD i 0 s.guest.window.counts + 1) s.guest.window.counts } :=
    if_pos hlow
  rw [heq]
  exact getD_setK_same
theorem countSuppressed_rises {i : Nat} (hlow : getD i 0 s.guest.window.suppressed < 2 ^ 32 - 1) :
    getD i 0 (s.countSuppressed i).guest.window.suppressed = getD i 0 s.guest.window.suppressed + 1 := by
  have heq : s.countSuppressed i =
      s.setWindow { s.guest.window with suppressed := setK i (getD i 0 s.guest.window.suppressed + 1) s.guest.window.suppressed } := if_pos hlow
  rw [heq]
  exact getD_setK_same
/-- A sample's bucket below its limit rises. -/
theorem countSample_rises {m v t : Nat} (hlow : getD (sampleBucket v) 0 (getD m {} s.guest.window.metrics).buckets < 2 ^ 32 - 1) :
    getD (sampleBucket v) 0 (getD m {} (s.countSample m v t).guest.window.metrics).buckets =
      getD (sampleBucket v) 0 (getD m {} s.guest.window.metrics).buckets + 1 := by
  unfold State.countSample
  extract_lets w x b c y z u
  rw [if_pos hlow]
  unfold State.setWindow
  rw [getD_setK_same]
  exact getD_setK_same

/-! #### Tap FIFOs (R482 to R486) -/

variable {n : Nat} {f : TapFifo} {it x : TapItem} {l : List TapItem}

@[simp] theorem State.fifo_setFifo (s : State) (n : Nat) (f : TapFifo) : (s.setFifo n f).fifo n = f := getD_setK_same

/-- An item for which there is room goes to the end. -/
theorem push_fits (fuel : Nat) (hroom : f.occupancy + it.words ≤ 256) : TapFifo.push it (fuel + 1) f = { f with items := f.items ++ [it] } := if_pos hroom
/-- Where there is none the oldest item makes room and is lost. -/
theorem push_displaces (fuel : Nat) (hfull : 256 < f.occupancy + it.words) (hitems : f.items = x :: l) :
    TapFifo.push it (fuel + 1) f = TapFifo.push it fuel (({ f with items := l } : TapFifo).lose 1) := by
  refine (if_neg (Nat.not_le_of_lt hfull)).trans ?_
  rw [hitems]

/-- A read returns the first items, and leaves the others. -/
theorem itemRun_append_drop (k : Nat) (l : List TapItem) : itemRun k l ++ l.drop (itemRun k l).length = l := by
  induction l generalizing k with
  | nil => cases k <;> rfl
  | cons a l ih =>
    unfold itemRun
    split
    · exact congrArg (a :: ·) (ih _)
    · rfl

/-! #### Windows (R493 to R496) -/

/-- The loss of items is recorded at the end of a window; the Guestbook stays as it has become. -/
theorem foldl_tapItemsLost_guest (l : List (Nat × Nat)) (s : State) :
    (l.foldl (fun (u : State) e => u.scEvent St.tapItemsLost [e.1, e.2]) s).guest = s.guest ∧
    (l.foldl (fun (u : State) e => u.scEvent St.tapItemsLost [e.1, e.2]) s).mono = s.mono := by
  induction l generalizing s with
  | nil => exact ⟨rfl, rfl⟩
  | cons e l ih => exact ih (s.scEvent St.tapItemsLost [e.1, e.2])

/-- A closed window: the next begins, and a record stands in the slot written where one was free, else it is counted as dropped. -/
theorem closeWindow_result (s : State) (e : Nat) (b : Bool) :
    (s.closeWindow e b).mono = s.mono ∧ (s.closeWindow e b).guest.window = { start := e } ∧ (s.closeWindow e b).guest.nextSeq = s.guest.nextSeq + 1 ∧
    (s.guest.slotTaken s.guest.writeSlot = false → (s.closeWindow e b).guest.writeSlot = (s.guest.writeSlot + 1) % 819 ∧
      ∃ y ∈ (s.closeWindow e b).guest.records, y.seq = s.guest.nextSeq ∧ y.slot = s.guest.writeSlot ∧ y.window = s.guest.window) ∧
    (s.guest.slotTaken s.guest.writeSlot = true → (s.closeWindow e b).guest.records = s.guest.records ∧
      (s.closeWindow e b).guest.dropped = s.guest.dropped + 1 ∧ (s.closeWindow e b).guest.full = true) := by
  unfold State.closeWindow
  extract_lets g lost rec0 g1 fresh len t t1
  obtain ⟨hguest, hmono⟩ := foldl_tapItemsLost_guest lost t1
  have ht1 : t1.guest = t.guest ∧ t1.mono = t.mono := by
    unfold t1
    split <;> exact ⟨rfl, rfl⟩
  rw [hguest, hmono, ht1.1, ht1.2]
  refine ⟨rfl, rfl, rfl, fun hfree => ?_, fun htaken => ?_⟩
  · have hg1 : g1 = { g with records := (g.records.filter fun r => r.slot != g.writeSlot) ++ [rec0], writeSlot := (g.writeSlot + 1) % 819,
                             dropped := 0, full := false } := if_neg (ne_true_of_eq_false hfree)
    unfold t
    rw [hg1]
    exact ⟨rfl, rec0, List.mem_append_right _ (List.mem_singleton_self _), rfl, rfl, rfl⟩
  · have hg1 : g1 = { g with dropped := g.dropped + 1, full := true } := if_pos htaken
    unfold t
    rw [hg1]
    exact ⟨rfl, rfl, rfl⟩

end

end Sys2Proof.Machine

/-! ### Guestbook, clock, dumps, items and fatal errors (17 R482 to R506) -/

namespace Sys2Proof.Machine

section
variable {s t v : State} {q : Request} {n : Nat} {it x : TapItem} {l : List TapItem}

/-! #### CLOCK_SET (R497) -/

theorem clockSet_taken (h : scTakes s t 0x0E04 q) (hlen : q.body.length = 8) (hserves : t.serves = true) :
    (∀ m, t.guest.lastSet = some m → m + 10 ^ 9 ≤ t.mono) → exec .clockSet s = .next (t.setClock q (leAt q.body 0 8)) := by
  intro hlater
  refine next_command h ((if_neg (not_not_intro hlen)).trans ((if_neg (ne_false_of_eq_true hserves)).trans (if_neg ?_)))
  cases hlast : t.guest.lastSet with
  | none => exact Bool.false_ne_true
  | some m => exact fun hsoon => absurd (of_decide_eq_true hsoon) (Nat.not_lt.mpr (hlater m hlast))
theorem clockSet_tooSoon {m : Nat} (h : scTakes s t 0x0E04 q) (hlen : q.body.length = 8) (hserves : t.serves = true)
    (hlast : t.guest.lastSet = some m) (hsoon : t.mono < m + 10 ^ 9) : exec .clockSet s = .next (t.answer q St.clockSetTooSoon) := by
  refine next_command h ((if_neg (not_not_intro hlen)).trans ((if_neg (ne_false_of_eq_true hserves)).trans (if_pos ?_)))
  rw [hlast]
  exact decide_eq_true hsoon

/-- A DUMP_RELEASE of a known slot is in its form. -/
theorem dumpRelease_formed {b : Bytes} (hlen : b.length = 8) (hzero : allZero (b.drop 1) = true) (hslot : leAt b 0 1 ≤ 1) :
    ¬ (b.length ≠ 8 ∨ 1 < leAt b 0 1 ∨ allZero (b.drop 1) = false) := by
  simp only [not_or, Classical.not_not]
  exact ⟨hlen, Nat.not_lt.mpr hslot, ne_false_of_eq_true hzero⟩

/-! #### Items arrive (R482, R484) -/

theorem tapArrive_lost (hbusy : (s.fifo n).staging = some x) (w : Bool) : s.tapArrive n it w = s.setFifo n ((s.fifo n).lose 1) :=
  if_pos (by rw [hbusy]; rfl)
theorem tapArrive_staged (hidle : (s.fifo n).staging = none) : s.tapArrive n it false = s.setFifo n { s.fifo n with staging := some it } :=
  if_neg (by rw [hidle]; exact Bool.false_ne_true)
theorem tapArrive_whole (hidle : (s.fifo n).staging = none) : s.tapArrive n it true = s.tapWrite n it :=
  if_neg (by rw [hidle]; exact Bool.false_ne_true)
/-- With an empty staging register and no flush a written item is pushed. -/
theorem tapWrite_pushes (hidle : (s.fifo n).staging = none) (hflush : (s.fifo n).flush = false) :
    s.tapWrite n it = s.setFifo n (TapFifo.push it ((s.fifo n).items.length + 1) (s.fifo n)) := by
  have hclear : ({ s.fifo n with staging := none } : TapFifo) = s.fifo n := by rw [← hidle]
  unfold State.tapWrite
  rw [hclear]
  exact if_neg (ne_true_of_eq_false hflush)

theorem tapWrite_fits (hidle : (s.fifo n).staging = none) (hflush : (s.fifo n).flush = false) (hroom : (s.fifo n).occupancy + it.words ≤ 256) :
    (s.tapWrite n it).fifo n = { s.fifo n with items := (s.fifo n).items ++ [it] } := by
  rw [tapWrite_pushes hidle hflush, State.fifo_setFifo, push_fits _ hroom]
theorem tapWrite_displaces (hidle : (s.fifo n).staging = none) (hflush : (s.fifo n).flush = false) (hfull : 256 < (s.fifo n).occupancy + it.words)
    (hitems : (s.fifo n).items = x :: l) (hroom : ({ s.fifo n with items := l } : TapFifo).occupancy + it.words ≤ 256) :
    (s.tapWrite n it).fifo n = ({ s.fifo n with items := l ++ [it] } : TapFifo).lose 1 := by
  rw [tapWrite_pushes hidle hflush, State.fifo_setFifo, push_displaces _ hfull hitems, hitems]
  exact push_fits _ hroom

/-! #### The Guestbook works through an item (R490, R491) -/

theorem takeItem_sample (hsample : it.sample = true) (hwhole : it.truncated = false) (hcode : it.code < 29) :
    s.takeItem it = s.countSample it.code it.value it.mono :=
  (if_pos hsample).trans (if_neg (by
    rintro (hcut | hhigh)
    · exact ne_true_of_eq_false hwhole hcut
    · omega))

/-- The tokens of an event's bucket under the limit. -/
def State.tokens (s : State) (i : Nat) : Nat := min (s.rateLimit i) (getD i (s.rateLimit i) s.guest.buckets)
/-- A token is taken from an event's bucket. -/
def State.spendToken (s : State) (i : Nat) : State := { s with guest := { s.guest with buckets := setK i (s.tokens i - 1) s.guest.buckets } }

theorem takeItem_counts (hevent : it.sample = false) (htokens : 0 < s.tokens (eventIndex it.code)) :
    s.takeItem it = (s.spendToken (eventIndex it.code)).countEvent (eventIndex it.code) :=
  (if_neg (ne_true_of_eq_false hevent)).trans (if_pos htokens)
theorem takeItem_suppresses (hevent : it.sample = false) (htokens : s.tokens (eventIndex it.code) = 0) :
    s.takeItem it = s.countSuppressed (eventIndex it.code) :=
  (if_neg (ne_true_of_eq_false hevent)).trans (if_neg (Nat.not_lt.mpr (Nat.le_of_eq htokens)))

theorem takeItem_counted (hevent : it.sample = false) (htokens : 0 < s.tokens (eventIndex it.code))
    (hlow : getD (eventIndex it.code) 0 s.guest.window.counts < 2 ^ 32 - 1) :
    getD (eventIndex it.code) 0 (s.takeItem it).guest.window.counts = getD (eventIndex it.code) 0 s.guest.window.counts + 1 ∧
    (s.takeItem it).guest.window.suppressed = s.guest.window.suppressed := by
  rw [takeItem_counts hevent htokens]
  refine ⟨countEvent_rises (s := s.spendToken _) hlow, ?_⟩
  obtain ⟨_, _, _, _, heq⟩ := State.countEvent_keeps (s.spendToken (eventIndex it.code)) (eventIndex it.code)
  rw [heq]
  rfl
theorem takeItem_suppressed (hevent : it.sample = false) (htokens : s.tokens (eventIndex it.code) = 0)
    (hlow : getD (eventIndex it.code) 0 s.guest.window.suppressed < 2 ^ 32 - 1) :
    getD (eventIndex it.code) 0 (s.takeItem it).guest.window.suppressed = getD (eventIndex it.code) 0 s.guest.window.suppressed + 1 ∧
    (s.takeItem it).guest.window.counts = s.guest.window.counts := by
  rw [takeItem_suppresses hevent htokens]
  refine ⟨countSuppressed_rises hlow, ?_⟩
  obtain ⟨_, _, _, _, heq⟩ := State.countSuppressed_keeps s (eventIndex it.code)
  rw [heq]

/-! #### The Guestbook reads a FIFO (R483) -/

/-- The FIFO's first items are taken, its words counted as a sample of metric 27; all but the first taken wait to be worked. -/
def State.readFrom (s : State) (n : Nat) : State :=
  let t := (s.setFifo n (s.fifo n).taken).countSample 27 (s.fifo n).occupancy s.mono
  { t with guest := { t.guest with rotate := n + 1, reading := ((s.fifo n).readOut.2.2.drop 1).map fun x => (n, x) } }

theorem guestRead_reads (hreading : s.guest.reading = []) (hitems : (s.fifo n).items = it :: l) (hopen : it.mono < s.guest.windowEnd) :
    s.guestRead n .clean = (s.readFrom n).takeItem it := by
  unfold State.guestRead
  rw [hreading]
  dsimp only
  rw [hitems]
  exact if_neg (Nat.not_le.mpr hopen)

/-- What a read leaves alone of the state. -/
theorem readFrom_keeps (s : State) (n : Nat) : ∃ m a b r, s.readFrom n = { s with
    guest := { s.guest with fifos := setK n (s.fifo n).taken s.guest.fifos, rotate := n + 1, reading := ((s.fifo n).readOut.2.2.drop 1).map fun x => (n, x), window := { s.guest.window with metrics := setK 27 m s.guest.window.metrics, satHist := a, saturated := b } }, raised := r } := by
  obtain ⟨m, a, b, r, heq⟩ := State.countSample_keeps (s.setFifo n (s.fifo n).taken) 27 (s.fifo n).occupancy s.mono
  refine ⟨m, a, b, r, ?_⟩
  unfold State.readFrom
  rw [heq]
  rfl

/-- The items of a read are the FIFO's first, in order. -/
theorem readOut_append_taken (f : TapFifo) : f.readOut.2.2 ++ f.taken.items = f.items := itemRun_append_drop 8 f.items

/-- What a read leaves of the FIFOs and of the items not yet worked. -/
theorem readFrom_items (s : State) (n : Nat) (it : TapItem) : ((s.readFrom n).takeItem it).guest.fifos = setK n (s.fifo n).taken s.guest.fifos ∧
    ((s.readFrom n).takeItem it).guest.reading = ((s.fifo n).readOut.2.2.drop 1).map fun x => (n, x) := by
  obtain ⟨_, _, _, hworked⟩ := State.takeItem_keeps (s.readFrom n) it
  obtain ⟨_, _, _, _, hread⟩ := readFrom_keeps s n
  rw [hworked, hread]
  exact ⟨rfl, rfl⟩
theorem fifo_readFrom (s : State) (n : Nat) (it : TapItem) : ((s.readFrom n).takeItem it).fifo n = (s.fifo n).taken := by
  unfold State.fifo
  rw [(readFrom_items s n it).1]
  exact getD_setK_same
/-- The item worked, those that wait and those left are the FIFO's items, in order. -/
theorem readFrom_order (hitems : (s.fifo n).items = it :: l) (hwords : it.words ≤ 8) :
    it :: (((s.readFrom n).takeItem it).guest.reading.map (·.2) ++ (((s.readFrom n).takeItem it).fifo n).items) = it :: l := by
  have hrun : (s.fifo n).readOut.2.2 = it :: itemRun (8 - it.words) l := by
    unfold TapFifo.readOut
    rw [hitems]
    exact if_pos hwords
  have hwhole := readOut_append_taken (s.fifo n)
  rw [fifo_readFrom, (readFrom_items s n it).2, List.map_map, hrun]
  rw [hrun, hitems] at hwhole
  rw [show ((fun y : Nat × TapItem => y.2) ∘ fun y => (n, y)) = id from rfl, List.map_id]
  exact hwhole

/-! A read counts its sample of metric 27, then works the first item. -/

theorem readFrom_metric27 {c : Nat} (hcount : getD (sampleBucket (s.fifo n).occupancy) 0 (getD 27 {} s.guest.window.metrics).buckets = c)
    (hlow : c < 2 ^ 32 - 1) :
    getD (sampleBucket (s.fifo n).occupancy) 0 (getD 27 {} (s.readFrom n).guest.window.metrics).buckets = c + 1 := by
  subst hcount
  exact countSample_rises (s := s.setFifo n (s.fifo n).taken) hlow
theorem readFrom_tokens (i : Nat) : (s.readFrom n).tokens i = s.tokens i := by
  obtain ⟨_, _, _, _, hread⟩ := readFrom_keeps s n
  rw [hread]
  rfl
theorem readFrom_counts (s : State) (n : Nat) : (s.readFrom n).guest.window.counts = s.guest.window.counts ∧
    (s.readFrom n).guest.window.suppressed = s.guest.window.suppressed := by
  obtain ⟨_, _, _, _, hread⟩ := readFrom_keeps s n
  rw [hread]
  exact ⟨rfl, rfl⟩
theorem readFrom_metric {m : Nat} (hother : m ≠ 27) : getD m {} (s.readFrom n).guest.window.metrics = getD m {} s.guest.window.metrics := by
  obtain ⟨_, _, _, _, hread⟩ := readFrom_keeps s n
  rw [hread]
  exact getD_setK_other hother

theorem readFrom_sample {c : Nat} (hsample : it.sample = true) (hwhole : it.truncated = false) (hcode : it.code < 29) (hother : it.code ≠ 27) :
    ((s.readFrom n).takeItem it).guest.window.counts = s.guest.window.counts ∧
    (getD (sampleBucket it.value) 0 (getD it.code {} s.guest.window.metrics).buckets = c → c < 2 ^ 32 - 1 →
      getD (sampleBucket it.value) 0 (getD it.code {} ((s.readFrom n).takeItem it).guest.window.metrics).buckets = c + 1) ∧
    getD 27 {} ((s.readFrom n).takeItem it).guest.window.metrics = getD 27 {} (s.readFrom n).guest.window.metrics := by
  rw [takeItem_sample hsample hwhole hcode]
  refine ⟨?_, fun hcount hlow => ?_, ?_⟩
  · obtain ⟨_, _, _, _, heq⟩ := State.countSample_keeps (s.readFrom n) it.code it.value it.mono
    rw [heq]
    exact (readFrom_counts s n).1
  · subst hcount
    rw [countSample_rises, readFrom_metric hother]
    rwa [readFrom_metric hother]
  · obtain ⟨_, _, _, _, heq⟩ := State.countSample_keeps (s.readFrom n) it.code it.value it.mono
    rw [heq]
    exact getD_setK_other hother.symm

/-! #### Fatal errors (R500 to R506) -/

/-- The fatal slot holds a dump: this one, or one that was not released. -/
theorem writeDump_state (s : State) (cause : Nat) : (s.writeDump cause).guest.fatal.state = 1 := by
  unfold State.writeDump
  extract_lets g free str u
  split
  next => rfl
  next hheld => exact Decidable.not_not.mp fun hother => hheld (bne_iff_ne.mpr hother)
theorem writeDump_bearing (s : State) (cause : Nat) : (s.writeDump cause).bearing = s.bearing := rfl

/-- A fatal error is counted and latched, service is left and the dump is written. -/
def State.dumped (s : State) (cause : Nat) : State :=
  (s.fatalCount.latchFatal 16 St.fatalError [cause]).settleCommits.standDown.partialWindow.writeDump cause

/-- Up to its dump a fatal error keeps the porter and the memory key. -/
theorem dumped_house (s : State) (cause : Nat) : (s.dumped cause).bearing.house = s.bearing.house := by
  unfold State.dumped
  rw [writeDump_bearing, State.partialWindow_bearing, State.standDown_house, State.settleCommits_house]
  rfl
/-- Where the handler runs and is not at work, a fatal error ends in the wipe. -/
theorem fatalError_wipes {cause : Nat} (hidle : s.guest.inFatal = none) (hmode : s.sc.mode = .running) (hmin : 1 ≤ cause) (hmax : cause ≤ 6) :
    s.fatalError cause =
      ({ s.dumped cause with guest := { (s.dumped cause).guest with inFatal := some cause, fatalCause := some cause } } : State).fatalWipe := by
  have hruns : s.handlerRuns = true := by
    unfold State.handlerRuns
    rw [hmode]
  unfold State.fatalError
  rw [if_neg (by omega), hidle]
  exact if_neg (ne_false_of_eq_true hruns)

/-- What the wipe takes and what it keeps (R501). -/
theorem fatalWipe_wiped (s : State) : s.fatalWipe.cores = [] ∧ s.fatalWipe.store = {} ∧ s.fatalWipe.net.sessions = [] ∧ s.fatalWipe.lneJobs = [] ∧
    s.fatalWipe.laneJobs = [] ∧ s.fatalWipe.sc.mode = .off ∧ s.fatalWipe.sc.identity = none :=
  ⟨rfl, rfl, rfl, rfl, rfl, rfl, rfl⟩

theorem fatalError_result {cause : Nat} (hidle : s.guest.inFatal = none) (hmode : s.sc.mode = .running) (hmin : 1 ≤ cause) (hmax : cause ≤ 6) :
    (s.fatalError cause).cores = [] ∧ (s.fatalError cause).store = {} ∧ (s.fatalError cause).net.sessions = [] ∧
    (s.fatalError cause).lneJobs = [] ∧ (s.fatalError cause).laneJobs = [] ∧ (s.fatalError cause).sc.mode = .off ∧
    (s.fatalError cause).sc.identity = none ∧ (s.fatalError cause).guest.inFatal = some cause ∧
    (s.fatalError cause).guest.fatal.state = 1 ∧ (s.fatalError cause).bearing.house = s.bearing.house := by
  rw [fatalError_wipes hidle hmode hmin hmax]
  have hstate : (s.dumped cause).guest.fatal.state = 1 := writeDump_state _ cause
  have hhouse := dumped_house s cause
  generalize s.dumped cause = u at hstate hhouse
  obtain ⟨hcores, hstore, hsessions, hlne, hlane, hoff, hidentity⟩ := fatalWipe_wiped
    { u with guest := { u.guest with inFatal := some cause, fatalCause := some cause } }
  exact ⟨hcores, hstore, hsessions, hlne, hlane, hoff, hidentity, rfl, hstate, hhouse⟩

theorem fatalHalt_halts (s : State) : s.fatalHalt.sc.mode = .fatalHalt ∧ (∀ p ∈ s.fatalHalt.net.ports.toList, p.up = false) ∧
    s.fatalHalt.net.sessions = [] ∧ s.fatalHalt.plat.pwrEn = false ∧ s.fatalHalt.plat.rst = 0 ∧ s.fatalHalt.disp.queued = [] := by
  unfold State.fatalHalt
  obtain ⟨g, r, heq⟩ := State.fatalEvent_eq (_ : State) St.fatalLoopHalted
  rw [heq]
  refine ⟨rfl, fun p hp => ?_, rfl, rfl, rfl, rfl⟩
  dsimp only at hp
  rw [Vector.toList_map] at hp
  obtain ⟨_, _, rfl⟩ := List.mem_map.mp hp
  rfl

end

/-- Settles O43: commands by their own branches, items by `tapWrite_fits` and `tapWrite_displaces`, a read by `guestRead_reads` and what
`readFrom` leaves, a window by `closeWindow_result`, a fatal error by `fatalError_wipes` and `fatalHalt_halts`. -/
theorem guestbookAndDumpResults : Obligations.GuestbookAndDumpResults := by
  unfold Obligations.GuestbookAndDumpResults
  intro s t q n c it x e l rest formed more w r
  dsimp only
  refine ⟨fun h hempty => ⟨fun hheld => ?oldest, next_command h (if_neg (not_not_intro hempty))⟩,
    fun h hlen hzero hmin hmax => next_command h (if_neg ?read), fun h hlen hseq => ⟨next_signal_command h (if_neg ?clear), rfl⟩,
    fun h hlen hserves => ⟨clockSet_taken h hlen hserves, fun m hlast hsoon => clockSet_tooSoon h hlen hserves hlast hsoon⟩,
    fun h hempty => next_command h (if_neg (not_not_intro hempty)), fun h hlen hslot hzero hoff hbytes hmax => next_command h ?dumpRead,
    fun h hlen hzero hheld => ⟨fun hfatal => ?releaseFatal, fun hdiverged => ?releaseDiverged⟩,
    fun h hlen hzero hfifo => ⟨next_command h (if_neg ?flush), ?flushed⟩,
    fun hfifo => ⟨fun hraised => ?raised, fun hformed => ?formed, fun hfits y => ?sample, fun y hbusy => ⟨?rest, tapArrive_lost hbusy w⟩,
      fun hidle => ?staged, fun hidle hflush => ⟨tapArrive_whole hidle, tapWrite_fits hidle hflush, tapWrite_displaces hidle hflush⟩⟩,
    fun hjtag hfifo => congrArg Host.Outcome.next (if_pos ⟨hjtag, hfifo⟩), fun m hreading hopen => ?work,
    fun hreading hitems hopen => ⟨_, congrArg Host.Outcome.next (guestRead_reads hreading hitems hopen), fifo_readFrom s n it, readFrom_order hitems,
      fun hsample hwhole hcode hother => ?counted, fun hevent htokens hcount hlow => ?event, fun hevent htokens hcount hlow => ?suppressed⟩,
    fun hmode hfifos hreading => ?window, rfl, fun hidle hmode hmin hmax => ?fatal, fun hin => ⟨fun hthird => ?resets, fun hthird => ?halts⟩⟩
  case oldest =>
    unfold State.oldestSeq
    cases hlist : t.guest.held with
    | nil => rw [hlist] at hheld; cases hheld
    | cons y l =>
      rw [hlist] at hheld
      cases hheld
      rfl
  case read =>
    simp only [not_or, Classical.not_not]
    exact ⟨hlen, ne_false_of_eq_true hzero, by omega, by omega⟩
  case clear =>
    simp only [not_or, Classical.not_not]
    exact ⟨hlen, by omega⟩
  case dumpRead =>
    refine if_neg ?_
    simp only [not_or, Classical.not_not]
    exact ⟨hlen, by omega, ne_false_of_eq_true hzero, hoff, hbytes, by omega⟩
  case releaseFatal =>
    refine ⟨_, next_signal_command h ((if_neg (dumpRelease_formed hlen hzero (by omega))).trans ((if_neg hheld).trans (if_pos hfatal))), ?_⟩
    rw [signal_guest]
    exact ⟨rfl, rfl⟩
  case releaseDiverged =>
    refine ⟨_, next_signal_command h ((if_neg (dumpRelease_formed hlen hzero (by omega))).trans ((if_neg hheld).trans (if_neg (by omega)))), ?_⟩
    rw [signal_guest]
    exact ⟨rfl, rfl⟩
  case flush =>
    simp only [not_or, Classical.not_not]
    exact ⟨hlen, ne_false_of_eq_true hzero, ne_false_of_eq_true hfifo⟩
  case flushed =>
    unfold State.tapFlush
    rw [State.fifo_setFifo]
  case raised =>
    refine congrArg Host.Outcome.next ((if_neg (ne_false_of_eq_true hfifo)).trans ?_)
    dsimp only
    rw [hraised]
  case formed =>
    refine congrArg Host.Outcome.next ((if_neg (ne_false_of_eq_true hfifo)).trans ?_)
    dsimp only
    rw [hformed]
  case sample => exact congrArg Host.Outcome.next ((if_neg (ne_false_of_eq_true hfifo)).trans (if_pos hfits))
  case rest =>
    refine congrArg Host.Outcome.next ((if_neg (ne_false_of_eq_true hfifo)).trans ?_)
    dsimp only
    rw [hbusy]
  case staged => rw [tapArrive_staged hidle, State.fifo_setFifo]
  case work =>
    refine congrArg Host.Outcome.next ?_
    dsimp only
    unfold State.guestRead
    rw [hreading]
    exact if_neg (Nat.not_le.mpr hopen)
  case counted =>
    obtain ⟨hcounts, hmetric, h27⟩ := readFrom_sample (n := n) (s := s) (c := c) hsample hwhole hcode hother
    exact ⟨hcounts, hmetric, fun hcount hlow => by rw [h27]; exact readFrom_metric27 hcount hlow⟩
  case event =>
    subst hcount
    rw [← (readFrom_counts s n).1, ← (readFrom_counts s n).2]
    rw [← (readFrom_counts s n).1] at hlow
    exact takeItem_counted hevent (by rw [readFrom_tokens]; exact htokens) hlow
  case suppressed =>
    subst hcount
    rw [← (readFrom_counts s n).1, ← (readFrom_counts s n).2]
    rw [← (readFrom_counts s n).2] at hlow
    exact takeItem_suppressed hevent (by rw [readFrom_tokens]; exact htokens) hlow
  case window =>
    have hwritten : s.guest.reading.all (fun e => decide (s.guest.windowEnd ≤ e.2.mono)) = true := by
      rw [hreading]
      rfl
    refine ⟨_, congrArg (fun v => Host.Outcome.next (s.signal v)) (if_pos ⟨hmode, List.all_eq_true.mpr fun y hy => ?late, hwritten⟩), ?closed⟩
    case late =>
      have hlate := hfifos y hy
      cases hlist : y.2.items with
      | nil => rfl
      | cons a l => exact decide_eq_true (hlate a (by rw [hlist]; rfl))
    case closed =>
      rw [signal_mono, signal_guest]
      exact closeWindow_result ({ s with mono := max s.mono (s.guest.windowEnd + 1000) } : State) s.guest.windowEnd false
  case fatal =>
    obtain ⟨hcores, hstore, hsessions, hlne, hlane, hoff, hidentity, hin, hstate, hhouse⟩ := fatalError_result hidle hmode hmin hmax
    refine ⟨_, rfl, ?_⟩
    rw [signal_cores, signal_store, signal_net, signal_lneJobs, signal_laneJobs, signal_sc, signal_guest, signal_porter]
    exact ⟨hcores, hstore, hsessions, hlne, hlane, hoff, hidentity, hin, hstate, congrArg (·.memKey) hhouse, congrArg (·.porter.trunk) hhouse⟩
  case resets =>
    refine congrArg (fun v => Host.Outcome.next (s.signal v)) ((if_pos ?_).trans (if_neg (ne_true_of_eq_false hthird)))
    rw [hin]
    rfl
  case halts =>
    refine ⟨_, congrArg (fun v => Host.Outcome.next (s.signal v)) ((if_pos ?_).trans (if_pos hthird)), ?_⟩
    · rw [hin]
      rfl
    · rw [signal_sc, signal_net, signal_plat, signal_disp]
      exact fatalHalt_halts s

end Sys2Proof.Machine
